-- ==== Sys2Proof/Machine/Operands.lean ====
section
/-! DEFINITION. The operands of the commands: when and where a command arrives, who sends it, and what a firmware stages. -/

namespace Sys2Proof

/-- When and where a command reaches the package: the die, the picoseconds since the command before it, and the
length in picoseconds of the deciding island's cycle, which the near-miss rule needs (01 R29, R30). -/
structure At where
  die : Nat
  dt : Nat
  cyc : Nat
  deriving DecidableEq, Repr

/-- The requesters of Table 19.4 (19 R490). -/
inductive Req where
  | pf0
  | vf (f : Nat)
  | smb
  | shl
  deriving DecidableEq, Repr

/-- A write that the Spindle firmware stages beside the decisions of the rules; the envelope judges it (08 R235). -/
inductive Attempt where
  | allot (idx v : Nat)
  | ply (idx dst : Nat)
  | hold (queue dst : Nat)
  | reg (off : Nat) (v : Word)
  deriving DecidableEq, Repr

/-- How a management message is carried (09 R271): a Shoreline side, an MGT strand, or the hop strand of a ply slot. -/
inductive Via where
  | shoreline (port side : Nat)
  | strand (idx : Nat)
  | hop (slot : Nat)
  deriving DecidableEq, Repr

/-- What a bridge request addresses (12 R331, R333): the range of a VDP, PF0's BAR2, an address at a root port that a PEER window
may match, or a register. -/
inductive Target where
  | vdp (n : Nat) (pref : Bool)
  | bar2 (off : Nat)
  | peer (die : Nat)
  | csr (die off : Nat)
  deriving DecidableEq, Repr

/-- What the outside is like when a register write comes: the conversions of HOLDUP_SNS that a store's gate takes (16 R434), whether
the host has ASPM L1 enabled (15 R403), and the bytes that a PROVISION reads from the host (17 R450). -/
structure Around where
  codes : List Nat := []
  aspm : Bool := false
  buf : List Byte := []
  deriving DecidableEq, Repr

end Sys2Proof
end

