-- ==== Sys2Proof/Syntax.lean ====
section
/-! DEFINITION. The commands of the block (spec/opcode_table.json). -/

namespace Sys2Proof

/-- The commands, one constructor per row of the table of operations (spec/opcode_table.json). -/
inductive Instr where
  /-- REGISTER_WRITE (R485). A write to a register that has no row of its own is decoded, checked for shape, requester and holding island, and applied by access type or discarded. -/
  | registerWrite (a : At) (q : Req) (addr : Nat) (len : Nat) (be : Bool) (v0 : Word) (v1 : Word) (w : Around)
  /-- COUNTER_CLEAR (R488). A write of 1 to a counter's CLEAR bit zeroes the counter, and any same-cycle increment follows the clear. -/
  | counterClear (a : At) (q : Req) (off : Nat) (v : Word) (inc : Nat)
  /-- W1C_CLEAR (R488). A write of 1 to a W1C bit clears it unless the hardware sets it in the same cycle. -/
  | w1cClear (a : At) (q : Req) (off : Nat) (v : Word) (hwSet : Word)
  /-- LO_LATCH_READ (R486). A read of the LO half of an RO register pair latches the HI half for that requester. -/
  | loLatchRead (a : At) (q : Req) (off : Nat)
  /-- ACCESS_WAIT_TIMEOUT (R485). An access to an island in BLOCK reset or without CLK_OK that is not served within 2 µs completes with all ones, or is discarded. -/
  | accessWaitTimeout (a : At)
  /-- FENCE_READ (R34). A read of PKG_FENCE, or of a VF's fence, completes only after every earlier write of the requester to any die has taken effect. -/
  | fenceRead (a : At) (q : Req) (held : Nat)
  /-- SPLICE_REPLAY (R21). A splice flit that fails its CRC is replayed by the link layer. -/
  | spliceReplay (a : At) (port : Nat)
  /-- SPLICE_DOWN (R21). A splice that cannot complete a replay within 1 µs is declared down, its replay buffer is discarded and routes are recomputed. -/
  | spliceDown (a : At) (port : Nat)
  /-- SPLICE_UP (R21). A recovered splice carries traffic again and routes are restored. -/
  | spliceUp (a : At) (port : Nat)
  /-- CLK_OK_ASSERT (R24). An island generator asserts CLK_OK after locking and 256 in-window cycles. -/
  | clkOkAssert (a : At) (isl : Nat)
  /-- CLK_ISLAND_FAULT (R25). A running island's period leaves the window, CLK_OK falls and the island stops acknowledging. -/
  | clkIslandFault (a : At) (isl : Nat) (kind : Nat)
  /-- CLK_ISLAND_RESTORED (R25). CLK_OK rises again after a fault and the island resumes from its held state. -/
  | clkIslandRestored (a : At) (isl : Nat)
  /-- SKN_LOAD (R51). At COLD or WARM boot step 6 the VX7 reads, checks and applies a Skein image and its committed patches, with fallback. -/
  | sknLoad (a : At)
  /-- SKN_APPLY (R61). An APPLY command starts the reading and checking of a patch from host memory. -/
  | sknApply (a : At) (q : Req) (v : Word)
  /-- SKN_APPLY_STORE (R61). An APPLY_STORE command starts the reading and checking of a patch that is stored after it takes effect. -/
  | sknApplyStore (a : At) (q : Req) (v : Word)
  /-- SKN_CANCEL (R62). A CANCEL command cancels a pending patch or returns TOO_LATE. -/
  | sknCancel (a : At) (q : Req) (v : Word)
  /-- SKN_STORE (R63). A STORE command reads a full image from host memory, checks it and writes it to the slot not running. -/
  | sknStore (a : At) (q : Req) (v : Word)
  /-- SKN_PATCH_CHECKED (R61). The patch has been read and fully checked; it is refused or PATCH_PENDING is set. -/
  | sknPatchChecked (a : At) (readOk : Bool) (bytes : List Byte)
  /-- STORE_CHUNK_DONE (R433). A chunk or whole store to NVM or fuses completes; the next chunk is checked or the commit marker is written. -/
  | storeChunkDone (a : At) (codes : List Nat)
  /-- NVM_ERASE_AHEAD (R432). In FLOW the VX7 erases NVM sectors ahead of need so that stores only program. -/
  | nvmEraseAhead (a : At)
  /-- OUTLET_RECORD_ACCEPT (R77). A raised event record reaches the serving EVT island, is routed to an outlet and written, lost or counted unrouted. -/
  | outletRecordAccept (a : At) (k : Nat)
  /-- OUTLET_MOD_TIMER (R82). TIME_US after the first pending record the outlet sends its write-back and MSI-X message. -/
  | outletModTimer (a : At) (m : Nat)
  /-- OUTLET_DOORBELL (R74). A doorbell write marks records consumed or is ignored as bad. -/
  | outletDoorbell (a : At) (q : Req) (m : Nat) (v : Word)
  /-- OUTLET_RESUMED (R83). An outlet in overrun with room and Bus Master Enable writes OUTLET_RESUMED and resumes writing. -/
  | outletResumed (a : At) (m : Nat)
  /-- OUTLET_ENABLE (R85). A write of ENABLE = 1 enables the outlet and zeroes its counts, or is refused with CFG_ERROR. -/
  | outletEnable (a : At) (q : Req) (m : Nat) (v : Word)
  /-- OUTLET_DISABLE (R85). Clearing ENABLE removes the outlet once the record in progress completes and reroutes staged records. -/
  | outletDisable (a : At) (q : Req) (m : Nat) (v : Word)
  /-- BUS_MASTER_ENABLE_SET (R82). A function's Bus Master Enable becomes 1 and pending write-backs and messages are sent. -/
  | busMasterEnableSet (a : At) (f : Nat)
  /-- MSIX_VECTOR_UNMASK (R82). The host lifts a vector's mask and a pending message is delivered. -/
  | msixVectorUnmask (a : At) (f : Nat) (vec : Nat)
  /-- EVT_TEST (R87). A write of EVT_TEST raises EVT_TEST_EVENT with the written TAG and SEV. -/
  | evtTest (a : At) (q : Req) (v : Word)
  /-- PLY_DETECT_DONE (R102). A far termination or module path is seen on every lane and the ply goes to QUIET. -/
  | plyDetectDone (a : At) (k : Nat)
  /-- DETECT_TIMEOUT (R102). The 100 µs DETECT timer expires and the ply backs off to QUIET. -/
  | detectTimeout (a : At) (k : Nat)
  /-- QUIET_END (R103). QUIET and its back-off end and the ply goes to TRAIN or DETECT. -/
  | quietEnd (a : At) (k : Nat)
  /-- TRAIN_TIMEOUT (R102). The 200 ms TRAIN timer expires, the rate joins FAILED and the ply backs off. -/
  | trainTimeout (a : At) (k : Nat)
  /-- LOCK_TIMEOUT (R102). The 2 ms LOCK timer expires and the ply backs off. -/
  | lockTimeout (a : At) (k : Nat)
  /-- ALIGN_TIMEOUT (R102). The 1 ms ALIGN timer expires and the ply backs off. -/
  | alignTimeout (a : At) (k : Nat)
  /-- EXCHANGE_TIMEOUT (R102). The 10 ms EXCHANGE timer expires and the ply backs off. -/
  | exchangeTimeout (a : At) (k : Nat)
  /-- LIVENESS (R112). No valid control block for 100 µs on an ACTIVE receive direction takes the ply down. -/
  | liveness (a : At) (k : Nat)
  /-- SIGNAL_LOST (R112). Electrical idle for 1 µs on a lane sends the ply to QUIET. -/
  | signalLost (a : At) (k : Nat) (lane : Nat)
  /-- RATE_FRAME_RECEIVE (R105). A rate frame is taken, ACK is set and the rate is resolved or NO_COMMON_RATE ends TRAIN. -/
  | rateFrameReceive (a : At) (k : Nat) (lane : Nat) (w : Nat) (sent : Nat)
  /-- TRAINING_FRAME_RECEIVE (R105). A training frame's control and status fields drive tap updates and RX_READY, completing TRAIN. -/
  | trainingFrameReceive (a : At) (k : Nat) (lane : Nat) (ctl : Nat) (stat : Nat) (chk : Nat) (inv : Bool) (ready : Bool) (sent : Nat)
  /-- LANE_BLOCK_LOCK (R106). A lane's hunt finds 64 valid headers in a row and locks the block boundary. -/
  | laneBlockLock (a : At) (k : Nat) (lane : Nat)
  /-- LANE_HUNT_FAIL (R106). The hunt exhausts four passes of offsets and the ply backs off with HUNT_FAIL. -/
  | laneHuntFail (a : At) (k : Nat) (lane : Nat) (examined : Nat)
  /-- INVALID_HEADER_BLOCK (R95). A block with an invalid sync header is discarded, counted and may cause loss of lock. -/
  | invalidHeaderBlock (a : At) (k : Nat) (lane : Nat) (gap : Nat)
  /-- FEC_CODEWORD_DECODE (R98). A codeword is corrected and counted, or found uncorrectable and its blocks marked errored. -/
  | fecCodewordDecode (a : At) (k : Nat) (lane : Nat) (errs : Option Nat)
  /-- FEC_WINDOW_END (R98). A 1 ms window closes and LANE_DEGRADED or LANE_RESTORED is decided. -/
  | fecWindowEnd (a : At) (k : Nat) (lane : Nat) (snr : Nat)
  /-- ALIGN_BLOCK_RECEIVE (R101). An ALIGN block is taken for deskew, FEC start and precoding start. -/
  | alignBlockReceive (a : At) (k : Nat) (lane : Nat) (b : List Byte)
  /-- ALIGN_LOST (R112). The ALIGN block is missing or out of slot in two consecutive periods and the ply goes down. -/
  | alignLost (a : At) (k : Nat)
  /-- EXCH_BLOCK_RECEIVE (R108). An EXCH block is taken, ACK and CAL_DONE are exchanged and features settled. -/
  | exchBlockReceive (a : At) (k : Nat) (b : List Byte)
  /-- PLY_DISABLE (R112). DISABLE set to 1 takes the ply from any state to DISABLED. -/
  | plyDisable (a : At) (q : Req) (k : Nat) (v : Word)
  /-- PLY_ENABLE (R112). Clearing DISABLE takes the ply to DETECT with ATTEMPTS 0. -/
  | plyEnable (a : At) (q : Req) (k : Nat) (v : Word)
  /-- PLY_RETRAIN (R112). RETRAIN clears FAILED and sends the ply to QUIET with cause SOFTWARE. -/
  | plyRetrain (a : At) (q : Req) (k : Nat) (v : Word)
  /-- DIRECTION_SLEEP_ENTER (R113). After the idle time of its mode a transmit direction commits, sends SLEEP and goes idle, or aborts. -/
  | directionSleepEnter (a : At) (k : Nat)
  /-- DIRECTION_WAKE (R114). Work or an owed lossless CREDIT wakes a sleeping direction with a wake run. -/
  | directionWake (a : At) (k : Nat)
  /-- REFRESH_BURST (R114). The refresh interval of a dozing direction expires and a refresh burst is sent. -/
  | refreshBurst (a : At) (k : Nat)
  /-- SLEEP_BLOCK_RECEIVE (R113). A SLEEP block suspends SIGNAL_LOST and LIVENESS on the receive direction. -/
  | sleepBlockReceive (a : At) (k : Nat) (b : List Byte)
  /-- WAKE_RUN_RECEIVE (R114). The receiver takes a wake marker, confirms lock and frames from the ALIGN. -/
  | wakeRunReceive (a : At) (k : Nat) (took : Nat)
  /-- PLY_WAKE_FAIL (R114). The receiver is not locked by twice the wake figure and the ply goes down. -/
  | plyWakeFail (a : At) (k : Nat) (unlocked : Nat)
  /-- REFRESH_TIMEOUT (R114). No refresh is seen within twice the interval and SIGNAL_LOST is applied. -/
  | refreshTimeout (a : At) (k : Nat)
  /-- MODULE_INSERTED (R117). A CMIS module's presence is seen, page 00h read and its data path brought up. -/
  | moduleInserted (a : At) (m : Nat) (ident : Nat) (rev : Nat) (sel : Nat) (appRates : Nat) (waitMs : Nat)
  /-- MODULE_READY (R117). ModuleReady is seen, or the 60 s wait ends, and the data path is staged. -/
  | moduleReady (a : At) (m : Nat) (state : Nat)
  /-- MODULE_POLL (R117). Every 10 ms module flags are polled and a fault takes the ply down. -/
  | modulePoll (a : At) (m : Nat) (state : Nat) (flags : Nat) (dpOk : Bool)
  /-- MODULE_REMOVED (R117). Module removal is seen and the ply goes down with cause MODULE. -/
  | moduleRemoved (a : At) (m : Nat)
  /-- MODULE_RESET (R118). A write of RESET to MOD_CAGEm_CTL pulses the module reset. -/
  | moduleReset (a : At) (q : Req) (m : Nat) (v : Word)
  /-- FORCE_LOWPWR (R117). FORCE_LOWPWR holds the module in LowPwr and the ply in DETECT. -/
  | forceLowpwr (a : At) (q : Req) (m : Nat) (v : Word)
  /-- SEGMENT_RECEIVE (R127). A segment is framed, checked, matched to its strand, sequenced, policed and handed on, or discarded. -/
  | segmentReceive (a : At) (k : Nat) (hdr : Nat) (payload : List Byte) (errored : Bool) (plain : Option (List Byte))
  /-- IDLE_BLOCK_RECEIVE (R137). An IDLE boundary block is passed over. -/
  | idleBlockReceive (a : At) (k : Nat) (b : List Byte)
  /-- CREDIT_BLOCK_RECEIVE (R141). A CREDIT block updates LIM and corrects RCV for lost units. -/
  | creditBlockReceive (a : At) (k : Nat) (b : List Byte)
  /-- CREDIT_SEND (R124). A CREDIT falls due 250 ns after the previous one and is sent at the next segment boundary. -/
  | creditSend (a : At) (k : Nat)
  /-- CREDIT_STALL (R143). A lossless class without usable credit for CREDIT_STALL_US raises CREDIT_STALL. -/
  | creditStall (a : At) (k : Nat) (t : Nat)
  /-- LOSSY_DROP (R143). A lossy-class head segment that waits LOSSY_WAIT_US for credit is discarded. -/
  | lossyDrop (a : At) (k : Nat) (t : Nat)
  /-- MARK_BLOCK_SEND (R145). After the last queued segment of a moving strand on the old path the MARK block is sent and the strand returns to ACTIVE. -/
  | markBlockSend (a : At) (idx : Nat)
  /-- MARK_BLOCK_RECEIVE (R146). A MARK block ends the hold of a moved strand and releases its held segments. -/
  | markBlockReceive (a : At) (k : Nat) (b : List Byte)
  /-- STR_MARK_TIMEOUT (R146). The 50 µs MARK wait expires and held segments are released. -/
  | strMarkTimeout (a : At) (k : Nat) (idx : Nat)
  /-- STR_CREATE (R149). STR_CMD CREATE checks an entry and installs it as BUILDING, allocating an SN if asked. -/
  | strCreate (a : At) (q : Req) (v : Word)
  /-- STR_ACTIVATE (R149). STR_CMD ACTIVATE takes a BUILDING entry to ACTIVE. -/
  | strActivate (a : At) (q : Req) (v : Word)
  /-- STR_MODIFY (R149). STR_CMD MODIFY replaces the four contract fields of an entry. -/
  | strModify (a : At) (q : Req) (v : Word)
  /-- STR_TEARDOWN (R152). STR_CMD TEARDOWN takes an entry to DRAINING. -/
  | strTeardown (a : At) (q : Req) (v : Word)
  /-- STR_READ (R149). STR_CMD READ copies an entry into the staging registers. -/
  | strRead (a : At) (q : Req) (v : Word)
  /-- STR_DRAIN_DONE (R152). A DRAINING entry whose queue has emptied becomes FREE. -/
  | strDrainDone (a : At) (idx : Nat)
  /-- STR_DRAIN_TIMEOUT (R152). 10 ms after TEARDOWN a DRAINING entry becomes FREE and its queued segments are discarded. -/
  | strDrainTimeout (a : At) (idx : Nat)
  /-- SN_QUARANTINE_END (R152). A freed SN leaves its 1 ms quarantine and may be allocated again. -/
  | snQuarantineEnd (a : At) (inType : Nat) (inIndex : Nat) (sn : Nat)
  /-- LOCAL_SEGMENT_INGRESS (R164). A local producer offers a segment, which is paced, policed and charged, dropped or made to wait. -/
  | localSegmentIngress (a : At) (idx : Nat) (sop : Bool) (eop : Bool) (payload : List Byte)
  /-- SPLICE_SEGMENT_ARRIVE (R162). A segment crossing dies arrives on a splice and is charged to transit or linked on its holding die. -/
  | spliceSegmentArrive (a : At) (port : Nat)
  /-- SWITCHING_UNIT_COMPLETE (R166). A switching unit completes, is checked and is linked into its queue or queues, or discarded. -/
  | switchingUnitComplete (a : At) (idx : Nat)
  /-- MCAST_COPY_RESUME (R172). Shared pools gain room and a waiting multicast unit writes all its copies. -/
  | mcastCopyResume (a : At) (idx : Nat)
  /-- POND_PAGE_REFILL (R175). A queue below QSHARE with room reads its oldest pond page back into bobbins. -/
  | pondPageRefill (a : At) (n : Nat)
  /-- CHARGE_RELEASE (R164). A release on another die reaches the charged die and frees units and reserve credit. -/
  | chargeRelease (a : At)
  /-- QUEUE_AGE_DROP (R179). A head unit past MAX_SOJOURN is dropped with its charges and pages. -/
  | queueAgeDrop (a : At) (n : Nat)
  /-- AUDIT_SWEEP (R180). Every PERIOD_MS the BOB island sweeps all bobbins, reclaims leaks and checks the totals. -/
  | auditSweep (a : At)
  /-- MCAST_BRANCH_WRITE (R171). A write of a multicast branch word sets the branch or sets BAD_BRANCH. -/
  | mcastBranchWrite (a : At) (q : Req) (g : Nat) (b : Nat) (v : Word)
  /-- CT_UNDERRUN (R169). An Ethernet output runs dry in a cut-through frame and ends it with an inverted FCS. -/
  | ctUnderrun (a : At) (m : Nat)
  /-- SCHED_DECISION (R194). When an output can start a unit the SCH island picks a queue under strict, weighted, shaper, gate and guard rules and sends. -/
  | schedDecision (a : At) (o : Nat)
  /-- QUEUE_SAMPLE (R199). Every SAMPLE period each queue's depth and head delay are added to its histograms. -/
  | queueSample (a : At)
  /-- GATE_ENTRY_CHANGE (R202). A gate control list entry boundary falls and the gates open and close. -/
  | gateEntryChange (a : At) (o : Nat)
  /-- HIST_CLEAR (R200). CLEAR of SCH_HIST_CTL zeroes every histogram of the die. -/
  | histClear (a : At) (q : Req) (v : Word)
  /-- HIST_FREEZE (R200). FREEZE holds or releases the software histograms. -/
  | histFreeze (a : At) (q : Req) (v : Word)
  /-- POLICER_RATE_WRITE (R188). A register-route write to CIR or CBS applies from the next cycle and clips TOKENS. -/
  | policerRateWrite (a : At) (q : Req) (p : Nat) (isCbs : Bool) (v : Word)
  /-- TWIST_WINDOW_CLOSE (R212). At B minus 50 µs each die reads its measurement units and die 0 computes placement orders. -/
  | twistWindowClose (a : At) (late : Nat) (tries : List Attempt)
  /-- TWIST_BOUNDARY (R212). At a twist boundary patches and staged Spindle writes take effect and moves are committed. -/
  | twistBoundary (a : At) (missed : Nat) (step : Nat) (codes : List Nat)
  /-- SPD_FREEZE_WRITE (R237). A write of HOLD or EXCEPT_FAILOVER to SPD_FREEZE takes effect at the next boundary. -/
  | spdFreezeWrite (a : At) (q : Req) (v : Word)
  /-- SHL_SIDE_UP (R248). A Shoreline side receives 1,024 valid code groups and comes up. -/
  | shlSideUp (a : At) (port : Nat) (side : Nat)
  /-- SHL_SIDE_DOWN (R248). A Shoreline side sees 16 invalid code groups in 1,024 or 1 µs without signal and goes down. -/
  | shlSideDown (a : At) (port : Nat) (side : Nat)
  /-- ENUM_START (R249). The ring origin starts an enumeration every 100 ms, on a side change or on a REQ. -/
  | enumStart (a : At) (port : Nat)
  /-- ENUM_FRAME_RECEIVE (R249). An ENUM frame is taken; the hub appends its entry, learns its position or completes the ring. -/
  | enumFrameReceive (a : At) (port : Nat) (side : Nat) (b : List Byte)
  /-- ENUM_RETURN_TIMEOUT (R249). The ENUM does not return within 1 ms and the ring is declared a chain. -/
  | enumReturnTimeout (a : At) (port : Nat)
  /-- ORIGIN_TAKEOVER (R249). After 300 ms without an ENUM from a lower address the lowest hub becomes root-ring origin. -/
  | originTakeover (a : At)
  /-- SPILLWAY_OPEN (R252). With every condition met and an inter-frame gap found the Spillway opens. -/
  | spillwayOpen (a : At) (kind : Nat) (port : Nat)
  /-- SPILL_FORCE (R252). A write of SPILL_FORCE closes or permits opening of the Spillway. -/
  | spillForce (a : At) (q : Req) (v : Word)
  /-- TICK_SEND (R255). A TICK is sent every 62.5 µs on an ACTIVE direction, every 1 µs in EXCHANGE. -/
  | tickSend (a : At) (k : Nat)
  /-- TICK_RECEIVE (R256). A TICK yields a time sample that feeds calibration and, from the parent, the servo. -/
  | tickReceive (a : At) (k : Nat) (b : List Byte)
  /-- TIME_FRAME_SEND (R255). A TIME frame is sent on each Shoreline side every 125 µs. -/
  | timeFrameSend (a : At) (port : Nat) (side : Nat)
  /-- TIME_FRAME_RECEIVE (R256). A TIME frame yields a time sample and a grandmaster advertisement. -/
  | timeFrameReceive (a : At) (port : Nat) (side : Nat) (b : List Byte)
  /-- PARENT_SILENT (R260). The parent delivers no sample for 1 ms and a new parent is chosen or holdover begins. -/
  | parentSilent (a : At)
  /-- HOLDOVER_EXPIRE (R259). Holdover passes HOLDOVER_S and the grandmaster's CLASS becomes 52. -/
  | holdoverExpire (a : At)
  /-- IRIG_FRAME (R262). An IRIG-B frame is decoded, validated and its on-time point taken. -/
  | irigFrame (a : At) (fmt : Nat) (ok : Bool) (bcd : List Nat) (ctl : List Nat) (ago : Nat)
  /-- IRIG_LOSS (R262). 1.5 s without a Pr makes the IRIG-B input invalid. -/
  | irigLoss (a : At)
  /-- IRIG_FORMAT_HOLD_END (R262). 200 ms after a format change the input may become valid again. -/
  | irigFormatHoldEnd (a : At)
  /-- PPS_IN_EDGE (R264). A 1PPS rising edge marks the second or is counted out of window. -/
  | ppsInEdge (a : At)
  /-- PPS_OUT_PULSE (R265). PPS_OUT rises at each whole Basin second plus offset and falls after WIDTH_MS. -/
  | ppsOutPulse (a : At) (high : Bool)
  /-- TIM_SET (R261). SET of TIM_SET_CMD steps the timebase of a class-248 grandmaster or is refused. -/
  | timSet (a : At) (q : Req) (v : Word)
  /-- RIPPLE_RECEIVE (R267). A Ripple is acted on, forwarded cut-through with lower TTL and relayed by gateways. -/
  | rippleReceive (a : At) (port : Nat) (side : Nat) (b : List Byte)
  /-- SHL_BROADCAST (R270). SHL_CMD BROADCAST sends a Ripple with the software payload. -/
  | shlBroadcast (a : At) (q : Req) (v : Word)
  /-- BARRIER_OPEN (R269). SHL_CMD BARRIER_OPEN sends a Basin-wide barrier with deadline now plus TIMEOUT_US. -/
  | barrierOpen (a : At) (q : Req) (v : Word)
  /-- BARRIER_ARRIVE (R269). SHL_CMD ARRIVE marks the hub arrived for the barrier. -/
  | barrierArrive (a : At) (q : Req) (v : Word)
  /-- SHL_SNAPSHOT (R268). SHL_CMD SNAPSHOT schedules a snapshot at T or is refused. -/
  | shlSnapshot (a : At) (q : Req) (v : Word)
  /-- SHL_RESET (R268). SHL_CMD RESET schedules a reset Ripple at T or is refused. -/
  | shlReset (a : At) (q : Req) (v : Word)
  /-- SCHEDULED_OP_FIRE (R268). At T a hub latches its snapshot bank or fires the Shoreline reset source. -/
  | scheduledOpFire (a : At)
  /-- BARRIER_DEADLINE (R269). At D without completion the root hub releases the barrier with FAILED. -/
  | barrierDeadline (a : At)
  /-- ARRIVE_HOLD_EXPIRE (R269). An ARRIVE written before its OPEN is seen is dropped after 1 s. -/
  | arriveHoldExpire (a : At) (opId : Nat)
  /-- SNAP_ACK (R275). ACK of SHL_SNAP_CTL clears VALID and OVERWRITE. -/
  | snapAck (a : At) (q : Req) (v : Word)
  /-- MGT_REQUEST_RECEIVE (R272). An MGT request is acted on by the Shoreline requester and answered. -/
  | mgtRequestReceive (a : At) (via : Via) (msg : List Byte) (w : Around)
  /-- MGT_RESPONSE_RECEIVE (R273). An MGT response completes the outstanding remote request, or is counted late. -/
  | mgtResponseReceive (a : At) (via : Via) (msg : List Byte)
  /-- RRA_READ (R273). SHL_RRA_CMD READ sends a remote read request. -/
  | rraRead (a : At) (q : Req) (v : Word)
  /-- RRA_WRITE (R273). SHL_RRA_CMD WRITE sends a remote write request. -/
  | rraWrite (a : At) (q : Req) (v : Word)
  /-- REMOTE_TIMEOUT (R273). A remote request gets no response in time and times out. -/
  | remoteTimeout (a : At)
  /-- TIM_MESSAGE_SEND (R274). The origin of a TIM strand sends a time message every 62.5 ms. -/
  | timMessageSend (a : At) (idx : Nat)
  /-- TIM_MESSAGE_RECEIVE (R274). A TIM message gives Basin time at arrival from origin time plus correction. -/
  | timMessageReceive (a : At) (idx : Nat) (msg : List Byte)
  /-- ETH_FRAME_RECEIVE (R280). A received Ethernet frame passes length, FCS, LRE, MACsec, classification and filtering to its strand. -/
  | ethFrameReceive (a : At) (m : Nat) (frame : List Byte) (opened : List Byte) (icvOk : Bool)
  /-- ETH_LINK (R277). A MAC link comes up or goes down. -/
  | ethLink (a : At) (m : Nat) (up : Bool) (speed : Nat) (an : Bool)
  /-- LRE_ENTRY_FORGET (R289). A duplicate-table entry not refreshed for ENTRY_FORGET_MS is freed. -/
  | lreEntryForget (a : At) (src : Nat)
  /-- LRE_SUPERVISION_SEND (R291). Every LIFE_CHECK_MS the LRE sends supervision frames and checks its ports. -/
  | lreSupervisionSend (a : At)
  /-- ETH_SA_INSTALL (R294). ETH_SA_CMD INSTALL loads, unwraps and pins a secure-association key. -/
  | ethSaInstall (a : At) (q : Req) (v : Word)
  /-- ETH_SA_RETIRE (R294). ETH_SA_CMD RETIRE removes an association and unpins its key. -/
  | ethSaRetire (a : At) (q : Req) (v : Word)
  /-- MSEC_TX_AN_SELECT (R294). A write of TX_AN selects the transmit association from the next frame. -/
  | msecTxAnSelect (a : At) (q : Req) (m : Nat) (v : Word)
  /-- PTP_MESSAGE_RECEIVE (R296). A PTP message is time-stamped and handled by the port's role. -/
  | ptpMessageReceive (a : At) (m : Nat) (frame : List Byte) (opened : List Byte) (icvOk : Bool)
  /-- PTP_INTERVAL_TIMER (R296). The 1 s Announce, Sync or Pdelay_Req interval falls and the message is sent. -/
  | ptpIntervalTimer (a : At) (m : Nat) (kind : Nat)
  /-- PTP_ANNOUNCE_TIMEOUT (R296). Three announce intervals pass without an Announce and the BMCA reruns. -/
  | ptpAnnounceTimeout (a : At) (m : Nat)
  /-- PTP_FOLLOWUP_EXPIRE (R299). A kept two-step residence unmatched within 1 s is dropped. -/
  | ptpFollowupExpire (a : At) (m : Nat) (key : Nat)
  /-- DSP_HPD_PLUG (R304). HPD high for 2 ms is a plug; the head reads DPCD and trains. -/
  | dspHpdPlug (a : At) (h : Nat) (vrr : Bool) (rate : Nat) (lanes : Nat)
  /-- DSP_HPD_UNPLUG (R304). HPD low for 2 ms is an unplug and the raster stops. -/
  | dspHpdUnplug (a : At) (h : Nat)
  /-- DSP_HPD_IRQ (R304). A short low HPD pulse is an IRQ; the head reads link status and retrains if lost. -/
  | dspHpdIrq (a : At) (h : Nat) (linkLost : Bool)
  /-- DSP_LINK_TRAINED (R304). Link training completes, or every rate fails and the head stays in NO_LINK. -/
  | dspLinkTrained (a : At) (h : Nat) (rate : Option Nat)
  /-- AUX_TRANSACTION (R306). A write of AUX_CMD starts an AUX transaction. -/
  | auxTransaction (a : At) (q : Req) (h : Nat) (v : Word)
  /-- AUX_REPLY (R306). An AUX reply completes the transaction or a DEFER is retried. -/
  | auxReply (a : At) (h : Nat) (kind : Nat) (bytes : List Byte)
  /-- AUX_TIMEOUT (R306). The 3.2 ms reply wait expires. -/
  | auxTimeout (a : At) (h : Nat)
  /-- TIMING_APPLY (R310). TIMING_APPLY accepts the shadow set as a seamless or dark change, or refuses it. -/
  | timingApply (a : At) (q : Req) (h : Nat) (v : Word)
  /-- DARK_CHANGE_DONE (R311). A dark mode change completes and a pending apply runs. -/
  | darkChangeDone (a : At) (h : Nat) (rate : Option Nat)
  /-- DSP_COMMIT (R312). A write of DSP_HEADh_COMMIT completes a local commit, which is checked and made pending or taken. -/
  | dspCommit (a : At) (q : Req) (h : Nat) (v : Word)
  /-- INTAKE_POINT (R312). At the first blanking line a pending commit is taken for the next frame. -/
  | intakePoint (a : At) (h : Nat)
  /-- PREFETCH_POINT (R312). At the prefetch point the taken commit becomes final, fetch begins or the frame repeats. -/
  | prefetchPoint (a : At) (h : Nat)
  /-- FRAME_START (R312). At the first active line FRAME increases and a new timing set begins. -/
  | frameStart (a : At) (h : Nat)
  /-- RESERVOIR_WATERMARK (R314). The reservoir reaches HIGH_WM or LOW_WM and fetching stops or resumes. -/
  | reservoirWatermark (a : At) (h : Nat) (high : Bool)
  /-- DSP_UNDERRUN (R317). An active pixel finds the reservoir empty; the frame goes black and the lead rises. -/
  | dspUnderrun (a : At) (h : Nat)
  /-- SOURCE_FRAME_SEND (R318). A source head sends the dirty tiles of its newest commit and a frame token. -/
  | sourceFrameSend (a : At) (h : Nat)
  /-- DPT_TILE_RECEIVE (R320). A mirror head writes an arriving tile into its fill buffer or discards it. -/
  | dptTileReceive (a : At) (h : Nat) (frame : List Byte) (lost : Bool)
  /-- DPT_TOKEN_RECEIVE (R320). A frame token arrives and the fill buffer awaits its writes and copy. -/
  | dptTokenReceive (a : At) (h : Nat) (frame : List Byte) (lost : Bool)
  /-- MIRROR_TOKEN_COMPLETE (R320). All tile writes and the stale copy reach LPDDR and the fill buffer becomes ready as a commit. -/
  | mirrorTokenComplete (a : At) (h : Nat)
  /-- DSP_REFRESH (R318). A write of REFRESH makes the next sent frame FULL. -/
  | dspRefresh (a : At) (q : Req) (h : Nat) (v : Word)
  /-- PREFETCH_LEAD_WRITE (R317). A write of PREFETCH_LEAD resets the lead in force. -/
  | prefetchLeadWrite (a : At) (q : Req) (h : Nat) (v : Word)
  /-- MEM_SELF_REFRESH_ENTER (R316). A channel with no requests and tolerant heads enters self-refresh. -/
  | memSelfRefreshEnter (a : At) (c : Nat)
  /-- MEM_SELF_REFRESH_EXIT (R316). A request or falling latency tolerance starts a self-refresh exit. -/
  | memSelfRefreshExit (a : At) (c : Nat)
  /-- BRG_POSTED_WRITE (R335). The bridge accepts a posted write, gives it an ordinal and forwards it, or drops it under a fence. -/
  | brgPostedWrite (a : At) (f : Nat) (tgt : Target) (addr : Nat) (bytes : List Byte)
  /-- BRG_READ_REQUEST (R339). A non-posted request takes a bridge tag and is forwarded, served from read-ahead or refused. -/
  | brgReadRequest (a : At) (f : Nat) (tgt : Target) (addr : Nat) (len : Nat) (tag : Nat) (rid : Nat) (atomic : Option (Nat × List Byte))
  /-- BRG_COMPLETION_RECEIVE (R340). A completion frees its tag and is delivered, or is discarded as late. -/
  | brgCompletionReceive (a : At) (tag : Nat) (status : Nat) (bytes : List Byte)
  /-- BRG_CPL_TIMEOUT (R340). A bridge tag's completion timeout expires and the requester gets Completer Abort. -/
  | brgCplTimeout (a : At) (tag : Nat)
  /-- FAILURE_NOTICE_RECEIVE (R337). A far write failure notice posts WRITE_LOST and may fence the window. -/
  | failureNoticeReceive (a : At) (f : Nat) (tgt : Target) (ord : Nat) (addr : Nat) (ts : Nat) (cause : Nat)
  /-- PREFETCH_DISCARD (R341). Unused read-ahead data is discarded 2 µs after it arrives. -/
  | prefetchDiscard (a : At) (buf : Nat)
  /-- LOCKED_READ (R343). An MRdLk locks the far bus, acquires a semaphore or is refused. -/
  | lockedRead (a : At) (f : Nat) (tgt : Target) (addr : Nat) (len : Nat) (tag : Nat)
  /-- UNLOCK_MESSAGE (R343). The host's Unlock ends the locked sequence. -/
  | unlockMessage (a : At)
  /-- BRG_LOCK_BROKEN (R343). A lock held past LOCK_MAX_MS is released by the bridge. -/
  | brgLockBroken (a : At)
  /-- SEM_READ (R344). A read of BRG_SEMs acquires a free semaphore and reports GRANTED. -/
  | semRead (a : At) (q : Req) (n : Nat)
  /-- SEM_RELEASE (R344). RELEASE by the holder frees the semaphore. -/
  | semRelease (a : At) (q : Req) (n : Nat) (v : Word)
  /-- SEM_FORCE (R344). FORCE by PF0 frees any semaphore. -/
  | semForce (a : At) (q : Req) (n : Nat) (v : Word)
  /-- VDP_CONFIG_REQUEST (R332). A configuration request to a VDP's secondary bus is forwarded and issued by the far root port. -/
  | vdpConfigRequest (a : At) (n : Nat) (type1 : Bool) (write : Bool) (addr : Nat) (tag : Nat) (bytes : List Byte)
  /-- VDP_LINK (R331). A far port's presence or link state changes and the VDP's Changed bits and MSI fire. -/
  | vdpLink (a : At) (n : Nat) (present : Bool) (active : Bool) (cause : Nat) (speed : Nat) (width : Nat)
  /-- PORT_PROMOTE (R329). BRG_PORT_CMD PROMOTE promotes a standby alternate port to primary. -/
  | portPromote (a : At) (q : Req) (v : Word)
  /-- AUTO_PROMOTE (R329). The primary port out of DL_Active for PROMOTE_AFTER_MS promotes an alternate port. -/
  | autoPromote (a : At) (perst : Nat)
  /-- DS_PORT_LINK (R330). A downstream root port's link changes state. -/
  | dsPortLink (a : At) (up : Bool) (speed : Nat) (width : Nat)
  /-- DMA_DOORBELL (R345). A producer count written to a DMA doorbell posts descriptors or is ignored. -/
  | dmaDoorbell (a : At) (q : Req) (c : Nat) (v : Word)
  /-- DMA_ENABLE (R345). Setting ENABLE starts a DMA channel with both counts at 0, or is refused. -/
  | dmaEnable (a : At) (q : Req) (c : Nat) (v : Word)
  /-- DMA_DISABLE (R347). Clearing ENABLE stops a channel and allows its restart. -/
  | dmaDisable (a : At) (q : Req) (c : Nat) (v : Word)
  /-- DMA_TX_DESCRIPTOR (R346). A TX descriptor's data is read and sent as one RAW frame; DMA_DONE follows its last link. -/
  | dmaTxDescriptor (a : At) (c : Nat) (desc : List Byte) (bytes : List Byte) (readOk : Bool)
  /-- DMA_RX_FRAME (R346). An arriving RAW frame is written into the next RX descriptor's buffer. -/
  | dmaRxFrame (a : At) (c : Nat) (desc : List Byte) (frame : List Byte) (cut : Bool) (readOk : Bool)
  /-- VFN_CREATE (R353). VFN_CMD CREATE carves resources for a slot all or nothing. -/
  | vfnCreate (a : At) (q : Req) (v : Word)
  /-- VFN_QUIESCE (R362). VFN_CMD QUIESCE holds every carved resource and waits for work in flight to end. -/
  | vfnQuiesce (a : At) (q : Req) (v : Word)
  /-- VF_QUIESCED (R362). Nothing remains in flight and the slot becomes QUIESCED. -/
  | vfQuiesced (a : At) (f : Nat)
  /-- VFN_RELEASE (R363). VFN_CMD RELEASE resets resources to LIVE or returns them to the pool. -/
  | vfnRelease (a : At) (q : Req) (v : Word)
  /-- VFN_DESTROY (R364). VFN_CMD DESTROY leaves the slot EMPTY. -/
  | vfnDestroy (a : At) (q : Req) (v : Word)
  /-- VFN_READ (R370). VFN_CMD READ copies a slot's carve into the carve registers. -/
  | vfnRead (a : At) (q : Req) (v : Word)
  /-- VF_FUNCTION_RESET (R361). FLR, VF Enable clearing or NumVFs reduction resets a virtual function and holds its busy resources. -/
  | vfFunctionReset (a : At) (f : Nat) (cause : Nat)
  /-- LOG_SWAP (R368). A write of SWAP makes the other dirty bitmap active and sets SWAP_PENDING. -/
  | logSwap (a : At) (q : Req) (n : Nat) (v : Word)
  /-- VF_LOG_SWAPPED (R368). The old bitmap's cache and updates are written back and ACTIVE toggles. -/
  | vfLogSwapped (a : At) (f : Nat)
  /-- USB_CONNECT (R379). Setting or clearing USB_CONNECT applies or removes the UFP pull-up and terminations. -/
  | usbConnect (a : At) (q : Req) (v : Word)
  /-- USB_ATTACH (R378). A write of ATTACH = 1 attaches an embedded function or is refused with CARVE_ERR. -/
  | usbAttach (a : At) (q : Req) (u : Nat) (v : Word)
  /-- USB_DETACH (R378). Clearing ATTACH detaches the function and discards its buffered data. -/
  | usbDetach (a : At) (q : Req) (u : Nat) (v : Word)
  /-- USB_EP_HALT (R381). A write of HALT halts an endpoint. -/
  | usbEpHalt (a : At) (q : Req) (u : Nat) (e : Nat) (dirIn : Bool) (v : Word)
  /-- USB_TRANSACTION (R380). A USB transaction to an embedded function endpoint is answered with data or a handshake. -/
  | usbTransaction (a : At) (u : Nat) (e : Nat) (kind : Nat) (data : List Byte) (w : Around)
  /-- USB_SETUP_REQUEST (R382). A SETUP starts a standard, class or vendor control request, or is stalled. -/
  | usbSetupRequest (a : At) (u : Nat) (setup : List Byte)
  /-- USB_STATUS_STAGE_COMPLETE (R384). The status-stage handshake completes and a SET request takes effect. -/
  | usbStatusStageComplete (a : At) (u : Nat)
  /-- USB_BUS_RESET (R385). A bus reset on a UFP resets its hub and embedded functions. -/
  | usbBusReset (a : At) (speed : Nat)
  /-- USB_LPM_TOKEN (R386). An LPM token is answered ACK or NYET. -/
  | usbLpmToken (a : At)
  /-- USB_SUSPEND (R386). 3 ms of bus idle suspends the UFP. -/
  | usbSuspend (a : At)
  /-- USB_U1_INITIATE (R386). U1_IDLE_US of inactivity makes the UFP initiate U1. -/
  | usbU1Initiate (a : At)
  /-- USB_WAKE_REASON (R386). A function gains a wake reason, pending until signalled or resumed. -/
  | usbWakeReason (a : At) (u : Nat)
  /-- USB_REMOTE_WAKE (R387). A signalled wake begins driving resume or LFPS upstream once allowed. -/
  | usbRemoteWake (a : At) (u : Nat)
  /-- USB_RESUME_RELEASE (R387). After 1 ms, or 50 µs from L1, the VX7 releases its resume drive. -/
  | usbResumeRelease (a : At)
  /-- USB_HOST_RESUME (R387). The host's resume is seen and the UFP leaves suspend, merging any wake. -/
  | usbHostResume (a : At)
  /-- USB_WAKE_TIMEOUT (R388). No resume follows a remote wake in time; it is signalled again or fails. -/
  | usbWakeTimeout (a : At)
  /-- USB_LFPS_TIMEOUT (R388). No LFPS answer to a U3 wake within 10 ms and a retry is scheduled. -/
  | usbLfpsTimeout (a : At)
  /-- USB_OVERCURRENT (R374). Over-current held for 8 ms switches off a DFP's power. -/
  | usbOvercurrent (a : At) (p : Nat)
  /-- USB_STRAND_MESSAGE_RECEIVE (R389). A USB strand message is delivered to its function or discarded as a route error. -/
  | usbStrandMessageReceive (a : At) (u : Nat) (msg : List Byte)
  /-- RELAY_DEVICE_ATTACH (R391). A device on a RELAY DFP is enumerated and ATTACH is sent, or a relay fault raised. -/
  | relayDeviceAttach (a : At) (p : Nat) (speed : Nat) (vid : Nat) (pid : Nat) (hid : Option (Nat × List Byte))
  /-- RELAY_DEVICE_DETACH (R391). A RELAY DFP device detaches and DETACH is sent. -/
  | relayDeviceDetach (a : At) (p : Nat)
  /-- RELAY_POLL (R391). At the device's bInterval the relay host polls and sends each report as REPORT_IN. -/
  | relayPoll (a : At) (p : Nat) (report : Option (List Byte))
  /-- RELAY_TXN_TIMEOUT (R388). A RELAY device does not respond in time and a transaction error is counted. -/
  | relayTxnTimeout (a : At) (p : Nat)
  /-- USB_FUNC_REATTACH (R391). After a detach of 100 ms or 10 ms a function attaches again. -/
  | usbFuncReattach (a : At) (u : Nat)
  /-- PWR_CMD_FLOW (R402). A request for FLOW is captured and placed under Table 15.4. -/
  | pwrCmdFlow (a : At) (q : Req) (v : Word)
  /-- PWR_CMD_EDDY (R402). A request for EDDY is captured and placed under Table 15.4. -/
  | pwrCmdEddy (a : At) (q : Req) (v : Word)
  /-- PWR_CMD_STILL (R402). A request for STILL is captured and placed under Table 15.4. -/
  | pwrCmdStill (a : At) (q : Req) (v : Word) (aspm : Bool)
  /-- PWR_CMD_TARN (R402). A request for TARN is captured and placed under Table 15.4. -/
  | pwrCmdTarn (a : At) (q : Req) (v : Word) (aspm : Bool)
  /-- PWR_CMD_BAD_TARGET (R401). A TARGET of 4 to 7 completes with BAD_TARGET. -/
  | pwrCmdBadTarget (a : At) (q : Req) (v : Word)
  /-- SLEEP_ENTRY_QUIESCED (R404). Step E2 ends at its safe point, where a pending request is acted on. -/
  | sleepEntryQuiesced (a : At) (aspm : Bool)
  /-- SLEEP_ENTRY_DRAINED (R405). E3 ends when every tag has ended; the commit step is decided and STILL or TARN is entered. -/
  | sleepEntryDrained (a : At) (codes : List Nat) (inCycle : Bool) (after : Option Nat) (aspm : Bool)
  /-- SLEEP_ENTRY_REVERSED (R403). The reversal of an aborted or stopped entry completes and the package rests or runs the pending request. -/
  | sleepEntryReversed (a : At) (aspm : Bool)
  /-- EDDY_ACTIVITY (R400). An activity captured in EDDY returns the package to FLOW. -/
  | eddyActivity (a : At) (kind : Nat)
  /-- ISLAND_GATE (R399). An island idle for EDDY_GATE_NS stops its clock. -/
  | islandGate (a : At) (isl : Nat)
  /-- TARN_MATCH (R409). The Tarn matcher sees the wake address after a START and asserts the wake. -/
  | tarnMatch (a : At) (byte : Nat)
  /-- WAKE_ACK (R407). Every kept island reports CLK_OK and WAKE_REQ_N is released. -/
  | wakeAck (a : At)
  /-- PWR_WAKE_SLOW (R407). WAKE_ACK_US expires and the wake is acknowledged anyway. -/
  | pwrWakeSlow (a : At)
  /-- STILL_EXIT_DONE (R407). LPDDR leaves self-refresh and the package is in FLOW; links come up. -/
  | stillExitDone (a : At) (aspm : Bool)
  /-- TRN_ADDR_WRITE (R411). A write to TRN_ADDR changes WAKE_ADDR or is ignored. -/
  | trnAddrWrite (a : At) (q : Req) (v : Word)
  /-- VTARN_POWER_ON (R411). VTARN rises and the Tarn registers take their reset values. -/
  | vtarnPowerOn (a : At) (fusedValid : Bool) (fused : Nat)
  /-- POWER_ON_RESET (R416). Power-on fires source 0 at COLD until every monitor is in window for 1 ms. -/
  | powerOnReset (a : At)
  /-- RST_N_ASSERT (R416). RST_N low after deglitch fires source 1 with its reach. -/
  | rstNAssert (a : At)
  /-- PERST_N_ASSERT (R416). PERST_N of the primary port fires source 2 with its reach. -/
  | perstNAssert (a : At)
  /-- PCIE_HOT_RESET (R416). A PCIe hot reset fires source 3 with its reach. -/
  | pcieHotReset (a : At)
  /-- PF0_FLR (R419). FLR of PF0 resets PF0's host-visible state for 10 ms. -/
  | pf0Flr (a : At)
  /-- JTAG_RESET (R416). A boundary-scan instruction in the TAP fires source 13. -/
  | jtagReset (a : At)
  /-- RST_REQ (R421). A write of RST_REQ fires source 7 at the requested level and target, or is refused. -/
  | rstReq (a : At) (q : Req) (v : Word)
  /-- RESET_IDLE_TIMEOUT (R422). An island that does not IDLE_ACK by IDLE_TIMEOUT_US is reset anyway and its items discarded. -/
  | resetIdleTimeout (a : At) (src : Nat) (items : List (Nat × Nat))
  /-- RESET_RELEASE (R423). Every source reaching an area releases and its islands leave reset once CLK_OK is 1. -/
  | resetRelease (a : At) (src : Nat)
  /-- RST_FORCE_RELEASE (R423). A write of RST_FORCE_RELEASE releases islands held only by software or JTAG. -/
  | rstForceRelease (a : At) (q : Req) (v : Word)
  /-- BOOT_CLOCKS_READY (R431). Die references and die 0's boot islands reach CLK_OK and fuses are read. -/
  | bootClocksReady (a : At) (boots : List Nat) (clks : List Nat)
  /-- OPTION_BYTES_READ (R429). The option bytes are read from NVM and die 0 channel 0 is trained. -/
  | optionBytesRead (a : At)
  /-- RST_FUSE_PROG (R418). RST_FUSE_PROG_CMD programs the reach fuses as a store or is refused. -/
  | rstFuseProg (a : At) (q : Req) (v : Word) (codes : List Nat)
  /-- BOOT_PUSH (R427). RST_BOOT_PUSH with FETCH = 0 starts loading the image in the boot buffer. -/
  | bootPush (a : At) (q : Req) (v : Word)
  /-- BOOT_PUSH_FETCH (R427). RST_BOOT_PUSH with FETCH = 1 reads the image from host memory into the boot buffer. -/
  | bootPushFetch (a : At) (q : Req) (v : Word)
  /-- BOOT_FETCH_DONE (R427). The fetched image is in the boot buffer and its load starts, or the push fails. -/
  | bootFetchDone (a : At) (ok : Bool) (bytes : List Byte)
  /-- PWR_FAIL (R435). PWR_FAIL_N or a supply monitor fires brownout: journal frozen, load shed and journal flushed. -/
  | pwrFail (a : At) (cause : Nat) (codes : List Nat)
  /-- HLD_FLUSH (R435). HLD_CMD FLUSH starts a journal flush under the hold-up check. -/
  | hldFlush (a : At) (q : Req) (v : Word) (codes : List Nat)
  /-- SUPPLY_FAULT (R461). A rail leaves its window for 2 µs and fires source 10. -/
  | supplyFault (a : At) (rail : Nat) (codes : List Nat)
  /-- KEY_LOAD (R444). KEY_CMD LOAD loads a handle's key into a slot. -/
  | keyLoad (a : At) (q : Req) (v : Word)
  /-- KEY_PIN (R445). KEY_CMD PIN pins a slot holding the handle. -/
  | keyPin (a : At) (q : Req) (v : Word)
  /-- KEY_UNPIN (R445). KEY_CMD UNPIN unpins the handle's slot. -/
  | keyUnpin (a : At) (q : Req) (v : Word)
  /-- KEY_FLUSH (R445). KEY_CMD FLUSH zeroes every slot and engine copy of the handle. -/
  | keyFlush (a : At) (q : Req) (v : Word)
  /-- KEY_ATTEST (R452). KEY_CMD ATTEST computes an HMAC over the attestation message and advances the counter. -/
  | keyAttest (a : At) (q : Req) (v : Word) (codes : List Nat)
  /-- KEY_PROVISION (R451). KEY_CMD PROVISION unwraps and fuses the owner bank. -/
  | keyProvision (a : At) (q : Req) (v : Word) (buf : List Byte) (codes : List Nat)
  /-- KEY_DEPLOY (R450). KEY_CMD DEPLOY moves the life cycle to DEPLOYED under authorization. -/
  | keyDeploy (a : At) (q : Req) (v : Word) (codes : List Nat)
  /-- KEY_RETURN (R450). KEY_CMD RETURN destroys the owner bank and moves to RETURNED. -/
  | keyReturn (a : At) (q : Req) (v : Word) (codes : List Nat)
  /-- KEY_SCRAP (R450). KEY_CMD SCRAP destroys every key class and moves to SCRAPPED. -/
  | keyScrap (a : At) (q : Req) (v : Word) (codes : List Nat)
  /-- LC_CHANGED (R450). A life-cycle transition completes its fuse programming and readback. -/
  | lcChanged (a : At) (readOk : Bool) (codes : List Nat)
  /-- KEY_LOAD_DONE (R444). A key load's directory and blob reads complete; the blob is unwrapped into a slot or the load fails. -/
  | keyLoadDone (a : At) (handle : Nat) (dirEntry : List Byte) (blob : List Byte)
  /-- KEY_FAIL_HOLDOFF_END (R444). 10 ms after a failed load the handle may be fetched again. -/
  | keyFailHoldoffEnd (a : At) (h : Nat)
  /-- KEY_TAMPER (R455). A tamper cause destroys SESSION keys and fires source 11. -/
  | keyTamper (a : At) (cause : Nat)
  /-- TEMP_READING (R466). Every 100 µs the die temperature is read and a trip is decided. -/
  | tempReading (a : At) (t : Int)
  /-- REF_CLK_FAULT (R477). A faulty reference puts the generators in holdover and drops the die's links. -/
  | refClkFault (a : At) (cause : Nat)
  /-- REF_CLK_RESTORED (R477). The reference has been in window for 1 ms and links retrain. -/
  | refClkRestored (a : At)
  /-- SMB_BLOCK_WRITE (R491). An SMBus Block Write with command 0x01 carries a request that the SMB requester acts on. -/
  | smbBlockWrite (a : At) (addr : Nat) (cmd : Nat) (data : List Byte) (pecOk : Bool) (w : Around)
  /-- SMB_BLOCK_READ (R491). An SMBus Block Read with command 0x02 returns the response once, or a count of 0. -/
  | smbBlockRead (a : At) (addr : Nat) (cmd : Nat)
  /-- RESET_IDLE_ACK (R422). The last reached island returns IDLE_ACK and the RCP island applies the BLOCK or DIE reset. -/
  | resetIdleAck (a : At) (src : Nat)
  /-- SKN_STORE_CHECKED (R63). The full image read from host memory for STORE has passed or failed every R52 check, so it is refused or its store starts under the hold-up check. -/
  | sknStoreChecked (a : At) (readOk : Bool) (bytes : List Byte) (codes : List Nat)
  /-- PUSH_IMAGE_LOADED (R427). The load of a pushed image ends, leaving recovery and continuing boot from step 7 with a retrain, or failing into R54. -/
  | pushImageLoaded (a : At)
  /-- BUS_MASTER_ENABLE_CLEAR (R347). A function's Bus Master Enable falls, its DMA channels halt with cause BME and its outlets stop sending. -/
  | busMasterEnableClear (a : At) (f : Nat)
  /-- VDP_LINK_CONTROL (R331). A host write of Link Disable, Retrain Link or Secondary Bus Reset to a VDP is passed to the far root port. -/
  | vdpLinkControl (a : At) (n : Nat) (kind : Nat)
  /-- PRIMARY_LINK_DL_ACTIVE (R329). The primary port leaves or regains DL_Active, which starts or ends the PROMOTE_AFTER_MS wait. -/
  | primaryLinkDlActive (a : At) (up : Bool) (rate : Nat) (width : Nat)
  /-- USB_DFP_CONNECT (R374). A device connects to or disconnects from a LOCAL-mode DFP, changing hub port status and latching a wake reason. -/
  | usbDfpConnect (a : At) (p : Nat) (up : Bool) (speed : Nat) (vid : Nat) (pid : Nat)
  /-- USB_VBUS_CHANGE (R372). VBUS on USB_VBUS_SNS appears or disappears, changing the UFP's connection state and the STILL precondition. -/
  | usbVbusChange (a : At) (up : Bool)
  /-- USB_LINK_STATE_REQUEST (R386). The host directs the UFP into U1, U2 or U3, and the VX7 accepts when enabled. -/
  | usbLinkStateRequest (a : At) (st : Nat)
  /-- REGISTER_READ (R485). A register read is decoded and checked for shape, requester and target die, then completes normally, with Completer Abort, with all ones, or with 0, counting bad accesses. -/
  | registerRead (a : At) (q : Req) (addr : Nat) (len : Nat) (be : Bool)
  deriving DecidableEq, Repr

end Sys2Proof
end

