-- ==== Sys2Proof/Decode.lean ====
section
/-! DEFINITION. The words of the table of operations. -/

namespace Sys2Proof

/-- The command that a word spells by the table's bits: its rows give no bits (every "fields" of spec/opcode_table.json is empty), so
no word spells one. -/
def decodeTableWord (_nbits _w : Nat) : Option Instr := none

end Sys2Proof
end

