-- ==== Sys2Proof/Config.lean ====
section
/-! DEFINITION. What an implementation fixes and the spec leaves open: opaque constants, so that no proof can see a value. -/

namespace Sys2Proof.Config

/-- A value the spec leaves open, drawn by the counter `fresh` of State (log entry 3). -/
opaque freeValue : Nat → Nat

/-- SHA-384 of a byte string: the published standard 02 R39 names. -/
opaque sha384 : List Byte → List Byte

/-- ECDSA P-384 verification of a digest: the published standard 02 R39 names (key, digest, signature). -/
opaque ecdsaOk : List Byte → List Byte → List Byte → Bool

/-- HMAC-SHA-384 under a secret over a message (17 R451, R452). -/
opaque hmac384 : List Byte → List Byte → List Byte

/-- AES key unwrap of RFC 5649 under a wrapping key: the plaintext, or nothing where its check fails (17 R442, R451). -/
opaque unwrap : List Byte → List Byte → Option (List Byte)

/-- Fused secrets and public keys that Tlaine gives the part (17 Table 17.1; 02 R49): TRANSPORT, the factory key with its identifier,
and the firmware key of the boot ROM. -/
opaque transportKey : List Byte
opaque factoryKey : List Byte
opaque factoryId : BitVec 32
opaque firmwareKey : List Byte

/-- AES-256-GCM encryption of a segment (key, nonce, additional data, plaintext): ciphertext and tag (17 R446). -/
opaque gcmSeal : List Byte → List Byte → List Byte → List Byte → List Byte

/-- The address of a MAC, by package MAC number: the spec gives none (log entry 3). -/
opaque macAddress : Nat → BitVec 48

/-- The offsetScaledLogVariance that the clock of 10 R297 announces; the spec gives none. -/
opaque ptpVariance : BitVec 16

/-- The TLVs that IEEE C37.238-2017 adds to an Announce, by grandmaster address (10 R296). -/
opaque profileTlvs : Nat → List Byte

/-- A TLP with its FLIT-mode header, as PCI Express lays it out (05 Table 5.2): kind, initiator, tag or ordinal, address; data. -/
opaque tlpFrame : List Nat → List Byte → List Byte

end Sys2Proof.Config
end

