-- ==== Sys2Proof/Machine/Bits.lean ====
section
/-! DEFINITION. Bit fields of words, signed readings, saturating counters and the published CRCs the spec names. -/

namespace Sys2Proof.Machine

/-- Bits [hi:lo] of a number. -/
def bits (v hi lo : Nat) : Nat := v / 2 ^ lo % 2 ^ (hi + 1 - lo)

/-- One bit of a number. -/
def bit (v n : Nat) : Bool := v / 2 ^ n % 2 == 1

/-- 1 for true, 0 for false. -/
def b2n (b : Bool) : Nat := if b then 1 else 0

/-- The mask of bits [hi:lo]. -/
def fieldMask (hi lo : Nat) : Word := BitVec.ofNat 32 ((2 ^ (hi + 1 - lo) - 1) * 2 ^ lo)

/-- Bits [hi:lo] of a word, as a number. -/
def wordGet (w : Word) (hi lo : Nat) : Nat := bits w.toNat hi lo

/-- The word with bits [hi:lo] replaced by the low bits of `v`. -/
def wordSet (w : Word) (hi lo v : Nat) : Word :=
  (w &&& ~~~ fieldMask hi lo) ||| (BitVec.ofNat 32 (v * 2 ^ lo) &&& fieldMask hi lo)

/-- A number with bit `n` set. -/
def setBit (v n : Nat) : Nat := if bit v n then v else v + 2 ^ n

/-- A number with bit `n` clear. -/
def clearBit (v n : Nat) : Nat := if bit v n then v - 2 ^ n else v

/-- How many of the low `n` bits are set. -/
def popCount : Nat → Nat → Nat
  | 0, _ => 0
  | n + 1, v => v % 2 + popCount n (v / 2)

/-- The lowest set bit below `n`, if any. -/
def lowestBit (n v : Nat) : Option Nat := (List.range n).find? fun k => bit v k

/-- The two's-complement reading of the low `n` bits. -/
def signed (n v : Nat) : Int :=
  let w := v % 2 ^ n
  if w < 2 ^ (n - 1) then (w : Int) else (w : Int) - (2 ^ n : Nat)

/-- The two's-complement field of `n` bits that holds `v`. -/
def unsigned (n : Nat) (v : Int) : Nat := (v % ((2 ^ n : Nat) : Int)).toNat

/-- The value held to the range of an `n`-bit two's-complement field. -/
def clampSigned (n : Nat) (v : Int) : Int :=
  let top : Int := ((2 ^ (n - 1) : Nat) : Int)
  if v ≥ top then top - 1 else if v < -top then -top else v

/-- Addition that stops at `top`. -/
def satAdd (top v k : Nat) : Nat := if v + k ≤ top then v + k else max v top

/-- Integer ceiling of a quotient. -/
def ceilDiv (a b : Nat) : Nat := (a + b - 1) / b

/-- One step of a CRC of width `w` over a bit sent first. -/
def crcBit (w poly crc : Nat) (b : Bool) : Nat :=
  let top := bit crc (w - 1)
  let sh := crc * 2 % 2 ^ w
  if top != b then sh ^^^ poly else sh

/-- A CRC over bits, in the order they are given. -/
def crcBits (w poly : Nat) : Nat → List Bool → Nat
  | crc, [] => crc
  | crc, b :: bs => crcBits w poly (crcBit w poly crc b) bs

/-- The eight bits of a byte, most significant first. -/
def msbFirst (b : Byte) : List Bool := (List.range 8).map fun k => b.getLsbD (7 - k)

/-- The eight bits of a byte, least significant first. -/
def lsbFirst (b : Byte) : List Bool := (List.range 8).map fun k => b.getLsbD k

/-- The reversal of the low `w` bits. -/
def reverseBits : Nat → Nat → Nat
  | 0, _ => 0
  | w + 1, v => v % 2 * 2 ^ w + reverseBits w (v / 2)

/-- One byte of a reflected CRC-32 (polynomial 0x04C11DB7, least significant bit first). -/
def crc32Byte (crc : Nat) (b : Byte) : Nat :=
  (List.range 8).foldl (fun c _ => if c % 2 = 1 then (c / 2) ^^^ 0xEDB88320 else c / 2) (crc ^^^ b.toNat)

/-- The register of the Ethernet CRC-32 over bytes, before its final inversion (IEEE 802.3). -/
def crc32Run (crc : Nat) (l : List Byte) : Nat := l.foldl crc32Byte crc

/-- What that register holds after a frame and its right FCS. -/
def crc32Good : Nat := 0xDEBB20E3

/-- The FCS of a frame without one. -/
def fcsOf (l : List Byte) : List Byte := leBytes 4 (crc32Run 0xFFFFFFFF l ^^^ 0xFFFFFFFF)

end Sys2Proof.Machine
end

