-- ==== Sys2Proof/Machine/Map.lean ====
section
/-! DEFINITION. Sparse tables as plain data: lists of key and value in rising key order. -/

namespace Sys2Proof.Machine

/-- A sparse table: key and value pairs, keys strictly rising. -/
abbrev Table (α : Type) := List (Nat × α)

/-- The value listed at a key. -/
def Table.find? {α : Type} : Table α → Nat → Option α
  | [], _ => none
  | (k, v) :: t, key => if k = key then some v else Table.find? t key

/-- The value at a key, or the default where none is listed. -/
def Table.look {α : Type} (t : Table α) (key : Nat) (d : α) : α := (Table.find? t key).getD d

/-- The table with the value listed at the key. -/
def Table.put {α : Type} : Table α → Nat → α → Table α
  | [], key, v => [(key, v)]
  | (k, w) :: t, key, v =>
    if key < k then (key, v) :: (k, w) :: t
    else if k = key then (key, v) :: t
    else (k, w) :: Table.put t key v

/-- The table with nothing listed at the key. -/
def Table.del {α : Type} : Table α → Nat → Table α
  | [], _ => []
  | (k, w) :: t, key => if k = key then t else (k, w) :: Table.del t key

/-- The table with the value at the key changed. -/
def Table.upd {α : Type} (t : Table α) (key : Nat) (d : α) (f : α → α) : Table α :=
  Table.put t key (f (Table.look t key d))

/-- Keys strictly rise. -/
def Table.rising {α : Type} : Table α → Bool
  | [] => true
  | [_] => true
  | (k, _) :: (k', v') :: t => decide (k < k') && Table.rising ((k', v') :: t)

/-- The canonical form of a table in which nothing listed equals what an unlisted key reads as. -/
def Table.canonical {α : Type} [DecidableEq α] (unlisted : Nat → α) (t : Table α) : Bool :=
  Table.rising t && t.all fun p => decide (p.2 ≠ unlisted p.1)

/-- A write that keeps the canonical form: writing what an unlisted key reads as removes the entry. -/
def Table.write {α : Type} [DecidableEq α] (unlisted : Nat → α) (t : Table α) (key : Nat) (v : α) : Table α :=
  if v = unlisted key then Table.del t key else Table.put t key v

/-- Read through the canonical form. -/
def Table.read {α : Type} (unlisted : Nat → α) (t : Table α) (key : Nat) : α :=
  (Table.find? t key).getD (unlisted key)

/-- Element `n` of a list changed. -/
def modAt {α : Type} (l : List α) (n : Nat) (f : α → α) : List α := l.modify n f

end Sys2Proof.Machine
end

