-- ==== Sys2Proof/Machine/RegType.lean ====
section
/-! DEFINITION. The shape of a register and of a field (00 R8, R9; 19 R483, R484, R487). -/

namespace Sys2Proof.Machine

/-- The access types of Table 0.4 (00 R8). -/
inductive Acc where
  | rw | ro | w1c | wo | rws | skn
  deriving DecidableEq, Repr

/-- One field of a register: bits [hi:lo], access type, reset value, and the range a Skein record must give. -/
structure Field where
  hi : Nat
  lo : Nat
  acc : Acc
  reset : Nat
  min : Nat
  max : Nat
  deriving DecidableEq, Repr

/-- One register of a table: die offset `base + s1 × i + s2 × j` for `i < n1`, `j < n2`. Bits that no field names are reserved (00 R9). -/
structure RegDesc where
  base : Nat
  n1 : Nat
  s1 : Nat
  n2 : Nat
  s2 : Nat
  fields : List Field
  deriving DecidableEq, Repr

/-- A named field of a register. -/
structure Fld where
  reg : RegDesc
  hi : Nat
  lo : Nat
  deriving DecidableEq, Repr

/-- The die offset of instance `i`, `j` of a register. -/
def RegDesc.off (r : RegDesc) (i j : Nat) : Nat := r.base + r.s1 * i + r.s2 * j

/-- The instance of a register that a die offset names. -/
def RegDesc.index (r : RegDesc) (off : Nat) : Nat × Nat :=
  let d := off - r.base
  let i := if r.n1 ≤ 1 then 0 else d / r.s1
  let e := d - i * r.s1
  let j := if r.n2 ≤ 1 then 0 else e / r.s2
  (i, j)

/-- The die offset lies in this register. -/
def RegDesc.holds (r : RegDesc) (off : Nat) : Bool :=
  decide (r.base ≤ off) &&
  (let p := r.index off
   decide (p.1 < r.n1) && decide (p.2 < r.n2) && r.off p.1 p.2 == off)

/-- The reset word that the table's plain values give. -/
def RegDesc.reset (r : RegDesc) : Nat := r.fields.foldl (fun w f => w + f.reset * 2 ^ f.lo) 0

/-- The mask of the bits whose access type satisfies a test. -/
def RegDesc.mask (r : RegDesc) (p : Acc → Bool) : Word :=
  r.fields.foldl (fun m f => if p f.acc then m ||| fieldMask f.hi f.lo else m) 0

/-- The BAR0 offset of a register (19 R483): bits [26:24] the die, bits [23:0] the offset within it. -/
def barAddr (die off : Nat) : Nat := die * 0x1000000 + off

end Sys2Proof.Machine
end

