-- ==== Sys2Proof/Machine/CatalogA.lean ====
section
/-! DEFINITION. The register catalogue: the registers of blocks GLB, RST, PWR, CLK, SKN, EVT, TRN, HLD, LN, PLY as their tables of the spec lay them down. -/

namespace Sys2Proof.Machine

/-! Block GLB (19 R495, 01 R36). -/

def Reg.GLB_DIE_ID : RegDesc := ⟨0x000000, 1, 0, 1, 0, [⟨31, 29, .ro, 0, 0, 7⟩, ⟨28, 28, .ro, 0, 0, 1⟩, ⟨27, 27, .ro, 0, 0, 1⟩, ⟨26, 24, .ro, 0, 0, 7⟩, ⟨15, 8, .ro, 0, 0, 0xff⟩]⟩
abbrev F.GLB_DIE_ID_DIE : Fld := ⟨Reg.GLB_DIE_ID, 31, 29⟩
abbrev F.GLB_DIE_ID_ANCHOR : Fld := ⟨Reg.GLB_DIE_ID, 28, 28⟩
abbrev F.GLB_DIE_ID_PRIMARY : Fld := ⟨Reg.GLB_DIE_ID, 27, 27⟩
abbrev F.GLB_DIE_ID_DIES_LOG2 : Fld := ⟨Reg.GLB_DIE_ID, 26, 24⟩
abbrev F.GLB_DIE_ID_STEPPING : Fld := ⟨Reg.GLB_DIE_ID, 15, 8⟩
def Reg.GLB_DIE_STATUS : RegDesc := ⟨0x000004, 1, 0, 1, 0, [⟨31, 31, .ro, 0, 0, 1⟩, ⟨30, 30, .ro, 0, 0, 1⟩, ⟨29, 27, .ro, 0, 0, 7⟩, ⟨5, 0, .ro, 0, 0, 0x3f⟩]⟩
abbrev F.GLB_DIE_STATUS_CONFIGURED : Fld := ⟨Reg.GLB_DIE_STATUS, 31, 31⟩
abbrev F.GLB_DIE_STATUS_ROUTED : Fld := ⟨Reg.GLB_DIE_STATUS, 30, 30⟩
abbrev F.GLB_DIE_STATUS_LAST_LEVEL : Fld := ⟨Reg.GLB_DIE_STATUS, 29, 27⟩
abbrev F.GLB_DIE_STATUS_ISLANDS_OK : Fld := ⟨Reg.GLB_DIE_STATUS, 5, 0⟩
def Reg.GLB_ISLAND_OFF_LO : RegDesc := ⟨0x000008, 1, 0, 1, 0, [⟨31, 0, .skn, 0, 0, 0xffffffff⟩]⟩
abbrev F.GLB_ISLAND_OFF_LO_OFF : Fld := ⟨Reg.GLB_ISLAND_OFF_LO, 31, 0⟩
def Reg.GLB_ISLAND_OFF_HI : RegDesc := ⟨0x00000C, 1, 0, 1, 0, [⟨11, 0, .skn, 0, 0, 0xfff⟩]⟩
abbrev F.GLB_ISLAND_OFF_HI_OFF : Fld := ⟨Reg.GLB_ISLAND_OFF_HI, 11, 0⟩
def Reg.GLB_CAP0 : RegDesc := ⟨0x000010, 1, 0, 1, 0, [⟨31, 24, .ro, 8, 0, 0xff⟩, ⟨23, 16, .ro, 0x80, 0, 0xff⟩, ⟨15, 8, .ro, 0x40, 0, 0xff⟩, ⟨7, 0, .ro, 0x40, 0, 0xff⟩]⟩
abbrev F.GLB_CAP0_LEDGER_K : Fld := ⟨Reg.GLB_CAP0, 31, 24⟩
abbrev F.GLB_CAP0_OUTLETS : Fld := ⟨Reg.GLB_CAP0, 23, 16⟩
abbrev F.GLB_CAP0_DMA : Fld := ⟨Reg.GLB_CAP0, 15, 8⟩
abbrev F.GLB_CAP0_KEY_SLOTS : Fld := ⟨Reg.GLB_CAP0, 7, 0⟩
def Reg.GLB_CAP1 : RegDesc := ⟨0x000014, 1, 0, 1, 0, [⟨31, 24, .ro, 0x1f, 0, 0xff⟩, ⟨23, 16, .ro, 0x40, 0, 0xff⟩, ⟨15, 8, .ro, 0x40, 0, 0xff⟩, ⟨7, 0, .ro, 0x40, 0, 0xff⟩]⟩
abbrev F.GLB_CAP1_VF_SLOTS : Fld := ⟨Reg.GLB_CAP1, 31, 24⟩
abbrev F.GLB_CAP1_BOBBINS_K : Fld := ⟨Reg.GLB_CAP1, 23, 16⟩
abbrev F.GLB_CAP1_MCAST_16 : Fld := ⟨Reg.GLB_CAP1, 15, 8⟩
abbrev F.GLB_CAP1_POLICERS_64 : Fld := ⟨Reg.GLB_CAP1, 7, 0⟩
def Reg.GLB_CAP2 : RegDesc := ⟨0x000018, 1, 0, 1, 0, [⟨31, 28, .ro, 8, 0, 0xf⟩, ⟨27, 25, .ro, 4, 0, 7⟩, ⟨24, 23, .ro, 2, 0, 3⟩, ⟨22, 20, .ro, 4, 0, 7⟩, ⟨19, 18, .ro, 2, 0, 3⟩, ⟨17, 16, .ro, 3, 0, 3⟩, ⟨15, 8, .ro, 0x2c, 0, 0xff⟩, ⟨7, 0, .ro, 0, 0, 0xff⟩]⟩
abbrev F.GLB_CAP2_LANES : Fld := ⟨Reg.GLB_CAP2, 31, 28⟩
abbrev F.GLB_CAP2_MACS : Fld := ⟨Reg.GLB_CAP2, 27, 25⟩
abbrev F.GLB_CAP2_HEADS : Fld := ⟨Reg.GLB_CAP2, 24, 23⟩
abbrev F.GLB_CAP2_DFPS : Fld := ⟨Reg.GLB_CAP2, 22, 20⟩
abbrev F.GLB_CAP2_CHANNELS : Fld := ⟨Reg.GLB_CAP2, 19, 18⟩
abbrev F.GLB_CAP2_SPLICE_PORTS : Fld := ⟨Reg.GLB_CAP2, 17, 16⟩
abbrev F.GLB_CAP2_ISLANDS : Fld := ⟨Reg.GLB_CAP2, 15, 8⟩
abbrev F.GLB_CAP2_CORE_10MHZ : Fld := ⟨Reg.GLB_CAP2, 7, 0⟩
def Reg.GLB_LPDDR : RegDesc := ⟨0x00001C, 1, 0, 1, 0, [⟨31, 16, .ro, 0, 0, 0xffff⟩, ⟨15, 0, .ro, 0, 0, 0xffff⟩]⟩
abbrev F.GLB_LPDDR_CH1 : Fld := ⟨Reg.GLB_LPDDR, 31, 16⟩
abbrev F.GLB_LPDDR_CH0 : Fld := ⟨Reg.GLB_LPDDR, 15, 0⟩
def Reg.GLB_SCRATCH : RegDesc := ⟨0x000020, 1, 0, 1, 0, [⟨31, 0, .rw, 0, 0, 0xffffffff⟩]⟩
abbrev F.GLB_SCRATCH_DATA : Fld := ⟨Reg.GLB_SCRATCH, 31, 0⟩
def Reg.GLB_SPLICE_STATUS : RegDesc := ⟨0x000200, 3, 4, 1, 0, [⟨31, 31, .ro, 0, 0, 1⟩, ⟨30, 30, .ro, 0, 0, 1⟩, ⟨29, 27, .ro, 0, 0, 7⟩, ⟨15, 8, .rws, 0, 0, 0xff⟩, ⟨7, 0, .w1c, 0, 0, 0xff⟩]⟩
abbrev F.GLB_SPLICE_STATUS_PRESENT : Fld := ⟨Reg.GLB_SPLICE_STATUS, 31, 31⟩
abbrev F.GLB_SPLICE_STATUS_UP : Fld := ⟨Reg.GLB_SPLICE_STATUS, 30, 30⟩
abbrev F.GLB_SPLICE_STATUS_FAR_DIE : Fld := ⟨Reg.GLB_SPLICE_STATUS, 29, 27⟩
abbrev F.GLB_SPLICE_STATUS_DOWN_COUNT : Fld := ⟨Reg.GLB_SPLICE_STATUS, 15, 8⟩
abbrev F.GLB_SPLICE_STATUS_REPLAY_COUNT : Fld := ⟨Reg.GLB_SPLICE_STATUS, 7, 0⟩

/-- The registers of block GLB. -/
def Reg.blockGLB : List RegDesc :=
  [Reg.GLB_DIE_ID, Reg.GLB_DIE_STATUS, Reg.GLB_ISLAND_OFF_LO, Reg.GLB_ISLAND_OFF_HI, Reg.GLB_CAP0, Reg.GLB_CAP1, Reg.GLB_CAP2, Reg.GLB_LPDDR, Reg.GLB_SCRATCH, Reg.GLB_SPLICE_STATUS]

/-! Block RST (16 R438). -/

def Reg.RST_REACH_LO : RegDesc := ⟨0x010000, 1, 0, 1, 0, [⟨29, 0, .ro, 0, 0, 0x3fffffff⟩]⟩
abbrev F.RST_REACH_LO_REACH : Fld := ⟨Reg.RST_REACH_LO, 29, 0⟩
def Reg.RST_REACH_HI : RegDesc := ⟨0x010004, 1, 0, 1, 0, [⟨31, 31, .ro, 0, 0, 1⟩, ⟨30, 30, .ro, 0, 0, 1⟩, ⟨17, 0, .ro, 0, 0, 0x3ffff⟩]⟩
abbrev F.RST_REACH_HI_VALID : Fld := ⟨Reg.RST_REACH_HI, 31, 31⟩
abbrev F.RST_REACH_HI_FUSE_BAD : Fld := ⟨Reg.RST_REACH_HI, 30, 30⟩
abbrev F.RST_REACH_HI_REACH : Fld := ⟨Reg.RST_REACH_HI, 17, 0⟩
def Reg.RST_CAUSE_LAST : RegDesc := ⟨0x010008, 1, 0, 1, 0, [⟨15, 0, .ro, 0, 0, 0xffff⟩]⟩
abbrev F.RST_CAUSE_LAST_SOURCES : Fld := ⟨Reg.RST_CAUSE_LAST, 15, 0⟩
def Reg.RST_CAUSE_HIST : RegDesc := ⟨0x01000C, 1, 0, 1, 0, [⟨15, 0, .rws, 0, 0, 0xffff⟩]⟩
abbrev F.RST_CAUSE_HIST_SOURCES : Fld := ⟨Reg.RST_CAUSE_HIST, 15, 0⟩
def Reg.RST_REQ : RegDesc := ⟨0x010010, 1, 0, 1, 0, [⟨31, 29, .wo, 0, 0, 7⟩, ⟨28, 26, .wo, 0, 0, 7⟩, ⟨25, 20, .wo, 0, 0, 0x3f⟩, ⟨19, 12, .wo, 0, 0, 0xff⟩]⟩
abbrev F.RST_REQ_LEVEL : Fld := ⟨Reg.RST_REQ, 31, 29⟩
abbrev F.RST_REQ_DIE : Fld := ⟨Reg.RST_REQ, 28, 26⟩
abbrev F.RST_REQ_ISLAND : Fld := ⟨Reg.RST_REQ, 25, 20⟩
abbrev F.RST_REQ_FUNC : Fld := ⟨Reg.RST_REQ, 19, 12⟩
def Reg.RST_REQ_STATUS : RegDesc := ⟨0x010014, 1, 0, 1, 0, [⟨31, 24, .ro, 0, 0, 0xff⟩, ⟨15, 0, .ro, 0, 0, 0xffff⟩]⟩
abbrev F.RST_REQ_STATUS_RESULT : Fld := ⟨Reg.RST_REQ_STATUS, 31, 24⟩
abbrev F.RST_REQ_STATUS_SEQ : Fld := ⟨Reg.RST_REQ_STATUS, 15, 0⟩
def Reg.RST_IDLE_CFG : RegDesc := ⟨0x010018, 1, 0, 1, 0, [⟨23, 0, .skn, 0x64, 1, 0x2710⟩]⟩
abbrev F.RST_IDLE_CFG_IDLE_TIMEOUT_US : Fld := ⟨Reg.RST_IDLE_CFG, 23, 0⟩
def Reg.RST_HELD_LO : RegDesc := ⟨0x01001C, 1, 0, 1, 0, [⟨31, 0, .ro, 0, 0, 0xffffffff⟩]⟩
abbrev F.RST_HELD_LO_HELD : Fld := ⟨Reg.RST_HELD_LO, 31, 0⟩
def Reg.RST_HELD_HI : RegDesc := ⟨0x010020, 1, 0, 1, 0, [⟨11, 0, .ro, 0, 0, 0xfff⟩]⟩
abbrev F.RST_HELD_HI_HELD : Fld := ⟨Reg.RST_HELD_HI, 11, 0⟩
def Reg.RST_FORCE_RELEASE : RegDesc := ⟨0x010024, 1, 0, 1, 0, [⟨8, 6, .wo, 0, 0, 7⟩, ⟨5, 0, .wo, 0, 0, 0x3f⟩]⟩
abbrev F.RST_FORCE_RELEASE_DIE : Fld := ⟨Reg.RST_FORCE_RELEASE, 8, 6⟩
abbrev F.RST_FORCE_RELEASE_ISLAND : Fld := ⟨Reg.RST_FORCE_RELEASE, 5, 0⟩
def Reg.RST_NEAR_MISS : RegDesc := ⟨0x010028, 1, 0, 1, 0, [⟨31, 31, .wo, 0, 0, 1⟩, ⟨30, 0, .ro, 0, 0, 0x7fffffff⟩]⟩
abbrev F.RST_NEAR_MISS_CLEAR : Fld := ⟨Reg.RST_NEAR_MISS, 31, 31⟩
abbrev F.RST_NEAR_MISS_COUNT : Fld := ⟨Reg.RST_NEAR_MISS, 30, 0⟩
def Reg.RST_FORCED : RegDesc := ⟨0x01002C, 1, 0, 1, 0, [⟨31, 31, .wo, 0, 0, 1⟩, ⟨30, 0, .ro, 0, 0, 0x7fffffff⟩]⟩
abbrev F.RST_FORCED_CLEAR : Fld := ⟨Reg.RST_FORCED, 31, 31⟩
abbrev F.RST_FORCED_COUNT : Fld := ⟨Reg.RST_FORCED, 30, 0⟩
def Reg.RST_STRAP : RegDesc := ⟨0x010030, 1, 0, 1, 0, [⟨3, 2, .ro, 0, 0, 3⟩, ⟨1, 0, .ro, 0, 0, 3⟩]⟩
abbrev F.RST_STRAP_BOOT : Fld := ⟨Reg.RST_STRAP, 3, 2⟩
abbrev F.RST_STRAP_CLK : Fld := ⟨Reg.RST_STRAP, 1, 0⟩
def Reg.RST_BOOT_PUSH : RegDesc := ⟨0x010034, 1, 0, 1, 0, [⟨31, 31, .wo, 0, 0, 1⟩, ⟨23, 0, .wo, 0, 0, 0xffffff⟩]⟩
abbrev F.RST_BOOT_PUSH_FETCH : Fld := ⟨Reg.RST_BOOT_PUSH, 31, 31⟩
abbrev F.RST_BOOT_PUSH_LENGTH : Fld := ⟨Reg.RST_BOOT_PUSH, 23, 0⟩
def Reg.RST_BOOT_PAGE : RegDesc := ⟨0x010038, 1, 0, 1, 0, [⟨10, 0, .rw, 0, 0, 0x7ff⟩]⟩
abbrev F.RST_BOOT_PAGE_PAGE : Fld := ⟨Reg.RST_BOOT_PAGE, 10, 0⟩
def Reg.RST_FUSE_PROG_LO : RegDesc := ⟨0x010040, 1, 0, 1, 0, [⟨29, 0, .rw, 0, 0, 0x3fffffff⟩]⟩
abbrev F.RST_FUSE_PROG_LO_CODES : Fld := ⟨Reg.RST_FUSE_PROG_LO, 29, 0⟩
def Reg.RST_FUSE_PROG_HI : RegDesc := ⟨0x010044, 1, 0, 1, 0, [⟨17, 0, .rw, 0, 0, 0x3ffff⟩]⟩
abbrev F.RST_FUSE_PROG_HI_CODES : Fld := ⟨Reg.RST_FUSE_PROG_HI, 17, 0⟩
def Reg.RST_FUSE_PROG_CMD : RegDesc := ⟨0x010048, 1, 0, 1, 0, [⟨0, 0, .wo, 0, 0, 1⟩]⟩
abbrev F.RST_FUSE_PROG_CMD_PROGRAM : Fld := ⟨Reg.RST_FUSE_PROG_CMD, 0, 0⟩
def Reg.RST_BOOT_HOST_LO : RegDesc := ⟨0x010050, 1, 0, 1, 0, [⟨31, 0, .rw, 0, 0, 0xffffffff⟩]⟩
abbrev F.RST_BOOT_HOST_LO_ADDR : Fld := ⟨Reg.RST_BOOT_HOST_LO, 31, 0⟩
def Reg.RST_BOOT_HOST_HI : RegDesc := ⟨0x010054, 1, 0, 1, 0, [⟨31, 0, .rw, 0, 0, 0xffffffff⟩]⟩
abbrev F.RST_BOOT_HOST_HI_ADDR : Fld := ⟨Reg.RST_BOOT_HOST_HI, 31, 0⟩
def Reg.RST_BOOT_WIN : RegDesc := ⟨0x011000, 1024, 4, 1, 0, [⟨31, 0, .rw, 0, 0, 0xffffffff⟩]⟩
abbrev F.RST_BOOT_WIN_DATA : Fld := ⟨Reg.RST_BOOT_WIN, 31, 0⟩

/-- The registers of block RST. -/
def Reg.blockRST : List RegDesc :=
  [Reg.RST_REACH_LO, Reg.RST_REACH_HI, Reg.RST_CAUSE_LAST, Reg.RST_CAUSE_HIST, Reg.RST_REQ, Reg.RST_REQ_STATUS, Reg.RST_IDLE_CFG, Reg.RST_HELD_LO, Reg.RST_HELD_HI, Reg.RST_FORCE_RELEASE, Reg.RST_NEAR_MISS, Reg.RST_FORCED, Reg.RST_STRAP, Reg.RST_BOOT_PUSH, Reg.RST_BOOT_PAGE, Reg.RST_FUSE_PROG_LO, Reg.RST_FUSE_PROG_HI, Reg.RST_FUSE_PROG_CMD, Reg.RST_BOOT_HOST_LO, Reg.RST_BOOT_HOST_HI, Reg.RST_BOOT_WIN]

/-! Block PWR (15 R414). -/

def Reg.PWR_CMD : RegDesc := ⟨0x020000, 1, 0, 1, 0, [⟨2, 0, .wo, 0, 0, 7⟩]⟩
abbrev F.PWR_CMD_TARGET : Fld := ⟨Reg.PWR_CMD, 2, 0⟩
def Reg.PWR_STATUS : RegDesc := ⟨0x020004, 1, 0, 1, 0, [⟨31, 29, .ro, 0, 0, 7⟩, ⟨28, 26, .ro, 7, 0, 7⟩, ⟨25, 23, .ro, 7, 0, 7⟩, ⟨22, 20, .ro, 0, 0, 7⟩, ⟨19, 16, .ro, 0, 0, 0xf⟩, ⟨15, 0, .ro, 0, 0, 0xffff⟩]⟩
abbrev F.PWR_STATUS_CURRENT : Fld := ⟨Reg.PWR_STATUS, 31, 29⟩
abbrev F.PWR_STATUS_TARGET : Fld := ⟨Reg.PWR_STATUS, 28, 26⟩
abbrev F.PWR_STATUS_PENDING : Fld := ⟨Reg.PWR_STATUS, 25, 23⟩
abbrev F.PWR_STATUS_STEP : Fld := ⟨Reg.PWR_STATUS, 22, 20⟩
abbrev F.PWR_STATUS_LAST_RESULT : Fld := ⟨Reg.PWR_STATUS, 19, 16⟩
abbrev F.PWR_STATUS_SEQ : Fld := ⟨Reg.PWR_STATUS, 15, 0⟩
def Reg.PWR_CFG : RegDesc := ⟨0x020008, 1, 0, 1, 0, [⟨31, 31, .skn, 0, 0, 1⟩, ⟨30, 30, .skn, 0, 0, 1⟩, ⟨23, 16, .skn, 0, 0, 0xff⟩, ⟨15, 0, .skn, 0xc8, 0x14, 0xffff⟩]⟩
abbrev F.PWR_CFG_TARN_EN : Fld := ⟨Reg.PWR_CFG, 31, 31⟩
abbrev F.PWR_CFG_FLUSH_ON_SLEEP : Fld := ⟨Reg.PWR_CFG, 30, 30⟩
abbrev F.PWR_CFG_STILL_OFF : Fld := ⟨Reg.PWR_CFG, 23, 16⟩
abbrev F.PWR_CFG_EDDY_GATE_NS : Fld := ⟨Reg.PWR_CFG, 15, 0⟩
def Reg.PWR_WAKE_CFG : RegDesc := ⟨0x02000C, 1, 0, 1, 0, [⟨15, 0, .skn, 0xc8, 0xa, 0x2710⟩]⟩
abbrev F.PWR_WAKE_CFG_WAKE_ACK_US : Fld := ⟨Reg.PWR_WAKE_CFG, 15, 0⟩
def Reg.PWR_NEAR_MISS : RegDesc := ⟨0x020010, 1, 0, 1, 0, [⟨31, 31, .wo, 0, 0, 1⟩, ⟨15, 0, .ro, 0, 0, 0xffff⟩]⟩
abbrev F.PWR_NEAR_MISS_CLEAR : Fld := ⟨Reg.PWR_NEAR_MISS, 31, 31⟩
abbrev F.PWR_NEAR_MISS_COUNT : Fld := ⟨Reg.PWR_NEAR_MISS, 15, 0⟩
def Reg.PWR_COUNT : RegDesc := ⟨0x020014, 1, 0, 1, 0, [⟨31, 16, .ro, 0, 0, 0xffff⟩, ⟨15, 0, .ro, 0, 0, 0xffff⟩]⟩
abbrev F.PWR_COUNT_ABORTS : Fld := ⟨Reg.PWR_COUNT, 31, 16⟩
abbrev F.PWR_COUNT_EDDY_EXITS : Fld := ⟨Reg.PWR_COUNT, 15, 0⟩

/-- The registers of block PWR. -/
def Reg.blockPWR : List RegDesc :=
  [Reg.PWR_CMD, Reg.PWR_STATUS, Reg.PWR_CFG, Reg.PWR_WAKE_CFG, Reg.PWR_NEAR_MISS, Reg.PWR_COUNT]

/-! Block CLK (18 R481, 01 R36). -/

def Reg.CLK_SPREAD : RegDesc := ⟨0x030000, 1, 0, 1, 0, [⟨9, 9, .skn, 0, 0, 1⟩, ⟨8, 8, .skn, 0, 0, 1⟩, ⟨4, 0, .skn, 0xa, 0, 0x14⟩]⟩
abbrev F.CLK_SPREAD_REFOUT_EN : Fld := ⟨Reg.CLK_SPREAD, 9, 9⟩
abbrev F.CLK_SPREAD_REFOUT_SPREAD : Fld := ⟨Reg.CLK_SPREAD, 8, 8⟩
abbrev F.CLK_SPREAD_SPREAD_TENTHS : Fld := ⟨Reg.CLK_SPREAD, 4, 0⟩
def Reg.CLK_REF_STATUS : RegDesc := ⟨0x030004, 1, 0, 1, 0, [⟨31, 31, .ro, 0, 0, 1⟩, ⟨30, 30, .ro, 0, 0, 1⟩, ⟨29, 28, .ro, 0, 0, 3⟩, ⟨15, 0, .rws, 0, 0, 0xffff⟩]⟩
abbrev F.CLK_REF_STATUS_REF_OK : Fld := ⟨Reg.CLK_REF_STATUS, 31, 31⟩
abbrev F.CLK_REF_STATUS_HOLDOVER : Fld := ⟨Reg.CLK_REF_STATUS, 30, 30⟩
abbrev F.CLK_REF_STATUS_SOURCE : Fld := ⟨Reg.CLK_REF_STATUS, 29, 28⟩
abbrev F.CLK_REF_STATUS_FAULTS : Fld := ⟨Reg.CLK_REF_STATUS, 15, 0⟩
def Reg.CLK_REF_PPM : RegDesc := ⟨0x030008, 1, 0, 1, 0, [⟨15, 0, .ro, 0, 0, 0xffff⟩]⟩
abbrev F.CLK_REF_PPM_PPM : Fld := ⟨Reg.CLK_REF_PPM, 15, 0⟩
def Reg.CLK_ISLAND_OK_LO : RegDesc := ⟨0x030100, 1, 0, 1, 0, [⟨31, 0, .ro, 0, 0, 0xffffffff⟩]⟩
abbrev F.CLK_ISLAND_OK_LO_OK : Fld := ⟨Reg.CLK_ISLAND_OK_LO, 31, 0⟩
def Reg.CLK_ISLAND_OK_HI : RegDesc := ⟨0x030104, 1, 0, 1, 0, [⟨11, 0, .ro, 0, 0, 0xfff⟩]⟩
abbrev F.CLK_ISLAND_OK_HI_OK : Fld := ⟨Reg.CLK_ISLAND_OK_HI, 11, 0⟩
def Reg.CLK_ISLAND_FAULT_LO : RegDesc := ⟨0x030108, 1, 0, 1, 0, [⟨31, 0, .w1c, 0, 0, 0xffffffff⟩]⟩
abbrev F.CLK_ISLAND_FAULT_LO_FAULT : Fld := ⟨Reg.CLK_ISLAND_FAULT_LO, 31, 0⟩
def Reg.CLK_ISLAND_FAULT_HI : RegDesc := ⟨0x03010C, 1, 0, 1, 0, [⟨11, 0, .w1c, 0, 0, 0xfff⟩]⟩
abbrev F.CLK_ISLAND_FAULT_HI_FAULT : Fld := ⟨Reg.CLK_ISLAND_FAULT_HI, 11, 0⟩

/-- The registers of block CLK. -/
def Reg.blockCLK : List RegDesc :=
  [Reg.CLK_SPREAD, Reg.CLK_REF_STATUS, Reg.CLK_REF_PPM, Reg.CLK_ISLAND_OK_LO, Reg.CLK_ISLAND_OK_HI, Reg.CLK_ISLAND_FAULT_LO, Reg.CLK_ISLAND_FAULT_HI]

/-! Block SKN (02 R67). -/

def Reg.SKN_STATUS : RegDesc := ⟨0x040000, 1, 0, 1, 0, [⟨31, 28, .ro, 1, 0, 0xf⟩, ⟨27, 26, .ro, 0, 0, 3⟩, ⟨25, 25, .ro, 0, 0, 1⟩, ⟨24, 24, .ro, 0, 0, 1⟩, ⟨23, 16, .ro, 0, 0, 0xff⟩]⟩
abbrev F.SKN_STATUS_STATE : Fld := ⟨Reg.SKN_STATUS, 31, 28⟩
abbrev F.SKN_STATUS_SLOT : Fld := ⟨Reg.SKN_STATUS, 27, 26⟩
abbrev F.SKN_STATUS_FALLBACK : Fld := ⟨Reg.SKN_STATUS, 25, 25⟩
abbrev F.SKN_STATUS_PATCH_PENDING : Fld := ⟨Reg.SKN_STATUS, 24, 24⟩
abbrev F.SKN_STATUS_PATCHES : Fld := ⟨Reg.SKN_STATUS, 23, 16⟩
def Reg.SKN_SERIAL : RegDesc := ⟨0x040004, 1, 0, 1, 0, [⟨31, 0, .ro, 0, 0, 0xffffffff⟩]⟩
abbrev F.SKN_SERIAL_SERIAL : Fld := ⟨Reg.SKN_SERIAL, 31, 0⟩
def Reg.SKN_FW_VERSION : RegDesc := ⟨0x040008, 1, 0, 1, 0, [⟨31, 16, .ro, 0, 0, 0xffff⟩, ⟨15, 0, .ro, 0, 0, 0xffff⟩]⟩
abbrev F.SKN_FW_VERSION_MAJOR : Fld := ⟨Reg.SKN_FW_VERSION, 31, 16⟩
abbrev F.SKN_FW_VERSION_MINOR : Fld := ⟨Reg.SKN_FW_VERSION, 15, 0⟩
def Reg.SKN_FW_BUILD : RegDesc := ⟨0x04000C, 1, 0, 1, 0, [⟨31, 0, .ro, 0, 0, 0xffffffff⟩]⟩
abbrev F.SKN_FW_BUILD_BUILD : Fld := ⟨Reg.SKN_FW_BUILD, 31, 0⟩
def Reg.SKN_FAIL_A : RegDesc := ⟨0x040010, 1, 0, 1, 0, [⟨31, 24, .ro, 0, 0, 0xff⟩, ⟨23, 0, .ro, 0, 0, 0xffffff⟩]⟩
abbrev F.SKN_FAIL_A_CODE : Fld := ⟨Reg.SKN_FAIL_A, 31, 24⟩
abbrev F.SKN_FAIL_A_OFFSET : Fld := ⟨Reg.SKN_FAIL_A, 23, 0⟩
def Reg.SKN_FAIL_B : RegDesc := ⟨0x040014, 1, 0, 1, 0, [⟨31, 24, .ro, 0, 0, 0xff⟩, ⟨23, 0, .ro, 0, 0, 0xffffff⟩]⟩
abbrev F.SKN_FAIL_B_CODE : Fld := ⟨Reg.SKN_FAIL_B, 31, 24⟩
abbrev F.SKN_FAIL_B_OFFSET : Fld := ⟨Reg.SKN_FAIL_B, 23, 0⟩
def Reg.SKN_IGNORED : RegDesc := ⟨0x040018, 1, 0, 1, 0, [⟨31, 31, .wo, 0, 0, 1⟩, ⟨15, 0, .ro, 0, 0, 0xffff⟩]⟩
abbrev F.SKN_IGNORED_CLEAR : Fld := ⟨Reg.SKN_IGNORED, 31, 31⟩
abbrev F.SKN_IGNORED_COUNT : Fld := ⟨Reg.SKN_IGNORED, 15, 0⟩
def Reg.SKN_PATCH_ADDR_LO : RegDesc := ⟨0x040020, 1, 0, 1, 0, [⟨31, 3, .rw, 0, 0, 0x1fffffff⟩]⟩
abbrev F.SKN_PATCH_ADDR_LO_ADDR : Fld := ⟨Reg.SKN_PATCH_ADDR_LO, 31, 3⟩
def Reg.SKN_PATCH_ADDR_HI : RegDesc := ⟨0x040024, 1, 0, 1, 0, [⟨31, 0, .rw, 0, 0, 0xffffffff⟩]⟩
abbrev F.SKN_PATCH_ADDR_HI_ADDR : Fld := ⟨Reg.SKN_PATCH_ADDR_HI, 31, 0⟩
def Reg.SKN_PATCH_LEN : RegDesc := ⟨0x040028, 1, 0, 1, 0, [⟨31, 0, .rw, 0, 0, 0xffffffff⟩]⟩
abbrev F.SKN_PATCH_LEN_LEN : Fld := ⟨Reg.SKN_PATCH_LEN, 31, 0⟩
def Reg.SKN_PATCH_AT_LO : RegDesc := ⟨0x040030, 1, 0, 1, 0, [⟨31, 0, .rw, 0, 0, 0xffffffff⟩]⟩
abbrev F.SKN_PATCH_AT_LO_AT : Fld := ⟨Reg.SKN_PATCH_AT_LO, 31, 0⟩
def Reg.SKN_PATCH_AT_HI : RegDesc := ⟨0x040034, 1, 0, 1, 0, [⟨31, 0, .rw, 0, 0, 0xffffffff⟩]⟩
abbrev F.SKN_PATCH_AT_HI_AT : Fld := ⟨Reg.SKN_PATCH_AT_HI, 31, 0⟩
def Reg.SKN_PATCH_CMD : RegDesc := ⟨0x040038, 1, 0, 1, 0, [⟨2, 0, .wo, 0, 0, 7⟩]⟩
abbrev F.SKN_PATCH_CMD_CMD : Fld := ⟨Reg.SKN_PATCH_CMD, 2, 0⟩
def Reg.SKN_PATCH_STATUS : RegDesc := ⟨0x04003C, 1, 0, 1, 0, [⟨31, 24, .ro, 0, 0, 0xff⟩, ⟨15, 0, .ro, 0, 0, 0xffff⟩]⟩
abbrev F.SKN_PATCH_STATUS_RESULT : Fld := ⟨Reg.SKN_PATCH_STATUS, 31, 24⟩
abbrev F.SKN_PATCH_STATUS_SEQ : Fld := ⟨Reg.SKN_PATCH_STATUS, 15, 0⟩
def Reg.SKN_DIGEST : RegDesc := ⟨0x040040, 12, 4, 1, 0, [⟨31, 0, .ro, 0, 0, 0xffffffff⟩]⟩
abbrev F.SKN_DIGEST_DIGEST : Fld := ⟨Reg.SKN_DIGEST, 31, 0⟩

/-- The registers of block SKN. -/
def Reg.blockSKN : List RegDesc :=
  [Reg.SKN_STATUS, Reg.SKN_SERIAL, Reg.SKN_FW_VERSION, Reg.SKN_FW_BUILD, Reg.SKN_FAIL_A, Reg.SKN_FAIL_B, Reg.SKN_IGNORED, Reg.SKN_PATCH_ADDR_LO, Reg.SKN_PATCH_ADDR_HI, Reg.SKN_PATCH_LEN, Reg.SKN_PATCH_AT_LO, Reg.SKN_PATCH_AT_HI, Reg.SKN_PATCH_CMD, Reg.SKN_PATCH_STATUS, Reg.SKN_DIGEST]

/-! Block EVT (03 R87). -/

def Reg.EVT_UNROUTED : RegDesc := ⟨0x050000, 1, 0, 1, 0, [⟨31, 31, .wo, 0, 0, 1⟩, ⟨30, 0, .ro, 0, 0, 0x7fffffff⟩]⟩
abbrev F.EVT_UNROUTED_CLEAR : Fld := ⟨Reg.EVT_UNROUTED, 31, 31⟩
abbrev F.EVT_UNROUTED_COUNT : Fld := ⟨Reg.EVT_UNROUTED, 30, 0⟩
def Reg.EVT_TEST : RegDesc := ⟨0x050004, 1, 0, 1, 0, [⟨18, 16, .wo, 0, 0, 7⟩, ⟨15, 0, .wo, 0, 0, 0xffff⟩]⟩
abbrev F.EVT_TEST_SEV : Fld := ⟨Reg.EVT_TEST, 18, 16⟩
abbrev F.EVT_TEST_TAG : Fld := ⟨Reg.EVT_TEST, 15, 0⟩
def Reg.EVT_JNL_NEWEST : RegDesc := ⟨0x050010, 1, 0, 1, 0, [⟨31, 0, .ro, 0, 0, 0xffffffff⟩]⟩
abbrev F.EVT_JNL_NEWEST_NUMBER : Fld := ⟨Reg.EVT_JNL_NEWEST, 31, 0⟩
def Reg.EVT_JNL_SEL : RegDesc := ⟨0x050014, 1, 0, 1, 0, [⟨11, 0, .rw, 0, 0, 0xfff⟩]⟩
abbrev F.EVT_JNL_SEL_SLOT : Fld := ⟨Reg.EVT_JNL_SEL, 11, 0⟩
def Reg.EVT_JNL_CFG : RegDesc := ⟨0x050018, 1, 0, 1, 0, [⟨2, 0, .skn, 0, 0, 4⟩]⟩
abbrev F.EVT_JNL_CFG_JNL_MIN_SEV : Fld := ⟨Reg.EVT_JNL_CFG, 2, 0⟩
def Reg.EVT_JNL_DATA : RegDesc := ⟨0x050020, 8, 4, 1, 0, [⟨31, 0, .ro, 0, 0, 0xffffffff⟩]⟩
abbrev F.EVT_JNL_DATA_DATA : Fld := ⟨Reg.EVT_JNL_DATA, 31, 0⟩
def Reg.EVT_OUT_BASE_LO : RegDesc := ⟨0x051000, 128, 0x40, 1, 0, [⟨31, 12, .rw, 0, 0, 0xfffff⟩]⟩
abbrev F.EVT_OUT_BASE_LO_BASE : Fld := ⟨Reg.EVT_OUT_BASE_LO, 31, 12⟩
def Reg.EVT_OUT_BASE_HI : RegDesc := ⟨0x051004, 128, 0x40, 1, 0, [⟨31, 0, .rw, 0, 0, 0xffffffff⟩]⟩
abbrev F.EVT_OUT_BASE_HI_BASE : Fld := ⟨Reg.EVT_OUT_BASE_HI, 31, 0⟩
def Reg.EVT_OUT_WB_LO : RegDesc := ⟨0x051008, 128, 0x40, 1, 0, [⟨31, 3, .rw, 0, 0, 0x1fffffff⟩]⟩
abbrev F.EVT_OUT_WB_LO_WB : Fld := ⟨Reg.EVT_OUT_WB_LO, 31, 3⟩
def Reg.EVT_OUT_WB_HI : RegDesc := ⟨0x05100C, 128, 0x40, 1, 0, [⟨31, 0, .rw, 0, 0, 0xffffffff⟩]⟩
abbrev F.EVT_OUT_WB_HI_WB : Fld := ⟨Reg.EVT_OUT_WB_HI, 31, 0⟩
def Reg.EVT_OUT_CFG : RegDesc := ⟨0x051010, 128, 0x40, 1, 0, [⟨31, 31, .rw, 0, 0, 1⟩, ⟨30, 30, .rw, 0, 0, 1⟩, ⟨28, 24, .rw, 6, 0, 0x1f⟩, ⟨23, 21, .rw, 0, 0, 7⟩, ⟨20, 18, .rw, 3, 0, 7⟩, ⟨15, 0, .rw, 0xffff, 0, 0xffff⟩]⟩
abbrev F.EVT_OUT_CFG_ENABLE : Fld := ⟨Reg.EVT_OUT_CFG, 31, 31⟩
abbrev F.EVT_OUT_CFG_WB_EN : Fld := ⟨Reg.EVT_OUT_CFG, 30, 30⟩
abbrev F.EVT_OUT_CFG_SIZE_LOG2 : Fld := ⟨Reg.EVT_OUT_CFG, 28, 24⟩
abbrev F.EVT_OUT_CFG_MIN_SEV : Fld := ⟨Reg.EVT_OUT_CFG, 23, 21⟩
abbrev F.EVT_OUT_CFG_URGENT_SEV : Fld := ⟨Reg.EVT_OUT_CFG, 20, 18⟩
abbrev F.EVT_OUT_CFG_RANGE_MASK : Fld := ⟨Reg.EVT_OUT_CFG, 15, 0⟩
def Reg.EVT_OUT_VEC : RegDesc := ⟨0x051014, 128, 0x40, 1, 0, [⟨31, 24, .ro, 0, 0, 0xff⟩, ⟨10, 0, .rw, 0, 0, 0x7ff⟩]⟩
abbrev F.EVT_OUT_VEC_OWNER : Fld := ⟨Reg.EVT_OUT_VEC, 31, 24⟩
abbrev F.EVT_OUT_VEC_VECTOR : Fld := ⟨Reg.EVT_OUT_VEC, 10, 0⟩
def Reg.EVT_OUT_MOD : RegDesc := ⟨0x051018, 128, 0x40, 1, 0, [⟨31, 16, .rw, 1, 0, 0xffff⟩, ⟨15, 0, .rw, 0, 0, 0xffff⟩]⟩
abbrev F.EVT_OUT_MOD_COUNT : Fld := ⟨Reg.EVT_OUT_MOD, 31, 16⟩
abbrev F.EVT_OUT_MOD_TIME_US : Fld := ⟨Reg.EVT_OUT_MOD, 15, 0⟩
def Reg.EVT_OUT_PRODUCER : RegDesc := ⟨0x05101C, 128, 0x40, 1, 0, [⟨31, 0, .ro, 0, 0, 0xffffffff⟩]⟩
abbrev F.EVT_OUT_PRODUCER_P : Fld := ⟨Reg.EVT_OUT_PRODUCER, 31, 0⟩
def Reg.EVT_OUT_DOORBELL : RegDesc := ⟨0x051020, 128, 0x40, 1, 0, [⟨31, 0, .rw, 0, 0, 0xffffffff⟩]⟩
abbrev F.EVT_OUT_DOORBELL_C : Fld := ⟨Reg.EVT_OUT_DOORBELL, 31, 0⟩
def Reg.EVT_OUT_STATUS : RegDesc := ⟨0x051024, 128, 0x40, 1, 0, [⟨31, 31, .ro, 0, 0, 1⟩, ⟨30, 30, .ro, 0, 0, 1⟩, ⟨29, 29, .w1c, 0, 0, 1⟩, ⟨28, 26, .ro, 0, 0, 7⟩, ⟨16, 0, .ro, 0, 0, 0x1ffff⟩]⟩
abbrev F.EVT_OUT_STATUS_ENABLED : Fld := ⟨Reg.EVT_OUT_STATUS, 31, 31⟩
abbrev F.EVT_OUT_STATUS_OVERRUN : Fld := ⟨Reg.EVT_OUT_STATUS, 30, 30⟩
abbrev F.EVT_OUT_STATUS_BAD_DOORBELL : Fld := ⟨Reg.EVT_OUT_STATUS, 29, 29⟩
abbrev F.EVT_OUT_STATUS_CFG_ERROR : Fld := ⟨Reg.EVT_OUT_STATUS, 28, 26⟩
abbrev F.EVT_OUT_STATUS_OUTSTANDING : Fld := ⟨Reg.EVT_OUT_STATUS, 16, 0⟩
def Reg.EVT_OUT_LOST : RegDesc := ⟨0x051028, 128, 0x40, 1, 0, [⟨31, 31, .wo, 0, 0, 1⟩, ⟨30, 0, .ro, 0, 0, 0x7fffffff⟩]⟩
abbrev F.EVT_OUT_LOST_CLEAR : Fld := ⟨Reg.EVT_OUT_LOST, 31, 31⟩
abbrev F.EVT_OUT_LOST_COUNT : Fld := ⟨Reg.EVT_OUT_LOST, 30, 0⟩

/-- The registers of block EVT. -/
def Reg.blockEVT : List RegDesc :=
  [Reg.EVT_UNROUTED, Reg.EVT_TEST, Reg.EVT_JNL_NEWEST, Reg.EVT_JNL_SEL, Reg.EVT_JNL_CFG, Reg.EVT_JNL_DATA, Reg.EVT_OUT_BASE_LO, Reg.EVT_OUT_BASE_HI, Reg.EVT_OUT_WB_LO, Reg.EVT_OUT_WB_HI, Reg.EVT_OUT_CFG, Reg.EVT_OUT_VEC, Reg.EVT_OUT_MOD, Reg.EVT_OUT_PRODUCER, Reg.EVT_OUT_DOORBELL, Reg.EVT_OUT_STATUS, Reg.EVT_OUT_LOST]

/-! Block TRN (15 R414). -/

def Reg.TRN_ADDR : RegDesc := ⟨0x060000, 1, 0, 1, 0, [⟨31, 31, .ro, 0, 0, 1⟩, ⟨30, 24, .ro, 0, 0, 0x7f⟩, ⟨7, 7, .ro, 0, 0, 1⟩, ⟨6, 0, .rw, 0x3c, 0, 0x7f⟩]⟩
abbrev F.TRN_ADDR_FUSED_VALID : Fld := ⟨Reg.TRN_ADDR, 31, 31⟩
abbrev F.TRN_ADDR_FUSED : Fld := ⟨Reg.TRN_ADDR, 30, 24⟩
abbrev F.TRN_ADDR_ARMED : Fld := ⟨Reg.TRN_ADDR, 7, 7⟩
abbrev F.TRN_ADDR_WAKE_ADDR : Fld := ⟨Reg.TRN_ADDR, 6, 0⟩
def Reg.TRN_STATUS : RegDesc := ⟨0x060004, 1, 0, 1, 0, [⟨31, 30, .ro, 0, 0, 3⟩, ⟨15, 0, .ro, 0, 0, 0xffff⟩]⟩
abbrev F.TRN_STATUS_LAST_FROM : Fld := ⟨Reg.TRN_STATUS, 31, 30⟩
abbrev F.TRN_STATUS_WAKES : Fld := ⟨Reg.TRN_STATUS, 15, 0⟩

/-- The registers of block TRN. -/
def Reg.blockTRN : List RegDesc :=
  [Reg.TRN_ADDR, Reg.TRN_STATUS]

/-! Block HLD (16 R438). -/

def Reg.HLD_CAP : RegDesc := ⟨0x070000, 1, 0, 1, 0, [⟨31, 0, .skn, 1, 1, 0x989680⟩]⟩
abbrev F.HLD_CAP_C_UF : Fld := ⟨Reg.HLD_CAP, 31, 0⟩
def Reg.HLD_VOLT : RegDesc := ⟨0x070004, 1, 0, 1, 0, [⟨31, 16, .skn, 0x3e8, 0x64, 0xea60⟩, ⟨15, 0, .skn, 0x320, 1, 0x3e8⟩]⟩
abbrev F.HLD_VOLT_V_MIN_MV : Fld := ⟨Reg.HLD_VOLT, 31, 16⟩
abbrev F.HLD_VOLT_ETA_PERMILLE : Fld := ⟨Reg.HLD_VOLT, 15, 0⟩
def Reg.HLD_MARGIN : RegDesc := ⟨0x070008, 1, 0, 1, 0, [⟨31, 16, .skn, 0x5dc, 0x4e2, 0xfa0⟩, ⟨15, 0, .skn, 0x190, 1, 0x1388⟩]⟩
abbrev F.HLD_MARGIN_MARGIN_PERMILLE : Fld := ⟨Reg.HLD_MARGIN, 31, 16⟩
abbrev F.HLD_MARGIN_ERASE_MS : Fld := ⟨Reg.HLD_MARGIN, 15, 0⟩
def Reg.HLD_SCALE : RegDesc := ⟨0x07000C, 1, 0, 1, 0, [⟨31, 0, .skn, 0x2710, 0x3e8, 0x186a0⟩]⟩
abbrev F.HLD_SCALE_DIV_MILLI : Fld := ⟨Reg.HLD_SCALE, 31, 0⟩
def Reg.HLD_LOAD : RegDesc := ⟨0x070010, 1, 0, 1, 0, [⟨31, 16, .skn, 0x200, 0x10, 0xffff⟩, ⟨15, 0, .skn, 0x3e8, 0, 0xffff⟩]⟩
abbrev F.HLD_LOAD_PROG_KIBPS : Fld := ⟨Reg.HLD_LOAD, 31, 16⟩
abbrev F.HLD_LOAD_P_BOARD_MW : Fld := ⟨Reg.HLD_LOAD, 15, 0⟩
def Reg.HLD_SENSE : RegDesc := ⟨0x070014, 1, 0, 1, 0, [⟨27, 16, .ro, 0, 0, 0xfff⟩, ⟨15, 0, .ro, 0, 0, 0xffff⟩]⟩
abbrev F.HLD_SENSE_CODE : Fld := ⟨Reg.HLD_SENSE, 27, 16⟩
abbrev F.HLD_SENSE_V_MV : Fld := ⟨Reg.HLD_SENSE, 15, 0⟩
def Reg.HLD_EAVAIL : RegDesc := ⟨0x070018, 1, 0, 1, 0, [⟨31, 0, .ro, 0, 0, 0xffffffff⟩]⟩
abbrev F.HLD_EAVAIL_E_UJ : Fld := ⟨Reg.HLD_EAVAIL, 31, 0⟩
def Reg.HLD_CMD : RegDesc := ⟨0x07001C, 1, 0, 1, 0, [⟨0, 0, .wo, 0, 0, 1⟩]⟩
abbrev F.HLD_CMD_FLUSH : Fld := ⟨Reg.HLD_CMD, 0, 0⟩
def Reg.HLD_STORE_STATUS : RegDesc := ⟨0x070020, 1, 0, 1, 0, [⟨31, 28, .ro, 0, 0, 0xf⟩, ⟨27, 24, .ro, 0, 0, 0xf⟩, ⟨15, 0, .ro, 0, 0, 0xffff⟩]⟩
abbrev F.HLD_STORE_STATUS_TYPE : Fld := ⟨Reg.HLD_STORE_STATUS, 31, 28⟩
abbrev F.HLD_STORE_STATUS_RESULT : Fld := ⟨Reg.HLD_STORE_STATUS, 27, 24⟩
abbrev F.HLD_STORE_STATUS_SEQ : Fld := ⟨Reg.HLD_STORE_STATUS, 15, 0⟩
def Reg.HLD_NVJ_SEL : RegDesc := ⟨0x070030, 1, 0, 1, 0, [⟨31, 28, .rw, 0, 0, 0xf⟩, ⟨11, 0, .rw, 0, 0, 0xfff⟩]⟩
abbrev F.HLD_NVJ_SEL_FLUSH : Fld := ⟨Reg.HLD_NVJ_SEL, 31, 28⟩
abbrev F.HLD_NVJ_SEL_SLOT : Fld := ⟨Reg.HLD_NVJ_SEL, 11, 0⟩
def Reg.HLD_NVJ_INFO : RegDesc := ⟨0x070034, 1, 0, 1, 0, [⟨31, 31, .ro, 0, 0, 1⟩, ⟨12, 0, .ro, 0, 0, 0x1fff⟩]⟩
abbrev F.HLD_NVJ_INFO_PRESENT : Fld := ⟨Reg.HLD_NVJ_INFO, 31, 31⟩
abbrev F.HLD_NVJ_INFO_COUNT : Fld := ⟨Reg.HLD_NVJ_INFO, 12, 0⟩
def Reg.HLD_NVJ_DATA : RegDesc := ⟨0x070040, 8, 4, 1, 0, [⟨31, 0, .ro, 0, 0, 0xffffffff⟩]⟩
abbrev F.HLD_NVJ_DATA_DATA : Fld := ⟨Reg.HLD_NVJ_DATA, 31, 0⟩

/-- The registers of block HLD. -/
def Reg.blockHLD : List RegDesc :=
  [Reg.HLD_CAP, Reg.HLD_VOLT, Reg.HLD_MARGIN, Reg.HLD_SCALE, Reg.HLD_LOAD, Reg.HLD_SENSE, Reg.HLD_EAVAIL, Reg.HLD_CMD, Reg.HLD_STORE_STATUS, Reg.HLD_NVJ_SEL, Reg.HLD_NVJ_INFO, Reg.HLD_NVJ_DATA]

/-! Block LN (04 R118). -/

def Reg.LN_STATUS : RegDesc := ⟨0x080000, 8, 0x2000, 1, 0, [⟨31, 31, .ro, 0, 0, 1⟩, ⟨30, 30, .ro, 0, 0, 1⟩, ⟨29, 29, .ro, 0, 0, 1⟩, ⟨28, 28, .ro, 0, 0, 1⟩, ⟨27, 26, .ro, 3, 0, 3⟩, ⟨25, 25, .ro, 0, 0, 1⟩, ⟨24, 24, .ro, 0, 0, 1⟩, ⟨23, 23, .ro, 0, 0, 1⟩, ⟨22, 20, .ro, 0, 0, 7⟩, ⟨7, 0, .ro, 0, 0, 0xff⟩]⟩
abbrev F.LN_STATUS_DETECTED : Fld := ⟨Reg.LN_STATUS, 31, 31⟩
abbrev F.LN_STATUS_CDR_LOCK : Fld := ⟨Reg.LN_STATUS, 30, 30⟩
abbrev F.LN_STATUS_BLOCK_LOCK : Fld := ⟨Reg.LN_STATUS, 29, 29⟩
abbrev F.LN_STATUS_FEC_FRAMED : Fld := ⟨Reg.LN_STATUS, 28, 28⟩
abbrev F.LN_STATUS_RATE : Fld := ⟨Reg.LN_STATUS, 27, 26⟩
abbrev F.LN_STATUS_PRECODE_TX : Fld := ⟨Reg.LN_STATUS, 25, 25⟩
abbrev F.LN_STATUS_PRECODE_RX : Fld := ⟨Reg.LN_STATUS, 24, 24⟩
abbrev F.LN_STATUS_POLARITY_INV : Fld := ⟨Reg.LN_STATUS, 23, 23⟩
abbrev F.LN_STATUS_LOGICAL : Fld := ⟨Reg.LN_STATUS, 22, 20⟩
abbrev F.LN_STATUS_SNR : Fld := ⟨Reg.LN_STATUS, 7, 0⟩
def Reg.LN_TX_COEF : RegDesc := ⟨0x080004, 8, 0x2000, 1, 0, [⟨15, 8, .ro, 6, 0, 0xff⟩, ⟨7, 0, .ro, 2, 0, 0xff⟩]⟩
abbrev F.LN_TX_COEF_C_POST : Fld := ⟨Reg.LN_TX_COEF, 15, 8⟩
abbrev F.LN_TX_COEF_C_PRE : Fld := ⟨Reg.LN_TX_COEF, 7, 0⟩
def Reg.LN_CFG : RegDesc := ⟨0x080008, 8, 0x2000, 1, 0, [⟨9, 8, .skn, 2, 1, 2⟩, ⟨7, 4, .skn, 0xf, 0, 0xf⟩, ⟨2, 0, .skn, 0, 0, 7⟩]⟩
abbrev F.LN_CFG_INIT_PRESET : Fld := ⟨Reg.LN_CFG, 9, 8⟩
abbrev F.LN_CFG_CAGE : Fld := ⟨Reg.LN_CFG, 7, 4⟩
abbrev F.LN_CFG_CAGE_LANE : Fld := ⟨Reg.LN_CFG, 2, 0⟩
def Reg.LN_DEGRADE : RegDesc := ⟨0x08000C, 8, 0x2000, 1, 0, [⟨31, 0, .skn, 0x2000, 0, 0xffffffff⟩]⟩
abbrev F.LN_DEGRADE_DEGRADE_THRESH : Fld := ⟨Reg.LN_DEGRADE, 31, 0⟩
def Reg.LN_FEC_CORR : RegDesc := ⟨0x080010, 8, 0x2000, 1, 0, [⟨31, 31, .wo, 0, 0, 1⟩, ⟨30, 0, .ro, 0, 0, 0x7fffffff⟩]⟩
abbrev F.LN_FEC_CORR_CLEAR : Fld := ⟨Reg.LN_FEC_CORR, 31, 31⟩
abbrev F.LN_FEC_CORR_COUNT : Fld := ⟨Reg.LN_FEC_CORR, 30, 0⟩
def Reg.LN_FEC_UNCORR : RegDesc := ⟨0x080014, 8, 0x2000, 1, 0, [⟨31, 31, .wo, 0, 0, 1⟩, ⟨30, 0, .ro, 0, 0, 0x7fffffff⟩]⟩
abbrev F.LN_FEC_UNCORR_CLEAR : Fld := ⟨Reg.LN_FEC_UNCORR, 31, 31⟩
abbrev F.LN_FEC_UNCORR_COUNT : Fld := ⟨Reg.LN_FEC_UNCORR, 30, 0⟩
def Reg.LN_HDR_ERR : RegDesc := ⟨0x080018, 8, 0x2000, 1, 0, [⟨31, 31, .wo, 0, 0, 1⟩, ⟨30, 0, .ro, 0, 0, 0x7fffffff⟩]⟩
abbrev F.LN_HDR_ERR_CLEAR : Fld := ⟨Reg.LN_HDR_ERR, 31, 31⟩
abbrev F.LN_HDR_ERR_COUNT : Fld := ⟨Reg.LN_HDR_ERR, 30, 0⟩
def Reg.LN_HIST_CTL : RegDesc := ⟨0x08001C, 8, 0x2000, 1, 0, [⟨31, 31, .wo, 0, 0, 1⟩]⟩
abbrev F.LN_HIST_CTL_CLEAR : Fld := ⟨Reg.LN_HIST_CTL, 31, 31⟩
def Reg.LN_FEC_HIST : RegDesc := ⟨0x080040, 8, 0x2000, 16, 4, [⟨31, 0, .ro, 0, 0, 0xffffffff⟩]⟩
abbrev F.LN_FEC_HIST_COUNT : Fld := ⟨Reg.LN_FEC_HIST, 31, 0⟩

/-- The registers of block LN. -/
def Reg.blockLN : List RegDesc :=
  [Reg.LN_STATUS, Reg.LN_TX_COEF, Reg.LN_CFG, Reg.LN_DEGRADE, Reg.LN_FEC_CORR, Reg.LN_FEC_UNCORR, Reg.LN_HDR_ERR, Reg.LN_HIST_CTL, Reg.LN_FEC_HIST]

/-! Block PLY (04 R118, 05 R154, 06 R183, 09 R275). -/

def Reg.PLY_LINK_STATE : RegDesc := ⟨0x0A0000, 8, 0x100, 1, 0, [⟨31, 29, .ro, 7, 0, 7⟩, ⟨28, 27, .ro, 3, 0, 3⟩, ⟨26, 24, .ro, 0, 0, 7⟩, ⟨23, 16, .ro, 0, 0, 0xff⟩, ⟨12, 8, .ro, 0, 0, 0x1f⟩, ⟨7, 0, .ro, 0xff, 0, 0xff⟩]⟩
abbrev F.PLY_LINK_STATE_STATE : Fld := ⟨Reg.PLY_LINK_STATE, 31, 29⟩
abbrev F.PLY_LINK_STATE_RATE : Fld := ⟨Reg.PLY_LINK_STATE, 28, 27⟩
abbrev F.PLY_LINK_STATE_FAILED : Fld := ⟨Reg.PLY_LINK_STATE, 26, 24⟩
abbrev F.PLY_LINK_STATE_ATTEMPTS : Fld := ⟨Reg.PLY_LINK_STATE, 23, 16⟩
abbrev F.PLY_LINK_STATE_LAST_FAIL : Fld := ⟨Reg.PLY_LINK_STATE, 12, 8⟩
abbrev F.PLY_LINK_STATE_PLY_ID : Fld := ⟨Reg.PLY_LINK_STATE, 7, 0⟩
def Reg.PLY_LINK_CTL : RegDesc := ⟨0x0A0004, 8, 0x100, 1, 0, [⟨31, 31, .rw, 0, 0, 1⟩, ⟨30, 30, .wo, 0, 0, 1⟩]⟩
abbrev F.PLY_LINK_CTL_DISABLE : Fld := ⟨Reg.PLY_LINK_CTL, 31, 31⟩
abbrev F.PLY_LINK_CTL_RETRAIN : Fld := ⟨Reg.PLY_LINK_CTL, 30, 30⟩
def Reg.PLY_LINK_PEER : RegDesc := ⟨0x0A0008, 8, 0x100, 1, 0, [⟨31, 16, .ro, 0, 0, 0xffff⟩, ⟨11, 0, .ro, 0, 0, 0xfff⟩]⟩
abbrev F.PLY_LINK_PEER_FAR_BASIN : Fld := ⟨Reg.PLY_LINK_PEER, 31, 16⟩
abbrev F.PLY_LINK_PEER_FAR_HUB : Fld := ⟨Reg.PLY_LINK_PEER, 11, 0⟩
def Reg.PLY_LINK_PEER_CAP : RegDesc := ⟨0x0A000C, 8, 0x100, 1, 0, [⟨31, 24, .ro, 0, 0, 0xff⟩, ⟨23, 16, .ro, 0, 0, 0xff⟩, ⟨15, 13, .ro, 0, 0, 7⟩, ⟨7, 5, .ro, 0, 0, 7⟩, ⟨4, 4, .ro, 0, 0, 1⟩, ⟨3, 3, .ro, 0, 0, 1⟩, ⟨2, 2, .ro, 0, 0, 1⟩, ⟨1, 1, .ro, 0, 0, 1⟩, ⟨0, 0, .ro, 0, 0, 1⟩]⟩
abbrev F.PLY_LINK_PEER_CAP_FAR_PLY : Fld := ⟨Reg.PLY_LINK_PEER_CAP, 31, 24⟩
abbrev F.PLY_LINK_PEER_CAP_FAR_BRAID : Fld := ⟨Reg.PLY_LINK_PEER_CAP, 23, 16⟩
abbrev F.PLY_LINK_PEER_CAP_FAR_DIE : Fld := ⟨Reg.PLY_LINK_PEER_CAP, 15, 13⟩
abbrev F.PLY_LINK_PEER_CAP_FAR_RATES : Fld := ⟨Reg.PLY_LINK_PEER_CAP, 7, 5⟩
abbrev F.PLY_LINK_PEER_CAP_ENC : Fld := ⟨Reg.PLY_LINK_PEER_CAP, 4, 4⟩
abbrev F.PLY_LINK_PEER_CAP_TICK : Fld := ⟨Reg.PLY_LINK_PEER_CAP, 3, 3⟩
abbrev F.PLY_LINK_PEER_CAP_NAP : Fld := ⟨Reg.PLY_LINK_PEER_CAP, 2, 2⟩
abbrev F.PLY_LINK_PEER_CAP_DOZE : Fld := ⟨Reg.PLY_LINK_PEER_CAP, 1, 1⟩
abbrev F.PLY_LINK_PEER_CAP_PRECODE_FAR : Fld := ⟨Reg.PLY_LINK_PEER_CAP, 0, 0⟩
def Reg.PLY_LINK_SLEEP : RegDesc := ⟨0x0A0010, 8, 0x100, 1, 0, [⟨31, 30, .ro, 3, 0, 3⟩, ⟨29, 28, .ro, 3, 0, 3⟩, ⟨8, 0, .skn, 0x10, 4, 0x100⟩]⟩
abbrev F.PLY_LINK_SLEEP_TX_STATE : Fld := ⟨Reg.PLY_LINK_SLEEP, 31, 30⟩
abbrev F.PLY_LINK_SLEEP_RX_STATE : Fld := ⟨Reg.PLY_LINK_SLEEP, 29, 28⟩
abbrev F.PLY_LINK_SLEEP_DOZE_REFRESH_US : Fld := ⟨Reg.PLY_LINK_SLEEP, 8, 0⟩
def Reg.PLY_LINK_SLEEP_CNT : RegDesc := ⟨0x0A0014, 8, 0x100, 1, 0, [⟨31, 16, .ro, 0, 0, 0xffff⟩, ⟨15, 0, .ro, 0, 0, 0xffff⟩]⟩
abbrev F.PLY_LINK_SLEEP_CNT_ABORTS : Fld := ⟨Reg.PLY_LINK_SLEEP_CNT, 31, 16⟩
abbrev F.PLY_LINK_SLEEP_CNT_ENTRIES : Fld := ⟨Reg.PLY_LINK_SLEEP_CNT, 15, 0⟩
def Reg.PLY_LINK_CTL_ERR : RegDesc := ⟨0x0A0018, 8, 0x100, 1, 0, [⟨31, 31, .wo, 0, 0, 1⟩, ⟨30, 0, .ro, 0, 0, 0x7fffffff⟩]⟩
abbrev F.PLY_LINK_CTL_ERR_CLEAR : Fld := ⟨Reg.PLY_LINK_CTL_ERR, 31, 31⟩
abbrev F.PLY_LINK_CTL_ERR_COUNT : Fld := ⟨Reg.PLY_LINK_CTL_ERR, 30, 0⟩
def Reg.PLY_LINK_NEAR_MISS : RegDesc := ⟨0x0A001C, 8, 0x100, 1, 0, [⟨31, 31, .wo, 0, 0, 1⟩, ⟨15, 0, .ro, 0, 0, 0xffff⟩]⟩
abbrev F.PLY_LINK_NEAR_MISS_CLEAR : Fld := ⟨Reg.PLY_LINK_NEAR_MISS, 31, 31⟩
abbrev F.PLY_LINK_NEAR_MISS_COUNT : Fld := ⟨Reg.PLY_LINK_NEAR_MISS, 15, 0⟩
def Reg.PLY_LINK_UP_LO : RegDesc := ⟨0x0A0020, 8, 0x100, 1, 0, [⟨31, 0, .ro, 0, 0, 0xffffffff⟩]⟩
abbrev F.PLY_LINK_UP_LO_UP : Fld := ⟨Reg.PLY_LINK_UP_LO, 31, 0⟩
def Reg.PLY_LINK_UP_HI : RegDesc := ⟨0x0A0024, 8, 0x100, 1, 0, [⟨31, 0, .ro, 0, 0, 0xffffffff⟩]⟩
abbrev F.PLY_LINK_UP_HI_UP : Fld := ⟨Reg.PLY_LINK_UP_HI, 31, 0⟩
def Reg.PLY_LINK_CREDIT_CFG : RegDesc := ⟨0x0A0030, 8, 0x100, 1, 0, [⟨31, 16, .skn, 0x3e8, 0, 0xffff⟩, ⟨15, 8, .skn, 0xa, 1, 0xff⟩, ⟨1, 1, .skn, 0, 0, 1⟩, ⟨0, 0, .skn, 0, 0, 1⟩]⟩
abbrev F.PLY_LINK_CREDIT_CFG_CREDIT_STALL_US : Fld := ⟨Reg.PLY_LINK_CREDIT_CFG, 31, 16⟩
abbrev F.PLY_LINK_CREDIT_CFG_LOSSY_WAIT_US : Fld := ⟨Reg.PLY_LINK_CREDIT_CFG, 15, 8⟩
abbrev F.PLY_LINK_CREDIT_CFG_LOSSY_TC1 : Fld := ⟨Reg.PLY_LINK_CREDIT_CFG, 1, 1⟩
abbrev F.PLY_LINK_CREDIT_CFG_LOSSY_TC0 : Fld := ⟨Reg.PLY_LINK_CREDIT_CFG, 0, 0⟩
def Reg.PLY_LINK_TXCREDIT : RegDesc := ⟨0x0A0040, 8, 0x100, 8, 4, [⟨19, 0, .ro, 0, 0, 0xfffff⟩]⟩
abbrev F.PLY_LINK_TXCREDIT_AVAIL : Fld := ⟨Reg.PLY_LINK_TXCREDIT, 19, 0⟩
def Reg.PLY_LINK_ING : RegDesc := ⟨0x0A0060, 8, 0x100, 8, 4, [⟨30, 16, .ro, 0, 0, 0x7fff⟩, ⟨14, 0, .skn, 0, 0, 0x7fff⟩]⟩
abbrev F.PLY_LINK_ING_CHARGED : Fld := ⟨Reg.PLY_LINK_ING, 30, 16⟩
abbrev F.PLY_LINK_ING_ING_UNITS : Fld := ⟨Reg.PLY_LINK_ING, 14, 0⟩
def Reg.PLY_LINK_TDELAY : RegDesc := ⟨0x0A0080, 8, 0x100, 1, 0, [⟨31, 0, .ro, 0, 0, 0xffffffff⟩]⟩
abbrev F.PLY_LINK_TDELAY_DELAY : Fld := ⟨Reg.PLY_LINK_TDELAY, 31, 0⟩
def Reg.PLY_LINK_TCAL : RegDesc := ⟨0x0A0084, 8, 0x100, 1, 0, [⟨31, 16, .skn, 0, 0, 0xffff⟩, ⟨15, 8, .ro, 0, 0, 0xff⟩, ⟨0, 0, .ro, 0, 0, 1⟩]⟩
abbrev F.PLY_LINK_TCAL_CABLE_ASYM_PS : Fld := ⟨Reg.PLY_LINK_TCAL, 31, 16⟩
abbrev F.PLY_LINK_TCAL_SPREAD_NS : Fld := ⟨Reg.PLY_LINK_TCAL, 15, 8⟩
abbrev F.PLY_LINK_TCAL_CAL_OK : Fld := ⟨Reg.PLY_LINK_TCAL, 0, 0⟩
def Reg.MOD_CAGE_STATUS : RegDesc := ⟨0x0A0800, 4, 0x40, 1, 0, [⟨31, 31, .ro, 0, 0, 1⟩, ⟨30, 28, .ro, 0, 0, 7⟩, ⟨23, 16, .ro, 0, 0, 0xff⟩, ⟨15, 8, .ro, 0, 0, 0xff⟩, ⟨7, 0, .ro, 0, 0, 0xff⟩]⟩
abbrev F.MOD_CAGE_STATUS_PRESENT : Fld := ⟨Reg.MOD_CAGE_STATUS, 31, 31⟩
abbrev F.MOD_CAGE_STATUS_MODULE_STATE : Fld := ⟨Reg.MOD_CAGE_STATUS, 30, 28⟩
abbrev F.MOD_CAGE_STATUS_IDENTIFIER : Fld := ⟨Reg.MOD_CAGE_STATUS, 23, 16⟩
abbrev F.MOD_CAGE_STATUS_CMIS_REV : Fld := ⟨Reg.MOD_CAGE_STATUS, 15, 8⟩
abbrev F.MOD_CAGE_STATUS_APP_SEL : Fld := ⟨Reg.MOD_CAGE_STATUS, 7, 0⟩
def Reg.MOD_CAGE_CTL : RegDesc := ⟨0x0A0804, 4, 0x40, 1, 0, [⟨31, 31, .rw, 0, 0, 1⟩, ⟨30, 30, .wo, 0, 0, 1⟩]⟩
abbrev F.MOD_CAGE_CTL_FORCE_LOWPWR : Fld := ⟨Reg.MOD_CAGE_CTL, 31, 31⟩
abbrev F.MOD_CAGE_CTL_RESET : Fld := ⟨Reg.MOD_CAGE_CTL, 30, 30⟩
def Reg.MOD_CAGE_FLAGS : RegDesc := ⟨0x0A0808, 4, 0x40, 1, 0, [⟨7, 7, .w1c, 0, 0, 1⟩, ⟨6, 6, .w1c, 0, 0, 1⟩, ⟨5, 5, .w1c, 0, 0, 1⟩, ⟨4, 4, .w1c, 0, 0, 1⟩, ⟨3, 3, .w1c, 0, 0, 1⟩, ⟨2, 2, .w1c, 0, 0, 1⟩]⟩
abbrev F.MOD_CAGE_FLAGS_TX_FAULT : Fld := ⟨Reg.MOD_CAGE_FLAGS, 7, 7⟩
abbrev F.MOD_CAGE_FLAGS_RX_LOS : Fld := ⟨Reg.MOD_CAGE_FLAGS, 6, 6⟩
abbrev F.MOD_CAGE_FLAGS_TX_LOS : Fld := ⟨Reg.MOD_CAGE_FLAGS, 5, 5⟩
abbrev F.MOD_CAGE_FLAGS_DP_CHANGED : Fld := ⟨Reg.MOD_CAGE_FLAGS, 4, 4⟩
abbrev F.MOD_CAGE_FLAGS_TEMP_ALARM : Fld := ⟨Reg.MOD_CAGE_FLAGS, 3, 3⟩
abbrev F.MOD_CAGE_FLAGS_VCC_ALARM : Fld := ⟨Reg.MOD_CAGE_FLAGS, 2, 2⟩

/-- The registers of block PLY. -/
def Reg.blockPLY : List RegDesc :=
  [Reg.PLY_LINK_STATE, Reg.PLY_LINK_CTL, Reg.PLY_LINK_PEER, Reg.PLY_LINK_PEER_CAP, Reg.PLY_LINK_SLEEP, Reg.PLY_LINK_SLEEP_CNT, Reg.PLY_LINK_CTL_ERR, Reg.PLY_LINK_NEAR_MISS, Reg.PLY_LINK_UP_LO, Reg.PLY_LINK_UP_HI, Reg.PLY_LINK_CREDIT_CFG, Reg.PLY_LINK_TXCREDIT, Reg.PLY_LINK_ING, Reg.PLY_LINK_TDELAY, Reg.PLY_LINK_TCAL, Reg.MOD_CAGE_STATUS, Reg.MOD_CAGE_CTL, Reg.MOD_CAGE_FLAGS]

end Sys2Proof.Machine
end

