-- ==== Sys2Proof/Machine/CatalogB.lean ====
section
/-! DEFINITION. The register catalogue: the registers of blocks STR, SWC, SCH, SPD, TIM, SHL as their tables of the spec lay them down. -/

namespace Sys2Proof.Machine

/-! Block STR (05 R154, 07 R209). -/

def Reg.STR_CMD : RegDesc := ⟨0x0C0000, 1, 0, 1, 0, [⟨31, 28, .wo, 0, 0, 0xf⟩, ⟨27, 27, .wo, 0, 0, 1⟩, ⟨26, 24, .wo, 0, 0, 7⟩, ⟨15, 0, .wo, 0, 0, 0xffff⟩]⟩
abbrev F.STR_CMD_OP : Fld := ⟨Reg.STR_CMD, 31, 28⟩
abbrev F.STR_CMD_ANY_INDEX : Fld := ⟨Reg.STR_CMD, 27, 27⟩
abbrev F.STR_CMD_DIE : Fld := ⟨Reg.STR_CMD, 26, 24⟩
abbrev F.STR_CMD_INDEX : Fld := ⟨Reg.STR_CMD, 15, 0⟩
def Reg.STR_CMD_STATUS : RegDesc := ⟨0x0C0004, 1, 0, 1, 0, [⟨31, 24, .ro, 0, 0, 0xff⟩, ⟨23, 23, .ro, 0, 0, 1⟩, ⟨22, 22, .ro, 0, 0, 1⟩, ⟨15, 0, .ro, 0, 0, 0xffff⟩]⟩
abbrev F.STR_CMD_STATUS_RESULT : Fld := ⟨Reg.STR_CMD_STATUS, 31, 24⟩
abbrev F.STR_CMD_STATUS_BUSY : Fld := ⟨Reg.STR_CMD_STATUS, 23, 23⟩
abbrev F.STR_CMD_STATUS_MIRROR : Fld := ⟨Reg.STR_CMD_STATUS, 22, 22⟩
abbrev F.STR_CMD_STATUS_INDEX : Fld := ⟨Reg.STR_CMD_STATUS, 15, 0⟩
def Reg.STR_CMD_SN : RegDesc := ⟨0x0C0008, 1, 0, 1, 0, [⟨11, 0, .ro, 0, 0, 0xfff⟩]⟩
abbrev F.STR_CMD_SN_SN : Fld := ⟨Reg.STR_CMD_SN, 11, 0⟩
def Reg.STR_CMD_ENTRY : RegDesc := ⟨0x0C0020, 8, 4, 1, 0, [⟨31, 0, .rw, 0, 0, 0xffffffff⟩]⟩
abbrev F.STR_CMD_ENTRY_ENTRY : Fld := ⟨Reg.STR_CMD_ENTRY, 31, 0⟩
def Reg.STR_LEDGER_USED : RegDesc := ⟨0x0C0040, 1, 0, 1, 0, [⟨13, 0, .ro, 0, 0, 0x3fff⟩]⟩
abbrev F.STR_LEDGER_USED_USED : Fld := ⟨Reg.STR_LEDGER_USED, 13, 0⟩
def Reg.STR_HDR_ERR : RegDesc := ⟨0x0C0100, 1, 0, 1, 0, [⟨31, 31, .wo, 0, 0, 1⟩, ⟨30, 0, .ro, 0, 0, 0x7fffffff⟩]⟩
abbrev F.STR_HDR_ERR_CLEAR : Fld := ⟨Reg.STR_HDR_ERR, 31, 31⟩
abbrev F.STR_HDR_ERR_COUNT : Fld := ⟨Reg.STR_HDR_ERR, 30, 0⟩
def Reg.STR_LEN_ERR : RegDesc := ⟨0x0C0104, 1, 0, 1, 0, [⟨31, 31, .wo, 0, 0, 1⟩, ⟨30, 0, .ro, 0, 0, 0x7fffffff⟩]⟩
abbrev F.STR_LEN_ERR_CLEAR : Fld := ⟨Reg.STR_LEN_ERR, 31, 31⟩
abbrev F.STR_LEN_ERR_COUNT : Fld := ⟨Reg.STR_LEN_ERR, 30, 0⟩
def Reg.STR_KIND_ERR : RegDesc := ⟨0x0C0108, 1, 0, 1, 0, [⟨31, 31, .wo, 0, 0, 1⟩, ⟨30, 0, .ro, 0, 0, 0x7fffffff⟩]⟩
abbrev F.STR_KIND_ERR_CLEAR : Fld := ⟨Reg.STR_KIND_ERR, 31, 31⟩
abbrev F.STR_KIND_ERR_COUNT : Fld := ⟨Reg.STR_KIND_ERR, 30, 0⟩
def Reg.STR_NO_STRAND : RegDesc := ⟨0x0C010C, 1, 0, 1, 0, [⟨31, 31, .wo, 0, 0, 1⟩, ⟨30, 0, .ro, 0, 0, 0x7fffffff⟩]⟩
abbrev F.STR_NO_STRAND_CLEAR : Fld := ⟨Reg.STR_NO_STRAND, 31, 31⟩
abbrev F.STR_NO_STRAND_COUNT : Fld := ⟨Reg.STR_NO_STRAND, 30, 0⟩
def Reg.STR_RESYNC_LOST : RegDesc := ⟨0x0C0110, 1, 0, 1, 0, [⟨31, 31, .wo, 0, 0, 1⟩, ⟨30, 0, .ro, 0, 0, 0x7fffffff⟩]⟩
abbrev F.STR_RESYNC_LOST_CLEAR : Fld := ⟨Reg.STR_RESYNC_LOST, 31, 31⟩
abbrev F.STR_RESYNC_LOST_COUNT : Fld := ⟨Reg.STR_RESYNC_LOST, 30, 0⟩
def Reg.STR_FRAME_ERR : RegDesc := ⟨0x0C0114, 1, 0, 1, 0, [⟨31, 31, .wo, 0, 0, 1⟩, ⟨30, 0, .ro, 0, 0, 0x7fffffff⟩]⟩
abbrev F.STR_FRAME_ERR_CLEAR : Fld := ⟨Reg.STR_FRAME_ERR, 31, 31⟩
abbrev F.STR_FRAME_ERR_COUNT : Fld := ⟨Reg.STR_FRAME_ERR, 30, 0⟩
def Reg.STR_SEQ_GAP : RegDesc := ⟨0x0C0118, 1, 0, 1, 0, [⟨31, 31, .wo, 0, 0, 1⟩, ⟨30, 0, .ro, 0, 0, 0x7fffffff⟩]⟩
abbrev F.STR_SEQ_GAP_CLEAR : Fld := ⟨Reg.STR_SEQ_GAP, 31, 31⟩
abbrev F.STR_SEQ_GAP_COUNT : Fld := ⟨Reg.STR_SEQ_GAP, 30, 0⟩
def Reg.STR_STOMPED : RegDesc := ⟨0x0C011C, 1, 0, 1, 0, [⟨31, 31, .wo, 0, 0, 1⟩, ⟨30, 0, .ro, 0, 0, 0x7fffffff⟩]⟩
abbrev F.STR_STOMPED_CLEAR : Fld := ⟨Reg.STR_STOMPED, 31, 31⟩
abbrev F.STR_STOMPED_COUNT : Fld := ⟨Reg.STR_STOMPED, 30, 0⟩
def Reg.STR_CREDIT_LOST : RegDesc := ⟨0x0C0120, 1, 0, 1, 0, [⟨31, 31, .wo, 0, 0, 1⟩, ⟨30, 0, .ro, 0, 0, 0x7fffffff⟩]⟩
abbrev F.STR_CREDIT_LOST_CLEAR : Fld := ⟨Reg.STR_CREDIT_LOST, 31, 31⟩
abbrev F.STR_CREDIT_LOST_COUNT : Fld := ⟨Reg.STR_CREDIT_LOST, 30, 0⟩
def Reg.STR_LOSSY_DROP : RegDesc := ⟨0x0C0124, 1, 0, 1, 0, [⟨31, 31, .wo, 0, 0, 1⟩, ⟨30, 0, .ro, 0, 0, 0x7fffffff⟩]⟩
abbrev F.STR_LOSSY_DROP_CLEAR : Fld := ⟨Reg.STR_LOSSY_DROP, 31, 31⟩
abbrev F.STR_LOSSY_DROP_COUNT : Fld := ⟨Reg.STR_LOSSY_DROP, 30, 0⟩
def Reg.STR_MARK_LATE : RegDesc := ⟨0x0C0128, 1, 0, 1, 0, [⟨31, 31, .wo, 0, 0, 1⟩, ⟨30, 0, .ro, 0, 0, 0x7fffffff⟩]⟩
abbrev F.STR_MARK_LATE_CLEAR : Fld := ⟨Reg.STR_MARK_LATE, 31, 31⟩
abbrev F.STR_MARK_LATE_COUNT : Fld := ⟨Reg.STR_MARK_LATE, 30, 0⟩
def Reg.STR_MARK_NEAR_MISS : RegDesc := ⟨0x0C0140, 1, 0, 1, 0, [⟨31, 31, .wo, 0, 0, 1⟩, ⟨15, 0, .ro, 0, 0, 0xffff⟩]⟩
abbrev F.STR_MARK_NEAR_MISS_CLEAR : Fld := ⟨Reg.STR_MARK_NEAR_MISS, 31, 31⟩
abbrev F.STR_MARK_NEAR_MISS_COUNT : Fld := ⟨Reg.STR_MARK_NEAR_MISS, 15, 0⟩
def Reg.STR_POL_CIR : RegDesc := ⟨0x0D0000, 4096, 0x10, 1, 0, [⟨31, 0, .skn, 0, 0, 0xffffffff⟩]⟩
abbrev F.STR_POL_CIR_CIR : Fld := ⟨Reg.STR_POL_CIR, 31, 0⟩
def Reg.STR_POL_CBS : RegDesc := ⟨0x0D0004, 4096, 0x10, 1, 0, [⟨23, 0, .skn, 0, 0, 0xffffff⟩]⟩
abbrev F.STR_POL_CBS_CBS : Fld := ⟨Reg.STR_POL_CBS, 23, 0⟩
def Reg.STR_POL_TOKENS : RegDesc := ⟨0x0D0008, 4096, 0x10, 1, 0, [⟨31, 0, .ro, 0, 0, 0xffffffff⟩]⟩
abbrev F.STR_POL_TOKENS_TOKENS : Fld := ⟨Reg.STR_POL_TOKENS, 31, 0⟩
def Reg.STR_POL_DROP : RegDesc := ⟨0x0D000C, 4096, 0x10, 1, 0, [⟨31, 31, .wo, 0, 0, 1⟩, ⟨30, 0, .ro, 0, 0, 0x7fffffff⟩]⟩
abbrev F.STR_POL_DROP_CLEAR : Fld := ⟨Reg.STR_POL_DROP, 31, 31⟩
abbrev F.STR_POL_DROP_COUNT : Fld := ⟨Reg.STR_POL_DROP, 30, 0⟩

/-- The registers of block STR. -/
def Reg.blockSTR : List RegDesc :=
  [Reg.STR_CMD, Reg.STR_CMD_STATUS, Reg.STR_CMD_SN, Reg.STR_CMD_ENTRY, Reg.STR_LEDGER_USED, Reg.STR_HDR_ERR, Reg.STR_LEN_ERR, Reg.STR_KIND_ERR, Reg.STR_NO_STRAND, Reg.STR_RESYNC_LOST, Reg.STR_FRAME_ERR, Reg.STR_SEQ_GAP, Reg.STR_STOMPED, Reg.STR_CREDIT_LOST, Reg.STR_LOSSY_DROP, Reg.STR_MARK_LATE, Reg.STR_MARK_NEAR_MISS, Reg.STR_POL_CIR, Reg.STR_POL_CBS, Reg.STR_POL_TOKENS, Reg.STR_POL_DROP]

/-! Block SWC (06 R183). -/

def Reg.SWC_STATUS : RegDesc := ⟨0x100000, 1, 0, 1, 0, [⟨31, 31, .ro, 0, 0, 1⟩, ⟨30, 30, .ro, 0, 0, 1⟩, ⟨29, 29, .w1c, 0, 0, 1⟩]⟩
abbrev F.SWC_STATUS_CT_CAPABLE : Fld := ⟨Reg.SWC_STATUS, 31, 31⟩
abbrev F.SWC_STATUS_AUDITING : Fld := ⟨Reg.SWC_STATUS, 30, 30⟩
abbrev F.SWC_STATUS_BAD_BRANCH : Fld := ⟨Reg.SWC_STATUS, 29, 29⟩
def Reg.SWC_BUF_FREE : RegDesc := ⟨0x100004, 1, 0, 1, 0, [⟨18, 0, .ro, 0x40000, 0, 0x7ffff⟩]⟩
abbrev F.SWC_BUF_FREE_FREE_UNITS : Fld := ⟨Reg.SWC_BUF_FREE, 18, 0⟩
def Reg.SWC_BUF_SHARED : RegDesc := ⟨0x100008, 1, 0, 1, 0, [⟨18, 0, .ro, 0, 0, 0x7ffff⟩]⟩
abbrev F.SWC_BUF_SHARED_SHARED_FREE : Fld := ⟨Reg.SWC_BUF_SHARED, 18, 0⟩
def Reg.SWC_AUDIT_CFG : RegDesc := ⟨0x100010, 1, 0, 1, 0, [⟨31, 16, .rw, 0x1f4, 0, 0xffff⟩, ⟨15, 0, .rw, 0xa, 0, 0xffff⟩]⟩
abbrev F.SWC_AUDIT_CFG_LEAK_AGE_MS : Fld := ⟨Reg.SWC_AUDIT_CFG, 31, 16⟩
abbrev F.SWC_AUDIT_CFG_PERIOD_MS : Fld := ⟨Reg.SWC_AUDIT_CFG, 15, 0⟩
def Reg.SWC_AUDIT_STATUS : RegDesc := ⟨0x100014, 1, 0, 1, 0, [⟨31, 16, .ro, 0, 0, 0xffff⟩, ⟨15, 0, .ro, 0, 0, 0xffff⟩]⟩
abbrev F.SWC_AUDIT_STATUS_SWEEPS : Fld := ⟨Reg.SWC_AUDIT_STATUS, 31, 16⟩
abbrev F.SWC_AUDIT_STATUS_LEAKS : Fld := ⟨Reg.SWC_AUDIT_STATUS, 15, 0⟩
def Reg.SWC_CT_OFF : RegDesc := ⟨0x100018, 1, 0, 1, 0, [⟨18, 0, .rw, 0, 0, 0x7ffff⟩]⟩
abbrev F.SWC_CT_OFF_CT_OFF : Fld := ⟨Reg.SWC_CT_OFF, 18, 0⟩
def Reg.SWC_FRAME_BAD : RegDesc := ⟨0x100100, 1, 0, 1, 0, [⟨31, 31, .wo, 0, 0, 1⟩, ⟨30, 0, .ro, 0, 0, 0x7fffffff⟩]⟩
abbrev F.SWC_FRAME_BAD_CLEAR : Fld := ⟨Reg.SWC_FRAME_BAD, 31, 31⟩
abbrev F.SWC_FRAME_BAD_COUNT : Fld := ⟨Reg.SWC_FRAME_BAD, 30, 0⟩
def Reg.SWC_STOMP_SENT : RegDesc := ⟨0x100104, 1, 0, 1, 0, [⟨31, 31, .wo, 0, 0, 1⟩, ⟨30, 0, .ro, 0, 0, 0x7fffffff⟩]⟩
abbrev F.SWC_STOMP_SENT_CLEAR : Fld := ⟨Reg.SWC_STOMP_SENT, 31, 31⟩
abbrev F.SWC_STOMP_SENT_COUNT : Fld := ⟨Reg.SWC_STOMP_SENT, 30, 0⟩
def Reg.SWC_NOROOM_DROP : RegDesc := ⟨0x100108, 1, 0, 1, 0, [⟨31, 31, .wo, 0, 0, 1⟩, ⟨30, 0, .ro, 0, 0, 0x7fffffff⟩]⟩
abbrev F.SWC_NOROOM_DROP_CLEAR : Fld := ⟨Reg.SWC_NOROOM_DROP, 31, 31⟩
abbrev F.SWC_NOROOM_DROP_COUNT : Fld := ⟨Reg.SWC_NOROOM_DROP, 30, 0⟩
def Reg.SWC_AGED : RegDesc := ⟨0x10010C, 1, 0, 1, 0, [⟨31, 31, .wo, 0, 0, 1⟩, ⟨30, 0, .ro, 0, 0, 0x7fffffff⟩]⟩
abbrev F.SWC_AGED_CLEAR : Fld := ⟨Reg.SWC_AGED, 31, 31⟩
abbrev F.SWC_AGED_COUNT : Fld := ⟨Reg.SWC_AGED, 30, 0⟩
def Reg.SWC_MCAST_EMPTY : RegDesc := ⟨0x100110, 1, 0, 1, 0, [⟨31, 31, .wo, 0, 0, 1⟩, ⟨30, 0, .ro, 0, 0, 0x7fffffff⟩]⟩
abbrev F.SWC_MCAST_EMPTY_CLEAR : Fld := ⟨Reg.SWC_MCAST_EMPTY, 31, 31⟩
abbrev F.SWC_MCAST_EMPTY_COUNT : Fld := ⟨Reg.SWC_MCAST_EMPTY, 30, 0⟩
def Reg.SWC_CT_UNDERRUN : RegDesc := ⟨0x100114, 1, 0, 1, 0, [⟨31, 31, .wo, 0, 0, 1⟩, ⟨30, 0, .ro, 0, 0, 0x7fffffff⟩]⟩
abbrev F.SWC_CT_UNDERRUN_CLEAR : Fld := ⟨Reg.SWC_CT_UNDERRUN, 31, 31⟩
abbrev F.SWC_CT_UNDERRUN_COUNT : Fld := ⟨Reg.SWC_CT_UNDERRUN, 30, 0⟩
def Reg.SWC_BW_LIMITED : RegDesc := ⟨0x100118, 1, 0, 1, 0, [⟨31, 31, .wo, 0, 0, 1⟩, ⟨30, 0, .ro, 0, 0, 0x7fffffff⟩]⟩
abbrev F.SWC_BW_LIMITED_CLEAR : Fld := ⟨Reg.SWC_BW_LIMITED, 31, 31⟩
abbrev F.SWC_BW_LIMITED_COUNT : Fld := ⟨Reg.SWC_BW_LIMITED, 30, 0⟩
def Reg.SWC_RESET_DISCARD : RegDesc := ⟨0x10011C, 1, 0, 1, 0, [⟨31, 31, .wo, 0, 0, 1⟩, ⟨30, 0, .ro, 0, 0, 0x7fffffff⟩]⟩
abbrev F.SWC_RESET_DISCARD_CLEAR : Fld := ⟨Reg.SWC_RESET_DISCARD, 31, 31⟩
abbrev F.SWC_RESET_DISCARD_COUNT : Fld := ⟨Reg.SWC_RESET_DISCARD, 30, 0⟩
def Reg.SWC_MCG_BR : RegDesc := ⟨0x104000, 1024, 0x40, 16, 4, [⟨31, 0, .rw, 0, 0, 0xffffffff⟩]⟩
abbrev F.SWC_MCG_BR_BRANCH : Fld := ⟨Reg.SWC_MCG_BR, 31, 0⟩

/-- The registers of block SWC. -/
def Reg.blockSWC : List RegDesc :=
  [Reg.SWC_STATUS, Reg.SWC_BUF_FREE, Reg.SWC_BUF_SHARED, Reg.SWC_AUDIT_CFG, Reg.SWC_AUDIT_STATUS, Reg.SWC_CT_OFF, Reg.SWC_FRAME_BAD, Reg.SWC_STOMP_SENT, Reg.SWC_NOROOM_DROP, Reg.SWC_AGED, Reg.SWC_MCAST_EMPTY, Reg.SWC_CT_UNDERRUN, Reg.SWC_BW_LIMITED, Reg.SWC_RESET_DISCARD, Reg.SWC_MCG_BR]

/-! Block SCH (07 R209, 06 R183). -/

def Reg.SCH_OUT_CFG : RegDesc := ⟨0x140000, 19, 0x200, 1, 0, [⟨31, 29, .skn, 0, 0, 4⟩, ⟨28, 25, .skn, 8, 1, 0xc⟩, ⟨15, 0, .skn, 0x808, 0x40, 0xffff⟩]⟩
abbrev F.SCH_OUT_CFG_NSTRICT : Fld := ⟨Reg.SCH_OUT_CFG, 31, 29⟩
abbrev F.SCH_OUT_CFG_NWEIGHT : Fld := ⟨Reg.SCH_OUT_CFG, 28, 25⟩
abbrev F.SCH_OUT_CFG_QUANTUM : Fld := ⟨Reg.SCH_OUT_CFG, 15, 0⟩
def Reg.SCH_OUT_GUARD : RegDesc := ⟨0x140004, 19, 0x200, 1, 0, [⟨31, 16, .ro, 0, 0, 0xffff⟩, ⟨13, 0, .skn, 0x2580, 0x40, 0x2580⟩]⟩
abbrev F.SCH_OUT_GUARD_GAP_BYTES : Fld := ⟨Reg.SCH_OUT_GUARD, 31, 16⟩
abbrev F.SCH_OUT_GUARD_FIXED_LEN : Fld := ⟨Reg.SCH_OUT_GUARD, 13, 0⟩
def Reg.SCH_OUT_QMAP : RegDesc := ⟨0x140020, 19, 0x200, 8, 4, [⟨19, 16, .skn, 0, 0, 0xf⟩, ⟨15, 12, .skn, 0, 0, 0xf⟩, ⟨11, 8, .skn, 0, 0, 0xf⟩, ⟨7, 4, .skn, 0, 0, 0xf⟩, ⟨3, 0, .skn, 0, 0, 0xf⟩]⟩
abbrev F.SCH_OUT_QMAP_Q_SPARE : Fld := ⟨Reg.SCH_OUT_QMAP, 19, 16⟩
abbrev F.SCH_OUT_QMAP_Q_BULK : Fld := ⟨Reg.SCH_OUT_QMAP, 15, 12⟩
abbrev F.SCH_OUT_QMAP_Q_ASSURED : Fld := ⟨Reg.SCH_OUT_QMAP, 11, 8⟩
abbrev F.SCH_OUT_QMAP_Q_ISO : Fld := ⟨Reg.SCH_OUT_QMAP, 7, 4⟩
abbrev F.SCH_OUT_QMAP_Q_PROTECT : Fld := ⟨Reg.SCH_OUT_QMAP, 3, 0⟩
def Reg.SCH_OUT_WEIGHT : RegDesc := ⟨0x140040, 19, 0x200, 16, 4, [⟨31, 24, .skn, 1, 0, 0xff⟩, ⟨23, 16, .ro, 1, 0, 0xff⟩]⟩
abbrev F.SCH_OUT_WEIGHT_BASE_WEIGHT : Fld := ⟨Reg.SCH_OUT_WEIGHT, 31, 24⟩
abbrev F.SCH_OUT_WEIGHT_WEIGHT : Fld := ⟨Reg.SCH_OUT_WEIGHT, 23, 16⟩
def Reg.SCH_OUT_BURST : RegDesc := ⟨0x140080, 19, 0x200, 16, 4, [⟨23, 0, .skn, 0x10000, 0, 0xffffff⟩]⟩
abbrev F.SCH_OUT_BURST_BURST : Fld := ⟨Reg.SCH_OUT_BURST, 23, 0⟩
def Reg.SCH_OUT_CREDIT : RegDesc := ⟨0x1400C0, 19, 0x200, 16, 4, [⟨23, 0, .ro, 0, 0, 0xffffff⟩]⟩
abbrev F.SCH_OUT_CREDIT_CREDIT : Fld := ⟨Reg.SCH_OUT_CREDIT, 23, 0⟩
def Reg.SCH_OUT_SH_BASE : RegDesc := ⟨0x140100, 19, 0x200, 4, 0x10, [⟨31, 0, .skn, 0, 0, 0xffffffff⟩]⟩
abbrev F.SCH_OUT_SH_BASE_BASE_RATE : Fld := ⟨Reg.SCH_OUT_SH_BASE, 31, 0⟩
def Reg.SCH_OUT_SH_RATE : RegDesc := ⟨0x140104, 19, 0x200, 4, 0x10, [⟨31, 0, .ro, 0, 0, 0xffffffff⟩]⟩
abbrev F.SCH_OUT_SH_RATE_RATE : Fld := ⟨Reg.SCH_OUT_SH_RATE, 31, 0⟩
def Reg.SCH_OUT_SH_CFG : RegDesc := ⟨0x140108, 19, 0x200, 4, 0x10, [⟨31, 31, .skn, 0, 0, 1⟩, ⟨23, 0, .skn, 0x4000, 0, 0xffffff⟩]⟩
abbrev F.SCH_OUT_SH_CFG_EN : Fld := ⟨Reg.SCH_OUT_SH_CFG, 31, 31⟩
abbrev F.SCH_OUT_SH_CFG_SBURST : Fld := ⟨Reg.SCH_OUT_SH_CFG, 23, 0⟩
def Reg.SCH_OUT_SH_TOKENS : RegDesc := ⟨0x14010C, 19, 0x200, 4, 0x10, [⟨31, 0, .ro, 0x4000, 0, 0xffffffff⟩]⟩
abbrev F.SCH_OUT_SH_TOKENS_TOKENS : Fld := ⟨Reg.SCH_OUT_SH_TOKENS, 31, 0⟩
def Reg.SCH_OUT_GCL_CTL : RegDesc := ⟨0x140140, 19, 0x200, 1, 0, [⟨31, 31, .skn, 0, 0, 1⟩, ⟨30, 30, .ro, 0, 0, 1⟩, ⟨8, 0, .skn, 0, 0, 0x1ff⟩]⟩
abbrev F.SCH_OUT_GCL_CTL_GATE_EN : Fld := ⟨Reg.SCH_OUT_GCL_CTL, 31, 31⟩
abbrev F.SCH_OUT_GCL_CTL_CHANGE_ARMED : Fld := ⟨Reg.SCH_OUT_GCL_CTL, 30, 30⟩
abbrev F.SCH_OUT_GCL_CTL_GCL_LEN : Fld := ⟨Reg.SCH_OUT_GCL_CTL, 8, 0⟩
def Reg.SCH_OUT_GCL_CYCLE : RegDesc := ⟨0x140144, 19, 0x200, 1, 0, [⟨31, 0, .skn, 0xf4240, 0x3e8, 0x3b9aca00⟩]⟩
abbrev F.SCH_OUT_GCL_CYCLE_CYCLE_NS : Fld := ⟨Reg.SCH_OUT_GCL_CYCLE, 31, 0⟩
def Reg.SCH_OUT_GCL_BASE_LO : RegDesc := ⟨0x140148, 19, 0x200, 1, 0, [⟨31, 0, .skn, 0, 0, 0xffffffff⟩]⟩
abbrev F.SCH_OUT_GCL_BASE_LO_BASE : Fld := ⟨Reg.SCH_OUT_GCL_BASE_LO, 31, 0⟩
def Reg.SCH_OUT_GCL_BASE_HI : RegDesc := ⟨0x14014C, 19, 0x200, 1, 0, [⟨31, 0, .skn, 0, 0, 0xffffffff⟩]⟩
abbrev F.SCH_OUT_GCL_BASE_HI_BASE : Fld := ⟨Reg.SCH_OUT_GCL_BASE_HI, 31, 0⟩
def Reg.SCH_OUT_GATE_STATE : RegDesc := ⟨0x140150, 19, 0x200, 1, 0, [⟨31, 24, .ro, 0xff, 0, 0xff⟩, ⟨7, 0, .ro, 0, 0, 0xff⟩]⟩
abbrev F.SCH_OUT_GATE_STATE_GATES : Fld := ⟨Reg.SCH_OUT_GATE_STATE, 31, 24⟩
abbrev F.SCH_OUT_GATE_STATE_ENTRY : Fld := ⟨Reg.SCH_OUT_GATE_STATE, 7, 0⟩
def Reg.SCH_OUT_GUARD_HELD : RegDesc := ⟨0x140154, 19, 0x200, 1, 0, [⟨31, 31, .wo, 0, 0, 1⟩, ⟨30, 0, .ro, 0, 0, 0x7fffffff⟩]⟩
abbrev F.SCH_OUT_GUARD_HELD_CLEAR : Fld := ⟨Reg.SCH_OUT_GUARD_HELD, 31, 31⟩
abbrev F.SCH_OUT_GUARD_HELD_COUNT : Fld := ⟨Reg.SCH_OUT_GUARD_HELD, 30, 0⟩
def Reg.SCH_OUT_GATE_OVERSIZE : RegDesc := ⟨0x140158, 19, 0x200, 1, 0, [⟨31, 31, .wo, 0, 0, 1⟩, ⟨30, 0, .ro, 0, 0, 0x7fffffff⟩]⟩
abbrev F.SCH_OUT_GATE_OVERSIZE_CLEAR : Fld := ⟨Reg.SCH_OUT_GATE_OVERSIZE, 31, 31⟩
abbrev F.SCH_OUT_GATE_OVERSIZE_COUNT : Fld := ⟨Reg.SCH_OUT_GATE_OVERSIZE, 30, 0⟩
def Reg.SCH_OUT_GCL_SEL0 : RegDesc := ⟨0x140160, 19, 0x200, 1, 0, [⟨23, 0, .skn, 0x53977, 0, 0xffffff⟩]⟩
abbrev F.SCH_OUT_GCL_SEL0_GATE_SEL : Fld := ⟨Reg.SCH_OUT_GCL_SEL0, 23, 0⟩
def Reg.SCH_OUT_GCL_SEL1 : RegDesc := ⟨0x140164, 19, 0x200, 1, 0, [⟨23, 0, .skn, 0x53977, 0, 0xffffff⟩]⟩
abbrev F.SCH_OUT_GCL_SEL1_GATE_SEL : Fld := ⟨Reg.SCH_OUT_GCL_SEL1, 23, 0⟩
def Reg.SCH_OUT_GCL_GATES : RegDesc := ⟨0x144000, 19, 0x800, 256, 8, [⟨7, 0, .skn, 0xff, 0, 0xff⟩]⟩
abbrev F.SCH_OUT_GCL_GATES_GATES : Fld := ⟨Reg.SCH_OUT_GCL_GATES, 7, 0⟩
def Reg.SCH_OUT_GCL_TIME : RegDesc := ⟨0x144004, 19, 0x800, 256, 8, [⟨31, 0, .skn, 0, 0, 0xffffffff⟩]⟩
abbrev F.SCH_OUT_GCL_TIME_INTERVAL_NS : Fld := ⟨Reg.SCH_OUT_GCL_TIME, 31, 0⟩
def Reg.SCH_SAMPLE_CFG : RegDesc := ⟨0x14F000, 1, 0, 1, 0, [⟨7, 0, .skn, 4, 1, 0x80⟩]⟩
abbrev F.SCH_SAMPLE_CFG_SAMPLE_HALF_US : Fld := ⟨Reg.SCH_SAMPLE_CFG, 7, 0⟩
def Reg.SCH_HIST_CTL : RegDesc := ⟨0x14F004, 1, 0, 1, 0, [⟨31, 31, .wo, 0, 0, 1⟩, ⟨30, 30, .rw, 0, 0, 1⟩]⟩
abbrev F.SCH_HIST_CTL_CLEAR : Fld := ⟨Reg.SCH_HIST_CTL, 31, 31⟩
abbrev F.SCH_HIST_CTL_FREEZE : Fld := ⟨Reg.SCH_HIST_CTL, 30, 30⟩
def Reg.SCH_Q_SHARE : RegDesc := ⟨0x150000, 304, 0x20, 1, 0, [⟨18, 0, .skn, 0x2000, 0x40, 0x20000⟩]⟩
abbrev F.SCH_Q_SHARE_QSHARE : Fld := ⟨Reg.SCH_Q_SHARE, 18, 0⟩
def Reg.SCH_Q_ECN : RegDesc := ⟨0x150004, 304, 0x20, 1, 0, [⟨31, 0, .skn, 0, 0, 0xffffffff⟩]⟩
abbrev F.SCH_Q_ECN_ECN_THRESH : Fld := ⟨Reg.SCH_Q_ECN, 31, 0⟩
def Reg.SCH_Q_POND : RegDesc := ⟨0x150008, 304, 0x20, 1, 0, [⟨23, 0, .skn, 0, 0, 0xffffff⟩]⟩
abbrev F.SCH_Q_POND_POND_MAX : Fld := ⟨Reg.SCH_Q_POND, 23, 0⟩
def Reg.SCH_Q_SOJOURN : RegDesc := ⟨0x15000C, 304, 0x20, 1, 0, [⟨31, 0, .skn, 0, 0, 0xffffffff⟩]⟩
abbrev F.SCH_Q_SOJOURN_MAX_SOJOURN : Fld := ⟨Reg.SCH_Q_SOJOURN, 31, 0⟩
def Reg.SCH_Q_DEPTH : RegDesc := ⟨0x150010, 304, 0x20, 1, 0, [⟨31, 31, .ro, 0, 0, 1⟩, ⟨18, 0, .ro, 0, 0, 0x7ffff⟩]⟩
abbrev F.SCH_Q_DEPTH_OVER_SHARE : Fld := ⟨Reg.SCH_Q_DEPTH, 31, 31⟩
abbrev F.SCH_Q_DEPTH_ON_CHIP : Fld := ⟨Reg.SCH_Q_DEPTH, 18, 0⟩
def Reg.SCH_Q_POND_USED : RegDesc := ⟨0x150014, 304, 0x20, 1, 0, [⟨31, 31, .ro, 0, 0, 1⟩, ⟨30, 30, .ro, 0, 0, 1⟩, ⟨23, 0, .ro, 0, 0, 0xffffff⟩]⟩
abbrev F.SCH_Q_POND_USED_OVERFLOWING : Fld := ⟨Reg.SCH_Q_POND_USED, 31, 31⟩
abbrev F.SCH_Q_POND_USED_TAIL_HELD : Fld := ⟨Reg.SCH_Q_POND_USED, 30, 30⟩
abbrev F.SCH_Q_POND_USED_PAGES : Fld := ⟨Reg.SCH_Q_POND_USED, 23, 0⟩
def Reg.SCH_Q_PLACE : RegDesc := ⟨0x150018, 304, 0x20, 1, 0, [⟨31, 29, .ro, 0, 0, 7⟩, ⟨28, 26, .ro, 0, 0, 7⟩, ⟨25, 25, .ro, 0, 0, 1⟩, ⟨24, 24, .ro, 0, 0, 1⟩, ⟨15, 0, .ro, 0, 0, 0xffff⟩]⟩
abbrev F.SCH_Q_PLACE_HOLD_DIE : Fld := ⟨Reg.SCH_Q_PLACE, 31, 29⟩
abbrev F.SCH_Q_PLACE_POND_DIE : Fld := ⟨Reg.SCH_Q_PLACE, 28, 26⟩
abbrev F.SCH_Q_PLACE_POND_CH : Fld := ⟨Reg.SCH_Q_PLACE, 25, 25⟩
abbrev F.SCH_Q_PLACE_MAY_OVERFLOW : Fld := ⟨Reg.SCH_Q_PLACE, 24, 24⟩
abbrev F.SCH_Q_PLACE_NO_OVF : Fld := ⟨Reg.SCH_Q_PLACE, 15, 0⟩
def Reg.SCH_AGE_NEAR_MISS : RegDesc := ⟨0x15F000, 1, 0, 1, 0, [⟨31, 31, .wo, 0, 0, 1⟩, ⟨15, 0, .ro, 0, 0, 0xffff⟩]⟩
abbrev F.SCH_AGE_NEAR_MISS_CLEAR : Fld := ⟨Reg.SCH_AGE_NEAR_MISS, 31, 31⟩
abbrev F.SCH_AGE_NEAR_MISS_COUNT : Fld := ⟨Reg.SCH_AGE_NEAR_MISS, 15, 0⟩
def Reg.SCH_Q_HD : RegDesc := ⟨0x160000, 304, 0x80, 16, 4, [⟨31, 0, .ro, 0, 0, 0xffffffff⟩]⟩
abbrev F.SCH_Q_HD_COUNT : Fld := ⟨Reg.SCH_Q_HD, 31, 0⟩
def Reg.SCH_Q_HL : RegDesc := ⟨0x160040, 304, 0x80, 16, 4, [⟨31, 0, .ro, 0, 0, 0xffffffff⟩]⟩
abbrev F.SCH_Q_HL_COUNT : Fld := ⟨Reg.SCH_Q_HL, 31, 0⟩

/-- The registers of block SCH. -/
def Reg.blockSCH : List RegDesc :=
  [Reg.SCH_OUT_CFG, Reg.SCH_OUT_GUARD, Reg.SCH_OUT_QMAP, Reg.SCH_OUT_WEIGHT, Reg.SCH_OUT_BURST, Reg.SCH_OUT_CREDIT, Reg.SCH_OUT_SH_BASE, Reg.SCH_OUT_SH_RATE, Reg.SCH_OUT_SH_CFG, Reg.SCH_OUT_SH_TOKENS, Reg.SCH_OUT_GCL_CTL, Reg.SCH_OUT_GCL_CYCLE, Reg.SCH_OUT_GCL_BASE_LO, Reg.SCH_OUT_GCL_BASE_HI, Reg.SCH_OUT_GATE_STATE, Reg.SCH_OUT_GUARD_HELD, Reg.SCH_OUT_GATE_OVERSIZE, Reg.SCH_OUT_GCL_SEL0, Reg.SCH_OUT_GCL_SEL1, Reg.SCH_OUT_GCL_GATES, Reg.SCH_OUT_GCL_TIME, Reg.SCH_SAMPLE_CFG, Reg.SCH_HIST_CTL, Reg.SCH_Q_SHARE] ++
  [Reg.SCH_Q_ECN, Reg.SCH_Q_POND, Reg.SCH_Q_SOJOURN, Reg.SCH_Q_DEPTH, Reg.SCH_Q_POND_USED, Reg.SCH_Q_PLACE, Reg.SCH_AGE_NEAR_MISS, Reg.SCH_Q_HD, Reg.SCH_Q_HL]

/-! Block SPD (08 R243). -/

def Reg.SPD_STATUS : RegDesc := ⟨0x180000, 1, 0, 1, 0, [⟨31, 28, .ro, 0, 0, 0xf⟩, ⟨27, 27, .ro, 0, 0, 1⟩, ⟨26, 26, .ro, 0, 0, 1⟩, ⟨25, 25, .ro, 0, 0, 1⟩, ⟨24, 24, .ro, 0, 0, 1⟩]⟩
abbrev F.SPD_STATUS_STATE : Fld := ⟨Reg.SPD_STATUS, 31, 28⟩
abbrev F.SPD_STATUS_SURGE : Fld := ⟨Reg.SPD_STATUS, 27, 27⟩
abbrev F.SPD_STATUS_RELIEF : Fld := ⟨Reg.SPD_STATUS, 26, 26⟩
abbrev F.SPD_STATUS_ISOLATED : Fld := ⟨Reg.SPD_STATUS, 25, 25⟩
abbrev F.SPD_STATUS_ARBITER : Fld := ⟨Reg.SPD_STATUS, 24, 24⟩
def Reg.SPD_TWIST : RegDesc := ⟨0x180004, 1, 0, 1, 0, [⟨31, 0, .ro, 0, 0, 0xffffffff⟩]⟩
abbrev F.SPD_TWIST_COUNT : Fld := ⟨Reg.SPD_TWIST, 31, 0⟩
def Reg.SPD_FREEZE : RegDesc := ⟨0x180008, 1, 0, 1, 0, [⟨31, 31, .rw, 0, 0, 1⟩, ⟨30, 30, .rw, 0, 0, 1⟩]⟩
abbrev F.SPD_FREEZE_HOLD : Fld := ⟨Reg.SPD_FREEZE, 31, 31⟩
abbrev F.SPD_FREEZE_EXCEPT_FAILOVER : Fld := ⟨Reg.SPD_FREEZE, 30, 30⟩
def Reg.SPD_CFG : RegDesc := ⟨0x180010, 1, 0, 1, 0, [⟨31, 24, .skn, 0x55, 2, 0x5f⟩, ⟨23, 16, .skn, 0x46, 1, 0x5e⟩, ⟨15, 8, .skn, 0xa, 1, 0xff⟩, ⟨7, 4, .skn, 8, 1, 0xf⟩, ⟨3, 3, .skn, 0, 0, 1⟩]⟩
abbrev F.SPD_CFG_PLY_HIGH_PCT : Fld := ⟨Reg.SPD_CFG, 31, 24⟩
abbrev F.SPD_CFG_PLY_LOW_PCT : Fld := ⟨Reg.SPD_CFG, 23, 16⟩
abbrev F.SPD_CFG_SURGE_DELTA_PERMILLE : Fld := ⟨Reg.SPD_CFG, 15, 8⟩
abbrev F.SPD_CFG_SURGE_HOLD : Fld := ⟨Reg.SPD_CFG, 7, 4⟩
abbrev F.SPD_CFG_CONSOLIDATE : Fld := ⟨Reg.SPD_CFG, 3, 3⟩
def Reg.SPD_THERM : RegDesc := ⟨0x180014, 1, 0, 1, 0, [⟨31, 24, .skn, 0xa, 3, 0x28⟩, ⟨23, 16, .skn, 5, 1, 0x14⟩, ⟨15, 8, .skn, 8, 1, 0x40⟩, ⟨7, 0, .ro, 0, 0, 0xff⟩]⟩
abbrev F.SPD_THERM_MARGIN_C : Fld := ⟨Reg.SPD_THERM, 31, 24⟩
abbrev F.SPD_THERM_HYST_C : Fld := ⟨Reg.SPD_THERM, 23, 16⟩
abbrev F.SPD_THERM_RELIEF_MOVES : Fld := ⟨Reg.SPD_THERM, 15, 8⟩
abbrev F.SPD_THERM_TEMP_C : Fld := ⟨Reg.SPD_THERM, 7, 0⟩
def Reg.SPD_SLEEP : RegDesc := ⟨0x180018, 1, 0, 1, 0, [⟨31, 16, .skn, 0x7d0, 0x64, 0xffff⟩, ⟨15, 8, .skn, 0x14, 0, 0xff⟩, ⟨7, 0, .skn, 0xa, 1, 0xff⟩]⟩
abbrev F.SPD_SLEEP_DOZE_IDLE_NS : Fld := ⟨Reg.SPD_SLEEP, 31, 16⟩
abbrev F.SPD_SLEEP_DOZE_MIN_BOUND_US : Fld := ⟨Reg.SPD_SLEEP, 15, 8⟩
abbrev F.SPD_SLEEP_NAP_IDLE_100US : Fld := ⟨Reg.SPD_SLEEP, 7, 0⟩
def Reg.SPD_WDOG : RegDesc := ⟨0x18001C, 1, 0, 1, 0, [⟨31, 24, .skn, 0x10, 1, 0xff⟩, ⟨15, 0, .rws, 0, 0, 0xffff⟩]⟩
abbrev F.SPD_WDOG_WDOG_TWISTS : Fld := ⟨Reg.SPD_WDOG, 31, 24⟩
abbrev F.SPD_WDOG_OVERRUNS : Fld := ⟨Reg.SPD_WDOG, 15, 0⟩
def Reg.SPD_ENV_REJECT : RegDesc := ⟨0x180020, 1, 0, 1, 0, [⟨31, 31, .wo, 0, 0, 1⟩, ⟨30, 0, .ro, 0, 0, 0x7fffffff⟩]⟩
abbrev F.SPD_ENV_REJECT_CLEAR : Fld := ⟨Reg.SPD_ENV_REJECT, 31, 31⟩
abbrev F.SPD_ENV_REJECT_COUNT : Fld := ⟨Reg.SPD_ENV_REJECT, 30, 0⟩
def Reg.SPD_PLACE_SEL : RegDesc := ⟨0x180040, 1, 0, 1, 0, [⟨15, 0, .rw, 0, 0, 0xffff⟩]⟩
abbrev F.SPD_PLACE_SEL_INDEX : Fld := ⟨Reg.SPD_PLACE_SEL, 15, 0⟩
def Reg.SPD_PLACE_DATA0 : RegDesc := ⟨0x180044, 1, 0, 1, 0, [⟨31, 8, .ro, 0, 0, 0xffffff⟩, ⟨5, 0, .ro, 0x3f, 0, 0x3f⟩]⟩
abbrev F.SPD_PLACE_DATA0_ALLOT : Fld := ⟨Reg.SPD_PLACE_DATA0, 31, 8⟩
abbrev F.SPD_PLACE_DATA0_PLY : Fld := ⟨Reg.SPD_PLACE_DATA0, 5, 0⟩
def Reg.SPD_PLACE_DATA1 : RegDesc := ⟨0x180048, 1, 0, 1, 0, [⟨31, 29, .ro, 0, 0, 7⟩, ⟨28, 26, .ro, 0, 0, 7⟩, ⟨25, 25, .ro, 0, 0, 1⟩, ⟨24, 24, .ro, 0, 0, 1⟩, ⟨7, 0, .ro, 0, 0, 0xff⟩]⟩
abbrev F.SPD_PLACE_DATA1_HOLD_DIE : Fld := ⟨Reg.SPD_PLACE_DATA1, 31, 29⟩
abbrev F.SPD_PLACE_DATA1_POND_DIE : Fld := ⟨Reg.SPD_PLACE_DATA1, 28, 26⟩
abbrev F.SPD_PLACE_DATA1_POND_CH : Fld := ⟨Reg.SPD_PLACE_DATA1, 25, 25⟩
abbrev F.SPD_PLACE_DATA1_NO_POND : Fld := ⟨Reg.SPD_PLACE_DATA1, 24, 24⟩
abbrev F.SPD_PLACE_DATA1_LAST_REASON : Fld := ⟨Reg.SPD_PLACE_DATA1, 7, 0⟩
def Reg.SPD_PLACE_DATA2 : RegDesc := ⟨0x18004C, 1, 0, 1, 0, [⟨31, 24, .ro, 0xff, 0, 0xff⟩, ⟨23, 0, .ro, 0, 0, 0xffffff⟩]⟩
abbrev F.SPD_PLACE_DATA2_SINCE_MOVE : Fld := ⟨Reg.SPD_PLACE_DATA2, 31, 24⟩
abbrev F.SPD_PLACE_DATA2_TARGET : Fld := ⟨Reg.SPD_PLACE_DATA2, 23, 0⟩
def Reg.SPD_PLACE_DATA3 : RegDesc := ⟨0x180050, 1, 0, 1, 0, [⟨31, 24, .ro, 0, 0, 0xff⟩, ⟨23, 0, .ro, 0, 0, 0xffffff⟩]⟩
abbrev F.SPD_PLACE_DATA3_MOVES : Fld := ⟨Reg.SPD_PLACE_DATA3, 31, 24⟩
abbrev F.SPD_PLACE_DATA3_DEMAND : Fld := ⟨Reg.SPD_PLACE_DATA3, 23, 0⟩
def Reg.SPD_HEAD_BUDGET : RegDesc := ⟨0x180080, 2, 4, 1, 0, [⟨23, 0, .ro, 0xffffff, 0, 0xffffff⟩]⟩
abbrev F.SPD_HEAD_BUDGET_BUDGET : Fld := ⟨Reg.SPD_HEAD_BUDGET, 23, 0⟩
def Reg.SPD_HEAD_STORE : RegDesc := ⟨0x180088, 2, 4, 1, 0, [⟨31, 29, .ro, 0, 0, 7⟩, ⟨28, 28, .ro, 0, 0, 1⟩, ⟨27, 27, .ro, 0, 0, 1⟩]⟩
abbrev F.SPD_HEAD_STORE_STORE_DIE : Fld := ⟨Reg.SPD_HEAD_STORE, 31, 29⟩
abbrev F.SPD_HEAD_STORE_CHANNEL : Fld := ⟨Reg.SPD_HEAD_STORE, 28, 28⟩
abbrev F.SPD_HEAD_STORE_MIRROR : Fld := ⟨Reg.SPD_HEAD_STORE, 27, 27⟩
def Reg.SPD_DIR_MODE : RegDesc := ⟨0x180100, 8, 4, 1, 0, [⟨31, 30, .ro, 3, 0, 3⟩]⟩
abbrev F.SPD_DIR_MODE_MODE : Fld := ⟨Reg.SPD_DIR_MODE, 31, 30⟩
def Reg.SPD_OUT_SURGE : RegDesc := ⟨0x180200, 19, 4, 1, 0, [⟨31, 31, .ro, 0, 0, 1⟩, ⟨23, 0, .ro, 0, 0, 0xffffff⟩]⟩
abbrev F.SPD_OUT_SURGE_SURGE : Fld := ⟨Reg.SPD_OUT_SURGE, 31, 31⟩
abbrev F.SPD_OUT_SURGE_P : Fld := ⟨Reg.SPD_OUT_SURGE, 23, 0⟩

/-- The registers of block SPD. -/
def Reg.blockSPD : List RegDesc :=
  [Reg.SPD_STATUS, Reg.SPD_TWIST, Reg.SPD_FREEZE, Reg.SPD_CFG, Reg.SPD_THERM, Reg.SPD_SLEEP, Reg.SPD_WDOG, Reg.SPD_ENV_REJECT, Reg.SPD_PLACE_SEL, Reg.SPD_PLACE_DATA0, Reg.SPD_PLACE_DATA1, Reg.SPD_PLACE_DATA2, Reg.SPD_PLACE_DATA3, Reg.SPD_HEAD_BUDGET, Reg.SPD_HEAD_STORE, Reg.SPD_DIR_MODE, Reg.SPD_OUT_SURGE]

/-! Block TIM (09 R275). -/

def Reg.TIM_STATUS : RegDesc := ⟨0x1A0000, 1, 0, 1, 0, [⟨31, 29, .ro, 0, 0, 7⟩, ⟨28, 28, .ro, 0, 0, 1⟩, ⟨27, 24, .ro, 0xf, 0, 0xf⟩, ⟨23, 16, .ro, 0xf8, 0, 0xff⟩, ⟨15, 8, .ro, 0xff, 0, 0xff⟩, ⟨2, 0, .ro, 0, 0, 7⟩]⟩
abbrev F.TIM_STATUS_STATE : Fld := ⟨Reg.TIM_STATUS, 31, 29⟩
abbrev F.TIM_STATUS_TRACEABLE : Fld := ⟨Reg.TIM_STATUS, 28, 28⟩
abbrev F.TIM_STATUS_PARENT : Fld := ⟨Reg.TIM_STATUS, 27, 24⟩
abbrev F.TIM_STATUS_CLASS : Fld := ⟨Reg.TIM_STATUS, 23, 16⟩
abbrev F.TIM_STATUS_HOPS : Fld := ⟨Reg.TIM_STATUS, 15, 8⟩
abbrev F.TIM_STATUS_SLOT : Fld := ⟨Reg.TIM_STATUS, 2, 0⟩
def Reg.TIM_OFFSET : RegDesc := ⟨0x1A0004, 1, 0, 1, 0, [⟨31, 0, .ro, 0, 0, 0xffffffff⟩]⟩
abbrev F.TIM_OFFSET_OFFSET : Fld := ⟨Reg.TIM_OFFSET, 31, 0⟩
def Reg.TIM_GM : RegDesc := ⟨0x1A0008, 1, 0, 1, 0, [⟨31, 24, .ro, 0xff, 0, 0xff⟩, ⟨11, 0, .ro, 0, 0, 0xfff⟩]⟩
abbrev F.TIM_GM_PRIORITY : Fld := ⟨Reg.TIM_GM, 31, 24⟩
abbrev F.TIM_GM_GM : Fld := ⟨Reg.TIM_GM, 11, 0⟩
def Reg.TIM_NOW_LO : RegDesc := ⟨0x1A0010, 1, 0, 1, 0, [⟨31, 0, .ro, 0, 0, 0xffffffff⟩]⟩
abbrev F.TIM_NOW_LO_NOW : Fld := ⟨Reg.TIM_NOW_LO, 31, 0⟩
def Reg.TIM_NOW_HI : RegDesc := ⟨0x1A0014, 1, 0, 1, 0, [⟨31, 0, .ro, 0, 0, 0xffffffff⟩]⟩
abbrev F.TIM_NOW_HI_NOW : Fld := ⟨Reg.TIM_NOW_HI, 31, 0⟩
def Reg.TIM_SET_LO : RegDesc := ⟨0x1A0018, 1, 0, 1, 0, [⟨31, 0, .rw, 0, 0, 0xffffffff⟩]⟩
abbrev F.TIM_SET_LO_SET : Fld := ⟨Reg.TIM_SET_LO, 31, 0⟩
def Reg.TIM_SET_HI : RegDesc := ⟨0x1A001C, 1, 0, 1, 0, [⟨31, 0, .rw, 0, 0, 0xffffffff⟩]⟩
abbrev F.TIM_SET_HI_SET : Fld := ⟨Reg.TIM_SET_HI, 31, 0⟩
def Reg.TIM_SET_CMD : RegDesc := ⟨0x1A0020, 1, 0, 1, 0, [⟨1, 1, .ro, 0, 0, 1⟩, ⟨0, 0, .wo, 0, 0, 1⟩]⟩
abbrev F.TIM_SET_CMD_REFUSED : Fld := ⟨Reg.TIM_SET_CMD, 1, 1⟩
abbrev F.TIM_SET_CMD_SET : Fld := ⟨Reg.TIM_SET_CMD, 0, 0⟩
def Reg.TIM_CFG : RegDesc := ⟨0x1A0024, 1, 0, 1, 0, [⟨31, 24, .skn, 0x80, 0, 0xff⟩, ⟨23, 16, .skn, 0xa, 1, 0xff⟩, ⟨15, 15, .skn, 1, 0, 1⟩, ⟨14, 14, .skn, 0, 0, 1⟩, ⟨13, 11, .skn, 7, 0, 7⟩]⟩
abbrev F.TIM_CFG_PRIORITY : Fld := ⟨Reg.TIM_CFG, 31, 24⟩
abbrev F.TIM_CFG_HOLDOVER_S : Fld := ⟨Reg.TIM_CFG, 23, 16⟩
abbrev F.TIM_CFG_PLY_PARENT_EN : Fld := ⟨Reg.TIM_CFG, 15, 15⟩
abbrev F.TIM_CFG_TIM_PARENT_EN : Fld := ⟨Reg.TIM_CFG, 14, 14⟩
abbrev F.TIM_CFG_REF_EN : Fld := ⟨Reg.TIM_CFG, 13, 11⟩
def Reg.TIM_STEP : RegDesc := ⟨0x1A0028, 1, 0, 1, 0, [⟨31, 0, .skn, 0x3e8, 0x64, 0x3b9aca00⟩]⟩
abbrev F.TIM_STEP_STEP_NS : Fld := ⟨Reg.TIM_STEP, 31, 0⟩
def Reg.TIM_UTC : RegDesc := ⟨0x1A002C, 1, 0, 1, 0, [⟨15, 8, .skn, 0x25, 0, 0xff⟩, ⟨1, 1, .ro, 0, 0, 1⟩, ⟨0, 0, .ro, 0, 0, 1⟩]⟩
abbrev F.TIM_UTC_TAI_UTC : Fld := ⟨Reg.TIM_UTC, 15, 8⟩
abbrev F.TIM_UTC_LEAP61 : Fld := ⟨Reg.TIM_UTC, 1, 1⟩
abbrev F.TIM_UTC_LEAP59 : Fld := ⟨Reg.TIM_UTC, 0, 0⟩
def Reg.TIM_IRIG_CFG : RegDesc := ⟨0x1A0030, 1, 0, 1, 0, [⟨31, 16, .skn, 0, 0, 0xffff⟩, ⟨4, 4, .skn, 1, 0, 1⟩, ⟨3, 0, .skn, 8, 0, 8⟩]⟩
abbrev F.TIM_IRIG_CFG_IRIG_DELAY_NS : Fld := ⟨Reg.TIM_IRIG_CFG, 31, 16⟩
abbrev F.TIM_IRIG_CFG_IEEE1344 : Fld := ⟨Reg.TIM_IRIG_CFG, 4, 4⟩
abbrev F.TIM_IRIG_CFG_FORMAT : Fld := ⟨Reg.TIM_IRIG_CFG, 3, 0⟩
def Reg.TIM_IRIG_STATUS : RegDesc := ⟨0x1A0034, 1, 0, 1, 0, [⟨31, 30, .ro, 0, 0, 3⟩, ⟨29, 26, .ro, 0xf, 0, 0xf⟩, ⟨15, 0, .ro, 0, 0, 0xffff⟩]⟩
abbrev F.TIM_IRIG_STATUS_STATE : Fld := ⟨Reg.TIM_IRIG_STATUS, 31, 30⟩
abbrev F.TIM_IRIG_STATUS_SEEN : Fld := ⟨Reg.TIM_IRIG_STATUS, 29, 26⟩
abbrev F.TIM_IRIG_STATUS_FRAME_ERR : Fld := ⟨Reg.TIM_IRIG_STATUS, 15, 0⟩
def Reg.TIM_PPS_CFG : RegDesc := ⟨0x1A0038, 1, 0, 1, 0, [⟨31, 31, .skn, 0, 0, 1⟩, ⟨30, 30, .skn, 0, 0, 1⟩, ⟨29, 20, .skn, 0x64, 1, 0x3e7⟩, ⟨19, 0, .skn, 0, 0, 0xfffff⟩]⟩
abbrev F.TIM_PPS_CFG_OUT_EN : Fld := ⟨Reg.TIM_PPS_CFG, 31, 31⟩
abbrev F.TIM_PPS_CFG_OUT_ALWAYS : Fld := ⟨Reg.TIM_PPS_CFG, 30, 30⟩
abbrev F.TIM_PPS_CFG_WIDTH_MS : Fld := ⟨Reg.TIM_PPS_CFG, 29, 20⟩
abbrev F.TIM_PPS_CFG_OFFSET_NS : Fld := ⟨Reg.TIM_PPS_CFG, 19, 0⟩
def Reg.TIM_PPS_STATUS : RegDesc := ⟨0x1A003C, 1, 0, 1, 0, [⟨31, 31, .ro, 0, 0, 1⟩, ⟨15, 0, .ro, 0, 0, 0xffff⟩]⟩
abbrev F.TIM_PPS_STATUS_IN_VALID : Fld := ⟨Reg.TIM_PPS_STATUS, 31, 31⟩
abbrev F.TIM_PPS_STATUS_OUT_OF_WINDOW : Fld := ⟨Reg.TIM_PPS_STATUS, 15, 0⟩
def Reg.TIM_SAMPLE_REJECT : RegDesc := ⟨0x1A0040, 1, 0, 1, 0, [⟨31, 31, .wo, 0, 0, 1⟩, ⟨30, 0, .ro, 0, 0, 0x7fffffff⟩]⟩
abbrev F.TIM_SAMPLE_REJECT_CLEAR : Fld := ⟨Reg.TIM_SAMPLE_REJECT, 31, 31⟩
abbrev F.TIM_SAMPLE_REJECT_COUNT : Fld := ⟨Reg.TIM_SAMPLE_REJECT, 30, 0⟩
def Reg.TIM_PARENT_STRAND : RegDesc := ⟨0x1A0044, 1, 0, 1, 0, [⟨12, 0, .skn, 0, 0, 0x1fff⟩]⟩
abbrev F.TIM_PARENT_STRAND_TIM_PARENT : Fld := ⟨Reg.TIM_PARENT_STRAND, 12, 0⟩

/-- The registers of block TIM. -/
def Reg.blockTIM : List RegDesc :=
  [Reg.TIM_STATUS, Reg.TIM_OFFSET, Reg.TIM_GM, Reg.TIM_NOW_LO, Reg.TIM_NOW_HI, Reg.TIM_SET_LO, Reg.TIM_SET_HI, Reg.TIM_SET_CMD, Reg.TIM_CFG, Reg.TIM_STEP, Reg.TIM_UTC, Reg.TIM_IRIG_CFG, Reg.TIM_IRIG_STATUS, Reg.TIM_PPS_CFG, Reg.TIM_PPS_STATUS, Reg.TIM_SAMPLE_REJECT, Reg.TIM_PARENT_STRAND]

/-! Block SHL (09 R275). -/

def Reg.SHL_PORT_STATUS : RegDesc := ⟨0x1B0000, 1, 0, 1, 0, [⟨31, 31, .ro, 0, 0, 1⟩, ⟨30, 30, .ro, 0, 0, 1⟩, ⟨29, 29, .rw, 0, 0, 1⟩, ⟨15, 0, .ro, 0, 0, 0xffff⟩]⟩
abbrev F.SHL_PORT_STATUS_IN_UP : Fld := ⟨Reg.SHL_PORT_STATUS, 31, 31⟩
abbrev F.SHL_PORT_STATUS_OUT_UP : Fld := ⟨Reg.SHL_PORT_STATUS, 30, 30⟩
abbrev F.SHL_PORT_STATUS_SPILL_FORCE : Fld := ⟨Reg.SHL_PORT_STATUS, 29, 29⟩
abbrev F.SHL_PORT_STATUS_IN_DELAY : Fld := ⟨Reg.SHL_PORT_STATUS, 15, 0⟩
def Reg.SHL_FRAME_ERR : RegDesc := ⟨0x1B0004, 1, 0, 1, 0, [⟨31, 31, .wo, 0, 0, 1⟩, ⟨30, 0, .ro, 0, 0, 0x7fffffff⟩]⟩
abbrev F.SHL_FRAME_ERR_CLEAR : Fld := ⟨Reg.SHL_FRAME_ERR, 31, 31⟩
abbrev F.SHL_FRAME_ERR_COUNT : Fld := ⟨Reg.SHL_FRAME_ERR, 30, 0⟩
def Reg.SHL_RING : RegDesc := ⟨0x1B0010, 1, 0, 1, 0, [⟨31, 25, .ro, 0, 0, 0x7f⟩, ⟨24, 19, .ro, 0, 0, 0x3f⟩, ⟨18, 18, .ro, 0, 0, 1⟩, ⟨17, 11, .ro, 0, 0, 0x7f⟩, ⟨10, 5, .ro, 0, 0, 0x3f⟩, ⟨4, 4, .ro, 0, 0, 1⟩]⟩
abbrev F.SHL_RING_SIZE_A : Fld := ⟨Reg.SHL_RING, 31, 25⟩
abbrev F.SHL_RING_POS_A : Fld := ⟨Reg.SHL_RING, 24, 19⟩
abbrev F.SHL_RING_CHAIN_A : Fld := ⟨Reg.SHL_RING, 18, 18⟩
abbrev F.SHL_RING_SIZE_B : Fld := ⟨Reg.SHL_RING, 17, 11⟩
abbrev F.SHL_RING_POS_B : Fld := ⟨Reg.SHL_RING, 10, 5⟩
abbrev F.SHL_RING_CHAIN_B : Fld := ⟨Reg.SHL_RING, 4, 4⟩
def Reg.SHL_ID : RegDesc := ⟨0x1B0014, 1, 0, 1, 0, [⟨31, 16, .ro, 0, 0, 0xffff⟩, ⟨15, 15, .ro, 0, 0, 1⟩, ⟨11, 0, .ro, 0, 0, 0xfff⟩]⟩
abbrev F.SHL_ID_BASIN_ID : Fld := ⟨Reg.SHL_ID, 31, 16⟩
abbrev F.SHL_ID_CONFLICT : Fld := ⟨Reg.SHL_ID, 15, 15⟩
abbrev F.SHL_ID_HUB_ADDR : Fld := ⟨Reg.SHL_ID, 11, 0⟩
def Reg.SHL_CFG : RegDesc := ⟨0x1B0018, 1, 0, 1, 0, [⟨31, 31, .skn, 0, 0, 1⟩, ⟨30, 30, .skn, 1, 0, 1⟩, ⟨29, 29, .skn, 1, 0, 1⟩, ⟨28, 27, .skn, 1, 0, 2⟩, ⟨26, 16, .skn, 0xf, 1, 0x7ff⟩, ⟨15, 0, .skn, 0x64, 1, 0xffff⟩]⟩
abbrev F.SHL_CFG_GATEWAY_EN : Fld := ⟨Reg.SHL_CFG, 31, 31⟩
abbrev F.SHL_CFG_RESET_RIPPLE_EN : Fld := ⟨Reg.SHL_CFG, 30, 30⟩
abbrev F.SHL_CFG_BARRIER_PART : Fld := ⟨Reg.SHL_CFG, 29, 29⟩
abbrev F.SHL_CFG_REMOTE_ACCESS : Fld := ⟨Reg.SHL_CFG, 28, 27⟩
abbrev F.SHL_CFG_SEG_MAX_M : Fld := ⟨Reg.SHL_CFG, 26, 16⟩
abbrev F.SHL_CFG_REMOTE_TIMEOUT_100US : Fld := ⟨Reg.SHL_CFG, 15, 0⟩
def Reg.SHL_MIN_LEAD : RegDesc := ⟨0x1B001C, 1, 0, 1, 0, [⟨31, 0, .ro, 0x6924, 0, 0xffffffff⟩]⟩
abbrev F.SHL_MIN_LEAD_MIN_LEAD_NS : Fld := ⟨Reg.SHL_MIN_LEAD, 31, 0⟩
def Reg.SHL_CMD : RegDesc := ⟨0x1B0020, 1, 0, 1, 0, [⟨31, 28, .wo, 0, 0, 0xf⟩, ⟨27, 27, .wo, 0, 0, 1⟩, ⟨15, 0, .wo, 0, 0, 0xffff⟩]⟩
abbrev F.SHL_CMD_OP : Fld := ⟨Reg.SHL_CMD, 31, 28⟩
abbrev F.SHL_CMD_BASIN : Fld := ⟨Reg.SHL_CMD, 27, 27⟩
abbrev F.SHL_CMD_OP_ID : Fld := ⟨Reg.SHL_CMD, 15, 0⟩
def Reg.SHL_CMD_ARG_LO : RegDesc := ⟨0x1B0024, 1, 0, 1, 0, [⟨31, 0, .rw, 0, 0, 0xffffffff⟩]⟩
abbrev F.SHL_CMD_ARG_LO_ARG : Fld := ⟨Reg.SHL_CMD_ARG_LO, 31, 0⟩
def Reg.SHL_CMD_ARG_HI : RegDesc := ⟨0x1B0028, 1, 0, 1, 0, [⟨31, 0, .rw, 0, 0, 0xffffffff⟩]⟩
abbrev F.SHL_CMD_ARG_HI_ARG : Fld := ⟨Reg.SHL_CMD_ARG_HI, 31, 0⟩
def Reg.SHL_CMD_STATUS : RegDesc := ⟨0x1B002C, 1, 0, 1, 0, [⟨31, 24, .ro, 0, 0, 0xff⟩, ⟨15, 0, .ro, 0, 0, 0xffff⟩]⟩
abbrev F.SHL_CMD_STATUS_RESULT : Fld := ⟨Reg.SHL_CMD_STATUS, 31, 24⟩
abbrev F.SHL_CMD_STATUS_SEQ : Fld := ⟨Reg.SHL_CMD_STATUS, 15, 0⟩
def Reg.SHL_SNAP_CTL : RegDesc := ⟨0x1B0040, 1, 0, 1, 0, [⟨31, 31, .ro, 0, 0, 1⟩, ⟨30, 30, .ro, 0, 0, 1⟩, ⟨29, 29, .wo, 0, 0, 1⟩, ⟨15, 0, .ro, 0, 0, 0xffff⟩]⟩
abbrev F.SHL_SNAP_CTL_VALID : Fld := ⟨Reg.SHL_SNAP_CTL, 31, 31⟩
abbrev F.SHL_SNAP_CTL_OVERWRITE : Fld := ⟨Reg.SHL_SNAP_CTL, 30, 30⟩
abbrev F.SHL_SNAP_CTL_ACK : Fld := ⟨Reg.SHL_SNAP_CTL, 29, 29⟩
abbrev F.SHL_SNAP_CTL_OP_ID : Fld := ⟨Reg.SHL_SNAP_CTL, 15, 0⟩
def Reg.SHL_SNAP_T_LO : RegDesc := ⟨0x1B0044, 1, 0, 1, 0, [⟨31, 0, .ro, 0, 0, 0xffffffff⟩]⟩
abbrev F.SHL_SNAP_T_LO_T : Fld := ⟨Reg.SHL_SNAP_T_LO, 31, 0⟩
def Reg.SHL_SNAP_T_HI : RegDesc := ⟨0x1B0048, 1, 0, 1, 0, [⟨31, 0, .ro, 0, 0, 0xffffffff⟩]⟩
abbrev F.SHL_SNAP_T_HI_T : Fld := ⟨Reg.SHL_SNAP_T_HI, 31, 0⟩
def Reg.SHL_SNAP_ADDR : RegDesc := ⟨0x1B0100, 128, 4, 1, 0, [⟨23, 0, .skn, 0, 0, 0xffffff⟩]⟩
abbrev F.SHL_SNAP_ADDR_OFFSET : Fld := ⟨Reg.SHL_SNAP_ADDR, 23, 0⟩
def Reg.SHL_SNAP_DATA : RegDesc := ⟨0x1B0300, 128, 4, 1, 0, [⟨31, 0, .ro, 0, 0, 0xffffffff⟩]⟩
abbrev F.SHL_SNAP_DATA_DATA : Fld := ⟨Reg.SHL_SNAP_DATA, 31, 0⟩
def Reg.SHL_RRA_CMD : RegDesc := ⟨0x1B0800, 1, 0, 1, 0, [⟨31, 28, .wo, 0, 0, 0xf⟩, ⟨27, 27, .wo, 0, 0, 1⟩, ⟨26, 24, .wo, 0, 0, 7⟩, ⟨23, 12, .wo, 0, 0, 0xfff⟩, ⟨11, 11, .wo, 0, 0, 1⟩, ⟨8, 0, .wo, 0, 0, 0x1ff⟩]⟩
abbrev F.SHL_RRA_CMD_OP : Fld := ⟨Reg.SHL_RRA_CMD, 31, 28⟩
abbrev F.SHL_RRA_CMD_VIA_STRAND : Fld := ⟨Reg.SHL_RRA_CMD, 27, 27⟩
abbrev F.SHL_RRA_CMD_SLOT : Fld := ⟨Reg.SHL_RRA_CMD, 26, 24⟩
abbrev F.SHL_RRA_CMD_DST : Fld := ⟨Reg.SHL_RRA_CMD, 23, 12⟩
abbrev F.SHL_RRA_CMD_NEIGHBOUR : Fld := ⟨Reg.SHL_RRA_CMD, 11, 11⟩
abbrev F.SHL_RRA_CMD_COUNT : Fld := ⟨Reg.SHL_RRA_CMD, 8, 0⟩
def Reg.SHL_RRA_ADDR : RegDesc := ⟨0x1B0804, 1, 0, 1, 0, [⟨26, 0, .rw, 0, 0, 0x7ffffff⟩]⟩
abbrev F.SHL_RRA_ADDR_ADDRESS : Fld := ⟨Reg.SHL_RRA_ADDR, 26, 0⟩
def Reg.SHL_RRA_STRAND : RegDesc := ⟨0x1B0808, 1, 0, 1, 0, [⟨15, 0, .rw, 0, 0, 0xffff⟩]⟩
abbrev F.SHL_RRA_STRAND_INDEX : Fld := ⟨Reg.SHL_RRA_STRAND, 15, 0⟩
def Reg.SHL_RRA_STATUS : RegDesc := ⟨0x1B080C, 1, 0, 1, 0, [⟨31, 31, .ro, 0, 0, 1⟩, ⟨23, 16, .ro, 0, 0, 0xff⟩, ⟨15, 0, .ro, 0, 0, 0xffff⟩]⟩
abbrev F.SHL_RRA_STATUS_BUSY : Fld := ⟨Reg.SHL_RRA_STATUS, 31, 31⟩
abbrev F.SHL_RRA_STATUS_RESULT : Fld := ⟨Reg.SHL_RRA_STATUS, 23, 16⟩
abbrev F.SHL_RRA_STATUS_SEQ : Fld := ⟨Reg.SHL_RRA_STATUS, 15, 0⟩
def Reg.SHL_NEAR_MISS : RegDesc := ⟨0x1B0810, 1, 0, 1, 0, [⟨31, 31, .wo, 0, 0, 1⟩, ⟨30, 0, .ro, 0, 0, 0x7fffffff⟩]⟩
abbrev F.SHL_NEAR_MISS_CLEAR : Fld := ⟨Reg.SHL_NEAR_MISS, 31, 31⟩
abbrev F.SHL_NEAR_MISS_COUNT : Fld := ⟨Reg.SHL_NEAR_MISS, 30, 0⟩
def Reg.SHL_LATE : RegDesc := ⟨0x1B0814, 1, 0, 1, 0, [⟨31, 31, .wo, 0, 0, 1⟩, ⟨30, 0, .ro, 0, 0, 0x7fffffff⟩]⟩
abbrev F.SHL_LATE_CLEAR : Fld := ⟨Reg.SHL_LATE, 31, 31⟩
abbrev F.SHL_LATE_COUNT : Fld := ⟨Reg.SHL_LATE, 30, 0⟩
def Reg.SHL_RIPPLE_ERR : RegDesc := ⟨0x1B0818, 1, 0, 1, 0, [⟨31, 31, .wo, 0, 0, 1⟩, ⟨30, 0, .ro, 0, 0, 0x7fffffff⟩]⟩
abbrev F.SHL_RIPPLE_ERR_CLEAR : Fld := ⟨Reg.SHL_RIPPLE_ERR, 31, 31⟩
abbrev F.SHL_RIPPLE_ERR_COUNT : Fld := ⟨Reg.SHL_RIPPLE_ERR, 30, 0⟩
def Reg.SHL_RRA_DATA : RegDesc := ⟨0x1B0C00, 256, 4, 1, 0, [⟨31, 0, .rw, 0, 0, 0xffffffff⟩]⟩
abbrev F.SHL_RRA_DATA_DATA : Fld := ⟨Reg.SHL_RRA_DATA, 31, 0⟩

/-- The registers of block SHL. -/
def Reg.blockSHL : List RegDesc :=
  [Reg.SHL_PORT_STATUS, Reg.SHL_FRAME_ERR, Reg.SHL_RING, Reg.SHL_ID, Reg.SHL_CFG, Reg.SHL_MIN_LEAD, Reg.SHL_CMD, Reg.SHL_CMD_ARG_LO, Reg.SHL_CMD_ARG_HI, Reg.SHL_CMD_STATUS, Reg.SHL_SNAP_CTL, Reg.SHL_SNAP_T_LO, Reg.SHL_SNAP_T_HI, Reg.SHL_SNAP_ADDR, Reg.SHL_SNAP_DATA, Reg.SHL_RRA_CMD, Reg.SHL_RRA_ADDR, Reg.SHL_RRA_STRAND, Reg.SHL_RRA_STATUS, Reg.SHL_NEAR_MISS, Reg.SHL_LATE, Reg.SHL_RIPPLE_ERR, Reg.SHL_RRA_DATA]

end Sys2Proof.Machine
end

