-- ==== Sys2Proof/Machine/CatalogC.lean ====
section
/-! DEFINITION. The register catalogue: the registers of blocks DSP, BRG, VFN, USB as their tables of the spec lay them down. -/

namespace Sys2Proof.Machine

/-! Block DSP (11 R326). -/

def Reg.DSP_HEAD_CTL : RegDesc := ⟨0x1C0000, 2, 0x1000, 1, 0, [⟨31, 31, .rw, 0, 0, 1⟩, ⟨30, 30, .skn, 0, 0, 1⟩, ⟨29, 28, .skn, 0, 0, 3⟩, ⟨27, 27, .skn, 0, 0, 1⟩, ⟨26, 26, .rw, 0, 0, 1⟩, ⟨25, 25, .wo, 0, 0, 1⟩, ⟨11, 0, .skn, 0xfff, 0, 0xfff⟩]⟩
abbrev F.DSP_HEAD_CTL_ENABLE : Fld := ⟨Reg.DSP_HEAD_CTL, 31, 31⟩
abbrev F.DSP_HEAD_CTL_VRR_EN : Fld := ⟨Reg.DSP_HEAD_CTL, 30, 30⟩
abbrev F.DSP_HEAD_CTL_STORE : Fld := ⟨Reg.DSP_HEAD_CTL, 29, 28⟩
abbrev F.DSP_HEAD_CTL_SOURCE : Fld := ⟨Reg.DSP_HEAD_CTL, 27, 27⟩
abbrev F.DSP_HEAD_CTL_COMMIT_EVT : Fld := ⟨Reg.DSP_HEAD_CTL, 26, 26⟩
abbrev F.DSP_HEAD_CTL_REFRESH : Fld := ⟨Reg.DSP_HEAD_CTL, 25, 25⟩
abbrev F.DSP_HEAD_CTL_SRC_SN : Fld := ⟨Reg.DSP_HEAD_CTL, 11, 0⟩
def Reg.DSP_HEAD_T_H0 : RegDesc := ⟨0x1C0010, 2, 0x1000, 1, 0, [⟨31, 16, .skn, 0, 0, 0xffff⟩, ⟨15, 0, .skn, 0, 0, 0xffff⟩]⟩
abbrev F.DSP_HEAD_T_H0_H_ACTIVE : Fld := ⟨Reg.DSP_HEAD_T_H0, 31, 16⟩
abbrev F.DSP_HEAD_T_H0_H_FP : Fld := ⟨Reg.DSP_HEAD_T_H0, 15, 0⟩
def Reg.DSP_HEAD_T_H1 : RegDesc := ⟨0x1C0014, 2, 0x1000, 1, 0, [⟨31, 16, .skn, 0, 0, 0xffff⟩, ⟨15, 0, .skn, 0, 0, 0xffff⟩]⟩
abbrev F.DSP_HEAD_T_H1_H_SYNC : Fld := ⟨Reg.DSP_HEAD_T_H1, 31, 16⟩
abbrev F.DSP_HEAD_T_H1_H_BP : Fld := ⟨Reg.DSP_HEAD_T_H1, 15, 0⟩
def Reg.DSP_HEAD_T_V0 : RegDesc := ⟨0x1C0018, 2, 0x1000, 1, 0, [⟨31, 16, .skn, 0, 0, 0xffff⟩, ⟨15, 0, .skn, 0, 0, 0xffff⟩]⟩
abbrev F.DSP_HEAD_T_V0_V_ACTIVE : Fld := ⟨Reg.DSP_HEAD_T_V0, 31, 16⟩
abbrev F.DSP_HEAD_T_V0_V_FP : Fld := ⟨Reg.DSP_HEAD_T_V0, 15, 0⟩
def Reg.DSP_HEAD_T_V1 : RegDesc := ⟨0x1C001C, 2, 0x1000, 1, 0, [⟨31, 16, .skn, 0, 0, 0xffff⟩, ⟨15, 0, .skn, 0, 0, 0xffff⟩]⟩
abbrev F.DSP_HEAD_T_V1_V_SYNC : Fld := ⟨Reg.DSP_HEAD_T_V1, 31, 16⟩
abbrev F.DSP_HEAD_T_V1_V_BP : Fld := ⟨Reg.DSP_HEAD_T_V1, 15, 0⟩
def Reg.DSP_HEAD_T_VRR : RegDesc := ⟨0x1C0020, 2, 0x1000, 1, 0, [⟨31, 16, .skn, 0, 0, 0xffff⟩, ⟨15, 0, .skn, 0, 0, 0xffff⟩]⟩
abbrev F.DSP_HEAD_T_VRR_VBLANK_MAX : Fld := ⟨Reg.DSP_HEAD_T_VRR, 31, 16⟩
abbrev F.DSP_HEAD_T_VRR_VBLANK_MIN : Fld := ⟨Reg.DSP_HEAD_T_VRR, 15, 0⟩
def Reg.DSP_HEAD_T_PIX : RegDesc := ⟨0x1C0024, 2, 0x1000, 1, 0, [⟨31, 28, .skn, 0, 0, 0xf⟩, ⟨27, 26, .skn, 2, 0, 3⟩, ⟨25, 25, .skn, 0, 0, 1⟩, ⟨24, 24, .skn, 0, 0, 1⟩, ⟨21, 0, .skn, 0, 0, 0x3fffff⟩]⟩
abbrev F.DSP_HEAD_T_PIX_LINK_RATE : Fld := ⟨Reg.DSP_HEAD_T_PIX, 31, 28⟩
abbrev F.DSP_HEAD_T_PIX_LANES : Fld := ⟨Reg.DSP_HEAD_T_PIX, 27, 26⟩
abbrev F.DSP_HEAD_T_PIX_HS_POL : Fld := ⟨Reg.DSP_HEAD_T_PIX, 25, 25⟩
abbrev F.DSP_HEAD_T_PIX_VS_POL : Fld := ⟨Reg.DSP_HEAD_T_PIX, 24, 24⟩
abbrev F.DSP_HEAD_T_PIX_PIXEL_KHZ : Fld := ⟨Reg.DSP_HEAD_T_PIX, 21, 0⟩
def Reg.DSP_HEAD_T_FMT : RegDesc := ⟨0x1C0028, 2, 0x1000, 1, 0, [⟨2, 0, .skn, 0, 0, 7⟩]⟩
abbrev F.DSP_HEAD_T_FMT_FORMAT : Fld := ⟨Reg.DSP_HEAD_T_FMT, 2, 0⟩
def Reg.DSP_HEAD_APPLY : RegDesc := ⟨0x1C002C, 2, 0x1000, 1, 0, [⟨31, 28, .ro, 0, 0, 0xf⟩, ⟨27, 27, .ro, 0, 0, 1⟩, ⟨0, 0, .wo, 0, 0, 1⟩]⟩
abbrev F.DSP_HEAD_APPLY_RESULT : Fld := ⟨Reg.DSP_HEAD_APPLY, 31, 28⟩
abbrev F.DSP_HEAD_APPLY_PENDING : Fld := ⟨Reg.DSP_HEAD_APPLY, 27, 27⟩
abbrev F.DSP_HEAD_APPLY_TIMING_APPLY : Fld := ⟨Reg.DSP_HEAD_APPLY, 0, 0⟩
def Reg.DSP_HEAD_RUN_SIZE : RegDesc := ⟨0x1C0030, 2, 0x1000, 1, 0, [⟨31, 16, .ro, 0, 0, 0xffff⟩, ⟨15, 0, .ro, 0, 0, 0xffff⟩]⟩
abbrev F.DSP_HEAD_RUN_SIZE_H_ACTIVE : Fld := ⟨Reg.DSP_HEAD_RUN_SIZE, 31, 16⟩
abbrev F.DSP_HEAD_RUN_SIZE_V_ACTIVE : Fld := ⟨Reg.DSP_HEAD_RUN_SIZE, 15, 0⟩
def Reg.DSP_HEAD_RUN_LINK : RegDesc := ⟨0x1C0034, 2, 0x1000, 1, 0, [⟨31, 28, .ro, 0, 0, 0xf⟩, ⟨27, 26, .ro, 0, 0, 3⟩, ⟨25, 25, .ro, 0, 0, 1⟩, ⟨24, 22, .ro, 0, 0, 7⟩, ⟨21, 0, .ro, 0, 0, 0x3fffff⟩]⟩
abbrev F.DSP_HEAD_RUN_LINK_LINK_RATE : Fld := ⟨Reg.DSP_HEAD_RUN_LINK, 31, 28⟩
abbrev F.DSP_HEAD_RUN_LINK_LANES : Fld := ⟨Reg.DSP_HEAD_RUN_LINK, 27, 26⟩
abbrev F.DSP_HEAD_RUN_LINK_VRR : Fld := ⟨Reg.DSP_HEAD_RUN_LINK, 25, 25⟩
abbrev F.DSP_HEAD_RUN_LINK_FORMAT : Fld := ⟨Reg.DSP_HEAD_RUN_LINK, 24, 22⟩
abbrev F.DSP_HEAD_RUN_LINK_PIXEL_KHZ : Fld := ⟨Reg.DSP_HEAD_RUN_LINK, 21, 0⟩
def Reg.DSP_HEAD_FB_LO : RegDesc := ⟨0x1C0040, 2, 0x1000, 1, 0, [⟨31, 0, .rw, 0, 0, 0xffffffff⟩]⟩
abbrev F.DSP_HEAD_FB_LO_BASE : Fld := ⟨Reg.DSP_HEAD_FB_LO, 31, 0⟩
def Reg.DSP_HEAD_FB_HI : RegDesc := ⟨0x1C0044, 2, 0x1000, 1, 0, [⟨31, 0, .rw, 0, 0, 0xffffffff⟩]⟩
abbrev F.DSP_HEAD_FB_HI_BASE : Fld := ⟨Reg.DSP_HEAD_FB_HI, 31, 0⟩
def Reg.DSP_HEAD_STRIDE : RegDesc := ⟨0x1C0048, 2, 0x1000, 1, 0, [⟨23, 0, .rw, 0, 0, 0xffffff⟩]⟩
abbrev F.DSP_HEAD_STRIDE_STRIDE : Fld := ⟨Reg.DSP_HEAD_STRIDE, 23, 0⟩
def Reg.DSP_HEAD_DIRTY_LO : RegDesc := ⟨0x1C004C, 2, 0x1000, 1, 0, [⟨31, 0, .rw, 0, 0, 0xffffffff⟩]⟩
abbrev F.DSP_HEAD_DIRTY_LO_DIRTY : Fld := ⟨Reg.DSP_HEAD_DIRTY_LO, 31, 0⟩
def Reg.DSP_HEAD_DIRTY_HI : RegDesc := ⟨0x1C0050, 2, 0x1000, 1, 0, [⟨31, 0, .rw, 0, 0, 0xffffffff⟩]⟩
abbrev F.DSP_HEAD_DIRTY_HI_DIRTY : Fld := ⟨Reg.DSP_HEAD_DIRTY_HI, 31, 0⟩
def Reg.DSP_HEAD_COMMIT : RegDesc := ⟨0x1C0054, 2, 0x1000, 1, 0, [⟨31, 31, .wo, 0, 0, 1⟩, ⟨15, 0, .wo, 0, 0, 0xffff⟩]⟩
abbrev F.DSP_HEAD_COMMIT_DIRTY_ALL : Fld := ⟨Reg.DSP_HEAD_COMMIT, 31, 31⟩
abbrev F.DSP_HEAD_COMMIT_SEQ : Fld := ⟨Reg.DSP_HEAD_COMMIT, 15, 0⟩
def Reg.DSP_HEAD_COMMIT_STATUS : RegDesc := ⟨0x1C0058, 2, 0x1000, 1, 0, [⟨31, 30, .ro, 0, 0, 3⟩, ⟨29, 24, .ro, 0, 0, 0x3f⟩, ⟨15, 0, .ro, 0, 0, 0xffff⟩]⟩
abbrev F.DSP_HEAD_COMMIT_STATUS_RESULT : Fld := ⟨Reg.DSP_HEAD_COMMIT_STATUS, 31, 30⟩
abbrev F.DSP_HEAD_COMMIT_STATUS_REASON : Fld := ⟨Reg.DSP_HEAD_COMMIT_STATUS, 29, 24⟩
abbrev F.DSP_HEAD_COMMIT_STATUS_SEQ : Fld := ⟨Reg.DSP_HEAD_COMMIT_STATUS, 15, 0⟩
def Reg.DSP_HEAD_COMMIT_FRAME : RegDesc := ⟨0x1C005C, 2, 0x1000, 1, 0, [⟨31, 0, .ro, 0xffffffff, 0, 0xffffffff⟩]⟩
abbrev F.DSP_HEAD_COMMIT_FRAME_FRAME : Fld := ⟨Reg.DSP_HEAD_COMMIT_FRAME, 31, 0⟩
def Reg.DSP_HEAD_RELEASED : RegDesc := ⟨0x1C0060, 2, 0x1000, 1, 0, [⟨15, 0, .ro, 0, 0, 0xffff⟩]⟩
abbrev F.DSP_HEAD_RELEASED_SEQ : Fld := ⟨Reg.DSP_HEAD_RELEASED, 15, 0⟩
def Reg.DSP_HEAD_WIN_LO : RegDesc := ⟨0x1C0068, 2, 0x1000, 1, 0, [⟨31, 0, .skn, 0, 0, 0xffffffff⟩]⟩
abbrev F.DSP_HEAD_WIN_LO_WIN_BASE : Fld := ⟨Reg.DSP_HEAD_WIN_LO, 31, 0⟩
def Reg.DSP_HEAD_WIN_HI : RegDesc := ⟨0x1C006C, 2, 0x1000, 1, 0, [⟨31, 0, .skn, 0, 0, 0xffffffff⟩]⟩
abbrev F.DSP_HEAD_WIN_HI_WIN_BASE : Fld := ⟨Reg.DSP_HEAD_WIN_HI, 31, 0⟩
def Reg.DSP_HEAD_WIN_SIZE : RegDesc := ⟨0x1C0070, 2, 0x1000, 1, 0, [⟨31, 0, .skn, 0, 0, 0xffffffff⟩]⟩
abbrev F.DSP_HEAD_WIN_SIZE_WIN_SIZE : Fld := ⟨Reg.DSP_HEAD_WIN_SIZE, 31, 0⟩
def Reg.DSP_HEAD_RES_CFG : RegDesc := ⟨0x1C0080, 2, 0x1000, 1, 0, [⟨31, 22, .skn, 0x1e0, 0, 0x3ff⟩, ⟨21, 12, .skn, 0x80, 0, 0x3ff⟩]⟩
abbrev F.DSP_HEAD_RES_CFG_HIGH_WM : Fld := ⟨Reg.DSP_HEAD_RES_CFG, 31, 22⟩
abbrev F.DSP_HEAD_RES_CFG_LOW_WM : Fld := ⟨Reg.DSP_HEAD_RES_CFG, 21, 12⟩
def Reg.DSP_HEAD_LT_CFG : RegDesc := ⟨0x1C0084, 2, 0x1000, 1, 0, [⟨31, 16, .skn, 0x3e8, 0, 0xffff⟩, ⟨4, 0, .skn, 4, 1, 0x10⟩]⟩
abbrev F.DSP_HEAD_LT_CFG_LT_MARGIN_NS : Fld := ⟨Reg.DSP_HEAD_LT_CFG, 31, 16⟩
abbrev F.DSP_HEAD_LT_CFG_PREFETCH_LEAD : Fld := ⟨Reg.DSP_HEAD_LT_CFG, 4, 0⟩
def Reg.DSP_HEAD_STATUS : RegDesc := ⟨0x1C0088, 2, 0x1000, 1, 0, [⟨31, 29, .ro, 0, 0, 7⟩, ⟨28, 24, .ro, 4, 0, 0x1f⟩, ⟨19, 0, .ro, 0, 0, 0xfffff⟩]⟩
abbrev F.DSP_HEAD_STATUS_STATE : Fld := ⟨Reg.DSP_HEAD_STATUS, 31, 29⟩
abbrev F.DSP_HEAD_STATUS_LEAD : Fld := ⟨Reg.DSP_HEAD_STATUS, 28, 24⟩
abbrev F.DSP_HEAD_STATUS_FILL : Fld := ⟨Reg.DSP_HEAD_STATUS, 19, 0⟩
def Reg.DSP_HEAD_LINE : RegDesc := ⟨0x1C008C, 2, 0x1000, 1, 0, [⟨15, 0, .ro, 0, 0, 0xffff⟩]⟩
abbrev F.DSP_HEAD_LINE_LINE : Fld := ⟨Reg.DSP_HEAD_LINE, 15, 0⟩
def Reg.DSP_HEAD_FRAME : RegDesc := ⟨0x1C0090, 2, 0x1000, 1, 0, [⟨31, 0, .ro, 0, 0, 0xffffffff⟩]⟩
abbrev F.DSP_HEAD_FRAME_FRAME : Fld := ⟨Reg.DSP_HEAD_FRAME, 31, 0⟩
def Reg.DSP_HEAD_LT : RegDesc := ⟨0x1C0094, 2, 0x1000, 1, 0, [⟨31, 0, .ro, 0, 0, 0xffffffff⟩]⟩
abbrev F.DSP_HEAD_LT_LT_NS : Fld := ⟨Reg.DSP_HEAD_LT, 31, 0⟩
def Reg.DSP_HEAD_EST : RegDesc := ⟨0x1C0098, 2, 0x1000, 1, 0, [⟨31, 0, .ro, 0, 0, 0xffffffff⟩]⟩
abbrev F.DSP_HEAD_EST_EST_INTERVAL_US : Fld := ⟨Reg.DSP_HEAD_EST, 31, 0⟩
def Reg.DSP_HEAD_MIRROR : RegDesc := ⟨0x1C00A0, 2, 0x1000, 1, 0, [⟨31, 24, .skn, 0x78, 0, 0xff⟩, ⟨17, 16, .ro, 0, 0, 3⟩, ⟨15, 0, .ro, 0, 0, 0xffff⟩]⟩
abbrev F.DSP_HEAD_MIRROR_FULL_EVERY : Fld := ⟨Reg.DSP_HEAD_MIRROR, 31, 24⟩
abbrev F.DSP_HEAD_MIRROR_REGION : Fld := ⟨Reg.DSP_HEAD_MIRROR, 17, 16⟩
abbrev F.DSP_HEAD_MIRROR_SOURCE_FRAME : Fld := ⟨Reg.DSP_HEAD_MIRROR, 15, 0⟩
def Reg.DSP_HEAD_MREGION_LO : RegDesc := ⟨0x1C00C0, 2, 0x1000, 4, 0x10, [⟨31, 0, .skn, 0, 0, 0xffffffff⟩]⟩
abbrev F.DSP_HEAD_MREGION_LO_BASE : Fld := ⟨Reg.DSP_HEAD_MREGION_LO, 31, 0⟩
def Reg.DSP_HEAD_MREGION_HI : RegDesc := ⟨0x1C00C4, 2, 0x1000, 4, 0x10, [⟨31, 0, .skn, 0, 0, 0xffffffff⟩]⟩
abbrev F.DSP_HEAD_MREGION_HI_BASE : Fld := ⟨Reg.DSP_HEAD_MREGION_HI, 31, 0⟩
def Reg.DSP_HEAD_MREGION_SIZE : RegDesc := ⟨0x1C00C8, 2, 0x1000, 4, 0x10, [⟨31, 0, .skn, 0, 0, 0xffffffff⟩]⟩
abbrev F.DSP_HEAD_MREGION_SIZE_SIZE : Fld := ⟨Reg.DSP_HEAD_MREGION_SIZE, 31, 0⟩
def Reg.DSP_HEAD_UNDERRUN : RegDesc := ⟨0x1C0100, 2, 0x1000, 1, 0, [⟨31, 31, .wo, 0, 0, 1⟩, ⟨30, 0, .ro, 0, 0, 0x7fffffff⟩]⟩
abbrev F.DSP_HEAD_UNDERRUN_CLEAR : Fld := ⟨Reg.DSP_HEAD_UNDERRUN, 31, 31⟩
abbrev F.DSP_HEAD_UNDERRUN_COUNT : Fld := ⟨Reg.DSP_HEAD_UNDERRUN, 30, 0⟩
def Reg.DSP_HEAD_REPEATS : RegDesc := ⟨0x1C0104, 2, 0x1000, 1, 0, [⟨31, 31, .wo, 0, 0, 1⟩, ⟨30, 0, .ro, 0, 0, 0x7fffffff⟩]⟩
abbrev F.DSP_HEAD_REPEATS_CLEAR : Fld := ⟨Reg.DSP_HEAD_REPEATS, 31, 31⟩
abbrev F.DSP_HEAD_REPEATS_COUNT : Fld := ⟨Reg.DSP_HEAD_REPEATS, 30, 0⟩
def Reg.DSP_HEAD_GAPS : RegDesc := ⟨0x1C0108, 2, 0x1000, 1, 0, [⟨31, 31, .wo, 0, 0, 1⟩, ⟨30, 0, .ro, 0, 0, 0x7fffffff⟩]⟩
abbrev F.DSP_HEAD_GAPS_CLEAR : Fld := ⟨Reg.DSP_HEAD_GAPS, 31, 31⟩
abbrev F.DSP_HEAD_GAPS_COUNT : Fld := ⟨Reg.DSP_HEAD_GAPS, 30, 0⟩
def Reg.DSP_HEAD_COALESCED : RegDesc := ⟨0x1C010C, 2, 0x1000, 1, 0, [⟨31, 31, .wo, 0, 0, 1⟩, ⟨30, 0, .ro, 0, 0, 0x7fffffff⟩]⟩
abbrev F.DSP_HEAD_COALESCED_CLEAR : Fld := ⟨Reg.DSP_HEAD_COALESCED, 31, 31⟩
abbrev F.DSP_HEAD_COALESCED_COUNT : Fld := ⟨Reg.DSP_HEAD_COALESCED, 30, 0⟩
def Reg.DSP_HEAD_TILE_DISCARD : RegDesc := ⟨0x1C0110, 2, 0x1000, 1, 0, [⟨31, 31, .wo, 0, 0, 1⟩, ⟨30, 0, .ro, 0, 0, 0x7fffffff⟩]⟩
abbrev F.DSP_HEAD_TILE_DISCARD_CLEAR : Fld := ⟨Reg.DSP_HEAD_TILE_DISCARD, 31, 31⟩
abbrev F.DSP_HEAD_TILE_DISCARD_COUNT : Fld := ⟨Reg.DSP_HEAD_TILE_DISCARD, 30, 0⟩
def Reg.DSP_HEAD_MOVE_DISCARD : RegDesc := ⟨0x1C0114, 2, 0x1000, 1, 0, [⟨31, 31, .wo, 0, 0, 1⟩, ⟨30, 0, .ro, 0, 0, 0x7fffffff⟩]⟩
abbrev F.DSP_HEAD_MOVE_DISCARD_CLEAR : Fld := ⟨Reg.DSP_HEAD_MOVE_DISCARD, 31, 31⟩
abbrev F.DSP_HEAD_MOVE_DISCARD_COUNT : Fld := ⟨Reg.DSP_HEAD_MOVE_DISCARD, 30, 0⟩
def Reg.DSP_HEAD_NEAR_MISS : RegDesc := ⟨0x1C0118, 2, 0x1000, 1, 0, [⟨31, 31, .wo, 0, 0, 1⟩, ⟨15, 0, .ro, 0, 0, 0xffff⟩]⟩
abbrev F.DSP_HEAD_NEAR_MISS_CLEAR : Fld := ⟨Reg.DSP_HEAD_NEAR_MISS, 31, 31⟩
abbrev F.DSP_HEAD_NEAR_MISS_COUNT : Fld := ⟨Reg.DSP_HEAD_NEAR_MISS, 15, 0⟩
def Reg.DSP_HEAD_AUX_CMD : RegDesc := ⟨0x1C0200, 2, 0x1000, 1, 0, [⟨31, 28, .wo, 0, 0, 0xf⟩, ⟨27, 24, .wo, 0, 0, 0xf⟩, ⟨19, 0, .wo, 0, 0, 0xfffff⟩]⟩
abbrev F.DSP_HEAD_AUX_CMD_REQ : Fld := ⟨Reg.DSP_HEAD_AUX_CMD, 31, 28⟩
abbrev F.DSP_HEAD_AUX_CMD_LEN : Fld := ⟨Reg.DSP_HEAD_AUX_CMD, 27, 24⟩
abbrev F.DSP_HEAD_AUX_CMD_ADDRESS : Fld := ⟨Reg.DSP_HEAD_AUX_CMD, 19, 0⟩
def Reg.DSP_HEAD_AUX_STATUS : RegDesc := ⟨0x1C0204, 2, 0x1000, 1, 0, [⟨31, 31, .ro, 0, 0, 1⟩, ⟨30, 28, .ro, 0, 0, 7⟩, ⟨15, 0, .ro, 0, 0, 0xffff⟩]⟩
abbrev F.DSP_HEAD_AUX_STATUS_BUSY : Fld := ⟨Reg.DSP_HEAD_AUX_STATUS, 31, 31⟩
abbrev F.DSP_HEAD_AUX_STATUS_RESULT : Fld := ⟨Reg.DSP_HEAD_AUX_STATUS, 30, 28⟩
abbrev F.DSP_HEAD_AUX_STATUS_SEQ : Fld := ⟨Reg.DSP_HEAD_AUX_STATUS, 15, 0⟩
def Reg.DSP_HEAD_AUX_DATA : RegDesc := ⟨0x1C0208, 2, 0x1000, 4, 4, [⟨31, 0, .rw, 0, 0, 0xffffffff⟩]⟩
abbrev F.DSP_HEAD_AUX_DATA_DATA : Fld := ⟨Reg.DSP_HEAD_AUX_DATA, 31, 0⟩
def Reg.DSP_HEAD_SINK : RegDesc := ⟨0x1C0220, 2, 0x1000, 1, 0, [⟨31, 31, .ro, 0, 0, 1⟩, ⟨30, 30, .ro, 0, 0, 1⟩, ⟨29, 26, .ro, 0, 0, 0xf⟩, ⟨25, 24, .ro, 0, 0, 3⟩]⟩
abbrev F.DSP_HEAD_SINK_HPD : Fld := ⟨Reg.DSP_HEAD_SINK, 31, 31⟩
abbrev F.DSP_HEAD_SINK_VRR_CAP : Fld := ⟨Reg.DSP_HEAD_SINK, 30, 30⟩
abbrev F.DSP_HEAD_SINK_MAX_RATE : Fld := ⟨Reg.DSP_HEAD_SINK, 29, 26⟩
abbrev F.DSP_HEAD_SINK_MAX_LANES : Fld := ⟨Reg.DSP_HEAD_SINK, 25, 24⟩

/-- The registers of block DSP. -/
def Reg.blockDSP : List RegDesc :=
  [Reg.DSP_HEAD_CTL, Reg.DSP_HEAD_T_H0, Reg.DSP_HEAD_T_H1, Reg.DSP_HEAD_T_V0, Reg.DSP_HEAD_T_V1, Reg.DSP_HEAD_T_VRR, Reg.DSP_HEAD_T_PIX, Reg.DSP_HEAD_T_FMT, Reg.DSP_HEAD_APPLY, Reg.DSP_HEAD_RUN_SIZE, Reg.DSP_HEAD_RUN_LINK, Reg.DSP_HEAD_FB_LO, Reg.DSP_HEAD_FB_HI, Reg.DSP_HEAD_STRIDE, Reg.DSP_HEAD_DIRTY_LO, Reg.DSP_HEAD_DIRTY_HI, Reg.DSP_HEAD_COMMIT, Reg.DSP_HEAD_COMMIT_STATUS, Reg.DSP_HEAD_COMMIT_FRAME, Reg.DSP_HEAD_RELEASED, Reg.DSP_HEAD_WIN_LO, Reg.DSP_HEAD_WIN_HI, Reg.DSP_HEAD_WIN_SIZE, Reg.DSP_HEAD_RES_CFG] ++
  [Reg.DSP_HEAD_LT_CFG, Reg.DSP_HEAD_STATUS, Reg.DSP_HEAD_LINE, Reg.DSP_HEAD_FRAME, Reg.DSP_HEAD_LT, Reg.DSP_HEAD_EST, Reg.DSP_HEAD_MIRROR, Reg.DSP_HEAD_MREGION_LO, Reg.DSP_HEAD_MREGION_HI, Reg.DSP_HEAD_MREGION_SIZE, Reg.DSP_HEAD_UNDERRUN, Reg.DSP_HEAD_REPEATS, Reg.DSP_HEAD_GAPS, Reg.DSP_HEAD_COALESCED, Reg.DSP_HEAD_TILE_DISCARD, Reg.DSP_HEAD_MOVE_DISCARD, Reg.DSP_HEAD_NEAR_MISS, Reg.DSP_HEAD_AUX_CMD, Reg.DSP_HEAD_AUX_STATUS, Reg.DSP_HEAD_AUX_DATA, Reg.DSP_HEAD_SINK]

/-! Block BRG (12 R348). -/

def Reg.BRG_CFG : RegDesc := ⟨0x200000, 1, 0, 1, 0, [⟨31, 0, .skn, 0xc350, 0x32, 0x3d0900⟩]⟩
abbrev F.BRG_CFG_CPL_TIMEOUT_US : Fld := ⟨Reg.BRG_CFG, 31, 0⟩
def Reg.BRG_LOCK_CFG : RegDesc := ⟨0x200004, 1, 0, 1, 0, [⟨31, 16, .skn, 0, 0, 0xffff⟩, ⟨15, 0, .skn, 0xa, 1, 0x3e8⟩]⟩
abbrev F.BRG_LOCK_CFG_BAR2_MIB : Fld := ⟨Reg.BRG_LOCK_CFG, 31, 16⟩
abbrev F.BRG_LOCK_CFG_LOCK_MAX_MS : Fld := ⟨Reg.BRG_LOCK_CFG, 15, 0⟩
def Reg.BRG_PORT_CFG : RegDesc := ⟨0x200008, 1, 0, 1, 0, [⟨31, 31, .skn, 0, 0, 1⟩, ⟨15, 0, .skn, 0x64, 0xa, 0xea60⟩]⟩
abbrev F.BRG_PORT_CFG_AUTO_PROMOTE : Fld := ⟨Reg.BRG_PORT_CFG, 31, 31⟩
abbrev F.BRG_PORT_CFG_PROMOTE_AFTER_MS : Fld := ⟨Reg.BRG_PORT_CFG, 15, 0⟩
def Reg.BRG_PORT_CMD : RegDesc := ⟨0x20000C, 1, 0, 1, 0, [⟨31, 31, .wo, 0, 0, 1⟩, ⟨2, 0, .wo, 0, 0, 7⟩]⟩
abbrev F.BRG_PORT_CMD_PROMOTE : Fld := ⟨Reg.BRG_PORT_CMD, 31, 31⟩
abbrev F.BRG_PORT_CMD_DIE : Fld := ⟨Reg.BRG_PORT_CMD, 2, 0⟩
def Reg.BRG_PORT_STATUS : RegDesc := ⟨0x200010, 1, 0, 1, 0, [⟨31, 29, .ro, 0, 0, 7⟩, ⟨23, 16, .ro, 0, 0, 0xff⟩, ⟨15, 12, .ro, 0, 0, 0xf⟩, ⟨11, 8, .ro, 0, 0, 0xf⟩, ⟨7, 0, .rws, 0, 0, 0xff⟩]⟩
abbrev F.BRG_PORT_STATUS_PRIMARY : Fld := ⟨Reg.BRG_PORT_STATUS, 31, 29⟩
abbrev F.BRG_PORT_STATUS_STANDBY : Fld := ⟨Reg.BRG_PORT_STATUS, 23, 16⟩
abbrev F.BRG_PORT_STATUS_RATE : Fld := ⟨Reg.BRG_PORT_STATUS, 15, 12⟩
abbrev F.BRG_PORT_STATUS_WIDTH : Fld := ⟨Reg.BRG_PORT_STATUS, 11, 8⟩
abbrev F.BRG_PORT_STATUS_PROMOTIONS : Fld := ⟨Reg.BRG_PORT_STATUS, 7, 0⟩
def Reg.BRG_TAGS : RegDesc := ⟨0x200014, 1, 0, 1, 0, [⟨31, 31, .wo, 0, 0, 1⟩, ⟨26, 16, .ro, 0, 0, 0x7ff⟩, ⟨10, 0, .ro, 0, 0, 0x7ff⟩]⟩
abbrev F.BRG_TAGS_CLEAR_PEAK : Fld := ⟨Reg.BRG_TAGS, 31, 31⟩
abbrev F.BRG_TAGS_IN_USE : Fld := ⟨Reg.BRG_TAGS, 26, 16⟩
abbrev F.BRG_TAGS_PEAK : Fld := ⟨Reg.BRG_TAGS, 10, 0⟩
def Reg.BRG_FENCE_DROP : RegDesc := ⟨0x200100, 1, 0, 1, 0, [⟨31, 31, .wo, 0, 0, 1⟩, ⟨30, 0, .ro, 0, 0, 0x7fffffff⟩]⟩
abbrev F.BRG_FENCE_DROP_CLEAR : Fld := ⟨Reg.BRG_FENCE_DROP, 31, 31⟩
abbrev F.BRG_FENCE_DROP_COUNT : Fld := ⟨Reg.BRG_FENCE_DROP, 30, 0⟩
def Reg.BRG_NOTICE_STALE : RegDesc := ⟨0x200104, 1, 0, 1, 0, [⟨31, 31, .wo, 0, 0, 1⟩, ⟨30, 0, .ro, 0, 0, 0x7fffffff⟩]⟩
abbrev F.BRG_NOTICE_STALE_CLEAR : Fld := ⟨Reg.BRG_NOTICE_STALE, 31, 31⟩
abbrev F.BRG_NOTICE_STALE_COUNT : Fld := ⟨Reg.BRG_NOTICE_STALE, 30, 0⟩
def Reg.BRG_LATE_CPL : RegDesc := ⟨0x200108, 1, 0, 1, 0, [⟨31, 31, .wo, 0, 0, 1⟩, ⟨30, 0, .ro, 0, 0, 0x7fffffff⟩]⟩
abbrev F.BRG_LATE_CPL_CLEAR : Fld := ⟨Reg.BRG_LATE_CPL, 31, 31⟩
abbrev F.BRG_LATE_CPL_COUNT : Fld := ⟨Reg.BRG_LATE_CPL, 30, 0⟩
def Reg.BRG_ATOMIC_BLOCKED : RegDesc := ⟨0x20010C, 1, 0, 1, 0, [⟨31, 31, .wo, 0, 0, 1⟩, ⟨30, 0, .ro, 0, 0, 0x7fffffff⟩]⟩
abbrev F.BRG_ATOMIC_BLOCKED_CLEAR : Fld := ⟨Reg.BRG_ATOMIC_BLOCKED, 31, 31⟩
abbrev F.BRG_ATOMIC_BLOCKED_COUNT : Fld := ⟨Reg.BRG_ATOMIC_BLOCKED, 30, 0⟩
def Reg.BRG_PREFETCH_DISCARD : RegDesc := ⟨0x200110, 1, 0, 1, 0, [⟨31, 31, .wo, 0, 0, 1⟩, ⟨30, 0, .ro, 0, 0, 0x7fffffff⟩]⟩
abbrev F.BRG_PREFETCH_DISCARD_CLEAR : Fld := ⟨Reg.BRG_PREFETCH_DISCARD, 31, 31⟩
abbrev F.BRG_PREFETCH_DISCARD_COUNT : Fld := ⟨Reg.BRG_PREFETCH_DISCARD, 30, 0⟩
def Reg.BRG_UR_LOCK : RegDesc := ⟨0x200114, 1, 0, 1, 0, [⟨31, 31, .wo, 0, 0, 1⟩, ⟨30, 0, .ro, 0, 0, 0x7fffffff⟩]⟩
abbrev F.BRG_UR_LOCK_CLEAR : Fld := ⟨Reg.BRG_UR_LOCK, 31, 31⟩
abbrev F.BRG_UR_LOCK_COUNT : Fld := ⟨Reg.BRG_UR_LOCK, 30, 0⟩
def Reg.BRG_NEAR_MISS : RegDesc := ⟨0x200140, 1, 0, 1, 0, [⟨31, 31, .wo, 0, 0, 1⟩, ⟨15, 0, .ro, 0, 0, 0xffff⟩]⟩
abbrev F.BRG_NEAR_MISS_CLEAR : Fld := ⟨Reg.BRG_NEAR_MISS, 31, 31⟩
abbrev F.BRG_NEAR_MISS_COUNT : Fld := ⟨Reg.BRG_NEAR_MISS, 15, 0⟩
def Reg.BRG_VDP_CFG : RegDesc := ⟨0x200800, 32, 0x20, 1, 0, [⟨31, 31, .skn, 0, 0, 1⟩, ⟨30, 28, .skn, 0, 0, 7⟩, ⟨27, 16, .skn, 0, 0, 0xfff⟩, ⟨15, 0, .skn, 0, 0, 0xffff⟩]⟩
abbrev F.BRG_VDP_CFG_VALID : Fld := ⟨Reg.BRG_VDP_CFG, 31, 31⟩
abbrev F.BRG_VDP_CFG_TGT_DIE : Fld := ⟨Reg.BRG_VDP_CFG, 30, 28⟩
abbrev F.BRG_VDP_CFG_TGT_HUB : Fld := ⟨Reg.BRG_VDP_CFG, 27, 16⟩
abbrev F.BRG_VDP_CFG_STRAND_OUT : Fld := ⟨Reg.BRG_VDP_CFG, 15, 0⟩
def Reg.BRG_VDP_IN : RegDesc := ⟨0x200804, 32, 0x20, 1, 0, [⟨15, 0, .skn, 0, 0, 0xffff⟩]⟩
abbrev F.BRG_VDP_IN_STRAND_IN : Fld := ⟨Reg.BRG_VDP_IN, 15, 0⟩
def Reg.BRG_VDP_STATUS : RegDesc := ⟨0x200808, 32, 0x20, 1, 0, [⟨31, 31, .ro, 0, 0, 1⟩, ⟨30, 30, .ro, 0, 0, 1⟩, ⟨29, 29, .ro, 0, 0, 1⟩, ⟨28, 25, .ro, 0, 0, 0xf⟩, ⟨24, 20, .ro, 0, 0, 0x1f⟩]⟩
abbrev F.BRG_VDP_STATUS_PRESENT : Fld := ⟨Reg.BRG_VDP_STATUS, 31, 31⟩
abbrev F.BRG_VDP_STATUS_LINK_ACTIVE : Fld := ⟨Reg.BRG_VDP_STATUS, 30, 30⟩
abbrev F.BRG_VDP_STATUS_LOCKED : Fld := ⟨Reg.BRG_VDP_STATUS, 29, 29⟩
abbrev F.BRG_VDP_STATUS_FAR_SPEED : Fld := ⟨Reg.BRG_VDP_STATUS, 28, 25⟩
abbrev F.BRG_VDP_STATUS_FAR_WIDTH : Fld := ⟨Reg.BRG_VDP_STATUS, 24, 20⟩
def Reg.BRG_WIN_CFG : RegDesc := ⟨0x201000, 64, 0x20, 1, 0, [⟨31, 31, .skn, 0, 0, 1⟩, ⟨30, 28, .skn, 0, 0, 7⟩, ⟨27, 27, .skn, 0, 0, 1⟩, ⟨26, 26, .skn, 0, 0, 1⟩, ⟨25, 25, .skn, 0, 0, 1⟩, ⟨24, 24, .skn, 0, 0, 1⟩, ⟨23, 23, .skn, 0, 0, 1⟩, ⟨16, 12, .skn, 0, 0, 0x1f⟩, ⟨11, 9, .skn, 0, 0, 7⟩]⟩
abbrev F.BRG_WIN_CFG_VALID : Fld := ⟨Reg.BRG_WIN_CFG, 31, 31⟩
abbrev F.BRG_WIN_CFG_KIND : Fld := ⟨Reg.BRG_WIN_CFG, 30, 28⟩
abbrev F.BRG_WIN_CFG_PREFETCH : Fld := ⟨Reg.BRG_WIN_CFG, 27, 27⟩
abbrev F.BRG_WIN_CFG_WATCHED : Fld := ⟨Reg.BRG_WIN_CFG, 26, 26⟩
abbrev F.BRG_WIN_CFG_ATOMIC : Fld := ⟨Reg.BRG_WIN_CFG, 25, 25⟩
abbrev F.BRG_WIN_CFG_FENCE_MODE : Fld := ⟨Reg.BRG_WIN_CFG, 24, 24⟩
abbrev F.BRG_WIN_CFG_LOCKABLE : Fld := ⟨Reg.BRG_WIN_CFG, 23, 23⟩
abbrev F.BRG_WIN_CFG_VDP : Fld := ⟨Reg.BRG_WIN_CFG, 16, 12⟩
abbrev F.BRG_WIN_CFG_SRC_DIE : Fld := ⟨Reg.BRG_WIN_CFG, 11, 9⟩
def Reg.BRG_WIN_BASE_LO : RegDesc := ⟨0x201004, 64, 0x20, 1, 0, [⟨31, 0, .skn, 0, 0, 0xffffffff⟩]⟩
abbrev F.BRG_WIN_BASE_LO_BASE : Fld := ⟨Reg.BRG_WIN_BASE_LO, 31, 0⟩
def Reg.BRG_WIN_BASE_HI : RegDesc := ⟨0x201008, 64, 0x20, 1, 0, [⟨31, 0, .skn, 0, 0, 0xffffffff⟩]⟩
abbrev F.BRG_WIN_BASE_HI_BASE : Fld := ⟨Reg.BRG_WIN_BASE_HI, 31, 0⟩
def Reg.BRG_WIN_SIZE : RegDesc := ⟨0x20100C, 64, 0x20, 1, 0, [⟨31, 0, .skn, 0, 0, 0xffffffff⟩]⟩
abbrev F.BRG_WIN_SIZE_SIZE_MIB : Fld := ⟨Reg.BRG_WIN_SIZE, 31, 0⟩
def Reg.BRG_WIN_OFF : RegDesc := ⟨0x201010, 64, 0x20, 1, 0, [⟨31, 0, .skn, 0, 0, 0xffffffff⟩]⟩
abbrev F.BRG_WIN_OFF_OFF_MIB : Fld := ⟨Reg.BRG_WIN_OFF, 31, 0⟩
def Reg.BRG_SEM : RegDesc := ⟨0x203000, 64, 4, 1, 0, [⟨31, 31, .ro, 0, 0, 1⟩, ⟨30, 30, .ro, 0, 0, 1⟩, ⟨8, 0, .ro, 0x1ff, 0, 0x1ff⟩]⟩
abbrev F.BRG_SEM_GRANTED : Fld := ⟨Reg.BRG_SEM, 31, 31⟩
abbrev F.BRG_SEM_HELD : Fld := ⟨Reg.BRG_SEM, 30, 30⟩
abbrev F.BRG_SEM_HOLDER : Fld := ⟨Reg.BRG_SEM, 8, 0⟩
def Reg.BRG_FN_ERR : RegDesc := ⟨0x204000, 249, 0x10, 1, 0, [⟨31, 31, .rws, 0, 0, 1⟩, ⟨15, 0, .ro, 0, 0, 0xffff⟩]⟩
abbrev F.BRG_FN_ERR_FAR_WRITE_ERR : Fld := ⟨Reg.BRG_FN_ERR, 31, 31⟩
abbrev F.BRG_FN_ERR_LAST_ORDINAL : Fld := ⟨Reg.BRG_FN_ERR, 15, 0⟩
def Reg.BRG_FN_ORDINAL : RegDesc := ⟨0x204004, 249, 0x10, 1, 0, [⟨15, 0, .ro, 0, 0, 0xffff⟩]⟩
abbrev F.BRG_FN_ORDINAL_NEXT : Fld := ⟨Reg.BRG_FN_ORDINAL, 15, 0⟩
def Reg.BRG_FN_FENCE_LO : RegDesc := ⟨0x204008, 249, 0x10, 1, 0, [⟨31, 0, .w1c, 0, 0, 0xffffffff⟩]⟩
abbrev F.BRG_FN_FENCE_LO_FENCE : Fld := ⟨Reg.BRG_FN_FENCE_LO, 31, 0⟩
def Reg.BRG_FN_FENCE_HI : RegDesc := ⟨0x20400C, 249, 0x10, 1, 0, [⟨31, 0, .w1c, 0, 0, 0xffffffff⟩]⟩
abbrev F.BRG_FN_FENCE_HI_FENCE : Fld := ⟨Reg.BRG_FN_FENCE_HI, 31, 0⟩
def Reg.BRG_DMA_CFG : RegDesc := ⟨0x220000, 64, 0x40, 1, 0, [⟨31, 31, .rw, 0, 0, 1⟩, ⟨30, 30, .rw, 0, 0, 1⟩, ⟨29, 29, .ro, 0, 0, 1⟩, ⟨28, 24, .rw, 6, 0, 0x1f⟩, ⟨23, 16, .ro, 0, 0, 0xff⟩, ⟨15, 0, .rw, 0, 0, 0xffff⟩]⟩
abbrev F.BRG_DMA_CFG_ENABLE : Fld := ⟨Reg.BRG_DMA_CFG, 31, 31⟩
abbrev F.BRG_DMA_CFG_DIR : Fld := ⟨Reg.BRG_DMA_CFG, 30, 30⟩
abbrev F.BRG_DMA_CFG_HALTED : Fld := ⟨Reg.BRG_DMA_CFG, 29, 29⟩
abbrev F.BRG_DMA_CFG_SIZE_LOG2 : Fld := ⟨Reg.BRG_DMA_CFG, 28, 24⟩
abbrev F.BRG_DMA_CFG_OWNER : Fld := ⟨Reg.BRG_DMA_CFG, 23, 16⟩
abbrev F.BRG_DMA_CFG_STRAND : Fld := ⟨Reg.BRG_DMA_CFG, 15, 0⟩
def Reg.BRG_DMA_RING_LO : RegDesc := ⟨0x220004, 64, 0x40, 1, 0, [⟨31, 12, .rw, 0, 0, 0xfffff⟩]⟩
abbrev F.BRG_DMA_RING_LO_BASE : Fld := ⟨Reg.BRG_DMA_RING_LO, 31, 12⟩
def Reg.BRG_DMA_RING_HI : RegDesc := ⟨0x220008, 64, 0x40, 1, 0, [⟨31, 0, .rw, 0, 0, 0xffffffff⟩]⟩
abbrev F.BRG_DMA_RING_HI_BASE : Fld := ⟨Reg.BRG_DMA_RING_HI, 31, 0⟩
def Reg.BRG_DMA_DOORBELL : RegDesc := ⟨0x220010, 64, 0x40, 1, 0, [⟨31, 0, .rw, 0, 0, 0xffffffff⟩]⟩
abbrev F.BRG_DMA_DOORBELL_PRODUCER : Fld := ⟨Reg.BRG_DMA_DOORBELL, 31, 0⟩
def Reg.BRG_DMA_CONSUMER : RegDesc := ⟨0x220014, 64, 0x40, 1, 0, [⟨31, 0, .ro, 0, 0, 0xffffffff⟩]⟩
abbrev F.BRG_DMA_CONSUMER_CONSUMER : Fld := ⟨Reg.BRG_DMA_CONSUMER, 31, 0⟩
def Reg.BRG_DMA_STATUS : RegDesc := ⟨0x220018, 64, 0x40, 1, 0, [⟨31, 24, .ro, 0, 0, 0xff⟩]⟩
abbrev F.BRG_DMA_STATUS_HALT_CAUSE : Fld := ⟨Reg.BRG_DMA_STATUS, 31, 24⟩

/-- The registers of block BRG. -/
def Reg.blockBRG : List RegDesc :=
  [Reg.BRG_CFG, Reg.BRG_LOCK_CFG, Reg.BRG_PORT_CFG, Reg.BRG_PORT_CMD, Reg.BRG_PORT_STATUS, Reg.BRG_TAGS, Reg.BRG_FENCE_DROP, Reg.BRG_NOTICE_STALE, Reg.BRG_LATE_CPL, Reg.BRG_ATOMIC_BLOCKED, Reg.BRG_PREFETCH_DISCARD, Reg.BRG_UR_LOCK, Reg.BRG_NEAR_MISS, Reg.BRG_VDP_CFG, Reg.BRG_VDP_IN, Reg.BRG_VDP_STATUS, Reg.BRG_WIN_CFG, Reg.BRG_WIN_BASE_LO, Reg.BRG_WIN_BASE_HI, Reg.BRG_WIN_SIZE, Reg.BRG_WIN_OFF, Reg.BRG_SEM, Reg.BRG_FN_ERR, Reg.BRG_FN_ORDINAL] ++
  [Reg.BRG_FN_FENCE_LO, Reg.BRG_FN_FENCE_HI, Reg.BRG_DMA_CFG, Reg.BRG_DMA_RING_LO, Reg.BRG_DMA_RING_HI, Reg.BRG_DMA_DOORBELL, Reg.BRG_DMA_CONSUMER, Reg.BRG_DMA_STATUS]

/-! Block VFN (13 R370). -/

def Reg.VFN_CMD : RegDesc := ⟨0x240000, 1, 0, 1, 0, [⟨31, 28, .wo, 0, 0, 0xf⟩, ⟨27, 27, .wo, 0, 0, 1⟩, ⟨7, 0, .wo, 0, 0, 0xff⟩]⟩
abbrev F.VFN_CMD_OP : Fld := ⟨Reg.VFN_CMD, 31, 28⟩
abbrev F.VFN_CMD_KEEP : Fld := ⟨Reg.VFN_CMD, 27, 27⟩
abbrev F.VFN_CMD_FUNC : Fld := ⟨Reg.VFN_CMD, 7, 0⟩
def Reg.VFN_CMD_STATUS : RegDesc := ⟨0x240004, 1, 0, 1, 0, [⟨31, 24, .ro, 0, 0, 0xff⟩, ⟨23, 23, .ro, 0, 0, 1⟩, ⟨15, 0, .ro, 0, 0, 0xffff⟩]⟩
abbrev F.VFN_CMD_STATUS_RESULT : Fld := ⟨Reg.VFN_CMD_STATUS, 31, 24⟩
abbrev F.VFN_CMD_STATUS_BUSY : Fld := ⟨Reg.VFN_CMD_STATUS, 23, 23⟩
abbrev F.VFN_CMD_STATUS_SEQ : Fld := ⟨Reg.VFN_CMD_STATUS, 15, 0⟩
def Reg.VFN_CMD_SHORT : RegDesc := ⟨0x240008, 1, 0, 1, 0, [⟨3, 0, .ro, 0, 0, 0xf⟩]⟩
abbrev F.VFN_CMD_SHORT_ITEM : Fld := ⟨Reg.VFN_CMD_SHORT, 3, 0⟩
def Reg.VFN_CARVE0 : RegDesc := ⟨0x240010, 1, 0, 1, 0, [⟨31, 21, .rw, 0, 0, 0x7ff⟩, ⟨20, 14, .rw, 0, 0, 0x7f⟩, ⟨13, 8, .rw, 1, 0, 0x3f⟩, ⟨7, 6, .rw, 0, 0, 3⟩, ⟨5, 2, .rw, 0, 0, 0xf⟩]⟩
abbrev F.VFN_CARVE0_STRANDS : Fld := ⟨Reg.VFN_CARVE0, 31, 21⟩
abbrev F.VFN_CARVE0_DMA_CH : Fld := ⟨Reg.VFN_CARVE0, 20, 14⟩
abbrev F.VFN_CARVE0_OUTLETS : Fld := ⟨Reg.VFN_CARVE0, 13, 8⟩
abbrev F.VFN_CARVE0_HEADS : Fld := ⟨Reg.VFN_CARVE0, 7, 6⟩
abbrev F.VFN_CARVE0_USB_MASK : Fld := ⟨Reg.VFN_CARVE0, 5, 2⟩
def Reg.VFN_CARVE1 : RegDesc := ⟨0x240014, 1, 0, 1, 0, [⟨31, 27, .rw, 0, 0, 0x1f⟩, ⟨26, 24, .rw, 0, 0, 7⟩, ⟨23, 0, .rw, 0, 0, 0xffffff⟩]⟩
abbrev F.VFN_CARVE1_KEY_SLOTS : Fld := ⟨Reg.VFN_CARVE1, 31, 27⟩
abbrev F.VFN_CARVE1_QUEUES : Fld := ⟨Reg.VFN_CARVE1, 26, 24⟩
abbrev F.VFN_CARVE1_RATE_MBPS : Fld := ⟨Reg.VFN_CARVE1, 23, 0⟩
def Reg.VFN_CARVE2 : RegDesc := ⟨0x240018, 1, 0, 1, 0, [⟨31, 31, .rw, 0, 0, 1⟩, ⟨21, 0, .rw, 0, 0, 0x3fffff⟩]⟩
abbrev F.VFN_CARVE2_POND_CH : Fld := ⟨Reg.VFN_CARVE2, 31, 31⟩
abbrev F.VFN_CARVE2_POND_PAGES : Fld := ⟨Reg.VFN_CARVE2, 21, 0⟩
def Reg.VFN_CARVE3 : RegDesc := ⟨0x24001C, 1, 0, 1, 0, [⟨31, 0, .rw, 0, 0, 0xffffffff⟩]⟩
abbrev F.VFN_CARVE3_BRAID_MASK : Fld := ⟨Reg.VFN_CARVE3, 31, 0⟩
def Reg.VFN_CARVE4 : RegDesc := ⟨0x240020, 1, 0, 1, 0, [⟨31, 0, .rw, 0, 0, 0xffffffff⟩]⟩
abbrev F.VFN_CARVE4_BRAID_MASK : Fld := ⟨Reg.VFN_CARVE4, 31, 0⟩
def Reg.VFN_CARVE5 : RegDesc := ⟨0x240024, 1, 0, 1, 0, [⟨31, 27, .rw, 0, 0, 0x1f⟩, ⟨26, 23, .rw, 0, 0, 0xf⟩, ⟨15, 11, .rw, 0, 0, 0x1f⟩, ⟨10, 7, .rw, 0, 0, 0xf⟩]⟩
abbrev F.VFN_CARVE5_OUTPUT_A : Fld := ⟨Reg.VFN_CARVE5, 31, 27⟩
abbrev F.VFN_CARVE5_QUEUE_A : Fld := ⟨Reg.VFN_CARVE5, 26, 23⟩
abbrev F.VFN_CARVE5_OUTPUT_B : Fld := ⟨Reg.VFN_CARVE5, 15, 11⟩
abbrev F.VFN_CARVE5_QUEUE_B : Fld := ⟨Reg.VFN_CARVE5, 10, 7⟩
def Reg.VFN_CARVE6 : RegDesc := ⟨0x240028, 1, 0, 1, 0, [⟨31, 27, .rw, 0, 0, 0x1f⟩, ⟨26, 23, .rw, 0, 0, 0xf⟩, ⟨15, 11, .rw, 0, 0, 0x1f⟩, ⟨10, 7, .rw, 0, 0, 0xf⟩]⟩
abbrev F.VFN_CARVE6_OUTPUT_A : Fld := ⟨Reg.VFN_CARVE6, 31, 27⟩
abbrev F.VFN_CARVE6_QUEUE_A : Fld := ⟨Reg.VFN_CARVE6, 26, 23⟩
abbrev F.VFN_CARVE6_OUTPUT_B : Fld := ⟨Reg.VFN_CARVE6, 15, 11⟩
abbrev F.VFN_CARVE6_QUEUE_B : Fld := ⟨Reg.VFN_CARVE6, 10, 7⟩
def Reg.VFN_CARVE7 : RegDesc := ⟨0x24002C, 1, 0, 1, 0, [⟨31, 20, .rw, 0, 0, 0xfff⟩]⟩
abbrev F.VFN_CARVE7_BAR2_TARGET : Fld := ⟨Reg.VFN_CARVE7, 31, 20⟩
def Reg.VFN_CARVE8 : RegDesc := ⟨0x240030, 1, 0, 1, 0, [⟨31, 0, .rw, 0, 0, 0xffffffff⟩]⟩
abbrev F.VFN_CARVE8_BAR2_TARGET : Fld := ⟨Reg.VFN_CARVE8, 31, 0⟩
def Reg.VFN_PF_SRIOV : RegDesc := ⟨0x240040, 4, 8, 1, 0, [⟨31, 26, .skn, 0, 0, 0x3f⟩, ⟨25, 18, .skn, 1, 1, 0xf8⟩]⟩
abbrev F.VFN_PF_SRIOV_TOTAL_VFS : Fld := ⟨Reg.VFN_PF_SRIOV, 31, 26⟩
abbrev F.VFN_PF_SRIOV_VF_FIRST : Fld := ⟨Reg.VFN_PF_SRIOV, 25, 18⟩
def Reg.VFN_PF_BAR2 : RegDesc := ⟨0x240044, 4, 8, 1, 0, [⟨31, 0, .skn, 0, 0, 0xffffffff⟩]⟩
abbrev F.VFN_PF_BAR2_VF_BAR2_MIB : Fld := ⟨Reg.VFN_PF_BAR2, 31, 0⟩
def Reg.VFN_LIMIT0 : RegDesc := ⟨0x240080, 1, 0, 1, 0, [⟨31, 21, .skn, 0, 0, 0x7ff⟩, ⟨20, 14, .skn, 0, 0, 0x7f⟩, ⟨13, 8, .skn, 0, 0, 0x3f⟩, ⟨7, 6, .skn, 0, 0, 3⟩, ⟨5, 2, .skn, 0, 0, 0xf⟩]⟩
abbrev F.VFN_LIMIT0_STRANDS : Fld := ⟨Reg.VFN_LIMIT0, 31, 21⟩
abbrev F.VFN_LIMIT0_DMA_CH : Fld := ⟨Reg.VFN_LIMIT0, 20, 14⟩
abbrev F.VFN_LIMIT0_OUTLETS : Fld := ⟨Reg.VFN_LIMIT0, 13, 8⟩
abbrev F.VFN_LIMIT0_HEADS : Fld := ⟨Reg.VFN_LIMIT0, 7, 6⟩
abbrev F.VFN_LIMIT0_USB_MASK : Fld := ⟨Reg.VFN_LIMIT0, 5, 2⟩
def Reg.VFN_LIMIT1 : RegDesc := ⟨0x240084, 1, 0, 1, 0, [⟨31, 27, .skn, 0, 0, 0x1f⟩, ⟨26, 24, .skn, 0, 0, 7⟩, ⟨23, 0, .skn, 0, 0, 0xffffff⟩]⟩
abbrev F.VFN_LIMIT1_KEY_SLOTS : Fld := ⟨Reg.VFN_LIMIT1, 31, 27⟩
abbrev F.VFN_LIMIT1_QUEUES : Fld := ⟨Reg.VFN_LIMIT1, 26, 24⟩
abbrev F.VFN_LIMIT1_RATE_MBPS : Fld := ⟨Reg.VFN_LIMIT1, 23, 0⟩
def Reg.VFN_POOL0 : RegDesc := ⟨0x240088, 1, 0, 1, 0, [⟨31, 21, .ro, 0, 0, 0x7ff⟩, ⟨20, 14, .ro, 0, 0, 0x7f⟩, ⟨13, 8, .ro, 0, 0, 0x3f⟩, ⟨7, 6, .ro, 0, 0, 3⟩, ⟨5, 2, .ro, 0, 0, 0xf⟩]⟩
abbrev F.VFN_POOL0_STRANDS : Fld := ⟨Reg.VFN_POOL0, 31, 21⟩
abbrev F.VFN_POOL0_DMA_CH : Fld := ⟨Reg.VFN_POOL0, 20, 14⟩
abbrev F.VFN_POOL0_OUTLETS : Fld := ⟨Reg.VFN_POOL0, 13, 8⟩
abbrev F.VFN_POOL0_HEADS : Fld := ⟨Reg.VFN_POOL0, 7, 6⟩
abbrev F.VFN_POOL0_USB_MASK : Fld := ⟨Reg.VFN_POOL0, 5, 2⟩
def Reg.VFN_POOL1 : RegDesc := ⟨0x24008C, 1, 0, 1, 0, [⟨31, 27, .ro, 0, 0, 0x1f⟩, ⟨26, 24, .ro, 0, 0, 7⟩, ⟨23, 0, .ro, 0, 0, 0xffffff⟩]⟩
abbrev F.VFN_POOL1_KEY_SLOTS : Fld := ⟨Reg.VFN_POOL1, 31, 27⟩
abbrev F.VFN_POOL1_QUEUES : Fld := ⟨Reg.VFN_POOL1, 26, 24⟩
abbrev F.VFN_POOL1_RATE_MBPS : Fld := ⟨Reg.VFN_POOL1, 23, 0⟩
def Reg.VFN_UNPROVISIONED : RegDesc := ⟨0x240090, 1, 0, 1, 0, [⟨31, 31, .wo, 0, 0, 1⟩, ⟨30, 0, .ro, 0, 0, 0x7fffffff⟩]⟩
abbrev F.VFN_UNPROVISIONED_CLEAR : Fld := ⟨Reg.VFN_UNPROVISIONED, 31, 31⟩
abbrev F.VFN_UNPROVISIONED_COUNT : Fld := ⟨Reg.VFN_UNPROVISIONED, 30, 0⟩
def Reg.VFN_VF_STATE : RegDesc := ⟨0x241000, 31, 0x40, 1, 0, [⟨31, 24, .ro, 0, 0, 0xff⟩, ⟨23, 21, .ro, 0, 0, 7⟩, ⟨20, 18, .ro, 0, 0, 7⟩, ⟨17, 17, .ro, 0, 0, 1⟩, ⟨16, 0, .ro, 0, 0, 0x1ffff⟩]⟩
abbrev F.VFN_VF_STATE_FUNC : Fld := ⟨Reg.VFN_VF_STATE, 31, 24⟩
abbrev F.VFN_VF_STATE_HOME_DIE : Fld := ⟨Reg.VFN_VF_STATE, 23, 21⟩
abbrev F.VFN_VF_STATE_STATE : Fld := ⟨Reg.VFN_VF_STATE, 20, 18⟩
abbrev F.VFN_VF_STATE_HOST_EN : Fld := ⟨Reg.VFN_VF_STATE, 17, 17⟩
abbrev F.VFN_VF_STATE_INFLIGHT : Fld := ⟨Reg.VFN_VF_STATE, 16, 0⟩
def Reg.VFN_VF_LOG_CTL : RegDesc := ⟨0x241004, 31, 0x40, 1, 0, [⟨31, 31, .rw, 0, 0, 1⟩, ⟨30, 30, .wo, 0, 0, 1⟩, ⟨29, 29, .ro, 0, 0, 1⟩, ⟨28, 28, .ro, 0, 0, 1⟩, ⟨27, 27, .w1c, 0, 0, 1⟩]⟩
abbrev F.VFN_VF_LOG_CTL_EN : Fld := ⟨Reg.VFN_VF_LOG_CTL, 31, 31⟩
abbrev F.VFN_VF_LOG_CTL_SWAP : Fld := ⟨Reg.VFN_VF_LOG_CTL, 30, 30⟩
abbrev F.VFN_VF_LOG_CTL_ACTIVE : Fld := ⟨Reg.VFN_VF_LOG_CTL, 29, 29⟩
abbrev F.VFN_VF_LOG_CTL_SWAP_PENDING : Fld := ⟨Reg.VFN_VF_LOG_CTL, 28, 28⟩
abbrev F.VFN_VF_LOG_CTL_OUT_OF_RANGE : Fld := ⟨Reg.VFN_VF_LOG_CTL, 27, 27⟩
def Reg.VFN_VF_LOG_A_LO : RegDesc := ⟨0x241008, 31, 0x40, 1, 0, [⟨31, 0, .rw, 0, 0, 0xffffffff⟩]⟩
abbrev F.VFN_VF_LOG_A_LO_ADDR : Fld := ⟨Reg.VFN_VF_LOG_A_LO, 31, 0⟩
def Reg.VFN_VF_LOG_A_HI : RegDesc := ⟨0x24100C, 31, 0x40, 1, 0, [⟨31, 0, .rw, 0, 0, 0xffffffff⟩]⟩
abbrev F.VFN_VF_LOG_A_HI_ADDR : Fld := ⟨Reg.VFN_VF_LOG_A_HI, 31, 0⟩
def Reg.VFN_VF_LOG_B_LO : RegDesc := ⟨0x241010, 31, 0x40, 1, 0, [⟨31, 0, .rw, 0, 0, 0xffffffff⟩]⟩
abbrev F.VFN_VF_LOG_B_LO_ADDR : Fld := ⟨Reg.VFN_VF_LOG_B_LO, 31, 0⟩
def Reg.VFN_VF_LOG_B_HI : RegDesc := ⟨0x241014, 31, 0x40, 1, 0, [⟨31, 0, .rw, 0, 0, 0xffffffff⟩]⟩
abbrev F.VFN_VF_LOG_B_HI_ADDR : Fld := ⟨Reg.VFN_VF_LOG_B_HI, 31, 0⟩
def Reg.VFN_VF_LOG_START_LO : RegDesc := ⟨0x241018, 31, 0x40, 1, 0, [⟨31, 0, .rw, 0, 0, 0xffffffff⟩]⟩
abbrev F.VFN_VF_LOG_START_LO_START : Fld := ⟨Reg.VFN_VF_LOG_START_LO, 31, 0⟩
def Reg.VFN_VF_LOG_START_HI : RegDesc := ⟨0x24101C, 31, 0x40, 1, 0, [⟨31, 0, .rw, 0, 0, 0xffffffff⟩]⟩
abbrev F.VFN_VF_LOG_START_HI_START : Fld := ⟨Reg.VFN_VF_LOG_START_HI, 31, 0⟩
def Reg.VFN_VF_LOG_PAGES : RegDesc := ⟨0x241020, 31, 0x40, 1, 0, [⟨31, 0, .rw, 0, 0, 0xffffffff⟩]⟩
abbrev F.VFN_VF_LOG_PAGES_PAGES : Fld := ⟨Reg.VFN_VF_LOG_PAGES, 31, 0⟩
def Reg.VFN_VF_LOG_MARKED : RegDesc := ⟨0x241024, 31, 0x40, 1, 0, [⟨31, 0, .ro, 0, 0, 0xffffffff⟩]⟩
abbrev F.VFN_VF_LOG_MARKED_MARKED : Fld := ⟨Reg.VFN_VF_LOG_MARKED, 31, 0⟩
def Reg.VFN_LOG_OUT_RANGE : RegDesc := ⟨0x241028, 31, 0x40, 1, 0, [⟨31, 31, .wo, 0, 0, 1⟩, ⟨30, 0, .ro, 0, 0, 0x7fffffff⟩]⟩
abbrev F.VFN_LOG_OUT_RANGE_CLEAR : Fld := ⟨Reg.VFN_LOG_OUT_RANGE, 31, 31⟩
abbrev F.VFN_LOG_OUT_RANGE_COUNT : Fld := ⟨Reg.VFN_LOG_OUT_RANGE, 30, 0⟩

/-- The registers of block VFN. -/
def Reg.blockVFN : List RegDesc :=
  [Reg.VFN_CMD, Reg.VFN_CMD_STATUS, Reg.VFN_CMD_SHORT, Reg.VFN_CARVE0, Reg.VFN_CARVE1, Reg.VFN_CARVE2, Reg.VFN_CARVE3, Reg.VFN_CARVE4, Reg.VFN_CARVE5, Reg.VFN_CARVE6, Reg.VFN_CARVE7, Reg.VFN_CARVE8, Reg.VFN_PF_SRIOV, Reg.VFN_PF_BAR2, Reg.VFN_LIMIT0, Reg.VFN_LIMIT1, Reg.VFN_POOL0, Reg.VFN_POOL1, Reg.VFN_UNPROVISIONED, Reg.VFN_VF_STATE, Reg.VFN_VF_LOG_CTL, Reg.VFN_VF_LOG_A_LO, Reg.VFN_VF_LOG_A_HI, Reg.VFN_VF_LOG_B_LO] ++
  [Reg.VFN_VF_LOG_B_HI, Reg.VFN_VF_LOG_START_LO, Reg.VFN_VF_LOG_START_HI, Reg.VFN_VF_LOG_PAGES, Reg.VFN_VF_LOG_MARKED, Reg.VFN_LOG_OUT_RANGE]

/-! Block USB (14 R394). -/

def Reg.USB_UFP_CTL : RegDesc := ⟨0x260000, 1, 0, 1, 0, [⟨31, 31, .rw, 0, 0, 1⟩, ⟨30, 30, .skn, 1, 0, 1⟩, ⟨29, 29, .skn, 1, 0, 1⟩]⟩
abbrev F.USB_UFP_CTL_USB_CONNECT : Fld := ⟨Reg.USB_UFP_CTL, 31, 31⟩
abbrev F.USB_UFP_CTL_LPM_EN : Fld := ⟨Reg.USB_UFP_CTL, 30, 30⟩
abbrev F.USB_UFP_CTL_SS_EN : Fld := ⟨Reg.USB_UFP_CTL, 29, 29⟩
def Reg.USB_UFP_STATUS : RegDesc := ⟨0x260004, 1, 0, 1, 0, [⟨31, 29, .ro, 0, 0, 7⟩, ⟨28, 26, .ro, 0, 0, 7⟩, ⟨25, 25, .ro, 0, 0, 1⟩, ⟨15, 0, .ro, 0, 0, 0xffff⟩]⟩
abbrev F.USB_UFP_STATUS_SPEED : Fld := ⟨Reg.USB_UFP_STATUS, 31, 29⟩
abbrev F.USB_UFP_STATUS_LINK : Fld := ⟨Reg.USB_UFP_STATUS, 28, 26⟩
abbrev F.USB_UFP_STATUS_VBUS : Fld := ⟨Reg.USB_UFP_STATUS, 25, 25⟩
abbrev F.USB_UFP_STATUS_RESETS : Fld := ⟨Reg.USB_UFP_STATUS, 15, 0⟩
def Reg.USB_UFP_WAKE : RegDesc := ⟨0x260008, 1, 0, 1, 0, [⟨19, 16, .skn, 3, 1, 0xf⟩, ⟨15, 0, .skn, 0, 0, 0xffff⟩]⟩
abbrev F.USB_UFP_WAKE_WAKE_RETRIES : Fld := ⟨Reg.USB_UFP_WAKE, 19, 16⟩
abbrev F.USB_UFP_WAKE_U1_IDLE_US : Fld := ⟨Reg.USB_UFP_WAKE, 15, 0⟩
def Reg.USB_DFP_CTL : RegDesc := ⟨0x260100, 4, 0x10, 1, 0, [⟨31, 30, .skn, 0, 0, 2⟩, ⟨29, 29, .ro, 0, 0, 1⟩, ⟨28, 28, .w1c, 0, 0, 1⟩, ⟨27, 24, .skn, 0, 0, 3⟩, ⟨15, 0, .skn, 0, 0, 0xffff⟩]⟩
abbrev F.USB_DFP_CTL_MODE : Fld := ⟨Reg.USB_DFP_CTL, 31, 30⟩
abbrev F.USB_DFP_CTL_POWER : Fld := ⟨Reg.USB_DFP_CTL, 29, 29⟩
abbrev F.USB_DFP_CTL_OVERCURRENT : Fld := ⟨Reg.USB_DFP_CTL, 28, 28⟩
abbrev F.USB_DFP_CTL_SLOT : Fld := ⟨Reg.USB_DFP_CTL, 27, 24⟩
abbrev F.USB_DFP_CTL_RELAY_STRAND : Fld := ⟨Reg.USB_DFP_CTL, 15, 0⟩
def Reg.USB_DFP_STATUS : RegDesc := ⟨0x260104, 4, 0x10, 1, 0, [⟨31, 29, .ro, 0, 0, 7⟩, ⟨28, 28, .ro, 0, 0, 1⟩, ⟨27, 27, .ro, 0, 0, 1⟩, ⟨15, 0, .ro, 0, 0, 0xffff⟩]⟩
abbrev F.USB_DFP_STATUS_SPEED : Fld := ⟨Reg.USB_DFP_STATUS, 31, 29⟩
abbrev F.USB_DFP_STATUS_CONNECTED : Fld := ⟨Reg.USB_DFP_STATUS, 28, 28⟩
abbrev F.USB_DFP_STATUS_RELAY_UP : Fld := ⟨Reg.USB_DFP_STATUS, 27, 27⟩
abbrev F.USB_DFP_STATUS_TXN_ERR : Fld := ⟨Reg.USB_DFP_STATUS, 15, 0⟩
def Reg.USB_NEAR_MISS : RegDesc := ⟨0x260F00, 1, 0, 1, 0, [⟨31, 31, .wo, 0, 0, 1⟩, ⟨15, 0, .ro, 0, 0, 0xffff⟩]⟩
abbrev F.USB_NEAR_MISS_CLEAR : Fld := ⟨Reg.USB_NEAR_MISS, 31, 31⟩
abbrev F.USB_NEAR_MISS_COUNT : Fld := ⟨Reg.USB_NEAR_MISS, 15, 0⟩
def Reg.USB_FN_CTL : RegDesc := ⟨0x261000, 4, 0x800, 1, 0, [⟨31, 31, .rw, 0, 0, 1⟩, ⟨27, 24, .ro, 0, 0, 0xf⟩]⟩
abbrev F.USB_FN_CTL_ATTACH : Fld := ⟨Reg.USB_FN_CTL, 31, 31⟩
abbrev F.USB_FN_CTL_CARVE_ERR : Fld := ⟨Reg.USB_FN_CTL, 27, 24⟩
def Reg.USB_FN_STRAND : RegDesc := ⟨0x261004, 4, 0x800, 1, 0, [⟨31, 16, .rw, 0, 0, 0xffff⟩, ⟨15, 0, .rw, 0, 0, 0xffff⟩]⟩
abbrev F.USB_FN_STRAND_STRAND_OUT : Fld := ⟨Reg.USB_FN_STRAND, 31, 16⟩
abbrev F.USB_FN_STRAND_STRAND_IN : Fld := ⟨Reg.USB_FN_STRAND, 15, 0⟩
def Reg.USB_FN_STATE : RegDesc := ⟨0x261008, 4, 0x800, 1, 0, [⟨31, 29, .ro, 0, 0, 7⟩, ⟨28, 22, .ro, 0, 0, 0x7f⟩, ⟨21, 18, .ro, 0, 0, 0xf⟩, ⟨17, 17, .ro, 0, 0, 1⟩, ⟨16, 16, .ro, 0, 0, 1⟩]⟩
abbrev F.USB_FN_STATE_DEV_STATE : Fld := ⟨Reg.USB_FN_STATE, 31, 29⟩
abbrev F.USB_FN_STATE_ADDRESS : Fld := ⟨Reg.USB_FN_STATE, 28, 22⟩
abbrev F.USB_FN_STATE_CONFIG : Fld := ⟨Reg.USB_FN_STATE, 21, 18⟩
abbrev F.USB_FN_STATE_REMOTE_WAKE_EN : Fld := ⟨Reg.USB_FN_STATE, 17, 17⟩
abbrev F.USB_FN_STATE_WAKE_PENDING : Fld := ⟨Reg.USB_FN_STATE, 16, 16⟩
def Reg.USB_FN_EP_IN : RegDesc := ⟨0x261040, 4, 0x800, 5, 8, [⟨31, 31, .rw, 0, 0, 1⟩, ⟨30, 30, .rw, 0, 0, 1⟩, ⟨29, 29, .ro, 0, 0, 1⟩, ⟨28, 28, .wo, 0, 0, 1⟩, ⟨25, 16, .rw, 0, 0, 0x3ff⟩, ⟨4, 0, .rw, 0, 0, 0x1f⟩]⟩
abbrev F.USB_FN_EP_IN_VALID : Fld := ⟨Reg.USB_FN_EP_IN, 31, 31⟩
abbrev F.USB_FN_EP_IN_DOUBLE : Fld := ⟨Reg.USB_FN_EP_IN, 30, 30⟩
abbrev F.USB_FN_EP_IN_HALTED : Fld := ⟨Reg.USB_FN_EP_IN, 29, 29⟩
abbrev F.USB_FN_EP_IN_HALT : Fld := ⟨Reg.USB_FN_EP_IN, 28, 28⟩
abbrev F.USB_FN_EP_IN_BASE : Fld := ⟨Reg.USB_FN_EP_IN, 25, 16⟩
abbrev F.USB_FN_EP_IN_SIZE : Fld := ⟨Reg.USB_FN_EP_IN, 4, 0⟩
def Reg.USB_FN_EP_OUT : RegDesc := ⟨0x261044, 4, 0x800, 5, 8, [⟨31, 31, .rw, 0, 0, 1⟩, ⟨30, 30, .rw, 0, 0, 1⟩, ⟨29, 29, .ro, 0, 0, 1⟩, ⟨28, 28, .wo, 0, 0, 1⟩, ⟨25, 16, .rw, 0, 0, 0x3ff⟩, ⟨4, 0, .rw, 0, 0, 0x1f⟩]⟩
abbrev F.USB_FN_EP_OUT_VALID : Fld := ⟨Reg.USB_FN_EP_OUT, 31, 31⟩
abbrev F.USB_FN_EP_OUT_DOUBLE : Fld := ⟨Reg.USB_FN_EP_OUT, 30, 30⟩
abbrev F.USB_FN_EP_OUT_HALTED : Fld := ⟨Reg.USB_FN_EP_OUT, 29, 29⟩
abbrev F.USB_FN_EP_OUT_HALT : Fld := ⟨Reg.USB_FN_EP_OUT, 28, 28⟩
abbrev F.USB_FN_EP_OUT_BASE : Fld := ⟨Reg.USB_FN_EP_OUT, 25, 16⟩
abbrev F.USB_FN_EP_OUT_SIZE : Fld := ⟨Reg.USB_FN_EP_OUT, 4, 0⟩
def Reg.USB_FN_NAK : RegDesc := ⟨0x261100, 4, 0x800, 1, 0, [⟨31, 31, .wo, 0, 0, 1⟩, ⟨30, 0, .ro, 0, 0, 0x7fffffff⟩]⟩
abbrev F.USB_FN_NAK_CLEAR : Fld := ⟨Reg.USB_FN_NAK, 31, 31⟩
abbrev F.USB_FN_NAK_COUNT : Fld := ⟨Reg.USB_FN_NAK, 30, 0⟩
def Reg.USB_FN_NYET : RegDesc := ⟨0x261104, 4, 0x800, 1, 0, [⟨31, 31, .wo, 0, 0, 1⟩, ⟨30, 0, .ro, 0, 0, 0x7fffffff⟩]⟩
abbrev F.USB_FN_NYET_CLEAR : Fld := ⟨Reg.USB_FN_NYET, 31, 31⟩
abbrev F.USB_FN_NYET_COUNT : Fld := ⟨Reg.USB_FN_NYET, 30, 0⟩
def Reg.USB_FN_STALL_SENT : RegDesc := ⟨0x261108, 4, 0x800, 1, 0, [⟨31, 31, .wo, 0, 0, 1⟩, ⟨30, 0, .ro, 0, 0, 0x7fffffff⟩]⟩
abbrev F.USB_FN_STALL_SENT_CLEAR : Fld := ⟨Reg.USB_FN_STALL_SENT, 31, 31⟩
abbrev F.USB_FN_STALL_SENT_COUNT : Fld := ⟨Reg.USB_FN_STALL_SENT, 30, 0⟩
def Reg.USB_FN_RESET_DISCARD : RegDesc := ⟨0x26110C, 4, 0x800, 1, 0, [⟨31, 31, .wo, 0, 0, 1⟩, ⟨30, 0, .ro, 0, 0, 0x7fffffff⟩]⟩
abbrev F.USB_FN_RESET_DISCARD_CLEAR : Fld := ⟨Reg.USB_FN_RESET_DISCARD, 31, 31⟩
abbrev F.USB_FN_RESET_DISCARD_COUNT : Fld := ⟨Reg.USB_FN_RESET_DISCARD, 30, 0⟩
def Reg.USB_FN_ROUTE_ERR : RegDesc := ⟨0x261110, 4, 0x800, 1, 0, [⟨31, 31, .wo, 0, 0, 1⟩, ⟨30, 0, .ro, 0, 0, 0x7fffffff⟩]⟩
abbrev F.USB_FN_ROUTE_ERR_CLEAR : Fld := ⟨Reg.USB_FN_ROUTE_ERR, 31, 31⟩
abbrev F.USB_FN_ROUTE_ERR_COUNT : Fld := ⟨Reg.USB_FN_ROUTE_ERR, 30, 0⟩
def Reg.USB_CARVE_IGNORED : RegDesc := ⟨0x261114, 4, 0x800, 1, 0, [⟨31, 31, .wo, 0, 0, 1⟩, ⟨30, 0, .ro, 0, 0, 0x7fffffff⟩]⟩
abbrev F.USB_CARVE_IGNORED_CLEAR : Fld := ⟨Reg.USB_CARVE_IGNORED, 31, 31⟩
abbrev F.USB_CARVE_IGNORED_COUNT : Fld := ⟨Reg.USB_CARVE_IGNORED, 30, 0⟩

/-- The registers of block USB. -/
def Reg.blockUSB : List RegDesc :=
  [Reg.USB_UFP_CTL, Reg.USB_UFP_STATUS, Reg.USB_UFP_WAKE, Reg.USB_DFP_CTL, Reg.USB_DFP_STATUS, Reg.USB_NEAR_MISS, Reg.USB_FN_CTL, Reg.USB_FN_STRAND, Reg.USB_FN_STATE, Reg.USB_FN_EP_IN, Reg.USB_FN_EP_OUT, Reg.USB_FN_NAK, Reg.USB_FN_NYET, Reg.USB_FN_STALL_SENT, Reg.USB_FN_RESET_DISCARD, Reg.USB_FN_ROUTE_ERR, Reg.USB_CARVE_IGNORED]

end Sys2Proof.Machine
end

