-- ==== Sys2Proof/Machine/CatalogD.lean ====
section
/-! DEFINITION. The register catalogue: the registers of blocks KEY, ETH, MEM, PIN, PKG as their tables of the spec lay them down. -/

namespace Sys2Proof.Machine

/-! Block KEY (17 R457). -/

def Reg.KEY_STATUS : RegDesc := ⟨0x280000, 1, 0, 1, 0, [⟨31, 29, .ro, 0, 0, 7⟩, ⟨28, 28, .ro, 0, 0, 1⟩, ⟨27, 27, .ro, 0, 0, 1⟩, ⟨22, 16, .ro, 0, 0, 0x7f⟩, ⟨6, 0, .ro, 0, 0, 0x7f⟩]⟩
abbrev F.KEY_STATUS_LC : Fld := ⟨Reg.KEY_STATUS, 31, 29⟩
abbrev F.KEY_STATUS_OWNER_VALID : Fld := ⟨Reg.KEY_STATUS, 28, 28⟩
abbrev F.KEY_STATUS_ROOT_VALID : Fld := ⟨Reg.KEY_STATUS, 27, 27⟩
abbrev F.KEY_STATUS_PINNED : Fld := ⟨Reg.KEY_STATUS, 22, 16⟩
abbrev F.KEY_STATUS_LOADED : Fld := ⟨Reg.KEY_STATUS, 6, 0⟩
def Reg.KEY_FACTORY_ID : RegDesc := ⟨0x280004, 1, 0, 1, 0, [⟨31, 0, .ro, 0, 0, 0xffffffff⟩]⟩
abbrev F.KEY_FACTORY_ID_FACTORY_ID : Fld := ⟨Reg.KEY_FACTORY_ID, 31, 0⟩
def Reg.KEY_OWNER_ID : RegDesc := ⟨0x280008, 1, 0, 1, 0, [⟨31, 0, .ro, 0, 0, 0xffffffff⟩]⟩
abbrev F.KEY_OWNER_ID_OWNER_ID : Fld := ⟨Reg.KEY_OWNER_ID, 31, 0⟩
def Reg.KEY_DIR_LO : RegDesc := ⟨0x280010, 1, 0, 1, 0, [⟨31, 4, .rw, 0, 0, 0xfffffff⟩]⟩
abbrev F.KEY_DIR_LO_KEY_DIR_BASE : Fld := ⟨Reg.KEY_DIR_LO, 31, 4⟩
def Reg.KEY_DIR_HI : RegDesc := ⟨0x280014, 1, 0, 1, 0, [⟨31, 0, .rw, 0, 0, 0xffffffff⟩]⟩
abbrev F.KEY_DIR_HI_KEY_DIR_BASE : Fld := ⟨Reg.KEY_DIR_HI, 31, 0⟩
def Reg.KEY_DIR_CFG : RegDesc := ⟨0x280018, 1, 0, 1, 0, [⟨31, 31, .rw, 0, 0, 1⟩, ⟨15, 0, .rw, 0, 0, 0xffff⟩]⟩
abbrev F.KEY_DIR_CFG_DIR_DEVICE : Fld := ⟨Reg.KEY_DIR_CFG, 31, 31⟩
abbrev F.KEY_DIR_CFG_KEY_DIR_COUNT : Fld := ⟨Reg.KEY_DIR_CFG, 15, 0⟩
def Reg.KEY_CMD : RegDesc := ⟨0x280020, 1, 0, 1, 0, [⟨31, 28, .wo, 0, 0, 0xf⟩, ⟨15, 0, .wo, 0, 0, 0xffff⟩]⟩
abbrev F.KEY_CMD_OP : Fld := ⟨Reg.KEY_CMD, 31, 28⟩
abbrev F.KEY_CMD_HANDLE : Fld := ⟨Reg.KEY_CMD, 15, 0⟩
def Reg.KEY_CMD_ADDR_LO : RegDesc := ⟨0x280024, 1, 0, 1, 0, [⟨31, 3, .rw, 0, 0, 0x1fffffff⟩]⟩
abbrev F.KEY_CMD_ADDR_LO_ADDR : Fld := ⟨Reg.KEY_CMD_ADDR_LO, 31, 3⟩
def Reg.KEY_CMD_ADDR_HI : RegDesc := ⟨0x280028, 1, 0, 1, 0, [⟨31, 0, .rw, 0, 0, 0xffffffff⟩]⟩
abbrev F.KEY_CMD_ADDR_HI_ADDR : Fld := ⟨Reg.KEY_CMD_ADDR_HI, 31, 0⟩
def Reg.KEY_CMD_STATUS : RegDesc := ⟨0x28002C, 1, 0, 1, 0, [⟨31, 24, .ro, 0, 0, 0xff⟩, ⟨23, 23, .ro, 0, 0, 1⟩, ⟨15, 0, .ro, 0, 0, 0xffff⟩]⟩
abbrev F.KEY_CMD_STATUS_RESULT : Fld := ⟨Reg.KEY_CMD_STATUS, 31, 24⟩
abbrev F.KEY_CMD_STATUS_BUSY : Fld := ⟨Reg.KEY_CMD_STATUS, 23, 23⟩
abbrev F.KEY_CMD_STATUS_SEQ : Fld := ⟨Reg.KEY_CMD_STATUS, 15, 0⟩
def Reg.KEY_ATT_COUNTER_LO : RegDesc := ⟨0x280030, 1, 0, 1, 0, [⟨31, 0, .ro, 0, 0, 0xffffffff⟩]⟩
abbrev F.KEY_ATT_COUNTER_LO_COUNTER : Fld := ⟨Reg.KEY_ATT_COUNTER_LO, 31, 0⟩
def Reg.KEY_ATT_COUNTER_HI : RegDesc := ⟨0x280034, 1, 0, 1, 0, [⟨31, 0, .ro, 0, 0, 0xffffffff⟩]⟩
abbrev F.KEY_ATT_COUNTER_HI_COUNTER : Fld := ⟨Reg.KEY_ATT_COUNTER_HI, 31, 0⟩
def Reg.KEY_LOADS : RegDesc := ⟨0x280040, 1, 0, 1, 0, [⟨31, 31, .wo, 0, 0, 1⟩, ⟨30, 0, .ro, 0, 0, 0x7fffffff⟩]⟩
abbrev F.KEY_LOADS_CLEAR : Fld := ⟨Reg.KEY_LOADS, 31, 31⟩
abbrev F.KEY_LOADS_COUNT : Fld := ⟨Reg.KEY_LOADS, 30, 0⟩
def Reg.KEY_LOAD_FAIL : RegDesc := ⟨0x280044, 1, 0, 1, 0, [⟨31, 31, .wo, 0, 0, 1⟩, ⟨30, 0, .ro, 0, 0, 0x7fffffff⟩]⟩
abbrev F.KEY_LOAD_FAIL_CLEAR : Fld := ⟨Reg.KEY_LOAD_FAIL, 31, 31⟩
abbrev F.KEY_LOAD_FAIL_COUNT : Fld := ⟨Reg.KEY_LOAD_FAIL, 30, 0⟩
def Reg.KEY_EVICT : RegDesc := ⟨0x280048, 1, 0, 1, 0, [⟨31, 31, .wo, 0, 0, 1⟩, ⟨30, 0, .ro, 0, 0, 0x7fffffff⟩]⟩
abbrev F.KEY_EVICT_CLEAR : Fld := ⟨Reg.KEY_EVICT, 31, 31⟩
abbrev F.KEY_EVICT_COUNT : Fld := ⟨Reg.KEY_EVICT, 30, 0⟩
def Reg.KEY_TAG_FAIL : RegDesc := ⟨0x28004C, 1, 0, 1, 0, [⟨31, 31, .wo, 0, 0, 1⟩, ⟨30, 0, .ro, 0, 0, 0x7fffffff⟩]⟩
abbrev F.KEY_TAG_FAIL_CLEAR : Fld := ⟨Reg.KEY_TAG_FAIL, 31, 31⟩
abbrev F.KEY_TAG_FAIL_COUNT : Fld := ⟨Reg.KEY_TAG_FAIL, 30, 0⟩
def Reg.KEY_ENC_MISMATCH : RegDesc := ⟨0x280050, 1, 0, 1, 0, [⟨31, 31, .wo, 0, 0, 1⟩, ⟨30, 0, .ro, 0, 0, 0x7fffffff⟩]⟩
abbrev F.KEY_ENC_MISMATCH_CLEAR : Fld := ⟨Reg.KEY_ENC_MISMATCH, 31, 31⟩
abbrev F.KEY_ENC_MISMATCH_COUNT : Fld := ⟨Reg.KEY_ENC_MISMATCH, 30, 0⟩
def Reg.KEY_TAMPER : RegDesc := ⟨0x280060, 1, 0, 1, 0, [⟨31, 24, .ro, 0, 0, 0xff⟩, ⟨15, 0, .rws, 0, 0, 0xffff⟩]⟩
abbrev F.KEY_TAMPER_LAST_CAUSE : Fld := ⟨Reg.KEY_TAMPER, 31, 24⟩
abbrev F.KEY_TAMPER_COUNT : Fld := ⟨Reg.KEY_TAMPER, 15, 0⟩
def Reg.KEY_ARG : RegDesc := ⟨0x280080, 16, 4, 1, 0, [⟨31, 0, .wo, 0, 0, 0xffffffff⟩]⟩
abbrev F.KEY_ARG_ARG : Fld := ⟨Reg.KEY_ARG, 31, 0⟩
def Reg.KEY_RESP : RegDesc := ⟨0x2800C0, 14, 4, 1, 0, [⟨31, 0, .ro, 0, 0, 0xffffffff⟩]⟩
abbrev F.KEY_RESP_RESP : Fld := ⟨Reg.KEY_RESP, 31, 0⟩
def Reg.KEY_SLOT : RegDesc := ⟨0x280100, 64, 4, 1, 0, [⟨31, 31, .ro, 0, 0, 1⟩, ⟨30, 30, .ro, 0, 0, 1⟩, ⟨29, 22, .ro, 0, 0, 0xff⟩, ⟨21, 20, .ro, 0, 0, 3⟩, ⟨15, 0, .ro, 0, 0, 0xffff⟩]⟩
abbrev F.KEY_SLOT_VALID : Fld := ⟨Reg.KEY_SLOT, 31, 31⟩
abbrev F.KEY_SLOT_PINNED : Fld := ⟨Reg.KEY_SLOT, 30, 30⟩
abbrev F.KEY_SLOT_OWNER : Fld := ⟨Reg.KEY_SLOT, 29, 22⟩
abbrev F.KEY_SLOT_USE : Fld := ⟨Reg.KEY_SLOT, 21, 20⟩
abbrev F.KEY_SLOT_HANDLE : Fld := ⟨Reg.KEY_SLOT, 15, 0⟩

/-- The registers of block KEY. -/
def Reg.blockKEY : List RegDesc :=
  [Reg.KEY_STATUS, Reg.KEY_FACTORY_ID, Reg.KEY_OWNER_ID, Reg.KEY_DIR_LO, Reg.KEY_DIR_HI, Reg.KEY_DIR_CFG, Reg.KEY_CMD, Reg.KEY_CMD_ADDR_LO, Reg.KEY_CMD_ADDR_HI, Reg.KEY_CMD_STATUS, Reg.KEY_ATT_COUNTER_LO, Reg.KEY_ATT_COUNTER_HI, Reg.KEY_LOADS, Reg.KEY_LOAD_FAIL, Reg.KEY_EVICT, Reg.KEY_TAG_FAIL, Reg.KEY_ENC_MISMATCH, Reg.KEY_TAMPER, Reg.KEY_ARG, Reg.KEY_RESP, Reg.KEY_SLOT]

/-! Block ETH (10 R300). -/

def Reg.ETH_CFG : RegDesc := ⟨0x2A0000, 4, 0x400, 1, 0, [⟨31, 29, .skn, 0, 0, 7⟩, ⟨28, 28, .skn, 0, 0, 1⟩, ⟨27, 27, .skn, 1, 0, 1⟩, ⟨25, 14, .skn, 1, 0, 0xfff⟩, ⟨13, 0, .skn, 0x5f2, 0x40, 0x2580⟩]⟩
abbrev F.ETH_CFG_MODE : Fld := ⟨Reg.ETH_CFG, 31, 29⟩
abbrev F.ETH_CFG_RS_FEC : Fld := ⟨Reg.ETH_CFG, 28, 28⟩
abbrev F.ETH_CFG_AN_EN : Fld := ⟨Reg.ETH_CFG, 27, 27⟩
abbrev F.ETH_CFG_PVID : Fld := ⟨Reg.ETH_CFG, 25, 14⟩
abbrev F.ETH_CFG_MAX_FRAME : Fld := ⟨Reg.ETH_CFG, 13, 0⟩
def Reg.ETH_STATUS : RegDesc := ⟨0x2A0004, 4, 0x400, 1, 0, [⟨31, 31, .ro, 0, 0, 1⟩, ⟨30, 28, .ro, 0, 0, 7⟩, ⟨27, 27, .ro, 0, 0, 1⟩]⟩
abbrev F.ETH_STATUS_LINK : Fld := ⟨Reg.ETH_STATUS, 31, 31⟩
abbrev F.ETH_STATUS_SPEED : Fld := ⟨Reg.ETH_STATUS, 30, 28⟩
abbrev F.ETH_STATUS_AN_DONE : Fld := ⟨Reg.ETH_STATUS, 27, 27⟩
def Reg.ETH_CLS : RegDesc := ⟨0x2A0008, 4, 0x400, 1, 0, [⟨31, 31, .skn, 0, 0, 1⟩, ⟨23, 12, .skn, 0xfff, 1, 0xfff⟩, ⟨11, 0, .skn, 0xfff, 1, 0xfff⟩]⟩
abbrev F.ETH_CLS_PROT_EN : Fld := ⟨Reg.ETH_CLS, 31, 31⟩
abbrev F.ETH_CLS_PROT_SN : Fld := ⟨Reg.ETH_CLS, 23, 12⟩
abbrev F.ETH_CLS_DEFAULT_SN : Fld := ⟨Reg.ETH_CLS, 11, 0⟩
def Reg.ETH_APPID : RegDesc := ⟨0x2A000C, 4, 0x400, 1, 0, [⟨31, 16, .skn, 0x7fff, 0, 0xffff⟩, ⟨15, 0, .skn, 0, 0, 0xffff⟩]⟩
abbrev F.ETH_APPID_APPID_HI : Fld := ⟨Reg.ETH_APPID, 31, 16⟩
abbrev F.ETH_APPID_APPID_LO : Fld := ⟨Reg.ETH_APPID, 15, 0⟩
def Reg.ETH_PTP_CFG : RegDesc := ⟨0x2A0010, 4, 0x400, 1, 0, [⟨31, 30, .skn, 0, 0, 3⟩, ⟨29, 28, .skn, 0, 0, 1⟩, ⟨27, 27, .skn, 1, 0, 1⟩, ⟨26, 26, .skn, 0, 0, 1⟩, ⟨23, 16, .skn, 0, 0, 0xff⟩]⟩
abbrev F.ETH_PTP_CFG_ROLE : Fld := ⟨Reg.ETH_PTP_CFG, 31, 30⟩
abbrev F.ETH_PTP_CFG_PROFILE : Fld := ⟨Reg.ETH_PTP_CFG, 29, 28⟩
abbrev F.ETH_PTP_CFG_ONE_STEP : Fld := ⟨Reg.ETH_PTP_CFG, 27, 27⟩
abbrev F.ETH_PTP_CFG_MASTER_ONLY : Fld := ⟨Reg.ETH_PTP_CFG, 26, 26⟩
abbrev F.ETH_PTP_CFG_DOMAIN : Fld := ⟨Reg.ETH_PTP_CFG, 23, 16⟩
def Reg.ETH_PTP_LAT : RegDesc := ⟨0x2A0014, 4, 0x400, 1, 0, [⟨31, 16, .skn, 0, 0, 0xffff⟩, ⟨15, 0, .skn, 0, 0, 0xffff⟩]⟩
abbrev F.ETH_PTP_LAT_TX_LAT : Fld := ⟨Reg.ETH_PTP_LAT, 31, 16⟩
abbrev F.ETH_PTP_LAT_RX_LAT : Fld := ⟨Reg.ETH_PTP_LAT, 15, 0⟩
def Reg.ETH_PTP_STATUS : RegDesc := ⟨0x2A0018, 4, 0x400, 1, 0, [⟨31, 28, .ro, 0, 0, 0xf⟩]⟩
abbrev F.ETH_PTP_STATUS_STATE : Fld := ⟨Reg.ETH_PTP_STATUS, 31, 28⟩
def Reg.ETH_PTP_DELAY : RegDesc := ⟨0x2A001C, 4, 0x400, 1, 0, [⟨31, 0, .ro, 0, 0, 0xffffffff⟩]⟩
abbrev F.ETH_PTP_DELAY_DELAY : Fld := ⟨Reg.ETH_PTP_DELAY, 31, 0⟩
def Reg.ETH_MSEC_CTL : RegDesc := ⟨0x2A0020, 4, 0x400, 1, 0, [⟨31, 31, .skn, 0, 0, 1⟩, ⟨30, 29, .skn, 2, 0, 2⟩, ⟨28, 28, .skn, 1, 0, 1⟩, ⟨27, 26, .rw, 0, 0, 3⟩]⟩
abbrev F.ETH_MSEC_CTL_EN : Fld := ⟨Reg.ETH_MSEC_CTL, 31, 31⟩
abbrev F.ETH_MSEC_CTL_VALIDATE : Fld := ⟨Reg.ETH_MSEC_CTL, 30, 29⟩
abbrev F.ETH_MSEC_CTL_REPLAY_PROTECT : Fld := ⟨Reg.ETH_MSEC_CTL, 28, 28⟩
abbrev F.ETH_MSEC_CTL_TX_AN : Fld := ⟨Reg.ETH_MSEC_CTL, 27, 26⟩
def Reg.ETH_MSEC_WINDOW : RegDesc := ⟨0x2A0024, 4, 0x400, 1, 0, [⟨31, 0, .skn, 0, 0, 0xffffffff⟩]⟩
abbrev F.ETH_MSEC_WINDOW_REPLAY_WINDOW : Fld := ⟨Reg.ETH_MSEC_WINDOW, 31, 0⟩
def Reg.ETH_MSEC_THRESH : RegDesc := ⟨0x2A0028, 4, 0x400, 1, 0, [⟨31, 0, .skn, 0xc0000000, 0, 0xffffffff⟩]⟩
abbrev F.ETH_MSEC_THRESH_PN_THRESH : Fld := ⟨Reg.ETH_MSEC_THRESH, 31, 0⟩
def Reg.ETH_RX_FRAMES : RegDesc := ⟨0x2A0040, 4, 0x400, 1, 0, [⟨31, 31, .wo, 0, 0, 1⟩, ⟨30, 0, .ro, 0, 0, 0x7fffffff⟩]⟩
abbrev F.ETH_RX_FRAMES_CLEAR : Fld := ⟨Reg.ETH_RX_FRAMES, 31, 31⟩
abbrev F.ETH_RX_FRAMES_COUNT : Fld := ⟨Reg.ETH_RX_FRAMES, 30, 0⟩
def Reg.ETH_RX_FCS_ERR : RegDesc := ⟨0x2A0044, 4, 0x400, 1, 0, [⟨31, 31, .wo, 0, 0, 1⟩, ⟨30, 0, .ro, 0, 0, 0x7fffffff⟩]⟩
abbrev F.ETH_RX_FCS_ERR_CLEAR : Fld := ⟨Reg.ETH_RX_FCS_ERR, 31, 31⟩
abbrev F.ETH_RX_FCS_ERR_COUNT : Fld := ⟨Reg.ETH_RX_FCS_ERR, 30, 0⟩
def Reg.ETH_RX_RUNT : RegDesc := ⟨0x2A0048, 4, 0x400, 1, 0, [⟨31, 31, .wo, 0, 0, 1⟩, ⟨30, 0, .ro, 0, 0, 0x7fffffff⟩]⟩
abbrev F.ETH_RX_RUNT_CLEAR : Fld := ⟨Reg.ETH_RX_RUNT, 31, 31⟩
abbrev F.ETH_RX_RUNT_COUNT : Fld := ⟨Reg.ETH_RX_RUNT, 30, 0⟩
def Reg.ETH_RX_OVERSIZE : RegDesc := ⟨0x2A004C, 4, 0x400, 1, 0, [⟨31, 31, .wo, 0, 0, 1⟩, ⟨30, 0, .ro, 0, 0, 0x7fffffff⟩]⟩
abbrev F.ETH_RX_OVERSIZE_CLEAR : Fld := ⟨Reg.ETH_RX_OVERSIZE, 31, 31⟩
abbrev F.ETH_RX_OVERSIZE_COUNT : Fld := ⟨Reg.ETH_RX_OVERSIZE, 30, 0⟩
def Reg.ETH_RX_NO_STREAM : RegDesc := ⟨0x2A0050, 4, 0x400, 1, 0, [⟨31, 31, .wo, 0, 0, 1⟩, ⟨30, 0, .ro, 0, 0, 0x7fffffff⟩]⟩
abbrev F.ETH_RX_NO_STREAM_CLEAR : Fld := ⟨Reg.ETH_RX_NO_STREAM, 31, 31⟩
abbrev F.ETH_RX_NO_STREAM_COUNT : Fld := ⟨Reg.ETH_RX_NO_STREAM, 30, 0⟩
def Reg.ETH_RX_PAUSE : RegDesc := ⟨0x2A0054, 4, 0x400, 1, 0, [⟨31, 31, .wo, 0, 0, 1⟩, ⟨30, 0, .ro, 0, 0, 0x7fffffff⟩]⟩
abbrev F.ETH_RX_PAUSE_CLEAR : Fld := ⟨Reg.ETH_RX_PAUSE, 31, 31⟩
abbrev F.ETH_RX_PAUSE_COUNT : Fld := ⟨Reg.ETH_RX_PAUSE, 30, 0⟩
def Reg.ETH_TX_FRAMES : RegDesc := ⟨0x2A0058, 4, 0x400, 1, 0, [⟨31, 31, .wo, 0, 0, 1⟩, ⟨30, 0, .ro, 0, 0, 0x7fffffff⟩]⟩
abbrev F.ETH_TX_FRAMES_CLEAR : Fld := ⟨Reg.ETH_TX_FRAMES, 31, 31⟩
abbrev F.ETH_TX_FRAMES_COUNT : Fld := ⟨Reg.ETH_TX_FRAMES, 30, 0⟩
def Reg.ETH_MSEC_ICV_FAIL : RegDesc := ⟨0x2A005C, 4, 0x400, 1, 0, [⟨31, 31, .wo, 0, 0, 1⟩, ⟨30, 0, .ro, 0, 0, 0x7fffffff⟩]⟩
abbrev F.ETH_MSEC_ICV_FAIL_CLEAR : Fld := ⟨Reg.ETH_MSEC_ICV_FAIL, 31, 31⟩
abbrev F.ETH_MSEC_ICV_FAIL_COUNT : Fld := ⟨Reg.ETH_MSEC_ICV_FAIL, 30, 0⟩
def Reg.ETH_MSEC_REPLAY : RegDesc := ⟨0x2A0060, 4, 0x400, 1, 0, [⟨31, 31, .wo, 0, 0, 1⟩, ⟨30, 0, .ro, 0, 0, 0x7fffffff⟩]⟩
abbrev F.ETH_MSEC_REPLAY_CLEAR : Fld := ⟨Reg.ETH_MSEC_REPLAY, 31, 31⟩
abbrev F.ETH_MSEC_REPLAY_COUNT : Fld := ⟨Reg.ETH_MSEC_REPLAY, 30, 0⟩
def Reg.ETH_MSEC_NO_SA : RegDesc := ⟨0x2A0064, 4, 0x400, 1, 0, [⟨31, 31, .wo, 0, 0, 1⟩, ⟨30, 0, .ro, 0, 0, 0x7fffffff⟩]⟩
abbrev F.ETH_MSEC_NO_SA_CLEAR : Fld := ⟨Reg.ETH_MSEC_NO_SA, 31, 31⟩
abbrev F.ETH_MSEC_NO_SA_COUNT : Fld := ⟨Reg.ETH_MSEC_NO_SA, 30, 0⟩
def Reg.ETH_PTP_TC_UNMATCHED : RegDesc := ⟨0x2A0068, 4, 0x400, 1, 0, [⟨31, 31, .wo, 0, 0, 1⟩, ⟨30, 0, .ro, 0, 0, 0x7fffffff⟩]⟩
abbrev F.ETH_PTP_TC_UNMATCHED_CLEAR : Fld := ⟨Reg.ETH_PTP_TC_UNMATCHED, 31, 31⟩
abbrev F.ETH_PTP_TC_UNMATCHED_COUNT : Fld := ⟨Reg.ETH_PTP_TC_UNMATCHED, 30, 0⟩
def Reg.ETH_LRE_CFG : RegDesc := ⟨0x2A1000, 1, 0, 1, 0, [⟨31, 30, .skn, 0, 0, 2⟩, ⟨15, 0, .skn, 0x190, 0xa, 0x3e8⟩]⟩
abbrev F.ETH_LRE_CFG_MODE : Fld := ⟨Reg.ETH_LRE_CFG, 31, 30⟩
abbrev F.ETH_LRE_CFG_ENTRY_FORGET_MS : Fld := ⟨Reg.ETH_LRE_CFG, 15, 0⟩
def Reg.ETH_LRE_SUP : RegDesc := ⟨0x2A1004, 1, 0, 1, 0, [⟨31, 16, .skn, 0x7d0, 0x64, 0xffff⟩, ⟨15, 8, .skn, 0, 0, 0xff⟩]⟩
abbrev F.ETH_LRE_SUP_LIFE_CHECK_MS : Fld := ⟨Reg.ETH_LRE_SUP, 31, 16⟩
abbrev F.ETH_LRE_SUP_SUP_DA_LSB : Fld := ⟨Reg.ETH_LRE_SUP, 15, 8⟩
def Reg.ETH_LRE_DUP_DISCARD : RegDesc := ⟨0x2A1010, 1, 0, 1, 0, [⟨31, 31, .wo, 0, 0, 1⟩, ⟨30, 0, .ro, 0, 0, 0x7fffffff⟩]⟩
abbrev F.ETH_LRE_DUP_DISCARD_CLEAR : Fld := ⟨Reg.ETH_LRE_DUP_DISCARD, 31, 31⟩
abbrev F.ETH_LRE_DUP_DISCARD_COUNT : Fld := ⟨Reg.ETH_LRE_DUP_DISCARD, 30, 0⟩
def Reg.ETH_LRE_WRONG_LAN : RegDesc := ⟨0x2A1014, 2, 4, 1, 0, [⟨31, 31, .wo, 0, 0, 1⟩, ⟨30, 0, .ro, 0, 0, 0x7fffffff⟩]⟩
abbrev F.ETH_LRE_WRONG_LAN_CLEAR : Fld := ⟨Reg.ETH_LRE_WRONG_LAN, 31, 31⟩
abbrev F.ETH_LRE_WRONG_LAN_COUNT : Fld := ⟨Reg.ETH_LRE_WRONG_LAN, 30, 0⟩
def Reg.ETH_LRE_DUP_EVICT : RegDesc := ⟨0x2A101C, 1, 0, 1, 0, [⟨31, 31, .wo, 0, 0, 1⟩, ⟨30, 0, .ro, 0, 0, 0x7fffffff⟩]⟩
abbrev F.ETH_LRE_DUP_EVICT_CLEAR : Fld := ⟨Reg.ETH_LRE_DUP_EVICT, 31, 31⟩
abbrev F.ETH_LRE_DUP_EVICT_COUNT : Fld := ⟨Reg.ETH_LRE_DUP_EVICT, 30, 0⟩
def Reg.ETH_LRE_TRANSIT_DROP : RegDesc := ⟨0x2A1020, 1, 0, 1, 0, [⟨31, 31, .wo, 0, 0, 1⟩, ⟨30, 0, .ro, 0, 0, 0x7fffffff⟩]⟩
abbrev F.ETH_LRE_TRANSIT_DROP_CLEAR : Fld := ⟨Reg.ETH_LRE_TRANSIT_DROP, 31, 31⟩
abbrev F.ETH_LRE_TRANSIT_DROP_COUNT : Fld := ⟨Reg.ETH_LRE_TRANSIT_DROP, 30, 0⟩
def Reg.ETH_LRE_PROXY_LO : RegDesc := ⟨0x2A1100, 16, 8, 1, 0, [⟨31, 0, .rw, 0, 0, 0xffffffff⟩]⟩
abbrev F.ETH_LRE_PROXY_LO_ADDR : Fld := ⟨Reg.ETH_LRE_PROXY_LO, 31, 0⟩
def Reg.ETH_LRE_PROXY_HI : RegDesc := ⟨0x2A1104, 16, 8, 1, 0, [⟨15, 0, .rw, 0, 0, 0xffff⟩]⟩
abbrev F.ETH_LRE_PROXY_HI_ADDR : Fld := ⟨Reg.ETH_LRE_PROXY_HI, 15, 0⟩
def Reg.ETH_RULE_CTL : RegDesc := ⟨0x2A2000, 256, 0x20, 1, 0, [⟨31, 31, .rw, 0, 0, 1⟩, ⟨30, 27, .rw, 0, 0, 0xf⟩, ⟨26, 26, .rw, 0, 0, 1⟩, ⟨25, 25, .rw, 0, 0, 1⟩, ⟨24, 24, .rw, 0, 0, 1⟩, ⟨23, 23, .rw, 0, 0, 1⟩, ⟨22, 15, .rw, 0xff, 0, 0xff⟩]⟩
abbrev F.ETH_RULE_CTL_VALID : Fld := ⟨Reg.ETH_RULE_CTL, 31, 31⟩
abbrev F.ETH_RULE_CTL_MAC_MASK : Fld := ⟨Reg.ETH_RULE_CTL, 30, 27⟩
abbrev F.ETH_RULE_CTL_DA_EN : Fld := ⟨Reg.ETH_RULE_CTL, 26, 26⟩
abbrev F.ETH_RULE_CTL_ETYPE_EN : Fld := ⟨Reg.ETH_RULE_CTL, 25, 25⟩
abbrev F.ETH_RULE_CTL_VID_EN : Fld := ⟨Reg.ETH_RULE_CTL, 24, 24⟩
abbrev F.ETH_RULE_CTL_APPID_EN : Fld := ⟨Reg.ETH_RULE_CTL, 23, 23⟩
abbrev F.ETH_RULE_CTL_PCP_MASK : Fld := ⟨Reg.ETH_RULE_CTL, 22, 15⟩
def Reg.ETH_RULE_DA_LO : RegDesc := ⟨0x2A2004, 256, 0x20, 1, 0, [⟨31, 0, .rw, 0, 0, 0xffffffff⟩]⟩
abbrev F.ETH_RULE_DA_LO_DA : Fld := ⟨Reg.ETH_RULE_DA_LO, 31, 0⟩
def Reg.ETH_RULE_DA_HI : RegDesc := ⟨0x2A2008, 256, 0x20, 1, 0, [⟨15, 0, .rw, 0, 0, 0xffff⟩]⟩
abbrev F.ETH_RULE_DA_HI_DA : Fld := ⟨Reg.ETH_RULE_DA_HI, 15, 0⟩
def Reg.ETH_RULE_MATCH : RegDesc := ⟨0x2A200C, 256, 0x20, 1, 0, [⟨31, 16, .rw, 0, 0, 0xffff⟩, ⟨11, 0, .rw, 0, 0, 0xfff⟩]⟩
abbrev F.ETH_RULE_MATCH_ETYPE : Fld := ⟨Reg.ETH_RULE_MATCH, 31, 16⟩
abbrev F.ETH_RULE_MATCH_VID : Fld := ⟨Reg.ETH_RULE_MATCH, 11, 0⟩
def Reg.ETH_RULE_APPID : RegDesc := ⟨0x2A2010, 256, 0x20, 1, 0, [⟨15, 0, .rw, 0, 0, 0xffff⟩]⟩
abbrev F.ETH_RULE_APPID_APPID : Fld := ⟨Reg.ETH_RULE_APPID, 15, 0⟩
def Reg.ETH_RULE_ACT : RegDesc := ⟨0x2A2014, 256, 0x20, 1, 0, [⟨31, 31, .rw, 0, 0, 1⟩, ⟨30, 30, .w1c, 0, 0, 1⟩, ⟨29, 16, .rw, 0, 0, 0x3fff⟩, ⟨11, 0, .rw, 0xfff, 0, 0xfff⟩]⟩
abbrev F.ETH_RULE_ACT_BLOCK_OVERSIZE : Fld := ⟨Reg.ETH_RULE_ACT, 31, 31⟩
abbrev F.ETH_RULE_ACT_BLOCKED : Fld := ⟨Reg.ETH_RULE_ACT, 30, 30⟩
abbrev F.ETH_RULE_ACT_MAX_SDU : Fld := ⟨Reg.ETH_RULE_ACT, 29, 16⟩
abbrev F.ETH_RULE_ACT_SN : Fld := ⟨Reg.ETH_RULE_ACT, 11, 0⟩
def Reg.ETH_SA_CMD : RegDesc := ⟨0x2A4000, 1, 0, 1, 0, [⟨31, 30, .wo, 0, 0, 3⟩, ⟨29, 28, .wo, 0, 0, 3⟩, ⟨27, 27, .wo, 0, 0, 1⟩, ⟨26, 25, .wo, 0, 0, 3⟩, ⟨24, 23, .wo, 0, 0, 3⟩, ⟨15, 0, .wo, 0, 0, 0xffff⟩]⟩
abbrev F.ETH_SA_CMD_OP : Fld := ⟨Reg.ETH_SA_CMD, 31, 30⟩
abbrev F.ETH_SA_CMD_PORT : Fld := ⟨Reg.ETH_SA_CMD, 29, 28⟩
abbrev F.ETH_SA_CMD_RX : Fld := ⟨Reg.ETH_SA_CMD, 27, 27⟩
abbrev F.ETH_SA_CMD_SC : Fld := ⟨Reg.ETH_SA_CMD, 26, 25⟩
abbrev F.ETH_SA_CMD_AN : Fld := ⟨Reg.ETH_SA_CMD, 24, 23⟩
abbrev F.ETH_SA_CMD_KEY_HANDLE : Fld := ⟨Reg.ETH_SA_CMD, 15, 0⟩
def Reg.ETH_SA_PN : RegDesc := ⟨0x2A4004, 1, 0, 1, 0, [⟨31, 0, .rw, 1, 0, 0xffffffff⟩]⟩
abbrev F.ETH_SA_PN_NEXT_PN : Fld := ⟨Reg.ETH_SA_PN, 31, 0⟩
def Reg.ETH_SA_SCI_LO : RegDesc := ⟨0x2A4008, 1, 0, 1, 0, [⟨31, 0, .rw, 0, 0, 0xffffffff⟩]⟩
abbrev F.ETH_SA_SCI_LO_SCI : Fld := ⟨Reg.ETH_SA_SCI_LO, 31, 0⟩
def Reg.ETH_SA_SCI_HI : RegDesc := ⟨0x2A400C, 1, 0, 1, 0, [⟨31, 0, .rw, 0, 0, 0xffffffff⟩]⟩
abbrev F.ETH_SA_SCI_HI_SCI : Fld := ⟨Reg.ETH_SA_SCI_HI, 31, 0⟩
def Reg.ETH_SA_STATUS : RegDesc := ⟨0x2A4010, 1, 0, 1, 0, [⟨31, 24, .ro, 0, 0, 0xff⟩, ⟨23, 23, .ro, 0, 0, 1⟩, ⟨15, 0, .ro, 0, 0, 0xffff⟩]⟩
abbrev F.ETH_SA_STATUS_RESULT : Fld := ⟨Reg.ETH_SA_STATUS, 31, 24⟩
abbrev F.ETH_SA_STATUS_BUSY : Fld := ⟨Reg.ETH_SA_STATUS, 23, 23⟩
abbrev F.ETH_SA_STATUS_SEQ : Fld := ⟨Reg.ETH_SA_STATUS, 15, 0⟩

/-- The registers of block ETH. -/
def Reg.blockETH : List RegDesc :=
  [Reg.ETH_CFG, Reg.ETH_STATUS, Reg.ETH_CLS, Reg.ETH_APPID, Reg.ETH_PTP_CFG, Reg.ETH_PTP_LAT, Reg.ETH_PTP_STATUS, Reg.ETH_PTP_DELAY, Reg.ETH_MSEC_CTL, Reg.ETH_MSEC_WINDOW, Reg.ETH_MSEC_THRESH, Reg.ETH_RX_FRAMES, Reg.ETH_RX_FCS_ERR, Reg.ETH_RX_RUNT, Reg.ETH_RX_OVERSIZE, Reg.ETH_RX_NO_STREAM, Reg.ETH_RX_PAUSE, Reg.ETH_TX_FRAMES, Reg.ETH_MSEC_ICV_FAIL, Reg.ETH_MSEC_REPLAY, Reg.ETH_MSEC_NO_SA, Reg.ETH_PTP_TC_UNMATCHED, Reg.ETH_LRE_CFG, Reg.ETH_LRE_SUP] ++
  [Reg.ETH_LRE_DUP_DISCARD, Reg.ETH_LRE_WRONG_LAN, Reg.ETH_LRE_DUP_EVICT, Reg.ETH_LRE_TRANSIT_DROP, Reg.ETH_LRE_PROXY_LO, Reg.ETH_LRE_PROXY_HI, Reg.ETH_RULE_CTL, Reg.ETH_RULE_DA_LO, Reg.ETH_RULE_DA_HI, Reg.ETH_RULE_MATCH, Reg.ETH_RULE_APPID, Reg.ETH_RULE_ACT, Reg.ETH_SA_CMD, Reg.ETH_SA_PN, Reg.ETH_SA_SCI_LO, Reg.ETH_SA_SCI_HI, Reg.ETH_SA_STATUS]

/-! Block MEM (06 R183, 11 R326). -/

def Reg.MEM_POND_BASE_LO : RegDesc := ⟨0x2C0100, 2, 0x20, 1, 0, [⟨31, 20, .skn, 0, 0, 0xfff⟩]⟩
abbrev F.MEM_POND_BASE_LO_BASE : Fld := ⟨Reg.MEM_POND_BASE_LO, 31, 20⟩
def Reg.MEM_POND_BASE_HI : RegDesc := ⟨0x2C0104, 2, 0x20, 1, 0, [⟨31, 0, .skn, 0, 0, 0xffffffff⟩]⟩
abbrev F.MEM_POND_BASE_HI_BASE : Fld := ⟨Reg.MEM_POND_BASE_HI, 31, 0⟩
def Reg.MEM_POND_SIZE : RegDesc := ⟨0x2C0108, 2, 0x20, 1, 0, [⟨14, 0, .skn, 0x100, 0, 0x3fff⟩]⟩
abbrev F.MEM_POND_SIZE_SIZE_MIB : Fld := ⟨Reg.MEM_POND_SIZE, 14, 0⟩
def Reg.MEM_POND_USED : RegDesc := ⟨0x2C010C, 2, 0x20, 1, 0, [⟨21, 0, .ro, 0, 0, 0x3fffff⟩]⟩
abbrev F.MEM_POND_USED_PAGES : Fld := ⟨Reg.MEM_POND_USED, 21, 0⟩
def Reg.MEM_POND_PEAK : RegDesc := ⟨0x2C0110, 2, 0x20, 1, 0, [⟨31, 31, .wo, 0, 0, 1⟩, ⟨21, 0, .ro, 0, 0, 0x3fffff⟩]⟩
abbrev F.MEM_POND_PEAK_CLEAR : Fld := ⟨Reg.MEM_POND_PEAK, 31, 31⟩
abbrev F.MEM_POND_PEAK_PAGES : Fld := ⟨Reg.MEM_POND_PEAK, 21, 0⟩
def Reg.MEM_CH_SR : RegDesc := ⟨0x2C0180, 2, 0x10, 1, 0, [⟨31, 16, .skn, 0x7d0, 0x64, 0xffff⟩, ⟨15, 15, .skn, 1, 0, 1⟩]⟩
abbrev F.MEM_CH_SR_SR_EXIT_NS : Fld := ⟨Reg.MEM_CH_SR, 31, 16⟩
abbrev F.MEM_CH_SR_SR_EN : Fld := ⟨Reg.MEM_CH_SR, 15, 15⟩
def Reg.MEM_CH_SR_COUNT : RegDesc := ⟨0x2C0184, 2, 0x10, 1, 0, [⟨31, 0, .ro, 0, 0, 0xffffffff⟩]⟩
abbrev F.MEM_CH_SR_COUNT_ENTRIES : Fld := ⟨Reg.MEM_CH_SR_COUNT, 31, 0⟩

/-- The registers of block MEM. -/
def Reg.blockMEM : List RegDesc :=
  [Reg.MEM_POND_BASE_LO, Reg.MEM_POND_BASE_HI, Reg.MEM_POND_SIZE, Reg.MEM_POND_USED, Reg.MEM_POND_PEAK, Reg.MEM_CH_SR, Reg.MEM_CH_SR_COUNT]

/-! Block PIN (18 R481). -/

def Reg.PIN_SLEW : RegDesc := ⟨0x2E0000, 1, 0, 1, 0, [⟨15, 14, .skn, 0, 0, 3⟩, ⟨13, 12, .skn, 1, 0, 3⟩, ⟨11, 10, .skn, 1, 0, 3⟩, ⟨9, 8, .skn, 3, 0, 3⟩, ⟨7, 6, .skn, 3, 0, 3⟩, ⟨5, 4, .skn, 3, 0, 3⟩, ⟨3, 2, .skn, 3, 0, 3⟩, ⟨1, 0, .skn, 3, 0, 3⟩]⟩
abbrev F.PIN_SLEW_XSPI : Fld := ⟨Reg.PIN_SLEW, 15, 14⟩
abbrev F.PIN_SLEW_PPS_OUT : Fld := ⟨Reg.PIN_SLEW, 13, 12⟩
abbrev F.PIN_SLEW_TDO : Fld := ⟨Reg.PIN_SLEW, 11, 10⟩
abbrev F.PIN_SLEW_MOD : Fld := ⟨Reg.PIN_SLEW, 9, 8⟩
abbrev F.PIN_SLEW_USB_PWR_EN : Fld := ⟨Reg.PIN_SLEW, 7, 6⟩
abbrev F.PIN_SLEW_SPILL_CTL : Fld := ⟨Reg.PIN_SLEW, 5, 4⟩
abbrev F.PIN_SLEW_PCID_PERST_N : Fld := ⟨Reg.PIN_SLEW, 3, 2⟩
abbrev F.PIN_SLEW_OTHER : Fld := ⟨Reg.PIN_SLEW, 1, 0⟩
def Reg.PIN_DEGLITCH : RegDesc := ⟨0x2E0010, 1, 0, 1, 0, [⟨13, 12, .skn, 2, 0, 3⟩, ⟨11, 10, .skn, 2, 0, 3⟩, ⟨9, 8, .skn, 2, 0, 3⟩, ⟨7, 6, .skn, 2, 0, 3⟩, ⟨5, 4, .skn, 3, 0, 3⟩, ⟨3, 2, .skn, 1, 0, 3⟩, ⟨1, 0, .skn, 3, 0, 3⟩]⟩
abbrev F.PIN_DEGLITCH_RST_N : Fld := ⟨Reg.PIN_DEGLITCH, 13, 12⟩
abbrev F.PIN_DEGLITCH_PWR_FAIL_N : Fld := ⟨Reg.PIN_DEGLITCH, 11, 10⟩
abbrev F.PIN_DEGLITCH_PERST_N : Fld := ⟨Reg.PIN_DEGLITCH, 9, 8⟩
abbrev F.PIN_DEGLITCH_STRAP : Fld := ⟨Reg.PIN_DEGLITCH, 7, 6⟩
abbrev F.PIN_DEGLITCH_IRIGB : Fld := ⟨Reg.PIN_DEGLITCH, 5, 4⟩
abbrev F.PIN_DEGLITCH_PPS_IN : Fld := ⟨Reg.PIN_DEGLITCH, 3, 2⟩
abbrev F.PIN_DEGLITCH_USB_OC : Fld := ⟨Reg.PIN_DEGLITCH, 1, 0⟩
def Reg.PIN_TEMP : RegDesc := ⟨0x2E0020, 1, 0, 1, 0, [⟨31, 24, .skn, 0x73, 0x55, 0x87⟩, ⟨23, 16, .rws, 0x80, 0, 0xff⟩, ⟨15, 8, .ro, 0, 0, 0xff⟩, ⟨7, 0, .rws, 0, 0, 0xff⟩]⟩
abbrev F.PIN_TEMP_TRIP_C : Fld := ⟨Reg.PIN_TEMP, 31, 24⟩
abbrev F.PIN_TEMP_PEAK_C : Fld := ⟨Reg.PIN_TEMP, 23, 16⟩
abbrev F.PIN_TEMP_TEMP_C : Fld := ⟨Reg.PIN_TEMP, 15, 8⟩
abbrev F.PIN_TEMP_TRIPS : Fld := ⟨Reg.PIN_TEMP, 7, 0⟩
def Reg.PIN_SUPPLY : RegDesc := ⟨0x2E0024, 1, 0, 1, 0, [⟨6, 0, .w1c, 0, 0, 0x7f⟩]⟩
abbrev F.PIN_SUPPLY_FAULT : Fld := ⟨Reg.PIN_SUPPLY, 6, 0⟩

/-- The registers of block PIN. -/
def Reg.blockPIN : List RegDesc :=
  [Reg.PIN_SLEW, Reg.PIN_DEGLITCH, Reg.PIN_TEMP, Reg.PIN_SUPPLY]

/-! Block PKG (19 R494, 01 R36). -/

def Reg.PKG_IDENT : RegDesc := ⟨0x3F0000, 1, 0, 1, 0, [⟨31, 24, .ro, 7, 0, 0xff⟩, ⟨23, 20, .ro, 0, 0, 0xf⟩, ⟨19, 18, .ro, 0, 0, 3⟩, ⟨15, 12, .ro, 0, 0, 0xf⟩, ⟨11, 8, .ro, 0, 0, 0xf⟩]⟩
abbrev F.PKG_IDENT_FAMILY : Fld := ⟨Reg.PKG_IDENT, 31, 24⟩
abbrev F.PKG_IDENT_DIES_LOG2 : Fld := ⟨Reg.PKG_IDENT, 23, 20⟩
abbrev F.PKG_IDENT_GRADE : Fld := ⟨Reg.PKG_IDENT, 19, 18⟩
abbrev F.PKG_IDENT_STEP_LETTER : Fld := ⟨Reg.PKG_IDENT, 15, 12⟩
abbrev F.PKG_IDENT_STEP_NUMBER : Fld := ⟨Reg.PKG_IDENT, 11, 8⟩
def Reg.PKG_SERIAL_LO : RegDesc := ⟨0x3F0004, 1, 0, 1, 0, [⟨31, 0, .ro, 0, 0, 0xffffffff⟩]⟩
abbrev F.PKG_SERIAL_LO_SERIAL : Fld := ⟨Reg.PKG_SERIAL_LO, 31, 0⟩
def Reg.PKG_SERIAL_HI : RegDesc := ⟨0x3F0008, 1, 0, 1, 0, [⟨31, 0, .ro, 0, 0, 0xffffffff⟩]⟩
abbrev F.PKG_SERIAL_HI_SERIAL : Fld := ⟨Reg.PKG_SERIAL_HI, 31, 0⟩
def Reg.PKG_STATUS : RegDesc := ⟨0x3F000C, 1, 0, 1, 0, [⟨31, 28, .ro, 1, 0, 0xf⟩, ⟨27, 27, .ro, 0, 0, 1⟩, ⟨26, 24, .ro, 0, 0, 7⟩, ⟨23, 21, .ro, 0, 0, 7⟩, ⟨20, 20, .ro, 0, 0, 1⟩, ⟨15, 8, .ro, 0, 0, 0xff⟩, ⟨7, 0, .ro, 0, 0, 0xff⟩]⟩
abbrev F.PKG_STATUS_BOOT_STEP : Fld := ⟨Reg.PKG_STATUS, 31, 28⟩
abbrev F.PKG_STATUS_RECOVERY : Fld := ⟨Reg.PKG_STATUS, 27, 27⟩
abbrev F.PKG_STATUS_LC : Fld := ⟨Reg.PKG_STATUS, 26, 24⟩
abbrev F.PKG_STATUS_POWER : Fld := ⟨Reg.PKG_STATUS, 23, 21⟩
abbrev F.PKG_STATUS_TRACEABLE : Fld := ⟨Reg.PKG_STATUS, 20, 20⟩
abbrev F.PKG_STATUS_DIES_RESET : Fld := ⟨Reg.PKG_STATUS, 15, 8⟩
abbrev F.PKG_STATUS_DIES_CUT : Fld := ⟨Reg.PKG_STATUS, 7, 0⟩
def Reg.PKG_BAD_ACCESS : RegDesc := ⟨0x3F0010, 1, 0, 1, 0, [⟨31, 31, .wo, 0, 0, 1⟩, ⟨30, 28, .ro, 0, 0, 7⟩, ⟨27, 0, .ro, 0, 0, 0xfffffff⟩]⟩
abbrev F.PKG_BAD_ACCESS_CLEAR : Fld := ⟨Reg.PKG_BAD_ACCESS, 31, 31⟩
abbrev F.PKG_BAD_ACCESS_LAST_CAUSE : Fld := ⟨Reg.PKG_BAD_ACCESS, 30, 28⟩
abbrev F.PKG_BAD_ACCESS_COUNT : Fld := ⟨Reg.PKG_BAD_ACCESS, 27, 0⟩
def Reg.PKG_BAD_ADDR : RegDesc := ⟨0x3F0014, 1, 0, 1, 0, [⟨26, 0, .ro, 0, 0, 0x7ffffff⟩]⟩
abbrev F.PKG_BAD_ADDR_ADDR : Fld := ⟨Reg.PKG_BAD_ADDR, 26, 0⟩
def Reg.PKG_BAD_REQ : RegDesc := ⟨0x3F0018, 1, 0, 1, 0, [⟨8, 0, .ro, 0, 0, 0x1ff⟩]⟩
abbrev F.PKG_BAD_REQ_REQ : Fld := ⟨Reg.PKG_BAD_REQ, 8, 0⟩
def Reg.PKG_SCRATCH : RegDesc := ⟨0x3F0020, 4, 4, 1, 0, [⟨31, 0, .rw, 0, 0, 0xffffffff⟩]⟩
abbrev F.PKG_SCRATCH_DATA : Fld := ⟨Reg.PKG_SCRATCH, 31, 0⟩
def Reg.PKG_FENCE : RegDesc := ⟨0x3F0040, 1, 0, 1, 0, [⟨31, 24, .ro, 0, 0, 0xff⟩, ⟨23, 16, .ro, 0, 0, 0xff⟩, ⟨15, 0, .ro, 0, 0, 0xffff⟩]⟩
abbrev F.PKG_FENCE_DISCARDED : Fld := ⟨Reg.PKG_FENCE, 31, 24⟩
abbrev F.PKG_FENCE_DIES_DRAINED : Fld := ⟨Reg.PKG_FENCE, 23, 16⟩
abbrev F.PKG_FENCE_FENCE_COUNT : Fld := ⟨Reg.PKG_FENCE, 15, 0⟩
def Reg.PKG_LIVE_ADDR : RegDesc := ⟨0x3F0060, 1, 0, 1, 0, [⟨26, 2, .rw, 0, 0, 0x1ffffff⟩]⟩
abbrev F.PKG_LIVE_ADDR_ADDR : Fld := ⟨Reg.PKG_LIVE_ADDR, 26, 2⟩
def Reg.PKG_LIVE_MASK : RegDesc := ⟨0x3F0064, 1, 0, 1, 0, [⟨31, 0, .ro, 0, 0, 0xffffffff⟩]⟩
abbrev F.PKG_LIVE_MASK_MASK : Fld := ⟨Reg.PKG_LIVE_MASK, 31, 0⟩
def Reg.PKG_LIVE_ROUTE : RegDesc := ⟨0x3F0068, 1, 0, 1, 0, [⟨1, 1, .ro, 0, 0, 1⟩, ⟨0, 0, .ro, 0, 0, 1⟩]⟩
abbrev F.PKG_LIVE_ROUTE_PATCH : Fld := ⟨Reg.PKG_LIVE_ROUTE, 1, 1⟩
abbrev F.PKG_LIVE_ROUTE_REGISTER : Fld := ⟨Reg.PKG_LIVE_ROUTE, 0, 0⟩
def Reg.PKG_SMB_CFG : RegDesc := ⟨0x3F0070, 1, 0, 1, 0, [⟨7, 7, .skn, 1, 0, 1⟩, ⟨6, 0, .skn, 0x3a, 8, 0x77⟩]⟩
abbrev F.PKG_SMB_CFG_SMB_EN : Fld := ⟨Reg.PKG_SMB_CFG, 7, 7⟩
abbrev F.PKG_SMB_CFG_TARGET_ADDR : Fld := ⟨Reg.PKG_SMB_CFG, 6, 0⟩

/-- The registers of block PKG. -/
def Reg.blockPKG : List RegDesc :=
  [Reg.PKG_IDENT, Reg.PKG_SERIAL_LO, Reg.PKG_SERIAL_HI, Reg.PKG_STATUS, Reg.PKG_BAD_ACCESS, Reg.PKG_BAD_ADDR, Reg.PKG_BAD_REQ, Reg.PKG_SCRATCH, Reg.PKG_FENCE, Reg.PKG_LIVE_ADDR, Reg.PKG_LIVE_MASK, Reg.PKG_LIVE_ROUTE, Reg.PKG_SMB_CFG]

end Sys2Proof.Machine
end

