-- ==== Sys2Proof/Machine/State.lean ====
section
/-! DEFINITION. The state of the package as plain data, the reasons a command can stop, and the state at power-on. -/

namespace Sys2Proof.Machine

/-- Reasons a step can fault. -/
inductive Fault where
  /-- No meaning raises this: the spec names no condition that stops the part (safe). -/
  | none
  deriving DecidableEq, Repr

/-- Reasons a command has no meaning. -/
inductive Refusal where
  /-- A command whose meaning is not written; raised only by an arm of `exec` (safe). -/
  | notModelled (mnemonic : String)
  /-- The command names a die, lane, port or other unit that the variant does not have: no such event can arise on the
  hardware (01 R4, Table 0.1); or a register write whose value spells another command than its row's. Raised by `onUnit`, `onIsland`,
  `onWrite` and `onAccess` (safe). -/
  | noSuchUnit
  deriving DecidableEq, Repr

/-- How a register access completes (19 Table 19.2). -/
inductive Completion where
  | data (ws : List Word)
  | abort
  | denied
  deriving DecidableEq, Repr

/-- What the package sends, shows on a pin or answers. -/
inductive Emit where
  /-- A register read completes, or a refused message is answered (19 R485). -/
  | completion (q : Req) (c : Completion)
  /-- A posted write to the bus space of a function (03 R73, R75). -/
  | hostWrite (fn addr : Nat) (bytes : List Byte)
  /-- A read of the bus space of a function is issued. -/
  | hostRead (fn addr len : Nat)
  /-- An MSI-X message (03 R82). -/
  | msix (fn vector : Nat)
  /-- A boundary or TICK block in a ply's stream. -/
  | stream (die slot : Nat) (bytes : List Byte)
  /-- A segment sent on a ply: its header and its payload (05 R122). -/
  | segment (die slot hdr : Nat) (payload : List Byte)
  /-- A segment delivered to a local output, with the package index of its entry (06 Table 6.1); 65,536 for the hop strand. -/
  | deliver (die output idx hdr : Nat) (payload : List Byte)
  /-- An Ethernet frame sent by a MAC; a bad one carries an inverted FCS (06 R169; 10 R279). -/
  | frame (die mac : Nat) (bytes : List Byte) (bad : Bool)
  /-- A control block on a lane of a ply. -/
  | block (die slot lane : Nat) (bytes : List Byte)
  /-- An ALIGN block on every lane of a ply, with its FLAGS (04 Table 4.5). -/
  | align (die slot flags : Nat)
  /-- A wake run on every lane of a ply's transmit direction; it ends in a refresh burst or in traffic (04 R114). -/
  | wakeRun (die slot : Nat) (refresh : Bool)
  /-- A module's LPMODE level or reset pulse (04 R117, R118). -/
  | moduleLowPower (die cage : Nat) (low : Bool)
  | moduleReset (die cage : Nat)
  /-- A Shoreline frame on a side: 0 IN, 1 OUT; a bad one is closed with /K30.7/ (09 R248). -/
  | shoreline (port side : Nat) (bytes : List Byte) (bad : Bool)
  /-- A TICK on a logical lane of a ply (09 R255). -/
  | tick (die slot lane : Nat) (bytes : List Byte)
  /-- The level of PPS_OUT (09 R265), and of SPILL_CTL_A or SPILL_CTL_B (09 R254). -/
  | ppsOut (high : Bool)
  | spillCtl (port : Nat) (high : Bool)
  /-- A DisplayPort AUX request with its data (11 R306). -/
  | aux (die head : Nat) (cmd : Word) (data : List Byte)
  /-- A frame of a raster begins: its store, or black (11 R312). -/
  | scan (die head : Nat) (base : Option Nat)
  /-- A TLP forwarded to the far port of a VDP (12 R335, R339, R332): kind, initiator, ordinal or bridge tag, address, data. -/
  | forward (vdp kind fn num addr : Nat) (bytes : List Byte)
  /-- A request answered: initiator, its tag, status 0 success, 1 Unsupported Request, 2 retry, 4 Completer Abort. -/
  | answer (fn tag status : Nat) (bytes : List Byte)
  /-- A VDP's MSI; an order to its far port: 0 enable, 1 disable, 2 retrain, 3 hot reset (12 R331). -/
  | vdpMsi (vdp : Nat)
  | vdpOrder (vdp kind : Nat)
  /-- A port's receiver terminations: the upstream port of a die is on or off (12 R329). -/
  | port (die : Nat) (on : Bool)
  /-- A USB handshake or data answered to the host: function (4 the hub), endpoint, 0 ACK, 1 NYET, 2 NAK, 3 NRDY, 4 ERDY, 5 STALL, 6 data,
  7 none; its data (14 R380). -/
  | usb (die u e hs : Nat) (bytes : List Byte)
  /-- The upstream line: pull-up and terminations, a resume drive (1 K, 2 LFPS, 0 released), an answer to an LPM token. -/
  | usbPullup (die : Nat) (on : Bool)
  | usbDrive (die kind : Nat)
  | usbLpm (die : Nat) (ack : Bool)
  /-- USB_PWR_EN of a downstream port. -/
  | usbPower (die p : Nat) (on : Bool)
  /-- A report that the relay host sets on a device (14 R391). -/
  | usbSetReport (die p : Nat) (bytes : List Byte)
  /-- WAKE_REQ_N or TARN_REQ_N is driven low or released (15 R407, R408). -/
  | wakeReq (low : Bool)
  | tarnReq (low : Bool)
  /-- How far the SMB target acknowledges a transaction: 0 not its address, 1 not its command byte, 2 not its PEC byte, 3 all of it; the data
  of a Block Read (19 R491). -/
  | smbAck (stage : Nat)
  | smbData (bytes : List Byte)
  deriving DecidableEq, Repr

/-- The orderable part (00 R1, R3, Table 0.6) and its stepping. -/
structure Part where
  dies : Nat := 2
  gradeX : Bool := false
  stepLetter : Nat := 1
  stepNumber : Nat := 1
  serialLo : Word := 0
  serialHi : Word := 0
  deriving DecidableEq, Repr

/-- Local time (00 R10, R12): picoseconds of Basin time while traceable, else of the untraceable count. `stopped` while in STILL (01 R27). -/
structure Clock where
  ps : Nat := 0
  traceable : Bool := false
  stopped : Bool := false
  deriving DecidableEq, Repr

/-- The clock islands of one die (01 R22 to R25, R47): bit n is island n. -/
structure Islands where
  ok : Nat := 0
  held : Nat := 0xFFFFFFFFFFF
  off : Nat := 0
  gated : Nat := 0
  faultAt : Table Nat := []
  deriving DecidableEq, Repr

/-- Package state of the anchor die that no register block resets (19 R494; 01 R20, R21). -/
structure Pkg where
  bootStep : Nat := 1
  recovery : Bool := false
  diesReset : Nat := 0
  diesCut : Nat := 0
  /-- Key 8 × from + to: the next die of the route (01 R20). -/
  routes : Table Nat := []
  deriving DecidableEq, Repr

/-- Per requester: what its fence reports and has outstanding (01 R34, Table 1.6). -/
structure Fence where
  count : Nat := 0
  discarded : Nat := 0
  drained : Nat := 0
  written : Nat := 0
  deriving DecidableEq, Repr

/-- An access that waits: for its island (19 R485, row 6), for a held semaphore (12 R344, `sem`), or, with no deadline, behind an
earlier write of its requester to the same die (01 R33). `addr` is its offset in the requester's own space; a fence read keeps in `v0` the
dies that held its writes (01 Table 1.6); `lock` is the host's tag of a locked read (12 R344). -/
structure Waiting where
  req : Req
  addr : Nat
  die : Nat
  off : Nat
  write : Bool
  len : Nat
  v0 : Word
  v1 : Word
  around : Around
  sem : Bool
  deadline : Option Nat
  lock : Option Nat
  deriving DecidableEq, Repr

/-- A command left BUSY because the island it acts on does not run (05 R149; 13 R360): of VFN_CMD, or of a die's STR_CMD by a function. -/
structure Parked where
  vfn : Bool
  fn : Nat
  die : Nat
  v : Word
  deriving DecidableEq, Repr

/-- How the answer to a management message leaves: by a Block Read, as the request came, or on MGMT_ACM (19 R491; 09 R271; 14 R392). -/
inductive Reply where
  | smb
  | via (v : Via) (die : Nat)
  | acm (die : Nat)
  deriving DecidableEq, Repr

/-- A management message being acted on (09 Table 9.9): its requester, OP, TAG, SRC, ADDRESS, COUNT and the dwords of a write; the dwords
read; how many dwords are done; a dword's wait for its island, none while it has none. -/
structure Msg where
  req : Req
  reply : Reply
  op : Nat
  tag : Nat
  src : Nat
  addr : Nat
  count : Nat
  data : List Word
  got : List Word := []
  done : Nat := 0
  deadline : Option Nat := none
  around : Around := {}
  deriving DecidableEq, Repr

/-- Register access state: fences and HI latches (19 R486), keyed by requester code, waiting accesses and parked commands;
messages being acted on, in order, and the response that a Block Read returns (19 R491). -/
structure Access where
  fences : Table Fence := []
  latches : Table (Table Word) := []
  waiting : List Waiting := []
  parked : List Parked := []
  msgs : List Msg := []
  response : Option (List Byte) := none
  deriving DecidableEq, Repr

/-- A raised event on its way to an EVT island (03 R69, R77). -/
structure Event where
  code : Nat
  sev : Nat
  die : Nat
  src : Nat
  owner : Nat
  mgr : Bool
  ts : Nat
  payload : List Byte
  /-- The staging queue of its serving die had no room (03 R77, R78). -/
  noRoom : Bool
  /-- The journal already holds this event (a manager copy of a marker, 03 R84). -/
  copy : Bool
  deriving DecidableEq, Repr

/-- What an outlet keeps beyond its registers (03 R82, R83). -/
structure Outlet where
  pending : Nat := 0
  firstAt : Nat := 0
  due : Bool := false
  lostNow : Nat := 0
  firstLostTs : Nat := 0
  firstLostCode : Nat := 0
  lastLostTs : Nat := 0
  deriving DecidableEq, Repr

/-- Events, outlets, message signalling and the Last Word journal (03). -/
structure Evt where
  raised : List Event := []
  /-- Key: package outlet index. -/
  outlets : Table Outlet := []
  /-- Functions whose Bus Master Enable is 1 (key: function). -/
  bme : Table Bool := []
  /-- Vectors the host has unmasked, and messages recorded pending: key 2048 × function + vector. -/
  unmasked : Table Bool := []
  msixPending : Table Bool := []
  /-- Words of the MSI-X tables of virtual functions, but for the mask bit: key 1024 × function + dword (13 Table 13.1). -/
  msixWords : Table Word := []
  /-- Journal slots: key slot, value the 32 bytes. -/
  journal : Table (List Byte) := []
  newest : Nat := 0
  frozen : Bool := false
  deriving DecidableEq, Repr

/-- A descriptor record of the USB section (14 Table 14.3): TARGET, DKIND, INDEX, LANGID, the descriptor. -/
structure UsbRecord where
  target : Nat
  kind : Nat
  index : Nat
  lang : Nat
  bytes : List Byte
  deriving DecidableEq, Repr

/-- A patch that awaits its boundary (02 R61): its bytes, SKN_PATCH_AT (none: the next boundary), whether it is stored afterwards. -/
structure Patch where
  bytes : List Byte
  at_ : Option Nat
  store : Bool
  deriving DecidableEq, Repr

/-- A command of SKN_PATCH_CMD that has not completed (02 R61): its code, 8 more once its store is
requested, and SKN_PATCH_LEN and SKN_PATCH_AT as it read them. -/
structure SknCmd where
  op : Nat
  len : Nat
  at_ : Nat
  deriving DecidableEq, Repr

/-- The Skein state (02). -/
structure Skn where
  /-- Grants of the LIVE section: BAR0 offset and FIELD_MASK (02 R57). -/
  live : Table Word := []
  /-- The running image, none before a load; the patches applied since, oldest first; CODE_DIGEST of the running firmware. -/
  image : List Byte := []
  patches : List (List Byte) := []
  codeDigest : List Byte := []
  /-- The running image's USB descriptors. -/
  usb : List UsbRecord := []
  /-- A command that has not completed, and the patch that awaits its boundary. -/
  cmd : Option SknCmd := none
  wait : Option Patch := none
  /-- Source 12 has fired since the supply was applied (02 R54). -/
  fired : Bool := false
  deriving DecidableEq, Repr

/-- Credit of a ply: units sent, last limit, units received, per class; CREDIT scheduling and stalls (05 R139 to R143). -/
structure Credit where
  txc : List Nat := [0, 0, 0, 0, 0, 0, 0, 0]
  lim : List Nat := [0, 0, 0, 0, 0, 0, 0, 0]
  rcv : List Nat := [0, 0, 0, 0, 0, 0, 0, 0]
  /-- The class that the next CREDIT reports, and when that CREDIT falls due. -/
  sentClass : Nat := 0
  due : Nat := 0
  /-- The limits last advertised; none before the first CREDIT. -/
  told : List Nat := []
  /-- Since when each class has had no usable credit, and the classes whose stall has been raised. -/
  emptyAt : List (Option Nat) := [none, none, none, none, none, none, none, none]
  stalled : Nat := 0
  deriving DecidableEq, Repr

/-- A PLY record of the running image (02 Table 2.5). -/
structure PlyCfg where
  id : Nat
  mask : Nat
  braid : Nat
  rates : Nat
  precode : Nat
  sleep : Nat
  flags : Nat
  farHub : Nat
  farBasin : Nat
  deriving DecidableEq, Repr

/-- What a lane keeps while it comes up and runs (04 R97, R98, R105, R106). -/
structure Lane where
  /-- Rate frames: the last valid one, how many identical in a row, ACK set, a frame with ACK received, rate resolved. -/
  lastFrame : Nat := 0
  frameRun : Nat := 0
  ack : Bool := false
  gotAck : Bool := false
  resolved : Bool := false
  /-- Training: status of c(1) and c(−1), own and far RX_READY, TRAIN complete. -/
  postStatus : Nat := 0
  preStatus : Nat := 0
  ready : Bool := false
  farReady : Bool := false
  trained : Bool := false
  /-- Blocks since each invalid header of the last 64. -/
  invalid : List Nat := []
  /-- ALIGN: last ALIGN_SEQ received and when. -/
  alignSeq : Option Nat := none
  alignAt : Nat := 0
  fecRun : Nat := 0
  corrWindow : Nat := 0
  lowWindows : Nat := 0
  degraded : Bool := false
  deriving DecidableEq, Repr

/-- What a ply link keeps beyond its registers (04 R102 to R114). -/
structure Ply where
  cfg : PlyCfg
  /-- The deadline of the state's timer. -/
  deadline : Nat := 0
  /-- QUIET was entered by the normal exit of DETECT. -/
  fromDetect : Bool := false
  /-- ALIGN state: deskewed here and there, FEC_NEXT sent and received. -/
  deskewed : Bool := false
  farDeskewed : Bool := false
  fecSent : Bool := false
  fecGot : Bool := false
  /-- EXCHANGE: the last EXCH block apart from FLAGS, how many identical, ACK and CAL_DONE sent and received, far serial. -/
  lastExch : List Byte := []
  exchRun : Nat := 0
  ackSent : Bool := false
  ackGot : Bool := false
  calSent : Bool := false
  calGot : Bool := false
  farSerial : Nat := 0
  /-- Far identities already reported as mismatched: hub, Basin, serial. -/
  reported : List (Nat × Nat × Nat) := []
  /-- The last valid control block (04 R112, LIVENESS). -/
  liveAt : Nat := 0
  /-- Uncorrectable codewords since the ACTIVE entry, and since the last event with its time. -/
  uncorr : Nat := 0
  uncorrNew : Nat := 0
  uncorrAt : Option Nat := none
  /-- Direction sleep: next refresh burst, and the deadline of the far end's refresh. -/
  refreshAt : Nat := 0
  rxRefreshBy : Nat := 0
  /-- When the transmit direction last had something to send (08 Table 8.3). -/
  sentAt : Nat := 0
  /-- Framing discards until the next boundary block (05 R127). -/
  resync : Bool := false
  credit : Credit := {}
  /-- Segments sent on the hop strand, for SEQ. -/
  hopSeq : Nat := 0
  deriving DecidableEq, Repr

/-- A module cage beyond its registers (04 R117). -/
structure Cage where
  /-- Rate codes for which an application matches. -/
  appRates : Nat := 7
  staged : Bool := false
  dataPath : Bool := false
  readyBy : Nat := 0
  deriving DecidableEq, Repr

/-- A segment held in bobbins or in a Millpond. `acct` is the account its units are charged to (06 R161 to R163): 0 the
shared pool, 16 + 8 × slot + class a ply, 128 + 8 × input + class a local input, 256 + port a splice, 1023 none. -/
structure Seg where
  hdr : Nat
  payload : List Byte
  /-- The die whose account is charged, the account, and the die whose bobbins hold the segment. -/
  chargeDie : Nat
  acct : Nat
  at_ : Nat
  /-- 0 on chip, 1 in the Millpond, 2 held tail. -/
  place : Nat := 0
  /-- The packet number of an encrypted segment (17 R447). -/
  pn : Nat := 0
  /-- When its header arrived at the pins, and the link it came on: 8 × die + slot, 255 for a local input (09 R274). -/
  came : Nat := 0
  via : Nat := 255
  deriving DecidableEq, Repr

/-- A switching unit (06 R165): what is gathered, or what a queue still holds of it. -/
structure SUnit where
  /-- Package index of its home entry; 65,536 for the hop strand. -/
  idx : Nat
  segs : List Seg := []
  /-- The last segment has come; the check it failed: 1 FCS, 2 cut short, 3 segment limit. -/
  done : Bool := false
  bad : Nat := 0
  cut : Bool := false
  /-- Some of it has been sent, or, while it is gathered, linked under cut-through; counted as held by the guard. -/
  started : Bool := false
  guarded : Bool := false
  /-- Time at which its first segment was linked (06 R179). -/
  at_ : Nat := 0
  /-- Input speed in Mb/s (06 R168), and the running CRC-32 of an Ethernet frame. -/
  speed : Nat := 0
  crc : Nat := 0xFFFFFFFF
  /-- Queue: 512 × die + n; SN on the output; segment-class at the output. -/
  queue : Nat := 0
  nextSn : Nat := 0
  /-- The splice port whose transit reserve holds it, 255 for none; bytes an Ethernet cut-through has sent. -/
  port : Nat := 255
  sent : List Byte := []
  deriving DecidableEq, Repr

/-- A segment on its way over a splice towards its holding die (06 R162, R167, R168). -/
structure Crossing where
  port : Nat
  unit : SUnit
  seg : Seg
  first : Bool
  last : Bool
  /-- The holding die it is bound for. -/
  dest : Nat
  deriving DecidableEq, Repr

/-- A queue of an output (06 R158, R175, R176). -/
structure Queue where
  units : List SUnit := []
  /-- Overflow: since when, peak pages, POND_FULL raised in this episode. -/
  overflow : Bool := false
  since : Nat := 0
  peak : Nat := 0
  full : Bool := false
  /-- Since when its head has lacked credit (05 R143). -/
  lack : Option Nat := none
  deriving DecidableEq, Repr

/-- A token bucket's time and remainder (07 R186, R189, R195). -/
structure Bucket where
  tokens : Int := 0
  last : Nat := 0
  frac : Nat := 0
  deriving DecidableEq, Repr

/-- A segment held for its MARK block (05 R146). -/
structure HeldSeg where
  slot : Nat
  hdr : Nat
  payload : List Byte
  plain : Option (List Byte)
  acct : Nat
  came : Nat := 0
  deriving DecidableEq, Repr

/-- A Strand Ledger entry (05 Table 5.3), and what the hub keeps for its strand. -/
structure Entry where
  raw : BitVec 256
  isStatic : Bool := false
  live : Bool := false
  /-- The home package index of a mirror (05 R136). -/
  mirrorOf : Option Nat := none
  /-- The package ply on which the Spindle has placed a strand whose output is a braid; its allotment (08 R216). -/
  ply : Nat := 0
  allot : Nat := 0
  /-- Receiving (05 R129, R130): a frame is open, segments in it, expected SEQ, ply of the last segment. -/
  isOpen : Bool := false
  count : Nat := 0
  expect : Option Nat := none
  fromPly : Nat := 255
  /-- Policing (07 R186): the unit in progress is admitted, the frame's rest is dropped. -/
  pass : Bool := true
  restDropped : Bool := false
  /-- Local input (05 R130; 07 R189): next SEQ and the pacing bucket. -/
  seq : Nat := 0
  pace : Bucket := {}
  /-- TEARDOWN's time; segments discarded at FREE (05 R152). -/
  drainBy : Nat := 0
  /-- Next packet number of an encrypting origin (17 R447). -/
  pn : Nat := 1
  /-- Sending a move (05 R145): old slot, MOVE count, the next segment carries MARK, slots sent on since the last move, SEQ of
  the last segment sent on the current path, and of the last sent on the old one. -/
  oldPath : Option Nat := none
  moves : Nat := 0
  markNext : Bool := false
  sentOn : List Nat := []
  lastSeq : Nat := 0
  oldSeq : Nat := 0
  /-- Receiving a move (05 R146): segments held on a path since when, MARK blocks recorded by NEW_PLY, the old ply of
  an expired wait. -/
  held : List HeldSeg := []
  heldOn : Nat := 0
  heldAt : Nat := 0
  marks : List Nat := []
  expired : Option Nat := none
  /-- The Spindle's figures of the strand (08 Table 8.5): twists since its last move, moves, last reason, target and demand of
  the last decision, at risk in the last window; contract changed since the last boundary; cut by the last surge. -/
  since : Nat := 255
  moved : Nat := 0
  reason : Nat := 0
  target : Nat := 0
  demand : Nat := 0
  risk : Bool := false
  changed : Bool := false
  surgeCut : Bool := false
  deriving DecidableEq, Repr

/-- Units freed on another die, on their way to the charged die (06 R164). -/
structure Release where
  acct : Nat
  units : Nat
  deriving DecidableEq, Repr

/-- An allocated bobbin (06 R180, Table 6.4). -/
structure Bobbin where
  owner : Nat
  refs : Nat
  touch : Nat
  deriving DecidableEq, Repr

/-- When an event was last raised, and how often it has occurred since. -/
structure Limit where
  at_ : Nat
  n : Nat
  /-- What the first occurrence since then was about. -/
  first : Nat := 0
  deriving DecidableEq, Repr

/-- A freed SN that may not be allocated yet (05 R152). -/
structure Quarantine where
  inType : Nat
  inIndex : Nat
  sn : Nat
  until_ : Nat
  deriving DecidableEq, Repr

/-- A gate list in force while a change is armed (07 R204): GATE_EN, entries (gates, interval), cycle, base, and T_s. -/
structure OldGcl where
  entries : List (Nat × Nat)
  cycle : Nat
  base : Nat
  switchAt : Nat
  deriving DecidableEq, Repr

/-- A key slot of a die (17 R444, R445). -/
structure KeySlot where
  handle : Nat
  key : List Byte
  /-- 1 line key, 2 MACsec key (17 Table 17.2). -/
  use_ : Nat
  /-- Secure associations that hold it, and the pin of PIN. -/
  pins : Nat := 0
  pinned : Bool := false
  used : Nat := 0
  owner : Nat := 0
  deriving DecidableEq, Repr

/-- A key being loaded: handle, function it is for, needs by engine (17 R444). -/
structure KeyLoad where
  handle : Nat
  owner : Nat
  /-- LOAD asked for it; engines that need it: 0 to 7 ply slots, 8 to 11 MACs. -/
  byCmd : Bool
  engines : List Nat
  deriving DecidableEq, Repr

/-- The Spindle's own accumulation of a queue's samples in a window (07 R200; 08 R220, R222). -/
structure QSample where
  samples : Nat := 0
  busy : Nat := 0
  topBin : Nat := 0
  deriving DecidableEq, Repr

/-- The surge state of an output (08 R223, R224); P_REF is the fraction `refNum / refDen`. `change` is 1 when a surge starts at
the next boundary and 2 when it ends there. -/
structure Surge where
  on : Bool := false
  p : Nat := 0
  refNum : Nat := 0
  refDen : Nat := 1
  quiet : Nat := 0
  since : Nat := 0
  peak : Nat := 0
  change : Nat := 0
  deriving DecidableEq, Repr

/-- A placement the Spindle has staged (08 R226): what moves, where to, why (Table 8.6). -/
inductive Move where
  /-- A strand to a package ply of its braid. -/
  | ply (idx dst reason : Nat)
  /-- A queue to a holding die. -/
  | hold (key dst reason : Nat)
  /-- A queue to a Millpond die and channel, 2 × die + channel; 16 for none. -/
  | pond (key dst reason : Nat)
  /-- The mirror frame store of a package head to a candidate region. -/
  | store (head dst reason : Nat)
  deriving DecidableEq, Repr

/-- An allotment the Spindle has staged. -/
structure Allot where
  idx : Nat
  target : Nat
  demand : Nat
  next : Nat
  reason : Nat
  risk : Bool
  /-- The dead band held it. -/
  held : Bool
  deriving DecidableEq, Repr

/-- The one engine that the Spindles of a package form (08 R238). -/
structure Spindle where
  /-- Numbers of the boundary whose window was closed last, and of the last boundary. -/
  closed : Nat := 0
  fell : Nat := 0
  /-- Local time has stepped in this twist (08 R214). -/
  stepped : Bool := false
  /-- HOLD in force (08 R237). -/
  hold : Bool := false
  allots : List Allot := []
  moves : List Move := []
  /-- Per die: consecutive boundaries missed, and windows in a row with little of its shared pool free. -/
  missed : Table Nat := []
  short : Table Nat := []
  /-- Moves made in a die's relief. -/
  reliefMoves : Table Nat := []
  /-- Braids, and 64 + pinned plies, whose SPD_NO_PATH has been raised. -/
  noPath : List Nat := []
  /-- Twists since a mirror store moved, by package head. -/
  storeSince : Table Nat := []
  deriving DecidableEq, Repr

/-- What a link's time transfer keeps (09 R256, R257, R260); times are in sixteenths of a nanosecond. -/
structure TLink where
  /-- Number and departure of our last message; departures of the last 16. -/
  seq : Nat := 0
  sent : List (Nat × Nat) := []
  /-- Numbers and arrivals of the far end's last 16 messages, newest first. -/
  arrivals : List (Nat × Nat) := []
  /-- Delays of the last 64 samples; none while the mean delay is unknown. -/
  delays : List Int := []
  rejects : Nat := 0
  /-- The last sample, and when the next message falls due. -/
  sampleAt : Option Nat := none
  due : Nat := 0
  /-- Last advertisement: CLASS, PRIORITY, address, HOPS, traceable, TAI − UTC. -/
  heard : Bool := false
  cls : Nat := 248
  prio : Nat := 255
  gm : Nat := 0
  hops : Nat := 255
  traceable : Bool := false
  utc : Nat := 37
  /-- Calibration: sums and counts by 8 × i + j, and F and B once complete. -/
  cal : Table (Int × Nat) := []
  f : List Int := []
  b : List Int := []
  deriving DecidableEq, Repr

/-- The servo, references and election of die 0 (09 R259 to R265). -/
structure Tim where
  /-- By link: 2 × port + side of the Shoreline, 16 + 8 × die + slot a ply, 200 the TIM strand. -/
  links : Table TLink := []
  /-- The link or reference that disciplines the timebase: 206 IRIG-B, 207 1PPS, 208 PTP. -/
  parent : Option Nat := none
  /-- Good samples in a row. -/
  run : Nat := 0
  /-- The hub was locked; when its reference or parent was lost; when the parent search last began. -/
  wasLocked : Bool := false
  lostAt : Nat := 0
  soughtAt : Nat := 0
  /-- IRIG-B: valid frames in a row of one format, the last second, invalid frames in a row, last Pr, end of the hold. -/
  irigRun : Nat := 0
  irigSec : Nat := 0
  irigBad : Nat := 0
  irigAt : Nat := 0
  irigHold : Nat := 0
  /-- 1PPS: the last edge; PPS_OUT: its level and the number of the second of its last pulse. -/
  ppsAt : Option Nat := none
  ppsHigh : Bool := false
  ppsNo : Option Nat := none
  ppsRose : Nat := 0
  /-- TIM strands: when the next message of an origin falls due, by package index. -/
  strandDue : Table Nat := []
  deriving DecidableEq, Repr

/-- One Shoreline port (09 R247 to R252). -/
structure Port where
  open_ : Bool := false
  /-- Entries of the ring as last learnt: address, takes part in barriers, IN delay. -/
  entries : List (Nat × Bool × Nat) := []
  /-- ENUM_SEQ of our own enumerations, of the last DONE taken, and when the next falls due. -/
  seq : Nat := 0
  doneSeq : Option Nat := none
  due : Nat := 0
  /-- The origin's wait for its ENUM, and the lists it has got back from a chain. -/
  wait : Option Nat := none
  chained : Bool := false
  down : List (Nat × Bool × Nat) := []
  /-- We took our position from an upstream ENUM of a chain. -/
  arcUp : Bool := false
  deriving DecidableEq, Repr

/-- A scheduled operation (09 R268). -/
structure SchedOp where
  op : Nat
  basin : Bool
  origin : Nat
  opId : Nat
  t : Nat
  deriving DecidableEq, Repr

/-- A barrier in progress (09 R269); arcs are 2 × port for downstream, 2 × port + 1 for upstream. -/
structure Barrier where
  opId : Nat
  deadline : Nat
  arrived : Bool
  tokens : Table Nat := []
  sent : Bool := false
  deriving DecidableEq, Repr

/-- A remote request in progress (09 R273). -/
structure Remote where
  tag : Nat
  op : Nat
  dst : Nat
  addr : Nat
  count : Nat
  deadline : Nat
  deriving DecidableEq, Repr

/-- The Shoreline (09). -/
structure Shl where
  a : Port := {}
  b : Port := {}
  /-- The hub acts as origin of its root ring; last ENUM from a lower address. -/
  origin : Bool := false
  lowAt : Nat := 0
  /-- Ripples relayed or acted on lately: ORIGIN, OP, OP_ID and when (09 R267). -/
  seen : List (Nat × Nat × Nat × Nat) := []
  history : List SchedOp := []
  ops : List SchedOp := []
  barrier : Option Barrier := none
  /-- ARRIVE written before its OPEN: OP_ID and until when. -/
  held : List (Nat × Nat) := []
  remote : Option Remote := none
  tag : Nat := 0
  /-- The Ethernet Spillway is open. -/
  ethOpen : Bool := false
  deriving DecidableEq, Repr

/-- An entry of the duplicate table (10 R289): source, highest sequence value, values seen of the window, last use. -/
structure Dup where
  src : Nat
  top : Nat
  window : List Nat
  last : Nat
  deriving DecidableEq, Repr

/-- The link redundancy entity of a die (10 R287 to R291). -/
structure Lre where
  seq : Nat := 0
  dups : List Dup := []
  /-- Per port: since when it is down, and whether LRE_PORT_FAULT 3 has been raised since. -/
  downAt : List (Option Nat) := [some 0, some 0]
  faulted : List Bool := [false, false]
  supDue : Nat := 0
  /-- Frames in transit by sending port, with what is bad at their end; the last frame of the port was a transit frame. -/
  transit : Table (List (List Byte × Bool)) := []
  turn : Table Bool := []
  deriving DecidableEq, Repr

/-- An installed secure association (10 R293 to R295): `pn` is the next PN to send, or the lowest one not yet passed. -/
structure Sa where
  port : Nat
  rx : Bool
  sc : Nat
  an : Nat
  handle : Nat
  sci : Nat
  pn : Nat
  told : Bool := false
  spent : Bool := false
  /-- The function that owns its key (17 R443). -/
  owner : Nat := 0
  deriving DecidableEq, Repr

/-- An ETH_SA_CMD INSTALL that waits for its key: the command word, first PN and SCI as it read them. -/
structure SaWait where
  cmd : Word
  pn : Nat
  sci : Nat
  deriving DecidableEq, Repr

/-- A foreign master heard on a port: sender, rank (priority 1 down to identity, lowest first), steps removed, arrivals of its last two
Announces, grandmaster identity. -/
structure Foreign where
  sender : Nat
  rank : Nat
  steps : Nat
  gm : Nat
  at_ : Nat
  before : Option Nat := none
  deriving DecidableEq, Repr

/-- A MAC's PTP port beyond its registers (10 R296 to R299). -/
structure PtpPort where
  foreign : List Foreign := []
  /-- When the port began to listen or last heard an Announce. -/
  heardAt : Nat := 0
  /-- Due times and last numbers of Announce, Sync and Pdelay_Req. -/
  due : List Nat := [0, 0, 0]
  seqs : List Nat := [0, 0, 0]
  /-- Departure of our last Pdelay_Req; number, t2, t4 and correction of a two-step response (sixteenths of a ns). -/
  pdSent : Option Nat := none
  pdGot : Option (Nat × Nat × Nat × Int) := none
  /-- Number, arrival and correction of a two-step Sync of the master. -/
  syncGot : Option (Nat × Nat × Int) := none
  deriving DecidableEq, Repr

/-- A residence kept for a Follow_Up (10 R299): sender and sequence number, nanoseconds, until when. -/
structure Residence where
  key : Nat
  resid : Nat
  until_ : Nat
  deriving DecidableEq, Repr

/-- A timing set (11 R309). -/
structure Timing where
  hActive : Nat
  hFp : Nat
  hSync : Nat
  hBp : Nat
  vActive : Nat
  vFp : Nat
  vSync : Nat
  vBp : Nat
  vMin : Nat
  vMax : Nat
  rate : Nat
  lanes : Nat
  pol : Nat
  khz : Nat
  fmt : Nat
  deriving DecidableEq, Repr

/-- A commit of a head (11 R312, R318): order of completion, SEQ, store, dirty bitmap (none: every tile), when. -/
structure Commit where
  n : Nat
  seq : Nat
  base : Nat
  stride : Nat
  dirty : Option Nat
  ts : Nat
  deriving DecidableEq, Repr

/-- An AUX transaction in progress (11 R306). -/
structure Aux where
  cmd : Word
  deadline : Nat
  defers : Nat
  deriving DecidableEq, Repr

/-- A frame token that awaits its writes and copy (11 R320): source FRAME, TILES, source time. -/
structure Token where
  frame : Nat
  tiles : Nat
  ts : Nat
  deriving DecidableEq, Repr

/-- A display head beyond its registers (11). -/
structure Head where
  /-- Running set; a set that awaits its intake point or its dark change; one queued behind a dark change. -/
  run : Option Timing := none
  next : Option Timing := none
  dark : Bool := false
  queued : Option Timing := none
  /-- Form of the change whose first frame is awaited: 1 seamless, 2 dark. -/
  told : Nat := 0
  /-- Raster: 0 stopped, 1 active lines, 2 blanking before the prefetch point, 3 after it; when the frame, its blanking and its
  prefetch began. -/
  phase : Nat := 0
  frameAt : Nat := 0
  intakeAt : Nat := 0
  prefAt : Nat := 0
  /-- Commits: pending, taken and when, shown; superseded SEQs not yet reported; local commits not released, oldest first. -/
  pending : Option Commit := none
  taken : Option Commit := none
  takenAt : Nat := 0
  front : Option Commit := none
  superseded : List Nat := []
  commits : List (Nat × Nat) := []
  count : Nat := 0
  fetching : Bool := false
  /-- When a dark change was captured. -/
  darkAt : Nat := 0
  aux : Option Aux := none
  /-- Source: newest commit not yet sent, tiles changed since (none: every tile), the frame being sent with its tiles and segments
  to go, frames sent, REFRESH written, when the budget lets the next segment go. -/
  unsent : Option Commit := none
  changed : Option (List Nat) := some []
  sending : Option Commit := none
  tiles : List Nat := []
  tileCount : Nat := 0
  full : Bool := false
  segs : List (Bool × Bool × List Byte) := []
  frameNo : Nat := 0
  refresh : Bool := false
  paceAt : Nat := 0
  /-- Mirror: buffers 3 × region + i shown, ready and being filled; stale tiles by buffer; tiles of the open frame, its FRAME, how
  many came, its gap; its token; the size last reported as mismatched; a move's region; bytes of the open and of the last frame. -/
  mFront : Option Nat := none
  mReady : Option Nat := none
  mFill : Nat := 0
  stale : Table (List Nat) := []
  copyFrom : Option Nat := none
  written : List Nat := []
  openFrame : Option Nat := none
  got : Nat := 0
  gap : Nat := 0
  token : Option Token := none
  mismatch : Option (Nat × Nat × Nat) := none
  moveTo : Option Nat := none
  bytes : Nat := 0
  lastBytes : Nat := 0
  /-- The fetch rate is above the budget (11 R325). -/
  short : Bool := false
  deriving DecidableEq, Repr

/-- A bridge tag in use (12 R339, R340): initiator function (255: a far device with its requester ID), window (255: none), VDP,
address, length, the requester's tag, deadline; what it serves: 0 a request, 1 read-ahead, 2 MRdLk, 4 nothing any more. -/
structure BrgTag where
  fn : Nat
  window : Nat
  vdp : Nat
  addr : Nat
  len : Nat
  tag : Nat
  rid : Nat
  deadline : Nat
  use : Nat
  deriving DecidableEq, Repr

/-- A read-ahead buffer (12 R341): its stream, first address, bytes asked for, data once arrived and when, last use. -/
structure Ahead where
  fn : Nat
  window : Nat
  addr : Nat
  len : Nat
  data : Option (List Byte)
  at_ : Nat
  used : Nat
  deriving DecidableEq, Repr

/-- A locked sequence (12 R343): its function, its VDP or its semaphore, since when, broken by the bridge. -/
structure Lock where
  fn : Nat
  vdp : Option Nat
  sem : Nat
  since : Nat
  broken : Bool
  deriving DecidableEq, Repr

/-- The bridge of a package (12 R329 to R344). -/
structure Brg where
  /-- Since when the primary port is out of DL_Active. -/
  downAt : Option Nat := some 0
  /-- VDPs: Changed bits (0 presence, 1 link), Link Disable. -/
  changed : Table Nat := []
  disabled : List Nat := []
  /-- Where the last read of a stream ended: key 64 × function + window. -/
  ends : Table Nat := []
  lock : Option Lock := none
  deriving DecidableEq, Repr

/-- A descriptor being sent by a TX channel (12 R346): segments to go, INT, length and TAG. -/
structure DmaJob where
  segs : List (Bool × Bool × List Byte)
  int : Bool
  len : Nat
  tag : Nat
  deriving DecidableEq, Repr

/-- What CREATE carves for a virtual function (13 R353): package indices on the home die, in carve order. -/
structure Carve where
  entries : List Nat := []
  outlets : List Nat := []
  dma : List Nat := []
  heads : Nat := 0
  usb : Nat := 0
  keySlots : List Nat := []
  /-- (output, queue) pairs. -/
  queues : List (Nat × Nat) := []
  pondCh : Nat := 0
  pondPages : Nat := 0
  rate : Nat := 0
  braids : Nat := 0
  bar2 : Nat := 0
  /-- The carve registers as CREATE read them, VFN_CARVE0 to 8. -/
  words : List Word := []
  deriving DecidableEq, Repr

/-- A virtual-function slot beyond its registers (13 R360, R361, R366). -/
structure Slot where
  /-- 0 EMPTY, 1 LIVE, 2 HELD, 3 QUIESCING, 4 QUIESCED, 5 RELEASED. -/
  st : Nat := 0
  carve : Carve := {}
  /-- Resources in HELD (13 Table 13.4): entries, DMA channels, heads, USB functions, queues. -/
  heldEntries : List Nat := []
  heldDma : List Nat := []
  heldHeads : Nat := 0
  heldUsb : Nat := 0
  heldQueues : List (Nat × Nat) := []
  discarded : Nat := 0
  quiesceAt : Nat := 0
  /-- Pages marked in the bitmap being filled, and out-of-range already raised since the swap. -/
  markedPages : List Nat := []
  outRaised : Bool := false
  /-- Pages marked in the bitmap that a SWAP took out of use. -/
  oldPages : List Nat := []
  /-- When SWAP was written. -/
  swapAt : Nat := 0
  deriving DecidableEq, Repr

/-- Virtual functions (13): slots by function index. -/
structure Vfn where
  slots : Table Slot := []
  /-- Functions enabled by the host, as far as a command shows it (13 R352; log entry 23). -/
  hostEn : Table Bool := []
  /-- The QUIESCE in progress: its function index, 0 for none. -/
  busyFor : Nat := 0
  /-- Functions in reset, until when (03 R85; 16 R419). -/
  resetUntil : Table Nat := []
  deriving DecidableEq, Repr

/-- A control transfer of an embedded function or of the hub (14 R382 to R384): its setup bytes, IN data still to send or OUT data taken,
its stage (1 setup or data, 2 status), stalled. -/
structure UsbCtl where
  setup : List Byte
  data : List Byte := []
  stage : Nat := 1
  stall : Bool := false
  deriving DecidableEq, Repr

/-- A HID source attached to a slot of HID_RELAY (14 R391): VID, PID, bInterval, report descriptor, last input report; SET_IDLE and
SET_PROTOCOL values. -/
structure HidSource where
  vid : Nat
  pid : Nat
  interval : Nat
  desc : List Byte
  report : List Byte := []
  idle : Nat := 0
  protocol : Nat := 1
  deriving DecidableEq, Repr

/-- An embedded function beyond its registers (14 R375 to R393); the hub itself is function 4. -/
structure UsbFn where
  /-- Packets buffered by endpoint, oldest first: for the host, and from it; packets of a message not yet in the buffer. -/
  ins : Table (List (List Byte)) := []
  outs : Table (List (List Byte)) := []
  stage : Table (List (List Byte)) := []
  /-- Strand messages that wait for room, held back by credit. -/
  waiting : List (List Byte) := []
  /-- Data toggles or sequence numbers, and endpoints owed an ERDY: key e, e + 16 for IN. -/
  toggles : Table Nat := []
  owed : List Nat := []
  ctl : Option UsbCtl := none
  /-- Function suspend; DEV_STATE before suspend. -/
  suspended : Bool := false
  before : Nat := 0
  /-- When a detached function attaches again. -/
  reattachAt : Option Nat := none
  sources : Table HidSource := []
  lineCoding : List Byte := [0, 0, 0, 0, 0, 0, 0]
  dtr : Bool := false
  /-- A message being taken in on MGMT_ACM with its escape, and whole ones to act on. -/
  slip : List Byte := []
  escaped : Bool := false
  overrun : Bool := false
  msgs : List (List Byte) := []
  deriving DecidableEq, Repr

/-- A remote wake being signalled (14 R387, R388): function or 4, from 1 suspend, 2 L1, 3 U3; when the drive began; when it was
released; signals sent; the host's resume overlapped. -/
structure UsbWake where
  u : Nat
  from_ : Nat
  start : Nat
  released : Option Nat := none
  signals : Nat := 1
  overlap : Bool := false
  deriving DecidableEq, Repr

/-- A relayed device (14 R391): SLOT, bInterval in µs, when its next poll falls due, transaction errors in a row, port disabled. -/
structure Relay where
  interval : Nat
  pollAt : Nat
  errors : Nat := 0
  disabled : Bool := false
  deriving DecidableEq, Repr

/-- The USB ports of a die beyond their registers (14). -/
structure Usb where
  fns : Table UsbFn := []
  /-- When the bus went idle; last activity; hub: remote wake enabled, U1 and U2 enabled, a wake reason of the hub pending. -/
  idleAt : Nat := 0
  activeAt : Nat := 0
  hubWake : Bool := false
  u1 : Bool := false
  u2 : Bool := false
  hubPending : Bool := false
  wake : Option UsbWake := none
  /-- A wake may not be signalled before this; signals already sent. -/
  wakeAfter : Nat := 0
  signals : Nat := 0
  relays : Table Relay := []
  /-- Functions that stay detached until RELEASE with KEEP = 1 (14 R385). -/
  keptOff : List Nat := []
  /-- The last MGMT_ACM requests sent to other hubs: their TAGs. -/
  acmTags : List Nat := []
  deriving DecidableEq, Repr

/-- A request of PWR_CMD (15 R401): its target and its number. -/
structure PwrReq where
  target : Nat
  no : Nat
  deriving DecidableEq, Repr

/-- An aborted entry (15 R405), as SLEEP_ABORTED reports it: target, cause, STEP reached, TS64 of the wake. -/
structure PwrAbort where
  target : Nat
  cause : Nat
  step : Nat
  ts : Nat
  deriving DecidableEq, Repr

/-- Power transitions beyond PWR_STATUS (15 R401 to R408). -/
structure Pwr where
  /-- Requests numbered so far; the running one and those that joined it; the pending one and when it was captured. -/
  count : Nat := 0
  running : Option PwrReq := none
  joined : List PwrReq := []
  pending : Option PwrReq := none
  pendingAt : Nat := 0
  /-- The steps done are being reversed, after an abort or a stop; the journal flush of E3 has been requested. -/
  reversing : Bool := false
  abort : Option PwrAbort := none
  flushed : Bool := false
  /-- A request that came too late, reported after the next wake. -/
  late : Option PwrReq := none
  /-- The exit from STILL: RCP's time since the wake, and whether the wake has been acknowledged; what woke it: 3 a Tarn wake, 4 a wake after
  the commit step. -/
  waited : Nat := 0
  acked : Bool := false
  cause : Nat := 3
  /-- What E2 took down: plies (8 × die + slot) and downstream USB ports (4 × die + port). -/
  downed : List Nat := []
  dfps : List Nat := []
  deriving DecidableEq, Repr

/-- The Tarn domain (15 R397, R408, R409): WAKE_REQ_N and TARN_REQ_N driven low; the package rests in TARN. -/
structure Tarn where
  wakeReq : Bool := false
  tarnReq : Bool := false
  asleep : Bool := false
  deriving DecidableEq, Repr

/-- The option bytes in use (16 Table 16.7; 17 R456): the built-in defaults until they are read. -/
structure Options where
  counter : Nat := 0
  /-- The copy in use: 0 A, 1 B, 2 the defaults. -/
  copy : Nat := 2
  /-- The 256 bytes of that copy; none for the defaults. -/
  bytes : List Byte := []
  vfPool : List Nat := []
  remoteAccessMax : Nat := 1
  smbManager : Bool := true
  swResetEn : Bool := true
  tamperEn : Nat := 0x0F
  unwrapLimit : Nat := 16
  smbAttest : Bool := false
  vfEnc : Bool := true
  pf0Slots : Nat := 8
  deriving DecidableEq, Repr

/-- One-time-programmable fuses (16 R417; 17 R441, R449): life-cycle pattern, owner bank with its CRC, root bank valid, reach codes. -/
structure Fuses where
  lc : Nat := 0
  bank : List Byte := List.replicate 180 0
  root : Bool := true
  reach : Nat := 0
  reachValid : Bool := false
  deriving DecidableEq, Repr

/-- A store (16 Table 16.8): its type; what it is: 0 a journal flush, 1 a Skein image, 2 a patch, 3 option bytes, 4 reach fuses, 5 a
life-cycle change; the cause, slot or OP of that; where its bytes go and the bytes, marker included; programmed so far; when it began. -/
structure StoreJob where
  type : Nat
  what : Nat
  arg : Nat
  off : Nat
  bytes : List Byte
  done : Nat := 0
  began : Nat := 0
  /-- Records of a flush and how many it leaves out; when its trigger fell (TS64). -/
  count : Nat := 0
  omitted : Nat := 0
  ts : Nat := 0
  deriving DecidableEq, Repr

/-- The stores of the package (16 R432 to R437), held by die 0's SNS island. -/
structure Hold where
  running : Option StoreJob := none
  waiting : Table StoreJob := []
  /-- Stores left without a marker, which the next boot reports: type, slot, NVM offset. -/
  torn : List (Nat × Nat × Nat) := []
  /-- A power failure runs its steps (16 R435): its cause, until the brownout reach is applied. -/
  failing : Option Nat := none
  deriving DecidableEq, Repr

/-- An active reset source (16 R416, R422, R424): the source, its level, the target of a DIE or BLOCK reach; applied, or waiting for the
idle handshake until a deadline; until when it holds (none: while its condition stands); the sources recorded in its area. -/
structure Source where
  s : Nat
  level : Nat
  die : Nat := 0
  isl : Nat := 0
  applied : Bool := true
  deadline : Nat := 0
  until_ : Option Nat := none
  bits : Nat
  deriving DecidableEq, Repr

/-- Boot, start-up and resets (16 R416 to R431). -/
structure Boot where
  option : Options := {}
  fuses : Fuses := {}
  sources : List Source := [{ s := 0, level := 0, bits := 1 }]
  /-- The reach codes in effect, 3 bits a source: Table 16.1's until the fuses are read; sources whose fused code was replaced. -/
  reach : Nat := 277154527594560
  reachBad : Nat := 0
  strapTie : Bool := false
  /-- Level and sources of the wide reset that boot restarts from, if RESET_DONE is still owed. -/
  restart : Option (Nat × Nat) := none
  /-- When boot began to count; when step 6 ended. -/
  begun : Nat := 0
  loaded : Nat := 0
  /-- A pushed image being loaded, and one being fetched: its length. -/
  pushing : Option Nat := none
  fetching : Option Nat := none
  /-- Islands that RST_FORCE_RELEASE frees from software and JTAG: 64 × die + island. -/
  force : List Nat := []
  /-- Mirrors of a die in DIE reset, by package index: their home entries; plies that a reset took down: 8 × die + slot, with whether
  PLY_DOWN is owed. -/
  mirrors : Table Nat := []
  plyDown : Table Bool := []
  deriving DecidableEq, Repr

/-- A KEY command in progress (17 R450 to R454): OP, handle, requester code; the running digest as ATTEST read it; KEY_ARG as read; the
stage: 0 waits for a load, 1 for the option bytes, 2 for the fuses. -/
structure KeyCmd where
  op : Nat
  handle : Nat
  req : Nat
  digest : List Byte
  args : List Word
  stage : Nat
  deriving DecidableEq, Repr

/-- The KEY island of die 0 (17 R445, R453, R455): the command in progress, the counter's lower half and whether it is open since the
boot, when blobs were last rejected, when handles were last flushed, when a tamper last destroyed the keys. -/
structure Key where
  cmd : Option KeyCmd := none
  attLow : Nat := 0
  attOpen : Bool := false
  rejects : List Nat := []
  flushedAt : Table Nat := []
  tamperAt : Option Nat := none
  deriving DecidableEq, Repr

/-- What one die holds beyond its registers, grouped by the islands that hold it (01 Table 1.2). -/
structure Die where
  /-- Key: slot, the lowest lane of a configured ply. -/
  plies : Table Ply := []
  lanes : Table Lane := []
  cages : Table Cage := []
  /-- STR: the Strand Ledger by index, quarantined SNs, policer buckets. -/
  ledger : Table Entry := []
  quarantine : List Quarantine := []
  police : Table Bucket := []
  /-- SWC and BOB: charges by account, units being gathered and complete (key: home entry), waiting multicast units,
  segments crossing towards this die, units freed elsewhere, chains and allocated bobbins. -/
  acct : Table Nat := []
  gather : Table SUnit := []
  complete : List SUnit := []
  copies : List SUnit := []
  inbound : List Crossing := []
  releases : List Release := []
  chains : Table (List Nat) := []
  bobbins : Table Bobbin := []
  /-- SCH: queues by index n, outputs busy until when, shaper buckets (4 × output + s), round-robin positions, gate lists in
  force while a change is armed, gate entry last shown. -/
  queues : Table Queue := []
  busy : Table Nat := []
  shapers : Table Bucket := []
  turn : Table Nat := []
  oldGcl : Table OldGcl := []
  /-- KEY: slots, loads in progress, handles not fetched again until when, engine copies (engine, handles). -/
  keySlots : Table KeySlot := []
  keyLoads : List KeyLoad := []
  keyFail : Table Nat := []
  engines : Table (List Nat) := []
  /-- Segments that wait for a key, by slot (17 R448). -/
  keyWait : List HeldSeg := []
  /-- Rate limits of events: key 65,536 × code + source. -/
  limits : Table Limit := []
  /-- SPD_PLACE_DATA0 to DATA3 of each entry as of the last boundary (08 Table 8.5). -/
  placed : Table (List Nat) := []
  /-- SPD: samples of the window by queue index n, bytes linked and sent by strand (key: home entry), PROTECT bytes linked by
  output, bytes sent by splice port, Millpond bytes and other LPDDR bytes by channel, and the highest temperature of the
  window. -/
  samples : Table QSample := []
  linked : Table Nat := []
  sentBytes : Table Nat := []
  protLinked : Table Nat := []
  spliceBytes : Table Nat := []
  pondBytes : Table Nat := []
  headBytes : Table Nat := []
  tempHigh : Option Int := none
  surges : Table Surge := []
  /-- Queues to which R230 has given no Millpond, and queues whose pin conflict has been raised (indices n). -/
  noPond : List Nat := []
  pinConflict : List Nat := []
  /-- ETH: the LRE, secure associations and an INSTALL in progress, PTP ports and kept residences by MAC. -/
  lre : Lre := {}
  sas : List Sa := []
  saWait : Option SaWait := none
  ptp : Table PtpPort := []
  residences : Table (List Residence) := []
  /-- DSP: heads; MEM: channels in self-refresh. -/
  heads : Table Head := []
  selfRefresh : Table Bool := []
  /-- BRG: tags in use and read-ahead buffers; the downstream root port's link up; DMA descriptors being sent by channel. -/
  tags : Table BrgTag := []
  aheads : Table Ahead := []
  dsUp : Bool := false
  dmaJobs : Table DmaJob := []
  /-- USB: the UFP, its functions and the relay hosts. -/
  usb : Usb := {}
  /-- SNS: readings in a row at or above TRIP_C (18 R466). -/
  tempRun : Nat := 0
  deriving DecidableEq, Repr

/-- The whole state of the package. -/
structure State where
  part : Part := {}
  clock : Clock := {}
  /-- Registers by BAR0 offset, canonical; an unlisted one holds its reset value. -/
  regs : Table Word := []
  /-- Register writes of the command in progress, newest first; empty between commands. -/
  regLog : List (Nat × Word) := []
  /-- Bytes of the flash, of the boot buffer and of the LPDDR, canonical; what an unlisted one reads as is `unlistedCell`. -/
  cells : Table Byte := []
  /-- Byte writes of the command in progress, newest first; empty between commands. -/
  cellLog : List (Nat × Byte) := []
  /-- What the package sent during the last command. -/
  out : List Emit := []
  /-- How many values the spec leaves open have been drawn (log entry 3). -/
  fresh : Nat := 0
  /-- Key: die. -/
  isl : Table Islands := []
  pkg : Pkg := {}
  access : Access := {}
  evt : Evt := {}
  /-- Key: die. -/
  dies : Table Die := []
  skn : Skn := {}
  spd : Spindle := {}
  tim : Tim := {}
  shl : Shl := {}
  brg : Brg := {}
  vfn : Vfn := {}
  pwr : Pwr := {}
  tarn : Tarn := {}
  boot : Boot := {}
  hold : Hold := {}
  key : Key := {}
  /-- Dies whose reference is faulty, since when in picoseconds (18 R477). -/
  refFault : Table Nat := []
  /-- Commands waiting, first in first out. -/
  pending : List Instr := []
  deriving DecidableEq, Repr

/-- The state right after power is applied: every field at its reset value, source 0 active at COLD (16 R416). -/
def State.reset : State := {}

end Sys2Proof.Machine
end

