-- ==== Sys2Proof/Machine/Regs.lean ====
section
/-! DEFINITION. The register file: which register an offset names, what an unlisted register holds, reads and writes of
words and fields, and the byte cells of the flash and the boot buffer. -/

namespace Sys2Proof.Machine

/-- The blocks of a die (19 Table 19.1), by die offset. -/
def blockRegs (off : Nat) : List RegDesc :=
  if off < 0x10000 then Reg.blockGLB
  else if off < 0x20000 then Reg.blockRST
  else if off < 0x30000 then Reg.blockPWR
  else if off < 0x40000 then Reg.blockCLK
  else if off < 0x50000 then Reg.blockSKN
  else if off < 0x60000 then Reg.blockEVT
  else if off < 0x70000 then Reg.blockTRN
  else if off < 0x80000 then Reg.blockHLD
  else if off < 0xA0000 then Reg.blockLN
  else if off < 0xC0000 then Reg.blockPLY
  else if off < 0x100000 then Reg.blockSTR
  else if off < 0x140000 then Reg.blockSWC
  else if off < 0x180000 then Reg.blockSCH
  else if off < 0x1A0000 then Reg.blockSPD
  else if off < 0x1B0000 then Reg.blockTIM
  else if off < 0x1C0000 then Reg.blockSHL
  else if off < 0x200000 then Reg.blockDSP
  else if off < 0x240000 then Reg.blockBRG
  else if off < 0x260000 then Reg.blockVFN
  else if off < 0x280000 then Reg.blockUSB
  else if off < 0x2A0000 then Reg.blockKEY
  else if off < 0x2C0000 then Reg.blockETH
  else if off < 0x2E0000 then Reg.blockMEM
  else if off < 0x300000 then Reg.blockPIN
  else if off < 0x3F0000 then []
  else Reg.blockPKG

/-- The number of the block that an offset lies in, for R485's rule on 2-dword accesses. -/
def blockStart (off : Nat) : Nat :=
  ([0x3F0000, 0x300000, 0x2E0000, 0x2C0000, 0x2A0000, 0x280000, 0x260000, 0x240000, 0x200000, 0x1C0000, 0x1B0000,
    0x1A0000, 0x180000, 0x140000, 0x100000, 0xC0000, 0xA0000, 0x80000, 0x70000, 0x60000, 0x50000, 0x40000, 0x30000,
    0x20000, 0x10000].find? (fun b => decide (b ≤ off))).getD 0

/-- The register at a die offset; VDP registers exist for n = 1 to 31 only (12 Table 12.9). -/
def regAt (off : Nat) : Option RegDesc :=
  if 0x200800 ≤ off ∧ off < 0x200820 then none else (blockRegs off).find? fun r => r.holds off

/-- The reset value of an output's GAP: 64 for a ply (0 to 7), 12 for an Ethernet MAC (8 to 11), 0 for another local port (07 R205). -/
def gapBytes (o : Nat) : Nat := if o < 8 then 64 else if o < 12 then 12 else 0

/-- The part of a reset value that depends on the die or on the index (19 R487). -/
def resetExtra (die off : Nat) (r : RegDesc) : Nat :=
  let p := r.index off
  if r.base = 0x000004 then (if die = 0 then 2 ^ 30 else 0)
  else if r.base = 0x140004 then gapBytes p.1 * 2 ^ 16
  else if r.base = 0x140020 then (7 - p.2) * 0x11111
  else if r.base = 0x150018 then die * 2 ^ 29 + die * 2 ^ 26
  else if r.base = 0x180000 then (if die = 0 then 2 ^ 24 else 0)
  else if r.base = 0x241000 then (die * 31 + p.1 + 1) * 2 ^ 24 + die * 2 ^ 21
  else 0

/-- The reset value of the register at a die offset; a reserved offset holds 0 (19 R484). -/
def resetWord (die off : Nat) : Word :=
  match regAt off with
  | some r => BitVec.ofNat 32 (r.reset + resetExtra die off r)
  | none => 0

/-- What an unlisted BAR0 offset of the register file holds. -/
def unlistedReg (addr : Nat) : Word := resetWord (addr / 0x1000000) (addr % 0x1000000)

/-- The latest entry of a write log for a key. -/
def logFind {α : Type} : List (Nat × α) → Nat → Option α
  | [], _ => none
  | (k, v) :: t, key => if k = key then some v else logFind t key

/-- The word held at a BAR0 offset. -/
def State.reg (s : State) (addr : Nat) : Word :=
  (logFind s.regLog addr).getD (Table.read unlistedReg s.regs addr)

/-- A word written at a BAR0 offset. -/
def State.setReg (s : State) (addr : Nat) (w : Word) : State := { s with regLog := (addr, w) :: s.regLog }

/-- The word of a register. -/
def State.word (s : State) (die : Nat) (r : RegDesc) (i : Nat := 0) (j : Nat := 0) : Word :=
  s.reg (barAddr die (r.off i j))

/-- A register's whole word written. -/
def State.setWord (s : State) (die : Nat) (r : RegDesc) (w : Word) (i : Nat := 0) (j : Nat := 0) : State :=
  s.setReg (barAddr die (r.off i j)) w

/-- A field of a register, as a number. -/
def State.get (s : State) (die : Nat) (f : Fld) (i : Nat := 0) (j : Nat := 0) : Nat :=
  wordGet (s.word die f.reg i j) f.hi f.lo

/-- A one-bit field of a register. -/
def State.flag (s : State) (die : Nat) (f : Fld) (i : Nat := 0) (j : Nat := 0) : Bool := s.get die f i j == 1

/-- A field of a register written. -/
def State.set (s : State) (die : Nat) (f : Fld) (v : Nat) (i : Nat := 0) (j : Nat := 0) : State :=
  s.setWord die f.reg (wordSet (s.word die f.reg i j) f.hi f.lo v) i j

/-- The largest value a field holds. -/
def Fld.top (f : Fld) : Nat := 2 ^ (f.hi + 1 - f.lo) - 1

/-- A saturating counter field raised by `k` (01 R30; R118 and the counter rules of each chapter). -/
def State.bump (s : State) (die : Nat) (f : Fld) (k : Nat := 1) (i : Nat := 0) (j : Nat := 0) : State :=
  s.set die f (satAdd f.top (s.get die f i j) k) i j

/-- A wrapping counter field raised by 1. -/
def State.wrap (s : State) (die : Nat) (f : Fld) (i : Nat := 0) (j : Nat := 0) : State :=
  s.set die f ((s.get die f i j + 1) % 2 ^ (f.hi + 1 - f.lo)) i j

/-- A 64-bit value of a register pair, from its LO and HI registers. -/
def State.pair (s : State) (die : Nat) (lo hi : RegDesc) (i : Nat := 0) (j : Nat := 0) : Nat :=
  (s.word die lo i j).toNat + 2 ^ 32 * (s.word die hi i j).toNat

/-- A register pair written. -/
def State.setPair (s : State) (die : Nat) (lo hi : RegDesc) (v : Nat) (i : Nat := 0) (j : Nat := 0) : State :=
  (s.setWord die lo (BitVec.ofNat 32 v) i j).setWord die hi (BitVec.ofNat 32 (v / 2 ^ 32)) i j

/-- The BAR0 offsets of a die from `off` on, `len` bytes, that are listed. -/
def State.listedIn (s : State) (d off len : Nat) : List Nat :=
  ((s.regLog.map (·.1)) ++ (s.regs.map (·.1))).filter fun n => decide (barAddr d off ≤ n) && decide (n < barAddr d (off + len))

/-- A range of a die's registers zeroed. -/
def State.zeroRange (s : State) (d off len : Nat) : State := (s.listedIn d off len).foldl (fun s n => s.setReg n 0) s

/-- A word of a register file back at its reset value, but for the fields that a test keeps. -/
def State.resetReg (s : State) (n : Nat) (keep : Acc → Bool) : State :=
  match regAt (n % 0x1000000) with
  | none => s
  | some r => s.setReg n ((s.reg n &&& r.mask keep) ||| (unlistedReg n &&& ~~~ r.mask keep))

/-- A range of a die's registers back at reset values, but for the fields that a test keeps. -/
def State.resetRange (s : State) (d off len : Nat) (keep : Acc → Bool) : State :=
  (s.listedIn d off len).foldl (fun s n => s.resetReg n keep) s

/-- Cells 0 to 2^40 − 1 are the flash; from 2^40 on stands the boot buffer (16 R427). -/
def bootCell (n : Nat) : Nat := 2 ^ 40 + n

/-- From 2^41 on stands the LPDDR, by device memory address (11 R307). -/
def devCell (addr : Nat) : Nat := 2 ^ 41 + addr % 2 ^ 38

/-- An erased flash byte reads 0xFF (16 R432); an unwritten byte of the boot buffer or of the LPDDR reads 0 (log entry 4). -/
def unlistedCell (n : Nat) : Byte := if n < 2 ^ 40 then 0xFF else 0

/-- The byte of a cell. -/
def State.cell (s : State) (n : Nat) : Byte :=
  (logFind s.cellLog n).getD (Table.read unlistedCell s.cells n)

/-- `len` bytes from a cell on. -/
def State.cellBytes (s : State) (n : Nat) : Nat → List Byte
  | 0 => []
  | len + 1 => s.cell n :: s.cellBytes (n + 1) len

/-- Bytes written from a cell on. -/
def State.setCells (s : State) (n : Nat) : List Byte → State
  | [] => s
  | b :: bs => State.setCells { s with cellLog := (n, b) :: s.cellLog } (n + 1) bs

/-- The writes of a log, oldest first, applied to a canonical table. -/
def applyLog {α : Type} [DecidableEq α] (unlisted : Nat → α) (log : List (Nat × α)) (t : Table α) : Table α :=
  log.foldr (fun p acc => Table.write unlisted acc p.1 p.2) t

/-- The end of a command: its register and byte writes join the canonical tables it began with. -/
def State.commit (s₀ s : State) : State :=
  { s with regs := applyLog unlistedReg s.regLog s₀.regs, regLog := [],
           cells := applyLog unlistedCell s.cellLog s₀.cells, cellLog := [], pending := s₀.pending }

end Sys2Proof.Machine
end

