-- ==== Sys2Proof/Machine/Functions.lean ====
section
/-! DEFINITION. Function indices, slots and what a virtual function reaches (13 R350 to R357). -/

namespace Sys2Proof.Machine

/-- The home die of a function index (13 R350). -/
def homeDie (f : Nat) : Nat := (f - 1) / 31

/-- The slot number of a function index on its home die (13 R370). -/
def slotNo (f : Nat) : Nat := (f - 1) % 31

/-- The slot of a function index. -/
def State.slot (s : State) (f : Nat) : Slot := Table.look s.vfn.slots f {}

/-- A slot changed; VFN_VFs_STATE shows its state (13 Table 13.6). -/
def State.putSlot (s : State) (f : Nat) (x : Slot) : State :=
  { s with vfn := { s.vfn with slots := Table.put s.vfn.slots f x } }

/-- A package resource on a die that a virtual function's BAR reaches: its own, in a slot that is LIVE, or HELD with the
resource not held (13 R357, Table 13.1, Table 13.2). -/
def State.vfReaches (s : State) (f die off : Nat) : Bool :=
  let x := s.slot f
  let c := x.carve
  let live := decide (1 ≤ f) && (x.st == 1 || x.st == 2)
  let home := die == homeDie f
  live && (
    (home && off == 0x241000 + 0x40 * slotNo f) ||
    (home && decide (0x0C0000 ≤ off) && decide (off < 0x0C0040)) ||
    (home && decide (0x051000 ≤ off) && decide (off < 0x053000) && c.outlets.contains (die * 128 + (off - 0x051000) / 0x40)) ||
    (home && off == 0x050004) ||
    (home && decide (0x220000 ≤ off) && decide (off < 0x221000) && c.dma.contains ((off - 0x220000) / 0x40) &&
      !x.heldDma.contains ((off - 0x220000) / 0x40)) ||
    (decide (0x204000 + 0x10 * f ≤ off) && decide (off < 0x204010 + 0x10 * f)) ||
    (decide (0x203040 ≤ off) && decide (off < 0x203100)) ||
    (home && decide (0x1C0000 ≤ off) && decide (off < 0x1C2000) && bit c.heads ((off - 0x1C0000) / 0x1000) &&
      !bit x.heldHeads ((off - 0x1C0000) / 0x1000)) ||
    (home && decide (0x261000 ≤ off) && decide (off < 0x263000) && bit c.usb ((off - 0x261000) / 0x800) &&
      !bit x.heldUsb ((off - 0x261000) / 0x800)) ||
    (home && decide (0x280100 ≤ off) && decide (off < 0x280200) && c.keySlots.contains ((off - 0x280100) / 4)) ||
    (die == 0 && off == 0x3F0040))

end Sys2Proof.Machine
end

