-- ==== Sys2Proof/Machine/Ops.lean ====
section
/-! DEFINITION. The operations every command shares: time, islands, events, what the package sends, the verdict on a
register access, and the shapes of a meaning. -/

namespace Sys2Proof.Machine

/-- The outcome of a command. -/
abbrev Out := Host.Outcome State Fault Refusal

/-! Time (00 R10 to R12; 01 R27). -/

/-- Picoseconds of a microsecond, a nanosecond and a millisecond. -/
def us (n : Nat) : Nat := n * 1000000
def ns (n : Nat) : Nat := n * 1000
def ms (n : Nat) : Nat := n * 1000000000

/-- Local time in picoseconds. -/
def State.now (s : State) : Nat := s.clock.ps

/-- The TS64 of a local time (00 R10): seconds in [63:30], nanoseconds in [29:0]; bit 63 while untraceable (00 R12). -/
def tsOf (traceable : Bool) (ps : Nat) : Nat :=
  ps / 1000000000000 * 2 ^ 30 + ps % 1000000000000 / 1000 + (if traceable then 0 else 2 ^ 63)

/-- The TS64 of a time of the package's timebase. -/
def State.tsAt (s : State) (ps : Nat) : Nat := tsOf s.clock.traceable ps

/-- The TS64 of now (01 R26). -/
def State.ts (s : State) : Nat := s.tsAt s.now

/-- Nanoseconds field of a TS64 within 00 R11. -/
def tsOk (v : Nat) : Bool := decide (v % 2 ^ 30 ≤ 999999999)

/-- The time in picoseconds that a TS64 names (bit 63 left aside). -/
def tsPs (v : Nat) : Nat := v / 2 ^ 30 % 2 ^ 33 * 1000000000000 + v % 2 ^ 30 * 1000

/-- A TS64 is traceable (00 R12). -/
def tsTraceable (v : Nat) : Bool := !bit v 63

/-- Time passes before a command; local time stands still in STILL, where RCP alone measures its exit (01 R27; 15 R406, R407). What was sent belongs to the last command only. -/
def elapse (a : At) (s : State) : State :=
  { s with out := [], regLog := [], cellLog := [],
           clock := if s.clock.stopped then s.clock else { s.clock with ps := s.clock.ps + a.dt }
           pwr := if s.clock.stopped then { s.pwr with waited := s.pwr.waited + a.dt } else s.pwr }

/-- An arrival meets a deadline: in time (01 R29), and by the near-miss rule in the very cycle (01 R30). -/
def inTime (a : At) (s : State) (deadline : Nat) : Bool := decide (s.now < deadline + a.cyc)
def nearMiss (a : At) (s : State) (deadline : Nat) : Bool := inTime a s deadline && decide (deadline ≤ s.now)

/-- A deadline has fallen (01 R27). -/
def fallen (s : State) (deadline : Nat) : Bool := decide (deadline ≤ s.now)

/-! Open values (log entry 3). -/

/-- A value the spec leaves open. -/
def State.draw (s : State) : Nat := Config.freeValue s.fresh

/-- The counter of drawn values moves on. -/
def State.drawn (s : State) : State := { s with fresh := s.fresh + 1 }

/-! Islands (01 R22 to R25, R512). -/

/-- Every island of a die. -/
def allIslands : Nat := 2 ^ 44 - 1

/-- An island that is bonded out: SHL on dies 0 and 1, BOOT and JNL on die 0 only (01 R22). -/
def bonded (die isl : Nat) : Bool :=
  decide (isl < 44) && (isl != 33 || decide (die < 2)) && ((isl != 39 && isl != 43) || die == 0)

/-- The islands of a die. -/
def State.islands (s : State) (die : Nat) : Islands := Table.look s.isl die {}

/-- The islands of a die changed. -/
def State.modIslands (s : State) (die : Nat) (f : Islands → Islands) : State :=
  { s with isl := Table.put s.isl die (f (s.islands die)) }

/-- An island's clock is good and no reset holds it: it acknowledges handshakes (01 R24, R25). -/
def State.serves (s : State) (die isl : Nat) : Bool :=
  let i := s.islands die
  bonded die isl && bit i.ok isl && !bit i.held isl && !bit i.off isl

/-- The island does what a command asks: it serves, and the package is not in STILL (01 R27). -/
def State.runs (s : State) (die isl : Nat) : Bool := s.serves die isl && !s.clock.stopped

/-- The lowest island of a group that the DEVICE record does not switch off (01 R512). -/
def State.lead (s : State) (die first n : Nat) : Nat :=
  ((List.range n).find? fun k => !bit (s.islands die).off (first + k)).elim first (first + ·)

/-- The Tarn island, which is not one of the 44 and is always served on VTARN (15 R411). -/
def tarnIsland : Nat := 44

/-- The island that holds a register (01 Table 1.8). -/
def State.holder (s : State) (die off : Nat) : Nat :=
  if off < 0x10000 then (if 0x200 ≤ off ∧ off < 0x20C then 14 + (off - 0x200) / 4 else 37)
  else if off < 0x40000 then 38
  else if off < 0x50000 then 39
  else if off < 0x60000 then 35
  else if off < 0x70000 then tarnIsland
  else if off < 0x80000 then 42
  else if off < 0xA0000 then (off - 0x80000) / 0x2000 % 8
  else if off < 0xC0000 then (if 0xA0800 ≤ off ∧ off < 0xA0900 then 41 else 8)
  else if off < 0x100000 then 10
  else if off < 0x140000 then (if off = 0x100004 ∨ off = 0x100010 ∨ off = 0x100014 then 12 else 11)
  else if off < 0x180000 then 13
  else if off < 0x1A0000 then 31
  else if off < 0x1B0000 then 32
  else if off < 0x1C0000 then 33
  else if off < 0x200000 then 25 + (off - 0x1C0000) / 0x1000 % 2
  else if off < 0x220000 then 19
  else if off < 0x240000 then 20
  else if off < 0x260000 then 36
  else if off < 0x280000 then (if 0x260100 ≤ off ∧ off < 0x260140 then 28 else 27)
  else if off < 0x2A0000 then 34
  else if off < 0x2C0000 then (if off < 0x2A1000 then 21 + (off - 0x2A0000) / 0x400 else s.lead die 21 4)
  else if off < 0x2E0000 then
    (if 0x2C0180 ≤ off then 29 + (off - 0x2C0180) / 0x10 % 2 else 29 + (off - 0x2C0100) / 0x20 % 2)
  else if off < 0x300000 then 42
  else if off = 0x3F0070 then 41
  else 37

/-- The holder acknowledges an access; the Tarn island always does. -/
def State.holderServes (s : State) (die off : Nat) : Bool :=
  let h := s.holder die off
  if h = tarnIsland then die == 0 else s.serves die h

/-! What the package sends. -/

/-- One more thing sent. -/
def State.emit (s : State) (e : Emit) : State := { s with out := s.out ++ [e] }

/-- Several things sent, in order. -/
def State.emits (s : State) (es : List Emit) : State := { s with out := s.out ++ es }

/-! Events (03 R69, R77). -/

/-- Sixteen payload bytes from (width, value) pairs; bytes not named are 0 (03 Table 3.1). -/
def payload (fields : List (Nat × Nat)) : List Byte :=
  ((fields.flatMap fun (p : Nat × Nat) => leBytes p.1 p.2) ++ List.replicate 16 0).take 16

/-- The outlet of a function that takes an event: the lowest enabled one whose RANGE_MASK and MIN_SEV let it in (03 R77). -/
def State.outletFor (s : State) (fn code sev : Nat) : Option Nat :=
  (List.range (s.part.dies * 128)).find? fun p =>
    s.flag (p / 128) F.EVT_OUT_STATUS_ENABLED (p % 128) &&
    s.get (p / 128) F.EVT_OUT_VEC_OWNER (p % 128) == fn &&
    bit (s.get (p / 128) F.EVT_OUT_CFG_RANGE_MASK (p % 128)) (code / 256) &&
    decide (s.get (p / 128) F.EVT_OUT_CFG_MIN_SEV (p % 128) ≤ sev)

/-- How many raised records wait for the outlets of a die. -/
def State.staged (s : State) (die : Nat) : Nat :=
  (s.evt.raised.filter fun e => match s.outletFor e.owner e.code e.sev with
    | some p => p / 128 == die
    | none => false).length

/-- An event is raised: its record starts on its way to the serving EVT island. A staging queue holds 512 records (03 R77). -/
def State.raiseFor (s : State) (owner : Nat) (mgr : Bool) (die src code sev : Nat) (fields : List (Nat × Nat)) : State :=
  let full := match s.outletFor owner code sev with
    | some p => decide (512 ≤ s.staged (p / 128))
    | none => false
  let e : Event := ⟨code, sev, die, src, owner, mgr && owner != 0, s.ts, payload fields, full, false⟩
  { s with evt := { s.evt with raised := s.evt.raised ++ [e] } }

/-- An event owned by PF0. -/
def State.raise (s : State) (die src code sev : Nat) (fields : List (Nat × Nat)) : State :=
  s.raiseFor 0 false die src code sev fields

/-- An event owned by a function, with a manager copy where that is not PF0. -/
def State.raiseOwned (s : State) (owner die src code sev : Nat) (fields : List (Nat × Nat)) : State :=
  s.raiseFor owner true die src code sev fields

/-- A function's Bus Master Enable. -/
def State.busMaster (s : State) (fn : Nat) : Bool := Table.look s.evt.bme fn false

/-! Power states (15). -/

/-- The step of a power transition: 0 none, 1 to 6 E1 to E6, 7 the exit from STILL. -/
def State.pwrStep (s : State) : Nat := s.get 0 F.PWR_STATUS_STEP

/-- An entry to STILL or TARN has taken the links down (15 Table 15.5, E2). -/
def State.sleeping (s : State) : Bool := decide (2 ≤ s.pwrStep) && decide (s.pwrStep < 7)

/-- The package rests in STILL or TARN: nothing reaches its registers (15 R402). -/
def State.resting (s : State) : Bool := s.clock.stopped && s.pwrStep != 7

/-- PWR_STATE_DONE (15 Table 15.11): 1 command, 2 activity, 3 Tarn wake, 4 wake after commit. -/
def State.stateDone (s : State) (new old cause : Nat) : State :=
  s.raise 0 38 0x062 1 [(1, new), (1, old), (1, cause), (1, 0), (8, s.ts)]

/-- An activity in EDDY returns the package to FLOW (15 R400); gated islands run again. -/
def State.activity (s : State) : State :=
  if s.get 0 F.PWR_STATUS_CURRENT = 1 then
    let s : State := { s with isl := s.isl.map fun p => (p.1, { p.2 with gated := 0 }) }
    ((s.set 0 F.PWR_STATUS_CURRENT 0).wrap 0 F.PWR_COUNT_EDDY_EXITS).stateDone 0 1 2
  else s

/-- New work restarts the clock of a gated island (15 R399). -/
def State.ungate (s : State) (d isl : Nat) : State :=
  if bit (s.islands d).gated isl then s.modIslands d fun i => { i with gated := clearBit i.gated isl } else s

/-! Register access (19 R485, R490; 01 R33 to R35). -/

/-- The requester's code (19 Table 19.4). -/
def reqCode : Req → Nat
  | .pf0 => 0
  | .vf f => f
  | .smb => 0x1F0
  | .shl => 0x1F1

/-- The function whose bus space and events a requester stands for. -/
def reqFn : Req → Nat
  | .vf f => f
  | _ => 0

/-- How a register access is decided (19 Table 19.2). -/
inductive Verdict where
  | go
  | shape
  | crossBlock
  | noDie
  | dieOut
  | silent
  | islandOff
  | behind
  | waits
  | denied
  | held
  deriving DecidableEq, Repr

/-- A die is in DIE reset or cut off (01 R35). -/
def State.dieOut (s : State) (die : Nat) : Bool := bit s.pkg.diesReset die || bit s.pkg.diesCut die

/-- The REMOTE_ACCESS code in force, capped by the option bytes (19 R490). -/
def State.remoteAccess (s : State) : Nat := min (s.get 0 F.SHL_CFG_REMOTE_ACCESS) s.boot.option.remoteAccessMax

/-- The registers of the boot window (16 R427), which the requester that the boot source admits may write (16 R426). -/
def bootRegister (off : Nat) : Bool :=
  off == 0x010034 || off == 0x010038 || off == 0x010050 || off == 0x010054 || (decide (0x011000 ≤ off) && decide (off < 0x012000))
def State.bootAdmits (s : State) (q : Req) : Bool :=
  match q with
  | .pf0 => decide (s.get 0 F.RST_STRAP_BOOT < 2)
  | .shl => s.get 0 F.RST_STRAP_BOOT == 2
  | .smb => s.get 0 F.RST_STRAP_BOOT == 3
  | .vf _ => false

/-- What the requesters of Table 19.4 may reach (19 R490). -/
def State.permits (s : State) (q : Req) (die off : Nat) (write : Bool) : Bool :=
  let key := decide (0x280000 ≤ off) && decide (off < 0x2A0000)
  let att := decide (off = 0x280000) || decide (off = 0x28002C) || (decide (0x2800C0 ≤ off) && decide (off < 0x2800F8)) ||
    decide (off = 0x280030) || decide (off = 0x280034)
  let arg := (decide (0x280080 ≤ off) && decide (off < 0x2800C0)) || decide (off = 0x280020)
  if write && die == 0 && bootRegister off then s.bootAdmits q
  else match q with
  | .pf0 => true
  | .vf f => s.vfReaches f die off
  | .smb =>
    if write then
      decide (off = 0x020000) || (s.boot.option.smbAttest && arg) || (s.boot.option.smbManager && !key)
    else !key || (s.boot.option.smbAttest && att)
  | .shl => decide ((if write then 2 else 1) ≤ s.remoteAccess) && !key

/-- The die of the primary port (01 R16). -/
def State.primary (s : State) : Nat := s.get 0 F.BRG_PORT_STATUS_PRIMARY

/-- The semaphore that guards a privileged channel's register (12 Table 12.5). -/
def channelSem (off : Nat) : Option Nat :=
  if 0x0C0000 ≤ off ∧ off < 0x0C0040 then some 0
  else if 0x040020 ≤ off ∧ off < 0x040040 then some 1
  else if 0x2A4000 ≤ off ∧ off < 0x2A4014 then some 2
  else if (0x1B0800 ≤ off ∧ off < 0x1B0810) ∨ (0x1B0C00 ≤ off ∧ off < 0x1B1000) then some 3
  else if (0x280020 ≤ off ∧ off < 0x280030) ∨ (0x280080 ≤ off ∧ off < 0x280100) then some 4
  else none

/-- A semaphore's holder, 0x1FF for none. -/
def State.semHolder (s : State) (n : Nat) : Nat := s.get s.primary F.BRG_SEM_HOLDER n

/-- Another function holds the semaphore of a privileged channel (12 R344). -/
def State.heldFrom (s : State) (q : Req) (off : Nat) : Bool :=
  match q, channelSem off with
  | .pf0, some n | .vf _, some n => s.semHolder n != 0x1FF && s.semHolder n != reqCode q
  | _, _ => false

/-- An earlier write of the requester to the die still waits (01 R33). -/
def State.queuedBehind (s : State) (q : Req) (die : Nat) : Bool :=
  s.access.waiting.any fun w => w.write && w.req == q && w.die == die

/-- Without a running image only the GLB, RST, PWR, CLK, SKN, EVT, HLD and PIN blocks of die 0 respond (02 R55; 16 R426). -/
def State.unanswered (s : State) (die off : Nat) : Bool :=
  s.get 0 F.SKN_STATUS_STATE != 2 &&
  (die != 0 || !(decide (off < 0x060000) || (decide (0x070000 ≤ off) && decide (off < 0x080000)) ||
    (decide (0x2E0000 ≤ off) && decide (off < 0x300000))))

/-- The first row of Table 19.2 that applies decides an access of `len` dwords (19 R485). -/
def State.verdict (s : State) (q : Req) (die off len : Nat) (be : Bool) (write : Bool) : Verdict :=
  if len = 0 ∨ 2 < len ∨ be = false ∨ off % 4 ≠ 0 ∨ (len = 2 ∧ off % 8 ≠ 0) then .shape
  else if len = 2 ∧ blockStart off ≠ blockStart (off + 4) then .crossBlock
  else if s.part.dies ≤ die then .noDie
  else if s.dieOut die then .dieOut
  else if s.unanswered die off then .silent
  else if (regAt off).isSome && s.holder die off != tarnIsland && bit (s.islands die).off (s.holder die off) then .islandOff
  else if s.queuedBehind q die then .behind
  else if (regAt off).isSome && !s.holderServes die off && bonded die (s.holder die off) then .waits
  else if !s.permits q die off write then .denied
  else if s.heldFrom q off then .held
  else .go

/-- A requester's fence. -/
def State.modFence (s : State) (q : Req) (f : Fence → Fence) : State :=
  { s with access := { s.access with fences := Table.upd s.access.fences (reqCode q) {} f } }

/-- A discarded write is counted in DISCARDED, saturating at 0xFF (01 Table 1.6). -/
def State.countDiscard (s : State) (q : Req) : State :=
  s.modFence q fun f => { f with discarded := satAdd 0xFF f.discarded 1 }

/-- A counted access (19 R485). -/
def State.badAccess (s : State) (q : Req) (addr cause : Nat) : State :=
  (((s.bump 0 F.PKG_BAD_ACCESS_COUNT).set 0 F.PKG_BAD_ACCESS_LAST_CAUSE cause).set 0 F.PKG_BAD_ADDR_ADDR addr).set
    0 F.PKG_BAD_REQ_REQ (reqCode q)

/-- What a denied requester of messages is answered (19 Table 19.2, row 7). -/
def State.denyAnswer (s : State) (q : Req) : State :=
  match q with
  | .smb => s.emit (.completion q .denied)
  | .shl => s.emit (.completion q .denied)
  | _ => s

/-- A virtual function's write to what it does not own is discarded and counted (13 R352, R357). -/
def State.unprovisioned (s : State) : State := s.bump 0 F.VFN_UNPROVISIONED_COUNT

/-- An access joins those that wait. -/
def State.park (s : State) (w : Waiting) : State := { s with access := { s.access with waiting := s.access.waiting ++ [w] } }

/-- A command is left BUSY until its island runs. -/
def State.parkCmd (s : State) (c : Parked) : State := { s with access := { s.access with parked := s.access.parked ++ [c] } }

/-- The deadline of a wait for an island, and of a wait for a semaphore (19 R485; 12 R344). -/
def State.islandWait (s : State) : Option Nat := some (s.now + us 2)
def State.semWait (s : State) : Option Nat := some (s.now + us (s.get s.primary F.BRG_CFG_CPL_TIMEOUT_US))

/-- An access that the verdict turns away as a write (19 Table 19.2); `addr` is its offset in the requester's own space. -/
def State.turnAwayWrite (s : State) (q : Req) (addr die off len : Nat) (v0 v1 : Word) (w : Around) : Verdict → State
  | .go => s
  | .shape => s.badAccess q addr 1
  | .crossBlock => s.badAccess q addr 2
  | .noDie => s.badAccess q addr 3
  | .dieOut =>
    (s.countDiscard q).raise (if q = .smb ∨ q = .shl then 0 else s.primary) (reqCode q) 0x014 2 [(1, die), (3, 0), (3, off), (1, 0)]
  | .silent | .islandOff => s
  | .behind => s.park ⟨q, addr, die, off, true, len, v0, v1, w, false, none, none⟩
  | .waits => s.park ⟨q, addr, die, off, true, len, v0, v1, w, false, s.islandWait, none⟩
  | .denied => (match q with
    | .vf _ => s.unprovisioned
    | _ => (s.badAccess q addr 5).denyAnswer q)
  | .held => s.park ⟨q, addr, die, off, true, len, v0, v1, w, true, s.semWait, none⟩

/-! The shapes of a meaning. -/

/-- A command on a unit the variant has: time passes, the effect follows, and its writes join the canonical tables. -/
def onUnit (a : At) (ok : Bool) (s : State) (f : State → State) : Out :=
  if a.die < s.part.dies ∧ ok = true then .next (s.commit (f (elapse a s))) else .refused .noSuchUnit

/-- A command decided in one island: it has its effect only while that island runs (01 R24, R25). -/
def onIsland (a : At) (isl : Nat) (ok : Bool) (s : State) (f : State → State) : Out :=
  onUnit a ok s fun s => if s.runs a.die isl then f (s.ungate a.die isl) else s

/-- An access that is a TLP of the primary port is an activity, but for the PWR and TRN blocks (15 R400). -/
def State.tlpActivity (s : State) (q : Req) (off : Nat) : State :=
  if q = .smb ∨ q = .shl ∨ (0x020000 ≤ off ∧ off < 0x030000) ∨ (0x060000 ≤ off ∧ off < 0x070000) then s else s.activity

/-- A command that is a register write of its own: the access is decided by Table 19.2, and where it goes through, the
register's effect follows (19 R485). A command that names an index beyond the unit, or carries a value that is another command's, is refused. -/
def onWrite (a : At) (q : Req) (off : Nat) (v : Word) (ok : Bool) (s : State) (f : State → State) (w : Around := {}) : Out :=
  if ok = true then
    .next (s.commit (
      let s := elapse a s
      if s.resting then s
      else match s.verdict q a.die off 1 true true with
      | .go =>
        let s := (s.tlpActivity q off).ungate a.die (s.holder a.die off)
        f (s.modFence q fun x => { x with written := setBit x.written a.die })
      | v' => s.turnAwayWrite q (barAddr a.die off) a.die off 1 v 0 w v'))
  else .refused .noSuchUnit

end Sys2Proof.Machine
end

