-- ==== Sys2Proof/Machine/Line.lean ====
section
/-! DEFINITION. Ply links and lanes: the records of the image, the fields of their registers, and the check of a control
block (04 R95 to R102). -/

namespace Sys2Proof.Machine

/-- What a die holds beyond its registers. -/
def State.die (s : State) (d : Nat) : Die := Table.look s.dies d {}

/-- A die's own state changed. -/
def State.modDie (s : State) (d : Nat) (f : Die → Die) : State :=
  { s with dies := Table.put s.dies d (f (s.die d)) }

/-- The ply link of a slot, where one is configured (04 R102). -/
def State.ply? (s : State) (d k : Nat) : Option Ply := Table.find? (s.die d).plies k

/-- The ply link of a slot changed. -/
def State.modPly (s : State) (d k : Nat) (f : Ply → Ply) : State :=
  match s.ply? d k with
  | some p => s.modDie d fun x => { x with plies := Table.put x.plies k (f p) }
  | none => s

/-- A lane's own state. -/
def State.lane (s : State) (d n : Nat) : Lane := Table.look (s.die d).lanes n {}

/-- A lane's own state changed. -/
def State.modLane (s : State) (d n : Nat) (f : Lane → Lane) : State :=
  s.modDie d fun x => { x with lanes := Table.upd x.lanes n {} f }

/-- A cage's own state. -/
def State.cage (s : State) (d m : Nat) : Cage := Table.look (s.die d).cages m {}

/-- A cage's own state changed. -/
def State.modCage (s : State) (d m : Nat) (f : Cage → Cage) : State :=
  s.modDie d fun x => { x with cages := Table.upd x.cages m {} f }

/-- The lanes of a mask, lowest first; a lane's position is its logical index (04 R99). -/
def maskLanes (m : Nat) : List Nat := (List.range 8).filter fun n => bit m n

/-- The lanes of a slot's ply. -/
def State.plyLanes (s : State) (d k : Nat) : List Nat :=
  match s.ply? d k with
  | some p => maskLanes p.cfg.mask
  | none => []

/-- The state of a ply link (04 Table 4.16). -/
def State.plyState (s : State) (d k : Nat) : Nat := s.get d F.PLY_LINK_STATE_STATE k

/-- The rate code in use, 3 for none. -/
def State.plyRate (s : State) (d k : Nat) : Nat := s.get d F.PLY_LINK_STATE_RATE k

/-- A configured ply is ACTIVE. -/
def State.plyActive (s : State) (d k : Nat) : Bool := (s.ply? d k).isSome && s.plyState d k == 6

/-- The direction states of Table 4.11: 0 ACTIVE, 1 DOZE, 2 NAP, 3 ply not ACTIVE. -/
def State.txState (s : State) (d k : Nat) : Nat := s.get d F.PLY_LINK_SLEEP_TX_STATE k
def State.rxState (s : State) (d k : Nat) : Nat := s.get d F.PLY_LINK_SLEEP_RX_STATE k

/-- The ply number of a slot. -/
def State.plyId (s : State) (d k : Nat) : Nat := s.get d F.PLY_LINK_STATE_PLY_ID k

/-- A field of the status register set on every lane of a ply. -/
def State.setLanes (s : State) (d k : Nat) (f : Fld) (v : Nat) : State :=
  (s.plyLanes d k).foldl (fun s n => s.set d f v n) s

/-- A test that every lane of a ply passes. -/
def State.allLanes (s : State) (d k : Nat) (p : Nat → Bool) : Bool := (s.plyLanes d k).all p

/-- The CRC-16 of the spec over bits in the order they are given (04 R96). -/
def crc16Bits (l : List Bool) : Nat := crcBits 16 0x1021 0xFFFF l

/-- The CRC-16 over bytes: ascending, most significant bit first (04 R96). -/
def crc16 (l : List Byte) : Nat := crc16Bits (l.flatMap msbFirst)

/-- Byte `n` of a block or frame, as a number. -/
def byteAt (b : List Byte) (n : Nat) : Nat := (b.getD n 0).toNat

/-- The little-endian number in bytes `n` to `n + len − 1`. -/
def numAt (b : List Byte) (n len : Nat) : Nat := leNat ((b.drop n).take len)

/-- A control block's 32 bytes with its CRC (04 R96). -/
def sealBlock (body : List Byte) : List Byte :=
  let b := (body ++ List.replicate 30 0).take 30
  b ++ leBytes 2 (crc16 b)

/-- A control block of the given type whose CRC is right (04 R96). -/
def blockOk (type : Nat) (b : List Byte) : Bool :=
  b.length == 32 && byteAt b 0 == type && numAt b 30 2 == crc16 (b.take 30)

/-- The bytes and bits that a block's table gives as 0 are 0 (05 R137, Tables 5.5 to 5.7; 04 Tables 4.5, 4.9, 4.12); EXCH ignores
the bytes that its table reserves. -/
def blockZeros (type : Nat) (b : List Byte) : Bool :=
  let zero := fun (l : Nat) => ((b.take 30).drop l).all (· == 0)
  let below := fun (n v : Nat) => decide (byteAt b n < v)
  match type with
  | 1 => zero 1
  | 2 => below 1 2 && below 3 16 && zero 12 && (byteAt b 1 == 0 || numAt b 4 2 == 0)
  | 3 => below 1 8 && below 13 1 && zero 27
  | 4 => below 1 16 && below 24 16 && zero 25
  | 5 => below 1 8 && below 3 8 && below 9 16 && zero 11
  | 6 => below 2 2 && below 3 1 && (byteAt b 1 != 2 || numAt b 4 2 == 0) && zero 6
  | _ => below 2 4 && below 3 2 && below 4 8 && below 6 4 && below 7 4 && below 8 2 && below 11 16

/-- A control block of the given type that R96 lets through as far as its CRC and its zero fields go. -/
def blockFit (type : Nat) (b : List Byte) : Bool := blockOk type b && blockZeros type b

/-- The control block types that a bring-up state accepts (04 Table 4.6). -/
def blockAllowed (st type : Nat) : Bool :=
  match st with
  | 3 => type == 1
  | 4 => type == 1 || type == 5
  | 5 => type == 1 || type == 5 || type == 7 || type == 3
  | 6 => true
  | _ => false

/-- A near miss of a ply wait is counted (04 R104). -/
def State.plyNear (s : State) (a : At) (k deadline : Nat) : State :=
  if nearMiss a s deadline then s.bump a.die F.PLY_LINK_NEAR_MISS_COUNT 1 k else s

/-- A valid control block restarts the liveness timer (04 R112); on an ACTIVE receive direction it must come in time, and a near miss is
counted (04 R104). -/
def State.heard (s : State) (a : At) (k : Nat) : State :=
  let due := ((s.ply? a.die k).map (·.liveAt)).getD 0 + us 100
  let timed := s.plyActive a.die k && s.rxState a.die k == 0
  if timed && !inTime a s due then s
  else (if timed then s.plyNear a k due else s).modPly a.die k fun p => { p with liveAt := s.now }

/-- A control block arrives on a ply: one that fails R96 is discarded and counted in CTL_ERR; a valid one is taken. -/
def State.takeBlock (s : State) (a : At) (k type : Nat) (b : List Byte) (fieldsOk : Bool) (f : State → Ply → State) : State :=
  match s.ply? a.die k with
  | none => s
  | some _ =>
    if !(blockFit type b && fieldsOk && blockAllowed (s.plyState a.die k) type) then s.bump a.die F.PLY_LINK_CTL_ERR_COUNT 1 k
    else
      let s := s.heard a k
      match s.ply? a.die k with
      | some p => f s p
      | none => s

end Sys2Proof.Machine
end

