-- ==== Sys2Proof/Machine/Tunnel.lean ====
section
/-! DEFINITION. Segments, Ledger entries, ports, credit, charges and the loading of keys on need: the operations that the
tunnel, the switch core and the scheduler share (05 R121 to R144, R513; 06 R158 to R164; 17 R444 to R448). -/

namespace Sys2Proof.Machine

/-! Segment headers (05 Table 5.1). -/

def hSn (w : Nat) : Nat := bits w 63 52
def hKind (w : Nat) : Nat := bits w 51 48
def hSop (w : Nat) : Bool := bit w 47
def hEop (w : Nat) : Bool := bit w 46
def hMark (w : Nat) : Bool := bit w 45
def hEcn (w : Nat) : Bool := bit w 44
def hStomp (w : Nat) : Bool := bit w 43
def hEnc (w : Nat) : Bool := bit w 42
def hSeq (w : Nat) : Nat := bits w 39 24
def hLen (w : Nat) : Nat := bits w 23 12

/-- HCHK of a header: a CRC-12 over bits [63:12] from bit 63 downwards (05 R126). -/
def hchk (w : Nat) : Nat := crcBits 12 0x80F 0xFFF (bitsDownFrom (w / 2 ^ 12) 52)
where
  /-- The low `n` bits of a number, highest first. -/
  bitsDownFrom (v n : Nat) : List Bool := (List.range n).map fun i => bit v (n - 1 - i)

/-- A header with its check. -/
def mkHdr (sn kind : Nat) (sop eop mark ecn stomp enc : Bool) (seq len : Nat) : Nat :=
  let w := sn % 4096 * 2 ^ 52 + kind % 16 * 2 ^ 48 + b2n sop * 2 ^ 47 + b2n eop * 2 ^ 46 + b2n mark * 2 ^ 45 +
    b2n ecn * 2 ^ 44 + b2n stomp * 2 ^ 43 + b2n enc * 2 ^ 42 + seq % 65536 * 2 ^ 24 + len % 4096 * 2 ^ 12
  w + hchk w

/-- Units of a segment of LEN bytes (05 R139; 06 R159). -/
def unitsOf (len : Nat) : Nat := ceilDiv (8 + len) 64

/-- Units of a held segment. -/
def Seg.units (g : Seg) : Nat := unitsOf (hLen g.hdr)

/-- Bytes a segment occupies on a ply or local output (07 R192). -/
def segCost (len : Nat) : Nat := (8 + len + 7) / 8 * 8

/-- Segment limit of a kind (05 Table 5.2). -/
def kindLimit (kind : Nat) : Nat :=
  match kind with
  | 1 => 16
  | 2 => 3
  | 3 => 1
  | 4 => 5
  | 5 => 1
  | 6 => 2
  | _ => 8192

/-! Events raised at most once in a period. -/

/-- An event raised at most once per `period` for its code and source; `f` gets how often it has occurred since it was last
raised, and the tag of the first such occurrence. -/
def State.raiseTagged (s : State) (d code src period tag : Nat) (f : Nat → Nat → State → State) : State :=
  let key := 65536 * code + src
  let l := Table.look (s.die d).limits key ⟨0, 0, 0⟩
  let first := if l.n = 0 then tag else l.first
  let listed := (Table.find? (s.die d).limits key).isSome
  if listed && decide (s.now < l.at_ + period) then
    s.modDie d fun x => { x with limits := Table.put x.limits key ⟨l.at_, l.n + 1, first⟩ }
  else f (l.n + 1) first (s.modDie d fun x => { x with limits := Table.put x.limits key ⟨s.now, 0, 0⟩ })

/-- The same without a tag. -/
def State.raiseLimited (s : State) (d code src period : Nat) (f : Nat → State → State) : State :=
  s.raiseTagged d code src period 0 fun n _ s => f n s

/-! Ledger entries (05 Table 5.3). -/

/-- Bits [hi:lo] of an entry. -/
def Entry.f (e : Entry) (hi lo : Nat) : Nat := bits e.raw.toNat hi lo

/-- Bits [hi:lo] of an entry replaced. -/
def Entry.setF (e : Entry) (hi lo v : Nat) : Entry :=
  let n := e.raw.toNat
  { e with raw := BitVec.ofNat 256 (n - bits n hi lo * 2 ^ lo + v % 2 ^ (hi + 1 - lo) * 2 ^ lo) }

def Entry.strandId (e : Entry) : Nat := e.f 255 224
def Entry.kind (e : Entry) : Nat := e.f 223 220
def Entry.contract (e : Entry) : Nat := e.f 219 217
def Entry.tc (e : Entry) : Nat := e.f 216 214
def Entry.guaranteed (e : Entry) : Nat := e.f 213 190
def Entry.ceiling (e : Entry) : Nat := e.f 189 166
def Entry.latBound (e : Entry) : Nat := e.f 165 150
def Entry.burst (e : Entry) : Nat := e.f 149 126
def Entry.policerEn (e : Entry) : Bool := e.f 125 125 == 1
def Entry.policer (e : Entry) : Nat := e.f 124 113
def Entry.mcastEn (e : Entry) : Bool := e.f 112 112 == 1
def Entry.mcastGroup (e : Entry) : Nat := e.f 111 102
def Entry.pinDieEn (e : Entry) : Bool := e.f 101 101 == 1
def Entry.pinDie (e : Entry) : Nat := e.f 100 98
def Entry.pinPlyEn (e : Entry) : Bool := e.f 97 97 == 1
def Entry.pinPly (e : Entry) : Nat := e.f 96 91
def Entry.avoid (e : Entry) : Nat := e.f 90 83
def Entry.overflowOk (e : Entry) : Bool := e.f 82 82 == 1
def Entry.enc (e : Entry) : Bool := e.f 81 81 == 1
def Entry.keyHandle (e : Entry) : Nat := e.f 80 65
def Entry.inType (e : Entry) : Nat := e.f 64 62
def Entry.inIndex (e : Entry) : Nat := e.f 61 56
def Entry.inSn (e : Entry) : Nat := e.f 55 44
def Entry.outType (e : Entry) : Nat := e.f 43 41
def Entry.outIndex (e : Entry) : Nat := e.f 40 35
def Entry.nextSn (e : Entry) : Nat := e.f 34 23
def Entry.owner (e : Entry) : Nat := e.f 22 15
def Entry.st (e : Entry) : Nat := e.f 14 12

/-- The entry at a package index (die × 8,192 + index). -/
def State.entry? (s : State) (idx : Nat) : Option Entry := Table.find? (s.die (idx / 8192)).ledger (idx % 8192)

/-- The entry at a package index changed. -/
def State.modEntry (s : State) (idx : Nat) (f : Entry → Entry) : State :=
  match s.entry? idx with
  | some e => s.modDie (idx / 8192) fun x => { x with ledger := Table.put x.ledger (idx % 8192) (f e) }
  | none => s

/-- The home entry behind an index: the index itself, or the one a mirror stands for (05 R136). -/
def State.homeOf (s : State) (idx : Nat) : Nat := ((s.entry? idx).bind (·.mirrorOf)).getD idx

/-- Every package index in use, home entries only. -/
def State.entries (s : State) : List (Nat × Entry) :=
  (List.range s.part.dies).flatMap fun d => (s.die d).ledger.filterMap fun p =>
    if p.2.mirrorOf.isNone then some (8192 * d + p.1, p.2) else none

/-- An event of a strand goes to its OWNER, with a manager copy (05 R155). -/
def State.raiseStrand (s : State) (idx code sev : Nat) (fields : List (Nat × Nat)) : State :=
  s.raiseOwned (((s.entry? idx).map (·.owner)).getD 0) (idx / 8192) (idx % 8192) code sev fields

/-! Ports (05 R513, Table 5.14; 06 Table 6.1). -/

/-- The slot (die, k) of a package ply number. -/
def State.plyAt (s : State) (p : Nat) : Option (Nat × Nat) :=
  (List.range s.part.dies).findSome? fun d =>
    (List.find? (fun q => q.2.cfg.id == p) (s.die d).plies).map fun q => (d, q.1)

/-- The slots of the plies of a braid. -/
def State.braidSlots (s : State) (b : Nat) : List (Nat × Nat) :=
  (List.range s.part.dies).flatMap fun d =>
    (s.die d).plies.filterMap fun q => if q.2.cfg.braid = b ∧ b ≠ 0xFF then some (d, q.1) else none

/-- The die and output of a local port, by kind (05 Table 5.14). -/
def localPort (kind index : Nat) : Nat × Nat :=
  match kind with
  | 1 => (index / 2, 14 + index % 2)
  | 2 => (index / 2, 12 + index % 2)
  | 3 => (index / 8, 16)
  | 4 => (index / 4, 8 + index % 4)
  | 7 => (index, 17)
  | _ => (index, 18)

/-- The island of a local output. -/
def outIsland (o : Nat) : Nat :=
  if o < 8 then o else if o < 12 then 21 + (o - 8) else
    match o with
    | 12 => 17
    | 13 => 18
    | 14 => 25
    | 15 => 26
    | 16 => 27
    | 17 => 20
    | _ => 37

/-- Where an entry sends: the die and output (05 R513; 08 R227 for a braid). -/
def State.outOf (s : State) (e : Entry) : Option (Nat × Nat) :=
  match e.outType with
  | 1 => s.plyAt e.outIndex
  | 2 => s.plyAt e.ply
  | 3 => some (localPort e.kind e.outIndex)
  | _ => none

/-- The queue that an output's map gives a class and contract (07 R191). -/
def State.qmap (s : State) (d o tc contract : Nat) : Nat :=
  bits (s.word d F.SCH_OUT_QMAP_Q_PROTECT.reg o tc).toNat (4 * contract + 3) (4 * contract)

/-- A queue is used by its output (07 R190). -/
def State.queueUsed (s : State) (d o q : Nat) : Bool :=
  decide (q < s.get d F.SCH_OUT_CFG_NSTRICT o + s.get d F.SCH_OUT_CFG_NWEIGHT o)

/-- The queue of an entry, as 512 × die + 16 × output + q; a virtual function's strands take its carved queue at an output
of its home die (13 R354). -/
def State.queueOf (s : State) (e : Entry) : Option Nat :=
  (s.outOf e).map fun p =>
    let carved := if e.owner = 0 ∨ homeDie e.owner ≠ p.1 then none
      else (s.slot e.owner).carve.queues.find? fun c => c.1 == p.2
    512 * p.1 + 16 * p.2 + (match carved with
      | some c => c.2
      | none => s.qmap p.1 p.2 e.tc e.contract)

/-- Payload of a lane in Mb/s (04 Table 4.1). -/
def laneRate (code : Nat) : Nat :=
  match code with
  | 0 => 99600
  | 1 => 49800
  | 2 => 24200
  | _ => 0

/-- The payload of a ply at its current rate, in Mb/s. -/
def State.plySpeed (s : State) (d k : Nat) : Nat := (s.plyLanes d k).length * laneRate (s.plyRate d k)

/-- The core rate of the grade, in Mb/s (06 R156). -/
def State.coreSpeed (s : State) : Nat := if s.part.gradeX then 2048000 else 2560000

/-- The line rate of a MAC in Mb/s, by its SPEED code (10 R277). -/
def macRate (speed : Nat) : Nat :=
  match speed with
  | 1 => 10
  | 2 => 100
  | 3 => 1000
  | 4 => 10000
  | 5 => 25000
  | _ => 0

/-- The speed of an output or input of a die, in Mb/s (06 Table 6.1). -/
def State.speed (s : State) (d o : Nat) : Nat :=
  if o < 8 then s.plySpeed d o
  else if o < 12 then macRate (s.get d F.ETH_STATUS_SPEED (o - 8))
  else s.coreSpeed

/-- Picoseconds of some bytes at a speed in Mb/s. -/
def bytePs (bytes mbps : Nat) : Nat := if mbps = 0 then 0 else bytes * 8000000 / mbps

/-! Credit (05 R139 to R144). -/

/-- The credit of a ply. -/
def State.credit (s : State) (d k : Nat) : Credit := ((s.ply? d k).map (·.credit)).getD {}

def State.modCredit (s : State) (d k : Nat) (f : Credit → Credit) : State :=
  s.modPly d k fun p => { p with credit := f p.credit }

/-- Credit counters are 20 bits (05 R139). -/
def creditMod : Nat := 2 ^ 20

/-- (LIM[t] − TXC[t]) mod 2^20. -/
def State.avail (s : State) (d k t : Nat) : Nat :=
  ((s.credit d k).lim.getD t 0 + creditMod - (s.credit d k).txc.getD t 0) % creditMod

/-- A segment of a cost may start (05 R140). -/
def State.covers (s : State) (d k t cost : Nat) : Bool :=
  decide (cost ≤ s.avail d k t) && decide (s.avail d k t < 2 ^ 19)

/-- A class is lossless on a ply (05 R143). -/
def State.lossless (s : State) (d k t : Nat) : Bool :=
  if t = 0 then !s.flag d F.PLY_LINK_CREDIT_CFG_LOSSY_TC0 k
  else if t = 1 then !s.flag d F.PLY_LINK_CREDIT_CFG_LOSSY_TC1 k
  else true

/-- The class's credit is watched: when it is gone, and what its return ends (05 R143). -/
def State.watchClass (s : State) (d k t : Nat) : State :=
  let usable := s.covers d k t 1
  let since := (s.credit d k).emptyAt.getD t none
  if usable then
    let s' := s.modCredit d k fun c => { c with emptyAt := c.emptyAt.set t none, stalled := clearBit c.stalled t }
    if bit (s.credit d k).stalled t then
      s'.raise d k 0x20B 1 [(1, s.plyId d k), (1, t), (2, 0), (4, (s.now - since.getD s.now) / us 1)]
    else s'
  else s.modCredit d k fun c => { c with emptyAt := c.emptyAt.set t (some (since.getD s.now)) }

/-- Every class's credit is watched. -/
def State.watchCredit (s : State) (d k : Nat) : State := (List.range 8).foldl (fun s t => s.watchClass d k t) s

/-! Charges (06 R161 to R164). -/

/-- Accounts: the shared pool, a ply's class, a local input's class, a splice port, and none. -/
def acctShared : Nat := 0
def acctPly (k t : Nat) : Nat := 16 + 8 * k + t
def acctLocal (i t : Nat) : Nat := 128 + 8 * i + t
def acctTransit (p : Nat) : Nat := 256 + p
def acctNone : Nat := 1023

/-- Units charged to an account. -/
def State.charged (s : State) (d acct : Nat) : Nat := Table.look (s.die d).acct acct 0

/-- Units charged to an account. -/
def State.chargeTo (s : State) (d acct units : Nat) : State :=
  if acct = acctNone then s
  else s.modDie d fun x => { x with acct := Table.put x.acct acct (Table.look x.acct acct 0 + units) }

/-- Units freed on an account. -/
def State.freeFrom (s : State) (d acct units : Nat) : State :=
  if acct = acctNone then s
  else s.modDie d fun x => { x with acct := Table.put x.acct acct (Table.look x.acct acct 0 - units) }

/-- The splice ports of a die: log2 of the die count (01 R20). -/
def State.splicePorts (s : State) : Nat := if s.part.dies = 2 then 1 else if s.part.dies = 4 then 2 else 3

/-- The units that reserves hold on a die: plies, local inputs, splice transit (06 R161 to R163). -/
def State.reserves (s : State) (d : Nat) : Nat :=
  (s.die d).plies.foldl (fun n p =>
    n + (List.range 8).foldl (fun m t => m + s.get d F.PLY_LINK_ING_ING_UNITS p.1 t) 0) 0 + 23232 + 2048 * s.splicePorts

/-- The units of the shared pool (06 R163), and those of it that are free. -/
def State.sharedSize (s : State) (d : Nat) : Nat := 262144 - s.reserves d
def State.sharedFree (s : State) (d : Nat) : Nat := s.sharedSize d - s.charged d acctShared

/-- The units of a die that are not charged (06 Table 6.6). -/
def State.freeUnits (s : State) (d : Nat) : Nat := 262144 - (s.die d).acct.foldl (fun n p => n + p.2) 0

/-- A segment leaves the accounts from die `d`: at once on that die, else by a release that crosses the splices (06 R164). -/
def State.releaseSeg (s : State) (d : Nat) (g : Seg) : State :=
  if g.acct = acctNone then s
  else if g.chargeDie = d then s.freeFrom d g.acct g.units
  else s.modDie g.chargeDie fun x => { x with releases := x.releases ++ [⟨g.acct, g.units⟩] }

/-- Several segments leave the accounts. -/
def State.releaseSegs (s : State) (d : Nat) (gs : List Seg) : State := gs.foldl (fun s g => s.releaseSeg d g) s

/-! Keys on need (17 R444). -/

/-- The die that loads a key for a function: the engine's die for PF0, the function's home die otherwise. -/
def keyDie (d owner : Nat) : Nat := if owner = 0 then d else homeDie owner

/-- A slot that holds a handle for a function. -/
def State.keySlot? (s : State) (d owner handle : Nat) : Option KeySlot :=
  (List.find? (fun p => p.2.handle == handle && p.2.owner == owner) (s.die (keyDie d owner)).keySlots).map (·.2)

/-- The owner of a slot that holds a handle for a MAC of a die or for LOAD: PF0's pool of the die, else a function's reservation
(17 R444, R448). -/
def State.slotOwner? (s : State) (d handle : Nat) : Option Nat :=
  if (s.keySlot? d 0 handle).isSome then some 0
  else (List.range s.part.dies).findSome? fun k =>
    (List.find? (fun p => p.2.handle == handle && p.2.owner != 0) (s.die k).keySlots).map (·.2.owner)

/-- The key of a handle is at hand. -/
def State.hasKey (s : State) (d owner handle : Nat) : Bool := (s.keySlot? d owner handle).isSome

/-- A handle that failed is not fetched again yet (17 R444). -/
def State.keyHeldOff (s : State) (d handle : Nat) : Bool := decide (s.now < Table.look (s.die d).keyFail handle 0)

/-- A key is needed by an engine or by LOAD: its load starts, or shares one in progress (17 R444). -/
def State.needKey (s : State) (d owner handle : Nat) (engine : Option Nat) : State :=
  let kd := keyDie d owner
  let add := fun (l : List Nat) => match engine with
    | some e => if l.contains e then l else l ++ [e]
    | none => l
  if s.keyHeldOff kd handle then s
  else if (s.die kd).keyLoads.any fun l => l.handle == handle && l.owner == owner then
    s.modDie kd fun x => { x with keyLoads := x.keyLoads.map fun l =>
      if l.handle = handle ∧ l.owner = owner then
        { l with engines := add l.engines, byCmd := l.byCmd || engine.isNone } else l }
  else
    let s := s.modDie kd fun x => { x with keyLoads := x.keyLoads ++ [⟨handle, owner, engine.isNone, add []⟩] }
    if handle = 0 ∨ s.get 0 F.KEY_DIR_CFG_KEY_DIR_COUNT ≤ handle ∨ s.flag 0 F.KEY_DIR_CFG_DIR_DEVICE = true ∨ s.busMaster 0 = false then s
    else s.emit (.hostRead 0 (s.pair 0 Reg.KEY_DIR_LO Reg.KEY_DIR_HI + 16 * handle) 16)

/-- The key was used now. -/
def State.touchKey (s : State) (d owner handle : Nat) : State :=
  s.modDie (keyDie d owner) fun x => { x with keySlots := x.keySlots.map fun p =>
    if p.2.handle = handle ∧ p.2.owner = owner then (p.1, { p.2 with used := s.now }) else p }

end Sys2Proof.Machine
end

