-- ==== Sys2Proof/Machine/Switch.lean ====
section
/-! DEFINITION. The switch core (06): queues and their placement, linking, the Millpond, gathering and checking of switching
units, cut-through, multicast, splice transit, ageing and the auditor. -/

namespace Sys2Proof.Machine

/-! Queues. A queue is named by its key, 512 × die + n with n = 16 × output + q. -/

def State.queue (s : State) (key : Nat) : Queue := Table.look (s.die (key / 512)).queues (key % 512) {}

def State.modQueue (s : State) (key : Nat) (f : Queue → Queue) : State :=
  s.modDie (key / 512) fun x => { x with queues := Table.upd x.queues (key % 512) {} f }

/-- The package-wide queue index (06 R158). -/
def queueIndex (key : Nat) : Nat := 304 * (key / 512) + key % 512

/-- Every segment of a queue, oldest first. -/
def Queue.segs (q : Queue) : List Seg := q.units.flatMap (·.segs)

/-- Units of a queue in a place: 0 on chip, 1 Millpond, 2 held tail. -/
def Queue.inPlace (q : Queue) (place : Nat) : Nat :=
  q.segs.foldl (fun n g => if g.place = place then n + g.units else n) 0

/-- Total depth (06 R175). -/
def Queue.depth (q : Queue) : Nat := q.segs.foldl (fun n g => n + g.units) 0

/-- Pages of a queue's pond part: 64 units each (06 R174). -/
def Queue.pages (q : Queue) : Nat := ceilDiv (q.inPlace 1) 64

/-- Placement of a queue (06 Table 6.7). -/
def State.holdDie (s : State) (key : Nat) : Nat := s.get (key / 512) F.SCH_Q_PLACE_HOLD_DIE (key % 512)
/-- The virtual function that has carved a queue (13 R354). -/
def State.carverOf (s : State) (key : Nat) : Option Nat :=
  (List.find? (fun (p : Nat × Slot) => homeDie p.1 == key / 512 && p.2.carve.queues.contains (key % 512 / 16, key % 16)) s.vfn.slots).map (·.1)

/-- The die and channel of a queue's Millpond: where the Spindle has put it, or its function's reservation (08 R230; 13 R355). -/
def State.pondDie (s : State) (key : Nat) : Nat :=
  match s.carverOf key with
  | some f => homeDie f
  | none => s.get (key / 512) F.SCH_Q_PLACE_POND_DIE (key % 512)
def State.pondCh (s : State) (key : Nat) : Nat :=
  match s.carverOf key with
  | some f => (s.slot f).carve.pondCh
  | none => s.get (key / 512) F.SCH_Q_PLACE_POND_CH (key % 512)
def State.qshare (s : State) (key : Nat) : Nat := s.get (key / 512) F.SCH_Q_SHARE_QSHARE (key % 512)
def State.pondMax (s : State) (key : Nat) : Nat := s.get (key / 512) F.SCH_Q_POND_POND_MAX (key % 512)

/-- The keys of every queue that holds something. -/
def State.queueKeys (s : State) : List Nat :=
  (List.range s.part.dies).flatMap fun d => (s.die d).queues.map fun p => 512 * d + p.1

/-- Pages in use in the Millpond of a channel. -/
def State.pondUsed (s : State) (d c : Nat) : Nat :=
  s.queueKeys.foldl (fun n key => if s.pondDie key = d ∧ s.pondCh key = c then n + (s.queue key).pages else n) 0

/-- Pages of a channel's region (06 R174). -/
def State.pondSize (s : State) (d c : Nat) : Nat := 256 * s.get d F.MEM_POND_SIZE_SIZE_MIB c

/-- The Millpond registers follow a change of a queue's pond part (06 Table 6.9). -/
def State.pondSync (s : State) (key : Nat) : State :=
  let d := s.pondDie key
  let c := s.pondCh key
  let n := s.pondUsed d c
  let s := (s.set d F.MEM_POND_USED_PAGES n c).set d F.MEM_POND_PEAK_PAGES (max n (s.get d F.MEM_POND_PEAK_PAGES c)) c
  s.modQueue key fun q => { q with peak := max q.peak q.pages }

/-- Strands mapped to a queue that are ACTIVE or MOVING. -/
def State.mapped (s : State) (key : Nat) : List (Nat × Entry) :=
  s.entries.filter fun p => (p.2.st == 2 || p.2.st == 3) && s.queueOf p.2 == some key

/-- Mapped strands with OVERFLOW_OK = 0 (06 Table 6.7). -/
def State.noOverflow (s : State) (key : Nat) : Nat := ((s.mapped key).filter fun p => !p.2.overflowOk).length

/-- Pages of a channel's region that functions have reserved (13 R355). -/
def State.pondReserved (s : State) (d c : Nat) : Nat :=
  s.vfn.slots.foldl (fun n p => if homeDie p.1 = d ∧ p.2.carve.pondCh = c then n + p.2.carve.pondPages else n) 0

/-- The pages that a queue may share in, and how many of them are used: its function's reservation, or the rest of the region. -/
def State.pondShare (s : State) (key : Nat) : Nat × Nat :=
  let pages := fun (l : List Nat) => l.foldl (fun n k => n + (s.queue k).pages) 0
  match s.carverOf key with
  | some f => ((s.slot f).carve.pondPages, pages (s.queueKeys.filter fun k => s.carverOf k == some f))
  | none =>
    let d := s.pondDie key
    let c := s.pondCh key
    (s.pondSize d c - s.pondReserved d c,
      pages (s.queueKeys.filter fun k => s.carverOf k == none && s.pondDie k == d && s.pondCh k == c))

/-- The limit of a queue's own pages, 0 for none: POND_MAX, which a reservation stands in for (13 R355). -/
def State.ownPondMax (s : State) (key : Nat) : Nat := if (s.carverOf key).isSome then 0 else s.pondMax key

/-- A queue may overflow (06 R174; 13 R355). -/
def State.mayOverflow (s : State) (key : Nat) : Bool :=
  s.noOverflow key == 0 && ((s.carverOf key).isSome || !(s.die (key / 512)).noPond.contains (key % 512)) && (s.pondShare key).1 != 0 &&
  (s.ownPondMax key == 0 || decide ((s.queue key).pages < s.ownPondMax key))

/-- Why the Millpond has no page for `units` more of a queue: 0 it has, 1 the region or reservation is full, 2 POND_MAX is reached. -/
def State.pondFull (s : State) (key units : Nat) : Nat :=
  let q := s.queue key
  let need := ceilDiv (q.inPlace 1 + units) 64 - q.pages
  let share := s.pondShare key
  if share.1 < share.2 + need then 1
  else if s.ownPondMax key ≠ 0 ∧ s.ownPondMax key < q.pages + need then 2
  else 0

/-- A segment goes to the end of the pond part, or into the held tail where no page is free (06 R175, R176). -/
def State.toPond (s : State) (key h : Nat) (g : Seg) : State × Seg :=
  let q := s.queue key
  let why := s.pondFull key g.units
  if why = 0 ∧ q.inPlace 2 = 0 then
    (s.releaseSeg h g, { g with acct := acctNone, place := 1, at_ := h })
  else
    let s := if q.full then s
      else (s.modQueue key fun q => { q with full := true }).raise (key / 512) 11 0x306 2
        [(2, queueIndex key), (1, if why = 0 then 1 else why), (1, s.pondCh key),
         (4, s.pondUsed (s.pondDie key) (s.pondCh key))]
    (s, { g with place := 2, at_ := h })

/-- A segment is linked into a queue held on die `h`: its charge and its place (06 R164, R175, R176). -/
def State.placeSeg (s : State) (key h : Nat) (g : Seg) : State × Seg :=
  let q := s.queue key
  if q.overflow then s.toPond key h g
  else if q.inPlace 0 + g.units ≤ s.qshare key then
    if g.acct = acctShared ∧ g.chargeDie = h then (s, { g with at_ := h })
    else if g.units ≤ s.sharedFree h then
      ((s.releaseSeg h g).chargeTo h acctShared g.units, { g with acct := acctShared, chargeDie := h, at_ := h })
    else (s, { g with at_ := h })
  else if s.mayOverflow key then
    let s := (s.modQueue key fun q => { q with overflow := true, since := s.now, peak := 0, full := false }).raise
      (key / 512) 11 0x304 1
      [(2, queueIndex key), (1, s.pondDie key), (1, s.pondCh key), (4, q.inPlace 0)]
    s.toPond key h g
  else (s, { g with at_ := h })

/-- The Spindle counts the bytes of a strand linked at an output, and those of PROTECT strands (08 Table 8.2). -/
def State.countLinked (s : State) (key idx : Nat) (g : Seg) : State :=
  let n := g.payload.length
  let o := key % 512 / 16
  let prot := ((s.entry? idx).map (·.contract)) == some 0
  s.modDie (key / 512) fun x => { x with
    linked := Table.upd x.linked idx 0 (· + n),
    protLinked := if prot then Table.upd x.protLinked o 0 (· + n) else x.protLinked }

/-- Millpond bytes of a channel (08 Table 8.2). -/
def State.countPond (s : State) (key units : Nat) : State :=
  let c := s.pondCh key
  s.modDie (s.pondDie key) fun x => { x with pondBytes := Table.upd x.pondBytes c 0 (· + 64 * units) }

/-- A segment joins unit `i` of a queue. -/
def State.linkAt (s : State) (key h i : Nat) (g : Seg) : State :=
  let s := if hKind g.hdr = 5 then s else s.activity
  let p := (s.countLinked key (((s.queue key).units[i]?.map (·.idx)).getD 65536) g).placeSeg key h g
  let p := if p.2.place = 1 then (p.1.countPond key g.units, p.2) else p
  (p.1.modQueue key fun q => { q with
    units := q.units.modify i fun u => { u with segs := u.segs ++ [p.2] } }).pondSync key

/-- A segment joins the last unit of a queue. -/
def State.linkSeg (s : State) (key h : Nat) (g : Seg) : State := s.linkAt key h ((s.queue key).units.length - 1) g

/-- The place in a queue of a strand's unit under cut-through. -/
def State.cutIndex (s : State) (key idx : Nat) : Nat := (s.queue key).units.findIdx fun v => v.idx == idx && v.cut && !v.done

/-- A whole unit is linked (06 R164, step 2). -/
def State.linkUnit (s : State) (key h : Nat) (u : SUnit) : State :=
  let s := s.modQueue key fun q => { q with units := q.units ++ [{ u with segs := [], at_ := s.now, queue := key }] }
  u.segs.foldl (fun s g => s.linkSeg key h g) s

/-- Every segment of a queue passed through `f`, oldest first. -/
def State.mapSegs (s : State) (key : Nat) (f : State → Seg → State × Seg) : State :=
  let step := fun (acc : State × List SUnit) (u : SUnit) =>
    let r := u.segs.foldl (fun (a : State × List Seg) g => let p := f a.1 g; (p.1, a.2 ++ [p.2])) (acc.1, [])
    (r.1, acc.2 ++ [{ u with segs := r.2 }])
  let r := (s.queue key).units.foldl step (s, [])
  r.1.modQueue key fun q => { q with units := r.2 }

/-- While a queue is over share and below QSHARE, charges of its oldest reserve-charged segments move to the shared pool
(06 R164, step 3). -/
def State.settle_ (s : State) (key : Nat) : State :=
  let room := (s.queue key).inPlace 0 < s.qshare key
  if !room then s
  else s.mapSegs key fun s g =>
    if g.place = 0 ∧ g.acct ≠ acctShared ∧ g.acct ≠ acctNone ∧ g.units ≤ s.sharedFree g.at_ then
      ((s.releaseSeg g.at_ g).chargeTo g.at_ acctShared g.units, { g with acct := acctShared, chargeDie := g.at_ })
    else (s, g)

/-- Held segments move into the pond part, oldest first, until one finds no page (06 R176). -/
def State.drainTail (s : State) (key : Nat) : State :=
  let seg := fun (a : State × Nat × Bool × List Seg) (g : Seg) =>
    if g.place ≠ 2 then (a.1, a.2.1, a.2.2.1, a.2.2.2 ++ [g])
    else if a.2.2.1 && s.pondFull key (a.2.1 + g.units) == 0 then
      (a.1.releaseSeg g.at_ g, a.2.1 + g.units, true, a.2.2.2 ++ [{ g with place := 1, acct := acctNone }])
    else (a.1, a.2.1, false, a.2.2.2 ++ [g])
  let r := (s.queue key).units.foldl (fun (a : State × Nat × Bool × List SUnit) u =>
    let x := u.segs.foldl seg (a.1, a.2.1, a.2.2.1, [])
    (x.1, x.2.1, x.2.2.1, a.2.2.2 ++ [{ u with segs := x.2.2.2 }])) (s, 0, true, [])
  (r.1.modQueue key fun q => { q with units := r.2.2.2 }).countPond key r.2.1

/-- As pages free, the held tail moves into the pond part; with no pond part the queue leaves overflow (06 R175, R176). -/
def State.drainPond (s : State) (key : Nat) : State :=
  let q := s.queue key
  if !q.overflow then s
  else if q.inPlace 1 = 0 then
    let s := s.modQueue key fun q => { q with overflow := false, full := false, units := q.units.map fun u =>
      { u with segs := u.segs.map fun g => { g with place := 0 } } }
    s.raise (key / 512) 11 0x305 0
      [(2, queueIndex key), (2, 0), (4, q.peak), (4, (s.now - q.since) / us 1)]
  else (s.drainTail key).pondSync key

/-- What follows a dequeue or a drop. -/
def State.afterDequeue (s : State) (key : Nat) : State := ((s.settle_ key).drainPond key).pondSync key

/-! Bobbins (06 R159, R180). -/

/-- The chains of a die: key, OWNER tag of Table 6.4, and units. -/
def State.chainsOf (s : State) (d : Nat) : List (Nat × Nat × Nat) :=
  let inQueue := s.queueKeys.flatMap fun key =>
    let q := s.queue key
    let n := fun place => q.segs.foldl (fun n g => if g.place = place ∧ g.at_ = d then n + g.units else n) 0
    [(key, key % 512, n 0), (2 ^ 16 + key, 5 * 4096 + key % 512, n 2)]
  let unit := fun (base tag : Nat) (u : SUnit) => (base + u.idx, tag, u.segs.foldl (fun n g => n + g.units) 0)
  let x := s.die d
  inQueue ++ (x.gather.map fun p =>
      if p.2.port < 3 then unit (2 ^ 18) (2 * 4096 + 512 * p.2.port) p.2 else unit (2 ^ 18) (4096 + p.2.idx % 4096) p.2) ++
    (x.complete.map fun u => unit (2 ^ 19) (4096 + u.idx % 4096) u) ++
    (x.copies.map fun u => unit (2 ^ 20) (3 * 4096 + ((s.entry? u.idx).map (·.mcastGroup)).getD 0) u)

/-- The `n` lowest bobbins that are free. -/
def freeBobbins (t : Table Bobbin) (n : Nat) : List Nat :=
  ((List.range (t.length + n)).filter fun b => (Table.find? t b).isNone).take n

/-- A chain holds as many bobbins as its units need: more are taken from the free list, the oldest go back to it. -/
def fitChain (now : Nat) (x : Die) (c : Nat × Nat × Nat) : Die :=
  let have_ := Table.look x.chains c.1 []
  let need := ceilDiv c.2.2 4
  if need ≤ have_.length then
    let gone := have_.take (have_.length - need)
    let keep := have_.drop (have_.length - need)
    { x with chains := if keep.isEmpty then Table.del x.chains c.1 else Table.put x.chains c.1 keep,
             bobbins := gone.foldl (fun t b => Table.del t b) x.bobbins }
  else
    let new := freeBobbins x.bobbins (need - have_.length)
    { x with chains := Table.put x.chains c.1 (have_ ++ new),
             bobbins := new.foldl (fun t b => Table.put t b ⟨c.2.1, 1, now⟩) x.bobbins }

/-- The bobbins of every die follow what its chains hold. -/
def State.rechain (s : State) : State :=
  (List.range s.part.dies).foldl (fun s d =>
    let cs := s.chainsOf d
    let dead := (s.die d).chains.filter fun p => !(cs.any fun c => c.1 == p.1)
    s.modDie d fun x =>
      let x := dead.foldl (fun x p => fitChain (s.now / ms 1) x (p.1, 0, 0)) x
      cs.foldl (fitChain (s.now / ms 1)) x) s

/-! Crossing dies (06 R162, R167, R168). -/

/-- The dies that a die's splice ports face, SPL0 first (01 Table 1.1; log entry 25 on the order). -/
def State.faces (s : State) (d : Nat) : List Nat :=
  (List.range s.part.dies).filter fun n => (n / 2 == d / 2 && n != d) || n == d + 2 || n + 2 == d

/-- The splice port of die `d` that faces die `from_`. -/
def State.portTo (s : State) (d from_ : Nat) : Option Nat := (List.range 3).find? fun p => (s.faces d)[p]? == some from_

/-- The dies that a die reaches over splices that carry traffic. -/
def State.upFaces (s : State) (d : Nat) : List Nat :=
  ((s.faces d).zipIdx.filter fun p => s.flag d F.GLB_SPLICE_STATUS_UP p.2).map (·.1)

/-- Distances of every die to a die over splices that carry traffic; 99 without a path. -/
def State.distances (s : State) (dest : Nat) : List Nat :=
  let near := fun (l : List Nat) => (List.range s.part.dies).map fun d =>
    (s.upFaces d).foldl (fun m n => min m (l.getD n 99 + 1)) (l.getD d 99)
  (List.range 8).foldl (fun l _ => near l) ((List.range s.part.dies).map fun d => if d = dest then 0 else 99)

/-- Die 0 computes the routes (01 R20, R21): shortest paths, a step along the row before one between the rows. -/
def State.reroute (s : State) : State :=
  let routes := (List.range s.part.dies).flatMap fun d => (List.range s.part.dies).filterMap fun dest =>
    let l := s.distances dest
    let best := (s.upFaces d).filter fun n => decide (n != d) && l.getD n 99 + 1 == l.getD d 99 && decide (l.getD d 99 < 99)
    if d = dest then none
    else ((best.filter fun n => n % 2 == d % 2).head?.or best.head?).map fun n => (8 * d + dest, n)
  let l := s.distances 0
  let cut := (List.range s.part.dies).foldl (fun m d =>
    if decide (99 ≤ l.getD d 99) && !bit s.pkg.diesReset d then setBit m d else m) 0
  let s : State := { s with pkg := { s.pkg with routes := routes, diesCut := cut } }
  (List.range s.part.dies).foldl (fun s d => s.set d F.GLB_DIE_STATUS_ROUTED (b2n (decide (l.getD d 99 < 99))) ) s

/-- The next die on the route from one die to another (01 R20). -/
def State.hop (s : State) (d dest : Nat) : Option Nat := Table.find? s.pkg.routes (8 * d + dest)

/-- A segment is sent towards its holding die; without a route it waits where it is. -/
def State.sendAcross (s : State) (d : Nat) (x : Crossing) : State :=
  match s.hop d x.dest with
  | some n =>
    let out := (s.portTo d n).getD 0
    let s := s.modDie d fun y => { y with spliceBytes := Table.upd y.spliceBytes out 0 (· + (8 + x.seg.payload.length)) }
    s.modDie n fun y => { y with inbound := y.inbound ++ [{ x with port := (s.portTo n d).getD 0 }] }
  | none => s.modDie d fun y => { y with inbound := y.inbound ++ [{ x with port := 255 }] }

/-- A checked unit goes to its queue: linked here, or segment by segment across the dies (06 R167). -/
def State.dispatchUnit (s : State) (d key : Nat) (u : SUnit) : State :=
  let h := s.holdDie key
  if h = d then s.linkUnit key h u
  else
    let n := u.segs.length
    (u.segs.zipIdx).foldl (fun s p =>
      s.sendAcross d ⟨0, { u with segs := [], done := true, queue := key }, p.1, p.2 == 0, p.2 + 1 == n, h⟩) s

/-! Failing units (06 R166, R169). -/

/-- SWC_FRAME_BAD is raised, at most once per die per millisecond. -/
def State.frameBadEvent (s : State) (d : Nat) (u : SUnit) (reason : Nat) (stomped : Bool) : State :=
  s.raiseLimited d 0x303 11 (ms 1) fun _ s =>
    s.raiseOwned (((s.entry? u.idx).map (·.owner)).getD 0) d 11 0x303 2
      [(4, ((s.entry? u.idx).map (·.strandId)).getD 0), (1, reason), (1, b2n stomped), (2, u.idx)]

/-- A unit that fails its check is discarded and its segments counted (06 R166); one that its sender stomped goes silently
(reason 0; 05 R131). -/
def State.failUnit (s : State) (d : Nat) (u : SUnit) (reason : Nat) : State :=
  if reason = 0 then s.releaseSegs d u.segs
  else ((s.bump d F.SWC_FRAME_BAD_COUNT (max 1 u.segs.length)).releaseSegs d u.segs).frameBadEvent d u reason false

/-- The unit being gathered for a strand is given up, wherever it is (06 R166, R168, R169): of one that is cut through, the
output sends nothing more; a frame that a MAC has begun runs dry. -/
def State.abortUnit (s : State) (idx reason : Nat) : State :=
  let s := (List.range s.part.dies).foldl (fun s d' =>
    let x := s.die d'
    let s := match Table.find? x.gather idx with
      | some u =>
        let s := s.modDie d' fun x => { x with gather := Table.del x.gather idx }
        let s := if u.port < 3 then s.freeFrom d' (acctTransit u.port) (u.segs.foldl (fun n (g : Seg) => n + g.units) 0) else s
        s.failUnit d' u reason
      | none => s
    let dead := x.inbound.filter fun c => c.unit.idx == idx && !c.unit.done
    let s := s.modDie d' fun x => { x with inbound := x.inbound.filter fun c => !(c.unit.idx == idx && !c.unit.done) }
    dead.foldl (fun s c => s.releaseSeg d' c.seg) s) s
  s.queueKeys.foldl (fun s key =>
    let hit := fun (u : SUnit) => u.idx == idx && u.cut && !u.done
    let mac := decide (8 ≤ key % 512 / 16) && decide (key % 512 / 16 < 12)
    if (s.queue key).units.any hit then
      ((s.releaseSegs (s.holdDie key) (((s.queue key).units.filter hit).flatMap (·.segs))).modQueue key fun q => { q with
        units := (q.units.filter fun u => !hit u || (mac && u.started)).map fun u =>
          if hit u then { u with segs := [] } else u }).afterDequeue key
    else s) s

/-! Cut-through (06 R168 to R170). -/

/-- The input speed of a strand on its die (06 Table 6.1). -/
def State.inputSpeed (s : State) (d k : Nat) (e : Entry) : Nat :=
  if e.inType = 3 then s.speed (localPort e.kind e.inIndex).1 (localPort e.kind e.inIndex).2 else s.plySpeed d k

/-- All of an output's queues are empty and it is sending nothing. -/
def State.outIdle (s : State) (d o : Nat) : Bool :=
  ((List.range 16).all fun q => (s.queue (512 * d + 16 * o + q)).units.isEmpty) &&
  decide (Table.look (s.die d).busy o 0 ≤ s.now)

/-! Gates (07 R201 to R207). -/

/-- A gate list as (gates, interval in ns) entries, cycle in ns and base time in ps. -/
structure Gcl where
  entries : List (Nat × Nat)
  cycle : Nat
  base : Nat
  deriving DecidableEq, Repr

/-- The list that the registers hold. -/
def State.gclRegs (s : State) (d o : Nat) : Gcl :=
  ⟨(List.range (s.get d F.SCH_OUT_GCL_CTL_GCL_LEN o)).map fun e =>
      (s.get d F.SCH_OUT_GCL_GATES_GATES o e, s.get d F.SCH_OUT_GCL_TIME_INTERVAL_NS o e),
   s.get d F.SCH_OUT_GCL_CYCLE_CYCLE_NS o,
   tsPs (s.pair d Reg.SCH_OUT_GCL_BASE_LO Reg.SCH_OUT_GCL_BASE_HI o)⟩

/-- The list in force, and the change that is armed (07 R204). -/
def State.gcl (s : State) (d o : Nat) : Gcl × Option (Nat × Gcl) :=
  match Table.find? (s.die d).oldGcl o with
  | some g => if s.now < g.switchAt then (⟨g.entries, g.cycle, g.base⟩, some (g.switchAt, s.gclRegs d o)) else (s.gclRegs d o, none)
  | none => (s.gclRegs d o, none)

/-- The entries as (number, gates, start, end) in ns of the cycle: intervals of 0 are passed over, the last entry runs to the
cycle's end, and the cycle ends the list (07 R201, R202). -/
def Gcl.slots (g : Gcl) : List (Nat × Nat × Nat × Nat) :=
  let used := g.entries.zipIdx.filter fun p => p.1.2 != 0
  let r := used.foldl (fun (acc : Nat × List (Nat × Nat × Nat × Nat)) p =>
    if acc.1 < g.cycle then
      (acc.1 + p.1.2, acc.2 ++ [(p.2, p.1.1, acc.1, if p.2 + 1 = g.entries.length then g.cycle else min g.cycle (acc.1 + p.1.2))])
    else acc) (0, [])
  match r.2.reverse with
  | [] => [(0, 0xFF, 0, g.cycle)]
  | t :: rest => (rest.reverse) ++ [(t.1, t.2.1, t.2.2.1, g.cycle)]

/-- The phase of a list at a time in ps, in ps (07 R202). -/
def Gcl.phase (g : Gcl) (now : Nat) : Nat :=
  if g.cycle = 0 then 0 else (((now : Int) - (g.base : Int)) % ((ns g.cycle : Nat) : Int)).toNat

/-- The slot of a list at a time; a boundary time belongs to the entry that begins there. -/
def Gcl.slotAt (g : Gcl) (now : Nat) : Nat × Nat × Nat × Nat :=
  let p := g.phase now
  (g.slots.find? fun x => decide (ns x.2.2.1 ≤ p) && decide (p < ns x.2.2.2)).getD (0, 0xFF, 0, g.cycle)

/-- How long, in ps, a gate's open run lasts from a time on: `none` for ever (07 R205). -/
def Gcl.openFor (g : Gcl) (gate now : Nat) : Option Nat :=
  let p := g.phase now
  let sl := g.slots
  if sl.all fun x => bit x.2.1 gate then none
  else
    let later := sl.filter fun x => decide (p < ns x.2.2.2)
    let again := sl.map fun x => (x.1, x.2.1, x.2.2.1 + g.cycle, x.2.2.2 + g.cycle)
    match (later ++ again).find? fun x => !bit x.2.1 gate with
    | some x => some (ns x.2.2.1 - p)
    | none => none

/-- The gate that a queue follows (07 R201). -/
def State.gateOf (s : State) (d o q : Nat) : Nat :=
  if q < 8 then bits (s.get d F.SCH_OUT_GCL_SEL0_GATE_SEL o) (3 * q + 2) (3 * q)
  else bits (s.get d F.SCH_OUT_GCL_SEL1_GATE_SEL o) (3 * (q - 8) + 2) (3 * (q - 8))

/-- How long from now a queue's gate stays open, in ps: `none` for ever; with a change armed the run is followed into the
new list (07 R205). -/
def State.gateOpen (s : State) (d o q : Nat) : Option Nat :=
  if !s.flag d F.SCH_OUT_GCL_CTL_GATE_EN o then none
  else
    let gate := s.gateOf d o q
    let g := s.gcl d o
    let here := g.1.openFor gate s.now
    match g.2 with
    | none => here
    | some (ts, new) =>
      let left := ts - s.now
      match here with
      | some t => if t < left then some t else (new.openFor gate ts).map (left + ·)
      | none => (new.openFor gate ts).map (left + ·)

/-- The gate of a queue is open now. -/
def State.gateIsOpen (s : State) (d o q : Nat) : Bool := s.gateOpen d o q != some 0

/-- The longest open run of a gate bit in the list in force, in ps: `none` for ever (07 R207). -/
def State.longestRun (s : State) (d o q : Nat) : Option Nat :=
  if !s.flag d F.SCH_OUT_GCL_CTL_GATE_EN o then none
  else
    let g := (s.gcl d o).1
    g.slots.foldl (fun m x => match m, g.openFor (s.gateOf d o q) (g.base + ns x.2.2.1) with
      | some a, some b => some (max a b)
      | _, _ => none) (some 0)

/-- GAP_BYTES of an output (07 R205): 12 on Ethernet, 64 on plies, 0 on local outputs. -/
def gapOf (o : Nat) : Nat := if o < 8 then 64 else if o < 12 then 12 else 0

/-- A unit of `cost` bytes passes the guard check (07 R205). -/
def State.guardOk (s : State) (d o q cost : Nat) : Bool :=
  match s.gateOpen d o q with
  | none => true
  | some left => decide (bytePs (cost - gapOf o) (s.speed d o) + bytePs (gapOf o) (s.speed d o) ≤ left)

/-- The holding die decides at a unit's first segment whether to cut it through (06 R168, R170; 07 R206). -/
def State.cutThrough (s : State) (key speed tc : Nat) : Bool :=
  let d := key / 512
  let o := key % 512 / 16
  let q := key % 16
  s.part.dies == 8 && s.outIdle d o && !bit (s.get d F.SWC_CT_OFF_CT_OFF) o &&
  s.gateIsOpen d o q && decide (s.speed d o ≤ speed) &&
  (if o < 8 then decide (33 ≤ s.avail d o tc) && decide (s.avail d o tc < 2 ^ 19) && s.plyActive d o
   else if o < 12 then s.guardOk d o q (s.get d F.SCH_OUT_GUARD_FIXED_LEN o + 20) else true)

/-! Gathering (06 R165 to R169). -/

/-- A segment arrives where its unit is gathered; the first decides cut-through, the last completes the unit (06 R168). -/
def State.gatherAt (s : State) (h : Nat) (u : SUnit) (g : Seg) (first last : Bool) : State :=
  let tc := ((s.entry? u.idx).map (·.tc)).getD 0
  let mcast := ((s.entry? u.idx).map (·.mcastEn)).getD false
  let old := Table.look (s.die h).gather u.idx u
  let base := if first then { u with cut := !mcast && s.cutThrough u.queue u.speed tc } else old
  let now := { base with crc := crc32Run base.crc g.payload, bad := max base.bad u.bad, started := base.cut && !first }
  if now.cut && !last then
    let s := if first then
        s.modQueue u.queue fun q => { q with units := q.units ++ [{ now with segs := [], at_ := s.now }] }
      else s
    let s := if (s.queue u.queue).units.any fun v => v.idx == u.idx && v.cut && !v.done then s.linkAt u.queue h (s.cutIndex u.queue u.idx) g
      else s.releaseSeg h g
    let s := if u.port < 3 then s.freeFrom h (acctTransit u.port) g.units else s
    s.modDie h fun x => { x with gather := Table.put x.gather u.idx { now with segs := [] } }
  else
    let now := { now with segs := now.segs ++ [g], done := last }
    if last then s.modDie h fun x => { x with gather := Table.del x.gather u.idx, complete := x.complete ++ [now] }
    else s.modDie h fun x => { x with gather := Table.put x.gather u.idx now }

/-- A segment enters the core on die `d` (06 R157, R167, R168). -/
def State.intoCore (s : State) (d idx speed : Nat) (e : Entry) (g : Seg) (first last : Bool) : State :=
  let key := (s.queueOf e).getD (512 * d)
  let u : SUnit := { idx := idx, speed := speed, queue := key, nextSn := e.nextSn }
  if s.part.dies = 8 ∧ !e.mcastEn ∧ s.holdDie key ≠ d then s.sendAcross d ⟨0, u, g, first, last, s.holdDie key⟩
  else s.gatherAt d u g first last

/-! Multicast (06 R171 to R173). -/

/-- A branch word names a valid branch (06 Table 6.3). -/
def State.branchOk (s : State) (w : Nat) : Bool :=
  bit w 31 && decide (1 ≤ bits w 30 28) && decide (bits w 30 28 ≤ 3) && decide (bits w 21 19 < s.part.dies) &&
  !(decide (bits w 30 28 ≤ 2) && (bits w 15 4 == 0 || bits w 15 4 == 0xFFF))

/-- The valid branches of a group, in order. -/
def State.branches (s : State) (d g : Nat) : List Nat :=
  ((List.range 16).map fun b => (s.word d Reg.SWC_MCG_BR g b).toNat).filter s.branchOk

/-- The queue of a branch: its output, mapped through the strand's entry on that die (06 R171; 07 R191). -/
def State.branchQueue (s : State) (d idx w : Nat) : Option (Nat × Nat) :=
  let bd := bits w 21 19
  match s.entry? idx with
  | none => none
  | some e =>
    let own := if bd = d then some (idx, e) else
      ((s.entries.find? fun p => p.1 / 8192 == bd && p.2.strandId == e.strandId)).orElse fun _ => some (idx, e)
    own.bind fun p =>
      let e' := { (p.2.setF 43 41 (bits w 30 28)).setF 40 35 (bits w 27 22) with ply := p.2.ply }
      (s.queueOf e').map fun key => (p.1, key)

/-- The copies of a unit as (entry, queue, next SN), in branch order. -/
def State.copiesOf (s : State) (d idx : Nat) (e : Entry) : List (Nat × Nat × Nat) :=
  (s.branches d e.mcastGroup).filterMap fun w => (s.branchQueue d idx w).map fun p => (p.1, p.2, bits w 15 4)

/-- The shared pools take every extra copy (06 R172). -/
def State.copiesFit (s : State) (cs : List (Nat × Nat × Nat)) (units : Nat) : Bool :=
  (List.range s.part.dies).all fun h =>
    decide (((cs.drop 1).filter fun c => s.holdDie c.2.1 == h).length * units ≤ s.sharedFree h)

/-- A unit's copies are written, all of them or none (06 R172): the first carries the input's charge, the others are charged
to the shared pool of their holding dies. -/
def State.writeCopies (s : State) (d : Nat) (u : SUnit) (e : Entry) : State :=
  let cs := s.copiesOf d u.idx e
  let units := u.segs.foldl (fun n g => n + g.units) 0
  if cs.isEmpty then
    ((s.bump d F.SWC_MCAST_EMPTY_COUNT u.segs.length).releaseSegs d u.segs).raiseLimited d 0x309 e.mcastGroup (ms 1) fun _ s =>
      s.raise d 11 0x309 2 [(2, e.mcastGroup), (2, 0), (4, e.strandId)]
  else if s.copiesFit cs units then
    (cs.zipIdx).foldl (fun s p =>
      let c := p.1
      let h := s.holdDie c.2.1
      let v := { u with idx := c.1, queue := c.2.1, nextSn := c.2.2 }
      if p.2 = 0 then s.dispatchUnit d c.2.1 v
      else (s.chargeTo h acctShared units).dispatchUnit d c.2.1
        { v with segs := v.segs.map fun g => { g with acct := acctShared, chargeDie := h } }) s
  else s.modDie d fun x => { x with copies := x.copies ++ [u] }

/-! Rows of chapter 6. -/

/-- SPLICE_SEGMENT_ARRIVE (06 R162, R167, R168): the next segment on a splice port, charged to its transit reserve of 2,048
units; it waits while that is full. -/
def execSpliceSegmentArrive (a : At) (port : Nat) (s : State) : Out :=
  onIsland a (14 + port) (port < 3) s fun s =>
    let d := a.die
    let l := (s.die d).inbound
    match l.zipIdx.find? fun p => p.1.port == port with
    | none => s
    | some (c, i) =>
      if 2048 < s.charged d (acctTransit port) + c.seg.units ∨ !s.flag d F.GLB_SPLICE_STATUS_UP port then s
      else
        let s := s.modDie d fun x => { x with inbound := x.inbound.eraseIdx i }
        if c.dest ≠ d then s.sendAcross d c
        else
          let s := s.chargeTo d (acctTransit port) c.seg.units
          if !c.unit.done then (s.gatherAt d { c.unit with port := port } c.seg c.first c.last).rechain
          else
            let key := 2 ^ 20 + c.unit.idx
            let u := Table.look (s.die d).gather key { c.unit with port := port }
            let u := { u with segs := u.segs ++ [c.seg] }
            if c.last then
              let s := s.modDie d fun x => { x with gather := Table.del x.gather key }
              let s := s.freeFrom d (acctTransit port) (u.segs.foldl (fun n g => n + g.units) 0)
              (s.linkUnit c.unit.queue d u).rechain
            else (s.modDie d fun x => { x with gather := Table.put x.gather key u }).rechain

/-- The check of a complete unit: 0 passes (06 R166). -/
def State.unitCheck (s : State) (u : SUnit) : Nat :=
  if u.bad ≠ 0 then u.bad
  else if ((s.entry? u.idx).map (·.kind)) = some 4 ∧ u.crc ≠ crc32Good then 1
  else 0

/-- A complete unit is linked, dispatched or discarded (06 R164, R166, R169, R172). -/
def State.finishUnit (s : State) (d : Nat) (u : SUnit) : State :=
  let why := s.unitCheck u
  let units := u.segs.foldl (fun n g => n + g.units) 0
  let s := if u.port < 3 then s.freeFrom d (acctTransit u.port) units else s
  if u.cut then
    let here := (s.queue u.queue).units.any fun v => v.idx == u.idx && v.cut && !v.done
    let stomp := fun (g : Seg) => if why = 0 then g else
      let w := g.hdr / 2 ^ 12
      let w' := if bit w 31 then w else w + 2 ^ 31
      { g with hdr := w' * 2 ^ 12 + hchk (w' * 2 ^ 12) }
    let s := if why = 0 then s else (s.bump d F.SWC_STOMP_SENT_COUNT).frameBadEvent d u why true
    if here then
      let s := u.segs.foldl (fun s g => s.linkAt u.queue d (s.cutIndex u.queue u.idx) (stomp g)) s
      s.modQueue u.queue fun q => { q with units := q.units.map fun v =>
        if v.idx = u.idx ∧ v.cut ∧ !v.done then { v with done := true } else v }
    else if u.started then s.releaseSegs d u.segs
    else s.linkUnit u.queue d { u with segs := u.segs.map stomp }
  else if why ≠ 0 then s.failUnit d u why
  else
    match s.entry? u.idx with
    | none => s.releaseSegs d u.segs
    | some e => if e.mcastEn then s.writeCopies d u e else s.dispatchUnit d u.queue u

/-- SWITCHING_UNIT_COMPLETE (06 R166): the oldest complete unit of a strand on the die. -/
def execSwitchingUnitComplete (a : At) (idx : Nat) (s : State) : Out :=
  onIsland a 11 true s fun s =>
    match (s.die a.die).complete.zipIdx.find? fun p => p.1.idx == idx with
    | none => s
    | some (u, i) =>
      ((s.modDie a.die fun x => { x with complete := x.complete.eraseIdx i }).finishUnit a.die u).rechain

/-- MCAST_COPY_RESUME (06 R172): a waiting unit writes all its copies once the pools have room. -/
def execMcastCopyResume (a : At) (idx : Nat) (s : State) : Out :=
  onIsland a 11 true s fun s =>
    match (s.die a.die).copies.zipIdx.find? fun p => p.1.idx == idx with
    | none => s
    | some (u, i) =>
      match s.entry? u.idx with
      | none => s
      | some e =>
        let cs := s.copiesOf a.die u.idx e
        if s.copiesFit cs (u.segs.foldl (fun n g => n + g.units) 0) then
          ((s.modDie a.die fun x => { x with copies := x.copies.eraseIdx i }).writeCopies a.die u e).rechain
        else s

/-- POND_PAGE_REFILL (06 R175): the oldest page of a queue's pond part, as the whole segments that its 64 units hold, is read back, charged
to the shared pool. -/
def execPondPageRefill (a : At) (n : Nat) (s : State) : Out :=
  onIsland a 11 (n < 304) s fun s =>
    let key := 512 * a.die + n
    let q := s.queue key
    let h := s.holdDie key
    if q.inPlace 1 ≠ 0 ∧ q.inPlace 0 + 64 ≤ s.qshare key ∧ 64 ≤ s.sharedFree h then
      let step := fun (acc : (Nat × Bool) × List SUnit) (u : SUnit) =>
        let r := u.segs.foldl (fun (b : (Nat × Bool) × List Seg) g =>
          if g.place = 1 ∧ b.1.2 = false ∧ b.1.1 + g.units ≤ 64 then
            ((b.1.1 + g.units, false), b.2 ++ [{ g with place := 0, acct := acctShared, chargeDie := h, at_ := h }])
          else ((b.1.1, b.1.2 || g.place == 1), b.2 ++ [g])) (acc.1, [])
        (r.1, acc.2 ++ [{ u with segs := r.2 }])
      let r := q.units.foldl step ((0, false), [])
      let s := ((s.modQueue key fun q => { q with units := r.2 }).chargeTo h acctShared r.1.1).countPond key r.1.1
      ((s.drainPond key).pondSync key).rechain
    else s

/-- CHARGE_RELEASE (06 R164): the oldest release on its way to this die arrives. -/
def execChargeRelease (a : At) (s : State) : Out :=
  onIsland a 12 true s fun s =>
    match (s.die a.die).releases with
    | [] => s
    | r :: rest => (s.modDie a.die fun x => { x with releases := rest }).freeFrom a.die r.acct r.units

/-- The rest of a unit is dropped from its queue with its charges and pages. -/
def State.dropHead (s : State) (key : Nat) : State :=
  match (s.queue key).units with
  | [] => s
  | u :: rest =>
    let s := (s.releaseSegs (s.holdDie key) u.segs).modQueue key fun q => { q with units := rest }
    (s.afterDequeue key).rechain

/-- The head of a queue is past its MAX_SOJOURN and none of it has been sent (06 R179). -/
def State.aged (s : State) (key : Nat) : Bool :=
  let m := s.get (key / 512) F.SCH_Q_SOJOURN_MAX_SOJOURN (key % 512)
  match (s.queue key).units with
  | u :: _ => m != 0 && !u.started && decide (u.at_ + us m < s.now)
  | [] => false

/-- The aged head of a queue is dropped (06 R179). -/
def State.ageDrop (s : State) (key : Nat) : State :=
  if s.aged key then
    let m := s.get (key / 512) F.SCH_Q_SOJOURN_MAX_SOJOURN (key % 512)
    let at_ := ((s.queue key).units.head?.map (·.at_)).getD 0
    ((s.dropHead key).bump (key / 512) F.SWC_AGED_COUNT).raiseLimited (key / 512) 0x307 (key % 512) (ms 1) fun n s =>
      s.raise (key / 512) 11 0x307 2 [(2, queueIndex key), (2, min n 0xFFFF), (4, m), (4, (s.now - at_) / us 1)]
  else s

/-- QUEUE_AGE_DROP (06 R179). -/
def execQueueAgeDrop (a : At) (n : Nat) (s : State) : Out :=
  onIsland a 13 (n < 304) s fun s => s.ageDrop (512 * a.die + n)

/-- AUDIT_SWEEP (06 R180): leaked bobbins are reclaimed and the totals checked. -/
def execAuditSweep (a : At) (s : State) : Out :=
  onIsland a 12 true s fun s =>
    let d := a.die
    let age := s.get d F.SWC_AUDIT_CFG_LEAK_AGE_MS
    if s.get d F.SWC_AUDIT_CFG_PERIOD_MS = 0 then s
    else
      let now := s.now / ms 1
      let leak := fun (p : Nat × Bobbin) => age != 0 && p.2.refs == 0 && decide (age < now - p.2.touch)
      let gone := (s.die d).bobbins.filter leak
      let s := s.modDie d fun x => { x with bobbins := x.bobbins.filter fun p => !leak p }
      let free := 65536 - (s.die d).bobbins.length
      let count := fun (p : Nat → Bool) => ((s.die d).chains.filter fun c => p c.1).foldl (fun n c => n + c.2.length) 0
      let queued := count fun k => decide (k < 2 ^ 16)
      let flight := count fun k => decide (2 ^ 16 ≤ k)
      let s := s.wrap d F.SWC_AUDIT_STATUS_SWEEPS
      let s := if free + queued + flight ≠ 65536 then
          s.raise d 12 0x302 3 [(4, free), (4, queued), (4, flight)]
        else s
      match gone with
      | [] => s
      | (b, x) :: _ =>
        (s.bump d F.SWC_AUDIT_STATUS_LEAKS gone.length).raise d 12 0x301 2
          [(4, b), (2, x.owner), (2, gone.length), (4, now - x.touch)]

/-- A write of a multicast branch (06 R171, Table 6.3): an illegal field sets BAD_BRANCH. -/
def State.writeBranch (s : State) (d g b : Nat) (v : Word) : State :=
  let s := s.setWord d Reg.SWC_MCG_BR v g b
  if bit v.toNat 31 && !s.branchOk v.toNat then s.set d F.SWC_STATUS_BAD_BRANCH 1 else s

/-- MCAST_BRANCH_WRITE (06 R171). -/
def execMcastBranchWrite (a : At) (q : Req) (g b : Nat) (v : Word) (s : State) : Out :=
  onWrite a q (0x104000 + 0x40 * g + 4 * b) v (g < 1024 && b < 16) s fun s => s.writeBranch a.die g b v

/-- GATE_STATE shows the entry in force (07 Table 7.5). -/
def State.showGate (s : State) (d o : Nat) : State :=
  let x := (s.gcl d o).1.slotAt s.now
  (s.set d F.SCH_OUT_GATE_STATE_GATES x.2.1 o).set d F.SCH_OUT_GATE_STATE_ENTRY x.1 o

end Sys2Proof.Machine
end

