-- ==== Sys2Proof/Machine/Ingress.lean ====
section
/-! DEFINITION. From a received or offered segment to the switch core: framing, decryption, order, the MARK hold, policing
and pacing (05 R127 to R131, R146; 07 R185 to R189; 17 R448). -/

namespace Sys2Proof.Machine

/-! Token buckets (07 R186, R189, R195). -/

/-- A bucket refilled to now at `rate` kb/s, up to `cap` bytes. -/
def Bucket.fill (b : Bucket) (rate cap now : Nat) : Bucket :=
  let num := rate * (now / 1000 - b.last) + b.frac
  let t := b.tokens + ((num / 8000000 : Nat) : Int)
  if (cap : Int) ≤ t then { tokens := if b.tokens ≤ cap then cap else b.tokens, last := now / 1000, frac := 0 }
  else { tokens := t, last := now / 1000, frac := num % 8000000 }

/-- A policer's bucket; one that has not been used since its tokens were set stands at CBS (07 R188). -/
def State.policer (s : State) (d p : Nat) : Bucket :=
  Table.look (s.die d).police p { tokens := s.get d F.STR_POL_CBS_CBS p, last := s.now / 1000 }

/-- A policer's bucket changed; TOKENS shows it. -/
def State.putPolicer (s : State) (d p : Nat) (b : Bucket) : State :=
  (s.modDie d fun x => { x with police := Table.put x.police p b }).set d F.STR_POL_TOKENS_TOKENS (unsigned 32 b.tokens) p

/-- Policing of one segment (07 R186, R187): whether it passes. -/
def State.police (s : State) (idx len : Nat) (begins eop : Bool) : State × Bool :=
  match s.entry? idx with
  | none => (s, false)
  | some e =>
    if !e.policerEn then (s, true)
    else
      let d := idx / 8192
      let p := e.policer
      let b := (s.policer d p).fill (s.get d F.STR_POL_CIR_CIR p) (s.get d F.STR_POL_CBS_CBS p) s.now
      let pass := if begins then decide (0 < b.tokens) && !e.restDropped else e.pass
      let s := s.modEntry idx fun e => { e with pass := pass }
      if pass then
        let s := s.putPolicer d p { b with tokens := b.tokens - len }
        (if eop then s.modEntry idx fun e => { e with restDropped := false } else s, true)
      else
        let s := s.putPolicer d p b
        let s := if begins then
            (s.bump d F.STR_POL_DROP_COUNT 1 p).raiseTagged d 0x401 p (ms 1000) e.strandId fun n first s =>
              s.raiseOwned e.owner d p 0x401 2 [(4, first), (4, n), (4, unsigned 32 b.tokens)]
          else s
        (s.modEntry idx fun e => { e with restDropped := !eop && (e.restDropped || e.kind == 7) }, false)

/-! Order of a strand's segments (05 R129, R130). -/

/-- The open frame of a strand is discarded. -/
def State.closeFrame (s : State) (idx reason : Nat) : State :=
  (s.abortUnit idx reason).modEntry idx fun e => { e with isOpen := false, count := 0 }

/-- A SEQ that differs from the expected value (05 R130). -/
def State.seqGap (s : State) (d idx seq : Nat) : State :=
  match s.entry? idx with
  | none => s
  | some e =>
    match e.expect with
    | none => s
    | some x =>
      if x = seq then s
      else
        let s := if e.isOpen then s.closeFrame idx 2 else s
        (s.bump d F.STR_SEQ_GAP_COUNT ((seq + 65536 - x) % 65536)).raiseLimited d 0x207 (idx % 8192) (ms 1) fun _ s =>
          s.raiseStrand idx 0x207 2 [(4, e.strandId), (2, x), (2, seq)]

/-- A segment is taken into its frame, or discarded (05 R129); the answer is its number in the frame. -/
def State.takeFrame (s : State) (d idx seq : Nat) (sop eop : Bool) : State × Option Nat :=
  let s := (s.seqGap d idx seq).modEntry idx fun e => { e with expect := some ((seq + 1) % 65536) }
  match s.entry? idx with
  | none => (s, none)
  | some e =>
    if !sop && !e.isOpen then (s.bump d F.STR_FRAME_ERR_COUNT, none)
    else
      let s := if sop && e.isOpen then (s.closeFrame idx 2).bump d F.STR_FRAME_ERR_COUNT else s
      let n := if sop then 0 else e.count
      if kindLimit e.kind ≤ n then ((s.closeFrame idx 3).bump d F.STR_FRAME_ERR_COUNT, none)
      else (s.modEntry idx fun e => { e with isOpen := !eop, count := if eop then 0 else n + 1 }, some n)

/-- A segment that order and policing let through enters the core; RAW frames go in hanks of 16 (06 R165). -/
def State.admitSeg (s : State) (d k idx : Nat) (g : Seg) : State :=
  let w := g.hdr
  let r := s.takeFrame d idx (hSeq w) (hSop w) (hEop w)
  match r.2, r.1.entry? idx with
  | some n, some e =>
    let raw := e.kind == 7
    let first := if raw then n % 16 == 0 else n == 0
    let last := hEop w || (raw && n % 16 == 15)
    let p := r.1.police idx g.payload.length first (hEop w)
    if hEop w && hStomp w then
      (((p.1.abortUnit idx 0).bump d F.STR_STOMPED_COUNT).releaseSeg d g).rechain
    else if p.2 then (p.1.intoCore d idx (p.1.inputSpeed d k e) e g first last).rechain
    else p.1.releaseSeg d g
  | _, _ => r.1.releaseSeg d g

/-! Received segments. -/

/-- The bytes 0 to 7 of an encrypted payload: its PN (17 R446). -/
def pnOf (payload : List Byte) : Nat := leNat (payload.take 8)

/-- A segment past its MARK hold: its encryption fits its entry and is removed, then it is admitted (17 R448). -/
def State.decryptSeg (s : State) (d idx : Nat) (h : HeldSeg) : State :=
  let g : Seg := ⟨h.hdr, h.plain.getD h.payload, d, h.acct, d, 0, if hEnc h.hdr then pnOf h.payload else 0, h.came, 8 * d + h.slot⟩
  match s.entry? idx with
  | none => s.releaseSeg d g
  | some e =>
    let want := e.enc && (e.inType == 1 || e.inType == 2)
    let own := fun (code : Nat) (sev : Nat) (l : List (Nat × Nat)) (s : State) => s.raiseOwned e.owner d 34 code sev l
    if hEnc h.hdr != want then
      (((s.bump d F.KEY_ENC_MISMATCH_COUNT).raiseLimited d 0xB03 idx (ms 1) fun _ s =>
        own 0xB03 2 [(4, e.strandId), (1, s.plyId d h.slot), (1, if hEnc h.hdr then 1 else 2)] s)).releaseSeg d g
    else if !want then s.admitSeg d h.slot idx { g with payload := h.payload }
    else if !s.hasKey d e.owner e.keyHandle then
      (s.needKey d e.owner e.keyHandle (some h.slot)).modDie d fun x => { x with keyWait := x.keyWait ++ [h] }
    else if h.plain.isNone then
      (((s.bump d F.KEY_TAG_FAIL_COUNT).raiseLimited d 0xB02 idx (ms 1) fun n s =>
        own 0xB02 2 [(4, e.strandId), (1, s.plyId d h.slot), (3, 0), (4, n)] s)).releaseSeg d g
    else (s.touchKey d e.owner e.keyHandle).admitSeg d h.slot idx g

/-- The home entry that a ply's segment matches (05 R133). -/
def State.findIn (s : State) (d k sn : Nat) : Option Nat :=
  match s.ply? d k with
  | none => none
  | some p =>
    ((List.find? (fun (q : Nat × Entry) =>
      let e := ((q.2.mirrorOf.bind s.entry?).getD q.2)
      e.inSn == sn && ((e.inType == 1 && e.inIndex == p.cfg.id) ||
        (e.inType == 2 && e.inIndex == p.cfg.braid && p.cfg.braid != 0xFF))) (s.die d).ledger).map
      fun q => s.homeOf (8192 * d + q.1))

/-- The MARK protocol at the receiver (05 R146): held, late, or passed on. -/
def State.markSeg (s : State) (d k idx : Nat) (h : HeldSeg) : State :=
  let path := 8 * d + k
  let farPly := s.get d F.PLY_LINK_PEER_CAP_FAR_PLY k
  let g : Seg := ⟨h.hdr, [], d, h.acct, d, 0, 0, 0, 255⟩
  match s.entry? idx with
  | none => s.releaseSeg d g
  | some e =>
    if e.expired == some (s.plyId d k) && !hMark h.hdr then (s.bump d F.STR_MARK_LATE_COUNT).releaseSeg d g
    else if !e.held.isEmpty && e.heldOn == path then s.modEntry idx fun e => { e with held := e.held ++ [h] }
    else if hMark h.hdr && !e.marks.contains farPly then
      s.modEntry idx fun e => { e with held := [h], heldOn := path, heldAt := s.now }
    else
      let s := s.modEntry idx fun e =>
        { e with marks := if hMark h.hdr then e.marks.erase farPly else e.marks, fromPly := s.plyId d k }
      s.decryptSeg d idx h

/-- A ply's framing starts a resync (05 R127). -/
def State.resync (s : State) (d k : Nat) : State := s.modPly d k fun p => { p with resync := true }

/-- Units received are accounted for (05 R141). -/
def State.received (s : State) (d k t units : Nat) : State :=
  s.modCredit d k fun c => { c with rcv := c.rcv.set t ((c.rcv.getD t 0 + units) % creditMod) }

/-- A segment's header and payload, framed and matched (05 R127). -/
def State.frameSeg (s : State) (d k hdr : Nat) (payload : List Byte) (errored : Bool) (plain : Option (List Byte)) : State :=
  let len := hLen hdr
  let ply := s.plyId d k
  if hdr = 0 then s
  else if hchk (hdr / 2 ^ 12 * 2 ^ 12) ≠ hdr % 2 ^ 12 then (s.bump d F.STR_HDR_ERR_COUNT).resync d k
  else if len = 0 ∨ 2048 < len then
    ((s.bump d F.STR_LEN_ERR_COUNT).raiseLimited d 0x204 k (ms 1) fun _ s =>
      s.raise d k 0x204 2 [(1, ply), (2, len), (1, 0), (8, hdr)]).resync d k
  else if errored then (s.bump d F.STR_RESYNC_LOST_COUNT).resync d k
  else if hKind hdr = 0 ∨ 7 < hKind hdr then
    (s.bump d F.STR_KIND_ERR_COUNT).raiseLimited d 0x205 k (ms 1) fun _ s =>
      s.raise d k 0x205 2 [(1, ply), (1, hKind hdr), (2, hSn hdr)]
  else if hSn hdr = 0 then
    (s.received d k 7 (unitsOf len)).emit (.deliver d 18 65536 hdr payload)
  else
    let none_ := (s.bump d F.STR_NO_STRAND_COUNT).raiseLimited d 0x206 k (ms 1) fun _ s =>
      s.raise d k 0x206 2 [(1, ply), (1, 0), (2, hSn hdr)]
    match s.findIn d k (hSn hdr) with
    | none => none_
    | some idx =>
      match s.entry? idx with
      | none => none_
      | some e =>
        if hSn hdr = 0xFFF then none_
        else
          let acct := acctPly k e.tc
          let s := (s.received d k e.tc (unitsOf len)).chargeTo d acct (unitsOf len)
          if e.st = 2 ∨ e.st = 3 then s.markSeg d k idx ⟨k, hdr, payload.take len, plain, acct, s.now⟩
          else (s.bump d F.STR_NO_STRAND_COUNT).freeFrom d acct (unitsOf len)

/-- SEGMENT_RECEIVE (05 R127): the header word, the payload, whether an errored block holds any of it, and for an encrypted
segment the plaintext where its tag is right. A data block before ACTIVE is discarded and counted in CTL_ERR (04 R96). -/
def execSegmentReceive (a : At) (k hdr : Nat) (payload : List Byte) (errored : Bool) (plain : Option (List Byte))
    (s : State) : Out :=
  onIsland a 8 (k < 8) s fun s =>
    match s.ply? a.die k with
    | none => s
    | some p =>
      let st := s.plyState a.die k
      if st ≠ 6 then s.bump a.die F.PLY_LINK_CTL_ERR_COUNT 1 k
      else if p.resync then s
      else s.frameSeg a.die k (hdr % 2 ^ 64) payload errored plain

/-! Local producers (06 R162, R164; 07 R189). -/

/-- The local input of an entry, as an account number: output less 8 (06 R162). -/
def Entry.localInput (e : Entry) : Nat := (localPort e.kind e.inIndex).2 - 8

/-- The pacing bucket of a local strand, refilled to now (07 R189). -/
def Entry.paced (e : Entry) (now : Nat) : Bucket :=
  e.pace.fill (1000 * e.ceiling) (max e.burst 2056) now

/-- CEILING lets the strand's next segment in; ETH strands of a MAC are not paced (07 R189). -/
def Entry.mayOffer (e : Entry) (now : Nat) : Bool := e.kind == 4 || (e.ceiling != 0 && decide (0 < (e.paced now).tokens))

/-- The account that takes a local segment, if any has room (06 R164). -/
def State.localRoom (s : State) (d : Nat) (e : Entry) (units : Nat) : Option Nat :=
  let r := acctLocal e.localInput e.tc
  if s.charged d r + units ≤ 264 then some r
  else if units ≤ s.sharedFree d then some acctShared
  else none

/-- A MAC's segment finds no room (06 R164): it is dropped and counted, and its frame is given up (10 R280). -/
def State.noRoom (s : State) (idx : Nat) : State :=
  match s.entry? idx with
  | none => s
  | some e =>
    let d := idx / 8192
    let m := e.localInput
    let s := (if e.isOpen then s.closeFrame idx 2 else s).bump d F.SWC_NOROOM_DROP_COUNT
    s.raiseLimited d 0x308 m (ms 1) fun n s => s.raise d 11 0x308 2 [(1, m), (1, e.tc), (2, 0), (4, n)]

/-- A segment that is not the first of a MAC's frame, whose frame was given up for want of room (10 R280). -/
def State.ofDropped (s : State) (idx k : Nat) : Bool :=
  match s.entry? idx with
  | some e => e.kind == 4 && (e.st == 2 || e.st == 3) && e.inType == 3 && decide (0 < k) && !e.isOpen
  | none => false

/-- A local producer offers a segment: it is taken, dropped at a MAC, or waits (`false`). -/
def State.offerSeg (s : State) (idx : Nat) (sop eop : Bool) (payload : List Byte) : State × Bool :=
  let d := idx / 8192
  match s.entry? idx with
  | none => (s, false)
  | some e =>
    let live := e.st == 2 || e.st == 3
    if !live ∨ e.inType ≠ 3 ∨ payload.isEmpty ∨ 2048 < payload.length then (s, false)
    else if !e.mayOffer s.now then (s, false)
    else
      let hdr := mkHdr e.inSn e.kind sop eop false false false false e.seq payload.length
      match s.localRoom d e (unitsOf payload.length) with
      | none => if e.kind = 4 then (s.noRoom idx, true) else (s, false)
      | some acct =>
        let pace := e.paced s.now
        let s := (s.chargeTo d acct (unitsOf payload.length)).modEntry idx fun e =>
          { e with seq := (e.seq + 1) % 65536, pace := { pace with tokens := pace.tokens - payload.length } }
        (s.admitSeg d 0 idx ⟨hdr, payload, d, acct, d, 0, 0, s.now, 255⟩, true)

/-- Bytes in chunks of at most 2,048, or 2,024 for an encrypted strand (17 R446). -/
def chunks (size : Nat) (bytes : List Byte) : Nat → List (List Byte)
  | 0 => []
  | fuel + 1 => if bytes.isEmpty then [] else bytes.take size :: chunks size (bytes.drop size) fuel

/-- A local producer offers a whole frame, cut into segments (05 R128); it stops where the input makes it wait. -/
def State.offerFrame (s : State) (idx : Nat) (bytes : List Byte) : State :=
  let size := if ((s.entry? idx).map (·.enc)).getD false then 2024 else 2048
  let cs := chunks size bytes (bytes.length / size + 1)
  (cs.zipIdx).foldl (fun s p =>
    if s.ofDropped idx p.2 then s.noRoom idx else (s.offerSeg idx (p.2 == 0) (p.2 + 1 == cs.length) p.1).1) s

/-- The input of an entry would take a whole frame now. -/
def State.wouldTake (s : State) (idx : Nat) : Bool :=
  match s.entry? idx with
  | some e => (e.st == 2 || e.st == 3) && e.inType == 3 && e.mayOffer s.now && (s.localRoom (idx / 8192) e 33).isSome
  | none => false

/-- LOCAL_SEGMENT_INGRESS (06 R164): a local producer of the die offers a segment of an entry of the die. -/
def execLocalSegmentIngress (a : At) (idx : Nat) (sop eop : Bool) (payload : List Byte) (s : State) : Out :=
  onIsland a 10 (idx < 8192) s fun s => (s.offerSeg (8192 * a.die + idx) sop eop payload).1

end Sys2Proof.Machine
end

