-- ==== Sys2Proof/Machine/Strands.lean ====
section
/-! DEFINITION. Strands (05): boundary blocks, credit, the MARK protocol, and the strand commands of the Ledger. -/

namespace Sys2Proof.Machine

/-! Boundary blocks and credit. -/

/-- A boundary block ends a resync (05 R123, R127). -/
def State.boundary (s : State) (d k : Nat) : State := s.modPly d k fun p => { p with resync := false }

/-- IDLE_BLOCK_RECEIVE (05 R123, R137). -/
def execIdleBlockReceive (a : At) (k : Nat) (b : List Byte) (s : State) : Out :=
  onIsland a 8 (k < 8) s fun s => s.takeBlock a k 1 b true fun s _ => s.boundary a.die k

/-- LIMIT[t] of a CREDIT block (05 Table 5.7). -/
def limitOf (b : List Byte) (t : Nat) : Nat := numAt b 2 20 / 2 ^ (20 * t) % creditMod

/-- CREDIT_BLOCK_RECEIVE (05 R140, R141, R143). -/
def execCreditBlockReceive (a : At) (k : Nat) (b : List Byte) (s : State) : Out :=
  onIsland a 8 (k < 8) s fun s => s.takeBlock a k 4 b true fun s _ =>
    let d := a.die
    let s := (s.boundary d k).modCredit d k fun c => { c with lim := (List.range 8).map (limitOf b) }
    let t := byteAt b 1 % 8
    let sent := numAt b 22 3 % creditMod
    let lost := (sent + creditMod - (s.credit d k).rcv.getD t 0) % creditMod
    let s := if bit (byteAt b 1) 3 && decide (lost < 2 ^ 19) then
        (s.bump d F.STR_CREDIT_LOST_COUNT lost).modCredit d k fun c => { c with rcv := c.rcv.set t sent }
      else s
    s.watchCredit d k

/-- FREE[t]: the ingress reserve less what is charged to it, below 2^19 (05 R141; 06 R161). -/
def State.freeOf (s : State) (d k t : Nat) : Nat :=
  min (2 ^ 19 - 1) (s.get d F.PLY_LINK_ING_ING_UNITS k t - s.charged d (acctPly k t))

/-- LIMIT[t] of the next CREDIT. -/
def State.limitNow (s : State) (d k t : Nat) : Nat := ((s.credit d k).rcv.getD t 0 + s.freeOf d k t) % creditMod

/-- The CREDIT block that is due: limits, and SENT of the classes in turn (05 R141, Table 5.7). -/
def State.creditBlock (s : State) (d k : Nat) : List Byte :=
  let c := s.credit d k
  let lim := (List.range 8).foldl (fun n t => n + s.limitNow d k t * 2 ^ (20 * t)) 0
  sealBlock ([0x04, BitVec.ofNat 8 (c.sentClass % 8 + 8)] ++ leBytes 20 lim ++ leBytes 3 (c.txc.getD c.sentClass 0))

/-- A CREDIT is sent, and the next falls due 250 ns later (05 R124). -/
def State.sendCredit (s : State) (d k : Nat) : State :=
  let told := (List.range 8).map (s.limitNow d k)
  (s.emit (.stream d k (s.creditBlock d k))).modCredit d k fun c =>
    { c with sentClass := (c.sentClass + 1) % 8, due := s.now + ns 250, told := told }

/-- A CREDIT is owed for a lossless class, or for any (05 R115). -/
def State.creditOwed (s : State) (d k : Nat) (lossyToo : Bool) : Bool :=
  (List.range 8).any fun t => (lossyToo || s.lossless d k t) && (s.credit d k).told[t]? != some (s.limitNow d k t)

/-- CREDIT_SEND (05 R124, R141): on an ACTIVE direction that is awake, when one is due. -/
def execCreditSend (a : At) (k : Nat) (s : State) : Out :=
  onIsland a 9 (k < 8) s fun s =>
    if s.plyActive a.die k && s.txState a.die k == 0 && fallen s (s.credit a.die k).due then s.sendCredit a.die k else s

/-- CREDIT_STALL (05 R143). -/
def execCreditStall (a : At) (k t : Nat) (s : State) : Out :=
  onIsland a 9 (k < 8 && t < 8) s fun s =>
    let d := a.die
    let c := s.credit d k
    let wait := s.get d F.PLY_LINK_CREDIT_CFG_CREDIT_STALL_US k
    match c.emptyAt.getD t none with
    | some since =>
      if s.plyActive d k && s.lossless d k t && wait != 0 && !bit c.stalled t && fallen s (since + us wait) then
        (s.modCredit d k fun c => { c with stalled := setBit c.stalled t }).raise d k 0x20A 2
          [(1, s.plyId d k), (1, t), (2, 0), (4, c.lim.getD t 0), (4, c.txc.getD t 0)]
      else s
    | none => s

/-- The class of a queue's head segment on a ply output. -/
def State.headClass (s : State) (key : Nat) : Option (Nat × Seg) :=
  match (s.queue key).units with
  | u :: _ => u.segs.head?.map fun g => (((s.entry? u.idx).map (·.tc)).getD 7, g)
  | [] => none

/-- Whether each queue of a ply output has a head that lacks credit, and since when (05 R143). -/
def State.watchLack (s : State) (d o : Nat) : State :=
  if 8 ≤ o then s
  else (List.range 16).foldl (fun s q =>
    let key := 512 * d + 16 * o + q
    match s.headClass key with
    | some (t, g) =>
      if s.covers d o t g.units then
        (if (s.queue key).lack.isSome then s.modQueue key fun x => { x with lack := none } else s)
      else if (s.queue key).lack.isSome then s
      else s.modQueue key fun x => { x with lack := some s.now }
    | none => if (s.queue key).lack.isSome then s.modQueue key fun x => { x with lack := none } else s) s

/-- The head segment of a queue is taken off it; its unit goes with its last segment. -/
def State.popSeg (s : State) (key : Nat) : State :=
  s.modQueue key fun q => { q with lack := none, units := match q.units with
    | u :: rest =>
      let left := u.segs.drop 1
      if left.isEmpty && u.done then rest else { u with segs := left, started := true } :: rest
    | [] => [] }

/-- LOSSY_DROP (05 R143): a head segment of a lossy class that has waited LOSSY_WAIT_US for credit. -/
def execLossyDrop (a : At) (k t : Nat) (s : State) : Out :=
  onIsland a 9 (k < 8 && t < 8) s fun s =>
    let d := a.die
    let wait := us (s.get d F.PLY_LINK_CREDIT_CFG_LOSSY_WAIT_US k)
    let hit := (List.range 16).find? fun q =>
      let key := 512 * d + 16 * k + q
      (match s.headClass key, (s.queue key).lack with
       | some (t', _), some since => t' == t && fallen s (since + wait)
       | _, _ => false)
    match hit with
    | some q =>
      if s.lossless d k t then s
      else
        let key := 512 * d + 16 * k + q
        match s.headClass key with
        | some (_, g) =>
          let s := ((s.bump d F.STR_LOSSY_DROP_COUNT).releaseSeg (s.holdDie key) g).popSeg key
          ((s.afterDequeue key).watchLack d k).rechain
        | none => s
    | none => s

/-! The MARK protocol. -/

/-- Units of a strand still queued for an output. -/
def State.queuedFor (s : State) (d o idx : Nat) : Bool :=
  (List.range 16).any fun q => (s.queue (512 * d + 16 * o + q)).units.any fun u => u.idx == idx

/-- A MARK block (05 Table 5.5). -/
def markBlock (noneSent : Bool) (sn lastSeq newPly move id : Nat) : List Byte :=
  sealBlock ([0x02, BitVec.ofNat 8 (b2n noneSent)] ++ leBytes 2 sn ++ leBytes 2 (if noneSent then 0 else lastSeq) ++
    leBytes 1 newPly ++ leBytes 1 move ++ leBytes 4 id)

/-- MARK_BLOCK_SEND (05 R145): the last segment queued on the old path has gone. -/
def execMarkBlockSend (a : At) (idx : Nat) (s : State) : Out :=
  onIsland a 9 (idx < 65536) s fun s =>
    match s.entry? idx with
    | none => s
    | some e =>
      match e.oldPath with
      | none => s
      | some p =>
        let d := p / 8
        let k := p % 8
        if e.st = 3 ∧ d = a.die ∧ s.queuedFor d k idx = false ∧ s.plyActive d k = true then
          let none_ := !e.sentOn.contains p
          let s := s.emit (.stream d k (markBlock none_ e.nextSn e.oldSeq e.ply ((e.moves + 1) % 256) e.strandId))
          s.modEntry idx fun e => { (e.setF 14 12 2) with oldPath := none, moves := (e.moves + 1) % 256,
                                                          sentOn := e.sentOn.filter (· != p) }
        else s

/-- The held segments of a strand go on in arrival order. -/
def State.releaseHeld (s : State) (idx : Nat) : State :=
  match s.entry? idx with
  | none => s
  | some e =>
    let d := e.heldOn / 8
    let s := s.modEntry idx fun e => { e with held := [], fromPly := s.plyId d (e.heldOn % 8) }
    e.held.foldl (fun s h => s.decryptSeg d idx h) s

/-- The wait of a held strand ends at this time (05 R146). -/
def Entry.markBy (e : Entry) : Nat := e.heldAt + us 50

/-- MARK_BLOCK_RECEIVE (05 R146, R147). -/
def execMarkBlockReceive (a : At) (k : Nat) (b : List Byte) (s : State) : Out :=
  onIsland a 8 (k < 8) s fun s => s.takeBlock a k 2 b true fun s _ =>
    let d := a.die
    let s := s.boundary d k
    let newPly := byteAt b 6
    let stray := s.bump d F.PLY_LINK_CTL_ERR_COUNT 1 k
    match s.findIn d k (numAt b 2 2 % 4096) with
    | none => stray
    | some idx =>
      match s.entry? idx with
      | none => stray
      | some e =>
        let farOf := fun p => s.get (p / 8) F.PLY_LINK_PEER_CAP_FAR_PLY (p % 8)
        if e.strandId ≠ numAt b 8 4 then stray
        else if !e.held.isEmpty && farOf e.heldOn == newPly then
          if inTime a s e.markBy then
            let s := if nearMiss a s e.markBy then s.bump (e.heldOn / 8) F.STR_MARK_NEAR_MISS_COUNT else s
            (s.releaseHeld idx).raiseStrand idx 0x208 0
              [(4, e.strandId), (1, s.plyId d k), (1, s.plyId (e.heldOn / 8) (e.heldOn % 8)), (1, byteAt b 7), (1, 0),
               (4, (s.now - e.heldAt) / 1000), (2, e.held.length)]
          else s
        else
          if e.expired = some (s.plyId d k) then s.modEntry idx fun e => { e with expired := none }
          else s.modEntry idx fun e => { e with marks := e.marks ++ [newPly] }

/-- STR_MARK_TIMEOUT (05 R146): the 50 µs wait of a held strand expires. -/
def execStrMarkTimeout (a : At) (k idx : Nat) (s : State) : Out :=
  onIsland a 8 (k < 8 && idx < 65536) s fun s =>
    match s.entry? idx with
    | none => s
    | some e =>
      if !e.held.isEmpty && e.heldOn == 8 * a.die + k && fallen s e.markBy then
        let old := e.fromPly
        ((s.releaseHeld idx).modEntry idx fun e => { e with expired := some old }).raiseStrand idx 0x209 2
          [(4, e.strandId), (1, e.fromPly), (1, s.plyId a.die k), (2, e.held.length)]
      else s

/-! Strand commands (05 R149 to R153). -/

/-- The staged entry of a die's command set. -/
def State.staged256 (s : State) (d : Nat) : BitVec 256 :=
  BitVec.ofNat 256 ((List.range 8).foldl (fun n k => n + (s.word d Reg.STR_CMD_ENTRY k).toNat * 2 ^ (32 * k)) 0)

/-- A ply number that the running image configures; a braid number. -/
def State.plyKnown (s : State) (p : Nat) : Bool := (s.plyAt p).isSome
def State.braidKnown (s : State) (b : Nat) : Bool := !(s.braidSlots b).isEmpty

/-- A local port is present in the package and its island is not switched off (05 R513). -/
def State.portPresent (s : State) (kind index : Nat) : Bool :=
  let p := localPort kind index
  decide (p.1 < s.part.dies) && !bit (s.islands p.1).off (outIsland p.2) &&
  (!(p.2 == 9) || s.get p.1 F.ETH_LRE_CFG_MODE == 0)

/-- A side's type and index name something that is there (05 Table 5.3, R153). -/
def State.sideOk (s : State) (kind type index : Nat) : Bool :=
  match type with
  | 1 => s.plyKnown index
  | 2 => s.braidKnown index
  | 3 => s.portPresent kind index
  | _ => false

/-- IN_SN is matched on a local input of these kinds (05 Table 5.14). -/
def snMatched (e : Entry) : Bool := e.inType == 1 || e.inType == 2 || e.kind == 1 || e.kind == 4

/-- The plies that an output side may use. -/
def State.outPlies (s : State) (e : Entry) : List (Nat × Nat) :=
  match e.outType with
  | 1 => (s.plyAt e.outIndex).toList
  | 2 => s.braidSlots e.outIndex
  | _ => []

/-- Every output that an entry's class and contract may map to names a used queue (07 R191). -/
def State.mapOk (s : State) (e : Entry) : Bool :=
  let outs := if e.outType = 3 then [localPort e.kind e.outIndex] else s.outPlies e
  outs.all fun p => s.queueUsed p.1 p.2 (s.qmap p.1 p.2 e.tc e.contract)

/-- The contract fields of an entry are in order. -/
def Entry.ratesOk (e : Entry) : Bool := decide (e.guaranteed ≤ e.ceiling)

/-- A function may ask for such an entry (13 R359; 17 R448). -/
def vfShapeOk (f : Nat) (vfEnc : Bool) (e : Entry) : Bool :=
  f == 0 || ((e.kind == 7 || e.kind == 1 || e.kind == 3) && e.contract != 0 && !e.policerEn && !e.mcastEn && (!e.enc || vfEnc))

/-- An entry obeys Table 5.3 and R153. -/
def State.entryOk (s : State) (f : Nat) (e : Entry) : Bool :=
  decide (1 ≤ e.kind) && decide (e.kind ≤ 7) && decide (e.contract ≤ 4) && e.ratesOk &&
  !(e.pinDieEn && decide (s.part.dies ≤ e.pinDie)) &&
  !(e.pinPlyEn && !((s.outPlies e).contains ((s.plyAt e.pinPly).getD (99, 99)))) &&
  !(e.overflowOk && e.contract == 0) &&
  s.sideOk e.kind e.inType e.inIndex && s.sideOk e.kind e.outType e.outIndex &&
  (if e.inType = 3 then !(snMatched e && (e.inSn == 0 || e.inSn == 0xFFF)) else e.inSn != 0) &&
  !(e.outType != 3 && (e.nextSn == 0 || e.nextSn == 0xFFF)) &&
  s.mapOk e && vfShapeOk f s.boot.option.vfEnc e

/-- A function's local resource, by kind and local index, is in its carve (13 R359). -/
def State.vfOwnsSide (s : State) (f kind type index : Nat) : Bool :=
  let c := (s.slot f).carve
  let home := homeDie f
  match type with
  | 3 =>
    (match kind with
     | 1 => index / 2 == home && bit c.heads (index % 2)
     | 3 => index / 8 == home && bit c.usb (index % 8)
     | 7 => index == home && !c.dma.isEmpty
     | _ => false)
  | 1 => (match s.plyAt index with
     | some p => (match s.ply? p.1 p.2 with
        | some q => if q.cfg.braid = 0xFF then bit c.braids 63 else bit c.braids q.cfg.braid
        | none => false)
     | none => false)
  | 2 => bit c.braids index
  | _ => false

/-- The other dies that must mirror an entry (05 R136). -/
def State.mirrorDies (s : State) (die : Nat) (e : Entry) : List Nat :=
  if e.inType = 2 then ((List.range s.part.dies).filter fun d =>
    d != die && (s.braidSlots e.inIndex).any fun p => p.1 == d) else []

/-- Two entries collide (05 R134, R136): the same input triple, or the same identity on one die. -/
def State.duplicates (s : State) (die : Nat) (e : Entry) : Bool :=
  (s.entries.any fun p =>
    (snMatched e && e.inSn != 0xFFF && p.2.inType == e.inType && p.2.inIndex == e.inIndex && p.2.inSn == e.inSn &&
      (e.inType != 3 || p.2.kind == e.kind))) ||
  (die :: s.mirrorDies die e).any fun d => (s.die d).ledger.any fun q => q.2.strandId == e.strandId && !q.2.mcastEn && !e.mcastEn

/-- The lowest SN that may be allocated on an input side (05 R149, R152). -/
def State.freeSn (s : State) (e : Entry) : Option Nat :=
  let used := (s.entries.filter fun p => p.2.inType == e.inType && p.2.inIndex == e.inIndex).map (·.2.inSn)
  let held := (List.range s.part.dies).flatMap fun d => ((s.die d).quarantine.filter fun q =>
    q.inType == e.inType && q.inIndex == e.inIndex).map (·.sn)
  ((List.range 0xFFE).map (· + 1)).find? fun sn => !used.contains sn && !held.contains sn

/-- The output of an entry, for sums of GUARANTEED: a ply or a braid. -/
def sameOut (a b : Entry) : Bool := a.outType == b.outType && a.outIndex == b.outIndex && a.outType != 3

/-- The payload of an entry's output at current rates, in Mb/s. -/
def State.outPayload (s : State) (e : Entry) : Nat := (s.outPlies e).foldl (fun n p => n + s.plySpeed p.1 p.2) 0

/-- The sum of GUARANTEED at an output would pass 90 % of its payload, or a function's RATE_MBPS (05 R151; 13 R359). -/
def State.overcommits (s : State) (f idx : Nat) (e : Entry) (before : Nat) : Bool :=
  let live := s.entries.filter fun p => p.1 != idx && (p.2.st == 1 || p.2.st == 2 || p.2.st == 3)
  let sum := ((live.filter fun p => sameOut p.2 e).foldl (fun n p => n + p.2.guaranteed) 0) + e.guaranteed
  let own := ((s.entries.filter fun p => p.1 != idx && p.2.owner == f).foldl (fun n p => n + p.2.guaranteed) 0) + e.guaranteed
  decide (before < e.guaranteed) &&
  ((e.outType != 3 && decide (9 * s.outPayload e < 10 * sum)) || (f != 0 && decide ((s.slot f).carve.rate < own)))

/-- The lowest FREE index of a die that no carve holds. -/
def State.freeIndex (s : State) (d : Nat) : Option Nat :=
  let carved := s.vfn.slots.flatMap fun p => if homeDie p.1 = d then p.2.carve.entries else []
  (List.range 8192).find? fun i => (Table.find? (s.die d).ledger i).isNone && !carved.contains i

/-- An entry is written at a package index. -/
def State.putEntry (s : State) (idx : Nat) (e : Entry) : State :=
  s.modDie (idx / 8192) fun x => { x with ledger := Table.put x.ledger (idx % 8192) e }

/-- An entry and its mirrors are installed. -/
def State.install (s : State) (idx : Nat) (e : Entry) : State :=
  (s.mirrorDies (idx / 8192) e).foldl (fun s d =>
    match s.freeIndex d with
    | some i => s.putEntry (8192 * d + i) { e with mirrorOf := some idx }
    | none => s) (s.putEntry idx e)

/-- A strand leaves the Ledger: mirrors too, its SN under quarantine (05 R136, R152). -/
def State.freeEntry (s : State) (idx : Nat) : State :=
  match s.entry? idx with
  | none => s
  | some e =>
    let s := (List.range s.part.dies).foldl (fun s d =>
      s.modDie d fun x => { x with ledger := x.ledger.filter fun p => p.2.mirrorOf != some idx }) s
    let s := s.modDie (idx / 8192) fun x => { x with ledger := Table.del x.ledger (idx % 8192) }
    if e.inType = 3 then s
    else s.modDie (idx / 8192) fun x => { x with
      quarantine := x.quarantine ++ [⟨e.inType, e.inIndex, e.inSn, s.now + ms 1⟩] }

/-- The result codes of Table 5.10. -/
inductive StrResult where
  | ok | full | snFull | indexInUse | badEntry | duplicate | overcommit | static | badState | notOwner | noEnc
  deriving DecidableEq, Repr

def StrResult.code : StrResult → Nat
  | .ok => 0
  | .full => 1
  | .snFull => 2
  | .indexInUse => 3
  | .badEntry => 4
  | .duplicate => 5
  | .overcommit => 6
  | .static => 7
  | .badState => 8
  | .notOwner => 9
  | .noEnc => 10

/-- The first result whose condition holds, in the order of R153. -/
def firstResult (l : List (Bool × StrResult)) : StrResult := ((l.find? (·.1)).map (·.2)).getD .ok

/-- The index a command names: for a virtual function an entry number of its carve (13 R357); `none` beyond it. -/
def State.cmdIndex (s : State) (f : Nat) (v : Word) : Option Nat :=
  let i := wordGet v 15 0
  if f = 0 then some i else ((s.slot f).carve.entries[i]?).map fun n => 8192 * homeDie f + n

/-- The index that CREATE fills: the one named, or the lowest FREE one under ANY_INDEX. -/
def State.createIndex (s : State) (f : Nat) (v : Word) : Option Nat :=
  if wordGet v 27 27 = 0 then s.cmdIndex f v
  else if f = 0 then (s.freeIndex (wordGet v 26 24)).map fun i => 8192 * wordGet v 26 24 + i
  else ((s.slot f).carve.entries.find? fun n => (s.entry? (8192 * homeDie f + n)).isNone).map fun n => 8192 * homeDie f + n

/-- The die that a command targets. -/
def cmdDie (f : Nat) (v : Word) : Nat :=
  if f ≠ 0 then homeDie f else if wordGet v 27 27 = 1 ∧ wordGet v 31 28 = 1 then wordGet v 26 24 else wordGet v 15 0 / 8192

/-- A command completes (05 R149, R153): RESULT and INDEX are shown; a refusal is reported. -/
def State.cmdDone (s : State) (d f op : Nat) (r : StrResult) (idx id : Nat) (mirror : Bool) : State :=
  let s := (s.set d F.STR_CMD_STATUS_RESULT r.code).set d F.STR_CMD_STATUS_BUSY 0
  let s := (s.set d F.STR_CMD_STATUS_MIRROR (b2n mirror)).set d F.STR_CMD_STATUS_INDEX idx
  if r = .ok then s
  else s.raiseOwned f d (idx % 8192) 0x203 2 [(1, op), (1, r.code), (2, idx), (4, id)]

/-- A command that a die's set takes: ignored and counted while BUSY, left BUSY while the target die's STR island cannot
carry it out (05 R149). -/
def State.strCmd (s : State) (d : Nat) (v : Word) (f : Nat) (run : State → State) : State :=
  if s.flag d F.STR_CMD_STATUS_BUSY then s.bump 0 F.SKN_IGNORED_COUNT
  else if cmdDie f v < s.part.dies ∧ s.runs (cmdDie f v) 10 = false then
    (s.set d F.STR_CMD_STATUS_BUSY 1).parkCmd ⟨false, f, d, v⟩
  else run s

/-- CREATE written to STR_CMD of a die by a function (05 R149, R151, R153). -/
def State.strCreate (s : State) (d f : Nat) (v : Word) : State :=
  s.strCmd d v f fun s =>
    let e₀ : Entry := { raw := s.staged256 d }
    let e := ((if f = 0 then e₀ else e₀.setF 22 15 f).setF 14 12 1).setF 11 0 0
    let at_ := s.createIndex f v
    let idx := at_.getD (wordGet v 15 0)
    let die := cmdDie f v
    let any := wordGet v 27 27 == 1
    let old := s.entry? idx
    let alloc := e.inSn == 0xFFF && e.inType != 3
    let sn := s.freeSn e
    let r := firstResult [
      (decide (s.part.dies ≤ die) || !s.entryOk f e, .badEntry),
      (f != 0 && ((!any && at_.isNone) || !s.vfOwnsSide f e.kind e.inType e.inIndex ||
        !s.vfOwnsSide f e.kind e.outType e.outIndex), .notOwner),
      (!any && (old.bind (·.mirrorOf)).isSome, .badState),
      (!any && old.isSome, .indexInUse),
      (s.duplicates die e, .duplicate),
      (alloc && sn.isNone, .snFull),
      (s.overcommits f 65536 e 0, .overcommit),
      (at_.isNone || ((s.mirrorDies die e).any fun m => (s.freeIndex m).isNone), .full)]
    if r = .ok then
      let e := if alloc then e.setF 55 44 (sn.getD 0) else e
      let s := s.install idx e
      let s := if alloc then s.set d F.STR_CMD_SN_SN (sn.getD 0) else s
      (s.cmdDone d f 1 r idx e.strandId false).raiseStrand idx 0x201 0 [(4, e.strandId), (2, idx), (2, e.inSn)]
    else s.cmdDone d f 1 r idx e.strandId false

/-- STR_CREATE (05 R149, R151, R153). -/
def execStrCreate (a : At) (q : Req) (v : Word) (s : State) : Out :=
  onWrite a q 0x0C0000 v (wordGet v 31 28 == 1) s fun s => s.strCreate a.die (reqFn q) v

/-- A command on an existing entry: its index, and what refuses it before the command's own checks (05 R153). -/
def State.onEntry (s : State) (d f op : Nat) (v : Word) (checks : Entry → List (Bool × StrResult))
    (effect : State → Nat → Entry → State) : State :=
  let at_ := s.cmdIndex f v
  let idx := at_.getD (wordGet v 15 0)
  if f = 0 ∧ s.part.dies ≤ idx / 8192 then s.cmdDone d f op .badEntry idx 0 false
  else if at_.isNone then s.cmdDone d f op .notOwner idx 0 false
  else
    let bad := fun (e : Entry) => (checks e).filter fun p => p.2 == .badEntry
    match s.entry? idx with
    | none => s.cmdDone d f op (firstResult (bad { raw := s.staged256 d } ++ [(true, .badState)])) idx 0 false
    | some e =>
      match e.mirrorOf with
      | some home =>
        s.cmdDone d f op (firstResult (bad e ++ [(f != 0 && e.owner != f, .notOwner), (true, .badState)])) home e.strandId true
      | none =>
        let r := firstResult ((checks e).filter (fun p => p.2 == .badEntry) ++
          [(f != 0 && e.owner != f, .notOwner)] ++ (checks e).filter fun p => p.2 != .badEntry)
        if r = .ok then effect (s.cmdDone d f op r idx e.strandId false) idx e
        else s.cmdDone d f op r idx e.strandId false

/-- The load of a ply: the allotments of the strands placed on it (08 R227). -/
def State.plyLoad (s : State) (p : Nat) : Nat :=
  s.entries.foldl (fun n q =>
    if (q.2.st = 2 ∨ q.2.st = 3) ∧ (q.2.outType = 2 ∧ q.2.ply = p ∨ q.2.outType = 1 ∧ q.2.outIndex = p) then n + q.2.allot else n) 0

/-- The free load of a ply. -/
def State.plyFree (s : State) (d k : Nat) : Int := (s.plySpeed d k : Int) - (s.plyLoad (s.plyId d k) : Int)

/-- The first of a list with the largest measure. -/
def largestBy {α : Type} (m : α → Int) : List α → Option α
  | [] => none
  | x :: xs => some (xs.foldl (fun b y => if m b < m y then y else b) x)

/-- The initial placement of a strand on a braid: PIN_PLY, else the ACTIVE ply with the most free load (08 R227). -/
def State.firstPly (s : State) (e : Entry) : Nat :=
  if e.outType = 1 then e.outIndex
  else if e.pinPlyEn then e.pinPly
  else
    let l := (s.braidSlots e.outIndex)
    match largestBy (fun p => s.plyFree p.1 p.2) (l.filter fun p => s.plyActive p.1 p.2) with
    | some p => s.plyId p.1 p.2
    | none => (l.head?.map fun p => s.plyId p.1 p.2).getD 0

/-- An output side has an ACTIVE ply with encryption available (05 R149; 04 R109). -/
def State.encAvailable (s : State) (e : Entry) : Bool :=
  e.outType == 3 || (s.outPlies e).any fun p => s.plyActive p.1 p.2 && s.flag p.1 F.PLY_LINK_PEER_CAP_ENC p.2

/-- A strand becomes ACTIVE: fresh order, packet numbers and pacing, its allotment at the floor (08 R216), placed (08 R227). -/
def State.activate (s : State) (idx : Nat) : State :=
  match s.entry? idx with
  | none => s
  | some e =>
    s.modEntry idx fun e' => { (e'.setF 14 12 2) with
      expect := none, isOpen := false, count := 0, pn := 1, allot := max e.guaranteed 1, ply := s.firstPly e,
      pace := { tokens := (max e.burst 2056 : Nat), last := s.now / 1000 } }

/-- ACTIVATE written to STR_CMD of a die by a function (05 R149). -/
def State.strActivate (s : State) (d f : Nat) (v : Word) : State :=
  s.strCmd d v (f) fun s =>
    s.onEntry d (f) 2 v
      (fun e => [(e.st != 1, .badState), (e.enc && !s.encAvailable e, .noEnc)])
      fun s idx _ => s.activate idx

/-- STR_ACTIVATE (05 R149). -/
def execStrActivate (a : At) (q : Req) (v : Word) (s : State) : Out :=
  onWrite a q 0x0C0000 v (wordGet v 31 28 == 2) s fun s => s.strActivate a.die (reqFn q) v

/-- The four contract fields of `n` in `e` (05 R149). -/
def Entry.withContract (e n : Entry) : Entry :=
  (((e.setF 213 190 n.guaranteed).setF 189 166 n.ceiling).setF 165 150 n.latBound).setF 149 126 n.burst

/-- MODIFY written to STR_CMD of a die by a function (05 R149, R151). -/
def State.strModify (s : State) (d f : Nat) (v : Word) : State :=
  s.strCmd d v (f) fun s =>
    let n : Entry := { raw := s.staged256 d }
    s.onEntry d (f) 3 v
      (fun e => [(!(e.withContract n).ratesOk || !vfShapeOk (f) s.boot.option.vfEnc e, .badEntry),
        (e.st == 0 || decide (5 ≤ e.st), .badState), (e.isStatic, .static),
        (s.overcommits (f) ((s.cmdIndex (f) v).getD 0) (e.withContract n) e.guaranteed, .overcommit)])
      fun s idx _ => s.modEntry idx fun e => { (e.withContract n) with changed := true }

/-- STR_MODIFY (05 R149, R151). -/
def execStrModify (a : At) (q : Req) (v : Word) (s : State) : Out :=
  onWrite a q 0x0C0000 v (wordGet v 31 28 == 3) s fun s => s.strModify a.die (reqFn q) v

/-- TEARDOWN written to STR_CMD of a die by a function (05 R152); a frame still arriving is cut short. -/
def State.strTeardown (s : State) (d f : Nat) (v : Word) : State :=
  s.strCmd d v (f) fun s =>
    s.onEntry d (f) 4 v (fun e => [(e.st != 1 && e.st != 2, .badState), (e.isStatic, .static)])
      fun s idx e =>
        let s := if e.isOpen then s.closeFrame idx 2 else s
        s.modEntry idx fun e => { (e.setF 14 12 5) with drainBy := s.now + ms 10 }

/-- STR_TEARDOWN (05 R152). -/
def execStrTeardown (a : At) (q : Req) (v : Word) (s : State) : Out :=
  onWrite a q 0x0C0000 v (wordGet v 31 28 == 4) s fun s => s.strTeardown a.die (reqFn q) v

/-- The words of an entry go to the staging registers. -/
def State.stageEntry (s : State) (d n : Nat) : State :=
  (List.range 8).foldl (fun s k => s.setWord d Reg.STR_CMD_ENTRY (BitVec.ofNat 32 (n / 2 ^ (32 * k))) k) s

/-- What READ returns of an entry: CONTRACT_LIVE in bit 11, STATIC in bit 10 (05 Table 5.3). -/
def Entry.readValue (e : Entry) : Nat := ((e.setF 11 0 (2048 * b2n e.live + 1024 * b2n e.isStatic)).raw).toNat

/-- READ written to STR_CMD of a die by a function (05 R149, R153). -/
def State.strRead (s : State) (d f : Nat) (v : Word) : State :=
  s.strCmd d v (f) fun s =>
    let at_ := s.cmdIndex f v
    let idx := at_.getD (wordGet v 15 0)
    if f = 0 ∧ s.part.dies ≤ idx / 8192 then s.cmdDone d f 5 .badEntry idx 0 false
    else if at_.isNone then s.cmdDone d f 5 .notOwner idx 0 false
    else
      let home := s.homeOf idx
      match s.entry? home with
      | none => (s.stageEntry d 0).cmdDone d f 5 .ok idx 0 false
      | some e =>
        if f ≠ 0 ∧ e.owner ≠ f then s.cmdDone d f 5 .notOwner idx e.strandId false
        else (s.stageEntry d e.readValue).cmdDone d f 5 .ok home e.strandId (home != idx)

/-- STR_READ (05 R149, R153). -/
def execStrRead (a : At) (q : Req) (v : Word) (s : State) : Out :=
  onWrite a q 0x0C0000 v (wordGet v 31 28 == 5) s fun s => s.strRead a.die (reqFn q) v

/-- Some of a strand's segments are still held for a move, queued, gathered or crossing. -/
def State.strandBusy (s : State) (idx : Nat) : Bool :=
  ((s.entry? idx).map fun e => !e.held.isEmpty).getD false ||
  (s.queueKeys.any fun key => (s.queue key).units.any fun u => u.idx == idx) ||
  (List.range s.part.dies).any fun d =>
    (s.die d).complete.any (fun u => u.idx == idx) || (s.die d).copies.any (fun u => u.idx == idx) ||
    (s.die d).inbound.any (fun c => c.unit.idx == idx)

/-- The segments that a strand holds for a move are discarded (05 R146). -/
def State.discardHeld (s : State) (idx : Nat) : State × Nat :=
  match s.entry? idx with
  | none => (s, 0)
  | some e =>
    (e.held.foldl (fun s h => s.freeFrom (e.heldOn / 8) h.acct (unitsOf (hLen h.hdr))) (s.modEntry idx fun e => { e with held := [] }),
      e.held.length)

/-- Every segment of a strand that is held, queued, gathered or crossing is discarded; the answer counts them. -/
def State.discardStrand (s : State) (idx : Nat) : State × Nat :=
  let h := s.discardHeld idx
  let s := h.1
  let s := s.abortUnit idx 0
  let r := s.queueKeys.foldl (fun (acc : State × Nat) key =>
    let gone := ((acc.1.queue key).units.filter fun u => u.idx == idx).flatMap (·.segs)
    let s := (acc.1.releaseSegs (acc.1.holdDie key) gone).modQueue key fun q => { q with
      units := q.units.filter fun u => u.idx != idx }
    (if gone.isEmpty then acc.1 else s.afterDequeue key, acc.2 + gone.length)) (s, h.2)
  let r := (List.range r.1.part.dies).foldl (fun (acc : State × Nat) d =>
    let x := acc.1.die d
    let gone := ((x.complete ++ x.copies).filter fun u => u.idx == idx).flatMap (·.segs) ++
      (x.inbound.filter fun c => c.unit.idx == idx).map (·.seg)
    let s := (acc.1.releaseSegs d gone).modDie d fun x => { x with
      complete := x.complete.filter fun u => u.idx != idx, copies := x.copies.filter fun u => u.idx != idx,
      inbound := x.inbound.filter fun c => c.unit.idx != idx }
    (s, acc.2 + gone.length)) r
  (r.1.rechain, r.2)

/-- A DRAINING entry becomes FREE (05 R152). -/
def State.drained (s : State) (idx discarded : Nat) : State :=
  match s.entry? idx with
  | none => s
  | some e =>
    (s.raiseStrand idx 0x202 0 [(4, e.strandId), (2, idx), (2, 0), (4, discarded)]).freeEntry idx

/-- STR_DRAIN_DONE (05 R152): the queue of a DRAINING entry has emptied. -/
def execStrDrainDone (a : At) (idx : Nat) (s : State) : Out :=
  onIsland a 10 (idx < 8192) s fun s =>
    let i := 8192 * a.die + idx
    match s.entry? i with
    | some e => if e.st = 5 ∧ e.mirrorOf = none ∧ s.strandBusy i = false then s.drained i 0 else s
    | none => s

/-- STR_DRAIN_TIMEOUT (05 R152): 10 ms after TEARDOWN. -/
def execStrDrainTimeout (a : At) (idx : Nat) (s : State) : Out :=
  onIsland a 10 (idx < 8192) s fun s =>
    let i := 8192 * a.die + idx
    match s.entry? i with
    | some e =>
      if e.st = 5 ∧ e.mirrorOf = none ∧ fallen s e.drainBy = true then
        let r := s.discardStrand i
        (r.1.bump a.die F.STR_NO_STRAND_COUNT r.2).drained i r.2
      else s
    | none => s

/-- SN_QUARANTINE_END (05 R152): 1 ms after it was freed an SN may be allocated again. -/
def execSnQuarantineEnd (a : At) (inType inIndex sn : Nat) (s : State) : Out :=
  onIsland a 10 true s fun s =>
    s.modDie a.die fun x => { x with quarantine := x.quarantine.filter fun q =>
      !(q.inType == inType && q.inIndex == inIndex && q.sn == sn && fallen s q.until_) }

end Sys2Proof.Machine
end

