-- ==== Sys2Proof/Machine/Timebase.lean ====
section
/-! DEFINITION. The timebase (09 R255 to R264): timing messages and the samples they yield, steps, the servo, the choice of a
parent, and the election of the grandmaster. -/

namespace Sys2Proof.Machine

/-! Times in sixteenths of a nanosecond. -/

/-- Picoseconds to the nearest sixteenth of a nanosecond (05 R138), and back. -/
def q16 (ps : Nat) : Nat := (ps * 16 + 500) / 1000
def q16Ps (q : Int) : Int := q * 1000 / 16

/-- The TS64 and FRAC of a time in sixteenths. -/
def State.tsOfQ (s : State) (q : Nat) : Nat :=
  q / 16 / 1000000000 * 2 ^ 30 + q / 16 % 1000000000 + (if s.clock.traceable then 0 else 2 ^ 63)

/-- The time in sixteenths that a TS64 and FRAC give. -/
def qOf (ts frac : Nat) : Nat := (ts / 2 ^ 30 % 2 ^ 33 * 1000000000 + ts % 2 ^ 30) * 16 + frac % 16

/-! Links. -/

/-- The link of a Shoreline side, and of a ply. -/
def shlLink (port side : Nat) : Nat := 2 * port + side
def plyLink (d k : Nat) : Nat := 16 + 8 * d + k

/-- What a link keeps. -/
def State.tlink (s : State) (l : Nat) : TLink := Table.look s.tim.links l {}
def State.modLink (s : State) (l : Nat) (f : TLink → TLink) : State :=
  { s with tim := { s.tim with links := Table.upd s.tim.links l {} f } }

/-- The body of the next timing message of a link (05 Table 5.6; 09 R255), without TYPE and CRC. -/
def State.timeBody (s : State) (l : Nat) (prio utc gm : Nat) : List Byte :=
  let x := s.tlink l
  let n := (x.seq + 1) % 65536
  let tx := (List.find? (fun p => p.1 == x.seq) x.sent).map (·.2)
  let rx := x.arrivals.head?
  let flags := b2n tx.isSome + 2 * b2n rx.isSome + 4 * b2n s.clock.traceable
  leBytes 1 flags ++ leBytes 2 n ++ leBytes 8 (s.tsOfQ (tx.getD 0)) ++ leBytes 1 (tx.getD 0 % 16) ++ leBytes 1 prio ++
    leBytes 2 ((rx.map (·.1)).getD 0) ++ leBytes 8 (s.tsOfQ ((rx.map (·.2)).getD 0)) ++ leBytes 1 ((rx.map (·.2)).getD 0 % 16) ++
    leBytes 1 (s.get 0 F.TIM_STATUS_CLASS) ++ leBytes 1 (s.get 0 F.TIM_STATUS_HOPS) ++ leBytes 1 utc ++ leBytes 2 gm

/-- A timing message of a link has departed; the next is due `every` later. -/
def State.departed (s : State) (l every : Nat) : State :=
  s.modLink l fun x =>
    let n := (x.seq + 1) % 65536
    { x with seq := n, sent := (((n, q16 s.now) :: x.sent).take 16), due := s.now + every }

/-- The logical lane that TICK number n takes on a ply of W lanes (09 R255). -/
def tickLane (n w : Nat) : Nat := if w = 0 then 0 else (n + n / w) % w

/-- A TICK is sent (09 R255). -/
def State.sendTick (s : State) (d k every : Nat) : State :=
  let l := plyLink d k
  let n := ((s.tlink l).seq + 1) % 65536
  let b := sealBlock ((0x03 : Byte) :: s.timeBody l 0 0 0)
  (s.emit (.tick d k (tickLane n (s.plyLanes d k).length) b)).departed l every

/-- The fields of a timing message obey R11 and R138. -/
def timeFieldsOk (b : List Byte) : Bool :=
  tsOk (numAt b 4 8) && tsOk (numAt b 16 8) && decide (byteAt b 12 ≤ 15) && decide (byteAt b 24 ≤ 15)

/-! Steps (09 R261; 07 R203; 08 R214). -/

/-- The event of an operation that is not carried out (09 R268). -/
def State.missedOp (s : State) (x : SchedOp) (reason : Nat) : State :=
  s.raise 0 33 0x610 2 [(2, x.opId), (1, x.op), (1, reason), (8, x.t)]

/-- A twist in picoseconds. -/
def twist : Nat := us 250

/-- Local time steps: no boundary falls and no window closes by the step itself; gate lists jump, the
twist decides no allotments, operations it passes are missed, samples restart. -/
def State.stepTo (s : State) (ps : Nat) : State :=
  let diff : Int := (ps : Int) / 1000 - (s.now : Int) / 1000
  let first := !s.clock.traceable
  let s : State := { s with
    clock := { s.clock with ps := ps, traceable := true },
    spd := { s.spd with stepped := true, fell := ps / twist, closed := (ps + us 50) / twist },
    tim := { s.tim with run := 0, links := s.tim.links.map fun p => (p.1, { p.2 with sent := [], arrivals := [] }) } }
  let s := (s.set 0 F.TIM_STATUS_TRACEABLE 1).raise 0 32 0x602 2 [(8, unsigned 64 diff), (8, s.ts)]
  let s := if first then s.raise 0 32 0x616 0 [(1, s.get 0 F.TIM_STATUS_PARENT), (1, s.get 0 F.TIM_STATUS_CLASS)] else s
  let s : State := (List.range s.part.dies).foldl (fun s d => (List.range 19).foldl (fun s o =>
    if s.flag d F.SCH_OUT_GCL_CTL_GATE_EN o then
      let s := s.showGate d o
      s.raise d o 0x404 1 [(1, o), (1, s.get d F.SCH_OUT_GATE_STATE_ENTRY o), (2, 0), (8, s.ts)]
    else s) s) s
  let late := s.shl.ops.filter fun x => decide (x.t < s.ts)
  late.foldl (fun s x => s.missedOp x 1)
    { s with shl := { s.shl with ops := s.shl.ops.filter fun x => !decide (x.t < s.ts) } }

/-! Election and parents (09 R259, R260). -/

/-- The rank of a grandmaster: lowest CLASS, then PRIORITY, then address. -/
def gmRank (cls prio gm : Nat) : Nat := cls * 2 ^ 20 + prio * 2 ^ 12 + gm

/-- A received CLASS that Table 9.4 does not produce counts as 248. -/
def classOf (n : Nat) : Nat := if n = 6 ∨ n = 7 ∨ n = 52 then n else 248

/-- A Shoreline side is up. -/
def State.sideUp (s : State) (port side : Nat) : Bool :=
  s.flag port (if side = 0 then F.SHL_PORT_STATUS_IN_UP else F.SHL_PORT_STATUS_OUT_UP)

/-- The hub's own address, PRIORITY and CLASS. -/
def State.hubAddr (s : State) : Nat := s.get 0 F.SHL_ID_HUB_ADDR
def State.ownPrio (s : State) : Nat := s.get 0 F.TIM_CFG_PRIORITY
def State.ownClass (s : State) : Nat :=
  match s.tim.parent with
  | some p => if 206 ≤ p then 6 else 248
  | none => if s.get 0 F.TIM_STATUS_STATE = 3 then s.get 0 F.TIM_STATUS_CLASS else 248

/-- Advertisements in force: Shoreline sides that are up and have given HOPS below 255. -/
def State.adverts (s : State) : List TLink :=
  ([0, 1, 2, 3].filter fun l => s.sideUp (l / 2) (l % 2)).map s.tlink |>.filter fun x => x.heard && x.hops != 255

/-- The best advertisement. -/
def State.bestAdvert (s : State) : Option TLink :=
  largestBy (fun x => -(gmRank x.cls x.prio x.gm : Int)) s.adverts

/-- The hub with a CLASS outranks every advertisement it hears (09 R259). -/
def State.outranks (s : State) (cls : Nat) : Bool :=
  s.ownPrio != 255 &&
  match s.bestAdvert with
  | some x => decide (gmRank cls s.ownPrio s.hubAddr ≤ gmRank x.cls x.prio x.gm)
  | none => true

/-- The grandmaster as the registers show it changes. -/
def State.setGm (s : State) (gm cls prio : Nat) : State :=
  let old := s.get 0 F.TIM_GM_GM
  let changed := old != gm || s.get 0 F.TIM_GM_PRIORITY == 0xFF && prio != 0xFF
  let s := ((s.set 0 F.TIM_GM_GM gm).set 0 F.TIM_GM_PRIORITY prio).set 0 F.TIM_STATUS_CLASS cls
  if changed then s.raise 0 32 0x605 1 [(2, gm), (1, cls), (1, prio), (2, old)] else s

/-- The PARENT code and SLOT of a parent (09 Table 9.11). -/
def parentCode : Option Nat → Nat × Nat
  | none => (15, 0)
  | some p =>
    if p < 4 then (p, 0) else if p < 200 then (4, (p - 16) % 8) else if p = 200 then (5, 0)
    else if p = 206 then (6, 0) else if p = 207 then (7, 0) else (8, 0)

/-- The parent changes: 1 down, 2 silent, 3 grandmaster (09 Table 9.14). -/
def State.setParent (s : State) (p : Option Nat) (cause : Nat) : State :=
  if s.tim.parent = p then s
  else
    let old := parentCode s.tim.parent
    let new := parentCode p
    let s : State := { s with tim := { s.tim with parent := p, run := 0, soughtAt := s.now } }
    ((s.set 0 F.TIM_STATUS_PARENT new.1).set 0 F.TIM_STATUS_SLOT new.2).raise 0 32 0x603 1
      [(1, old.1), (1, new.1), (1, new.2), (1, cause)]

/-- The candidate links of R260, by order of choice among equals. -/
def State.candidates (s : State) : List (Nat × TLink) :=
  let gm := s.get 0 F.TIM_GM_GM
  let sides := ([0, 1, 2, 3].filter fun l => s.sideUp (l / 2) (l % 2) && (s.tlink l).gm == gm).map fun l => (l, s.tlink l)
  let plies := if s.flag 0 F.TIM_CFG_PLY_PARENT_EN then
      (List.range s.part.dies).flatMap fun d => ((s.die d).plies.filter fun p =>
        s.plyActive d p.1 && s.flag d F.PLY_LINK_PEER_CAP_TICK p.1 &&
        s.get d F.PLY_LINK_PEER_FAR_BASIN p.1 == s.get 0 F.SHL_ID_BASIN_ID).map fun p => (plyLink d p.1, s.tlink (plyLink d p.1))
    else []
  let strand := if s.flag 0 F.TIM_CFG_TIM_PARENT_EN && (s.tlink 200).gm == gm then [(200, s.tlink 200)] else []
  (sides ++ plies ++ strand).filter fun p => p.2.heard && p.2.traceable && p.2.hops != 255 &&
    (match p.2.sampleAt with
     | some t => decide (s.now < t + ms 1)
     | none => true)

/-- The candidate with the lowest far HOPS. -/
def State.bestParent (s : State) : Option (Nat × TLink) := largestBy (fun p => -(p.2.hops : Int)) s.candidates

/-- TIME_HOLDOVER: the hub becomes grandmaster in holdover (09 R261). -/
def State.holdover (s : State) : State :=
  let s : State := { s with tim := { s.tim with lostAt := s.now } }
  let s := ((s.set 0 F.TIM_STATUS_STATE 3).set 0 F.TIM_STATUS_HOPS 0).setGm s.hubAddr 7 s.ownPrio
  s.raise 0 32 0x604 2 [(1, 7)]

/-- The hub becomes a grandmaster with a CLASS (09 R259); an untraceable one starts at 1 s 0 ns (09 Table 9.4). -/
def State.becomeGm (s : State) (cls : Nat) : State :=
  let s := ((s.set 0 F.TIM_STATUS_STATE 4).set 0 F.TIM_STATUS_HOPS 0).setGm s.hubAddr cls s.ownPrio
  if s.clock.traceable then s else s.stepTo 1000000000000

/-- The hub follows its parent's grandmaster. -/
def State.follow (s : State) (x : TLink) : State :=
  let s := s.set 0 F.TIM_STATUS_HOPS (min 255 (x.hops + 1))
  if s.get 0 F.TIM_STATUS_STATE = 1 ∨ s.get 0 F.TIM_STATUS_STATE = 2 then s
  else s.set 0 F.TIM_STATUS_STATE 1

/-- The parent is gone or another is wanted (09 R260, R261). -/
def State.seekParent (s : State) (cause : Nat) : State :=
  match s.bestParent with
  | some p => (s.setParent (some p.1) cause).follow p.2
  | none =>
    let s := s.setParent none cause
    if s.tim.wasLocked && s.outranks 7 && s.get 0 F.TIM_STATUS_STATE != 3 && s.get 0 F.TIM_STATUS_STATE != 4 then s.holdover
    else s

/-- The grandmaster is elected from what the hub hears (09 R259). -/
def State.elect (s : State) : State :=
  let st := s.get 0 F.TIM_STATUS_STATE
  if s.outranks s.ownClass then
    if st = 3 ∨ (st = 4 ∧ s.get 0 F.TIM_GM_GM = s.hubAddr) then s
    else
      let s := match s.tim.parent with
        | some p => if p < 206 then s.setParent none 3 else s
        | none => s
      if s.tim.wasLocked ∧ s.ownClass = 248 then s.holdover else s.becomeGm s.ownClass
  else
    match s.bestAdvert with
    | none => s
    | some x =>
      let changed := s.get 0 F.TIM_GM_GM != x.gm
      let s := s.setGm x.gm x.cls x.prio
      let s := if st = 3 ∨ st = 4 then s.set 0 F.TIM_STATUS_STATE 1 else s
      match s.tim.parent with
      | some p => if 206 ≤ p ∨ changed then s.seekParent 3 else s
      | none => s.seekParent 3

/-- A link has gone down; the parent is replaced if it was the one (09 R260). -/
def State.linkLost (s : State) (l : Nat) : State :=
  let s := s.modLink l fun x => { x with heard := false, sent := [], arrivals := [], delays := [], sampleAt := none }
  if s.tim.parent = some l then (s.seekParent 1).elect else s

/-! The servo (09 R261). -/

/-- A sample of the parent or the reference in use: the far clock is `offset` sixteenths ahead. -/
def State.servo (s : State) (offset : Int) : State :=
  let s := s.set 0 F.TIM_OFFSET_OFFSET (unsigned 32 (clampSigned 32 offset))
  let ref := match s.tim.parent with
    | some p => decide (206 ≤ p)
    | none => false
  if !s.clock.traceable ∨ 16 * (s.get 0 F.TIM_STEP_STEP_NS : Int) < offset.natAbs then
    let s := if ref then s else s.set 0 F.TIM_STATUS_STATE 1
    s.stepTo ((s.now : Int) + q16Ps offset).toNat
  else
    let run := if offset.natAbs ≤ 160 then min 16 (s.tim.run + 1) else 0
    let locks := run == 16 && s.tim.run != 16
    let s : State := { s with tim := { s.tim with run := run, wasLocked := s.tim.wasLocked || run == 16 } }
    if locks then
      let s := if ref then s else s.set 0 F.TIM_STATUS_STATE 2
      s.raise 0 32 0x601 1 [(1, s.get 0 F.TIM_STATUS_PARENT), (1, s.get 0 F.TIM_STATUS_HOPS), (1, s.get 0 F.TIM_STATUS_CLASS)]
    else s

/-! Samples (09 R256). -/

/-- The mean delay of a link in sixteenths, 0 while unknown. -/
def TLink.meanDelay (x : TLink) : Int :=
  if x.delays.isEmpty then 0 else x.delays.foldl (· + ·) 0 / (x.delays.length : Int)

/-- A timing message arrives: its arrival is kept, and with the four times at hand a sample (offset, delay, number of our message,
number of theirs) follows. `corr` and `asym` are taken off the offset. -/
def State.timeSample (s : State) (l : Nat) (b : List Byte) (corr : Nat → Nat → Int) (asym : Int) :
    State × Option (Int × Nat × Nat) :=
  let x := s.tlink l
  let n := numAt b 2 2
  let t := q16 s.now
  let flags := byteAt b 1
  let prev := (n + 65535) % 65536
  let t1 := (List.find? (fun p => p.1 == numAt b 14 2) x.sent).map (·.2)
  let t4 := (List.find? (fun p => p.1 == prev) x.arrivals).map (·.2)
  let s := s.modLink l fun x => { x with arrivals := ((n, t) :: x.arrivals).take 16, traceable := bit flags 2 }
  match t1, t4 with
  | some t1, some t4 =>
    if !(bit flags 0 && bit flags 1) then (s, none)
    else
      let t2 := qOf (numAt b 16 8) (byteAt b 24)
      let t3 := qOf (numAt b 4 8) (byteAt b 12)
      let delay : Int := (((t4 : Int) - t1) - ((t3 : Int) - t2)) / 2
      let offset : Int := (((t2 : Int) - t1) - ((t4 : Int) - t3)) / 2 - corr (numAt b 14 2) prev - asym
      let len : Int := x.delays.length
      if !x.delays.isEmpty && decide (320 * len < (delay * len - x.delays.foldl (· + ·) 0).natAbs) then
        let s := s.bump 0 F.TIM_SAMPLE_REJECT_COUNT
        (s.modLink l fun x => { x with rejects := x.rejects + 1, delays := if x.rejects + 1 = 8 then [] else x.delays }, none)
      else
        (s.modLink l fun x => { x with rejects := 0, delays := (delay :: x.delays).take 64, sampleAt := some s.now },
          some (offset, numAt b 14 2, prev))
  | _, _ => (s, none)

end Sys2Proof.Machine
end

