-- ==== Sys2Proof/Machine/LineHooks.lean ====
section
/-! DEFINITION. What follows from a ply link going down or coming up in the other parts of a die, and what a transmit
direction owes (05 R144; 04 R113 to R115). -/

namespace Sys2Proof.Machine

/-- What a ply leaving ACTIVE brings about: credit cleared, partial frames discarded (05 R144). -/
def State.plyWentDown (s : State) (d k : Nat) : State :=
  let id := s.plyId d k
  let s := s.modPly d k fun p => { p with credit := {}, resync := false }
  (s.entries.foldl (fun s p => if p.2.isOpen && p.2.fromPly == id then s.closeFrame p.1 2 else s) s).linkLost (plyLink d k)

/-- What a ply entering ACTIVE brings about: credit counters at 0, the first CREDIT due at once (05 R124, R140). -/
def State.plyCameUp (s : State) (d k : Nat) : State :=
  (s.modPly d k fun p => { p with credit := { due := s.now }, resync := false }).watchCredit d k

/-- A segment queued for a transmit direction, or a CREDIT owed for a lossless class (04 R113, R115). -/
def State.owesWork (s : State) (d k : Nat) : Bool :=
  ((List.range 16).any fun q => !(s.queue (512 * d + 16 * k + q)).units.isEmpty) || s.creditOwed d k false

/-- What a refresh burst carries: a TICK where one is carried, and any owed CREDIT (04 R114; 09 R255). -/
def State.refreshBlocks (s : State) (d k : Nat) : State :=
  let s := if s.flag d F.PLY_LINK_PEER_CAP_TICK k then s.sendTick d k (ns 62500) else s
  if s.creditOwed d k true then s.sendCredit d k else s

end Sys2Proof.Machine
end

