-- ==== Sys2Proof/Machine/Lanes.lean ====
section
/-! DEFINITION. Line lanes (04): the bring-up states and their timers, rate resolution, equalisation, FEC counting,
alignment, exchange, leaving ACTIVE, direction sleep and modules. -/

namespace Sys2Proof.Machine

/-! Entering and leaving states. -/

/-- The lanes of a ply with their link state gone: no lock, no framing, no rate, no precoding, polarity unknown. -/
def State.laneIdle (s : State) (d k : Nat) : State :=
  let s := (s.setLanes d k F.LN_STATUS_CDR_LOCK 0).setLanes d k F.LN_STATUS_BLOCK_LOCK 0
  let s := (s.setLanes d k F.LN_STATUS_FEC_FRAMED 0).setLanes d k F.LN_STATUS_RATE 3
  let s := (s.setLanes d k F.LN_STATUS_PRECODE_TX 0).setLanes d k F.LN_STATUS_PRECODE_RX 0
  let s := s.setLanes d k F.LN_STATUS_POLARITY_INV 0
  let s := (s.plyLanes d k).foldl (fun s n => s.modLane d n fun x =>
    { corrWindow := x.corrWindow, lowWindows := x.lowWindows, degraded := x.degraded }) s
  (s.set d F.PLY_LINK_STATE_RATE 3 k).modPly d k fun p =>
    { p with deskewed := false, farDeskewed := false, fecSent := false, fecGot := false, lastExch := [], exchRun := 0,
             ackSent := false, ackGot := false, calSent := false, calGot := false }

/-- The timer of a state of Table 4.6, in picoseconds; QUIET's is set by what enters it. -/
def stateTimer : Nat → Nat
  | 0 => us 100
  | 2 => ms 200
  | 3 => ms 2
  | 4 => ms 1
  | 5 => ms 10
  | _ => us 50

/-- A state is entered with its timer (04 Table 4.6). -/
def State.enterState (s : State) (d k st : Nat) : State :=
  let s := s.set d F.PLY_LINK_STATE_STATE st k
  let s := s.modPly d k fun p => { p with deadline := s.now + stateTimer st }
  let s := if st = 5 then (s.modLink (plyLink d k) fun _ => { due := s.now }).set d F.PLY_LINK_TCAL_CAL_OK 0 k else s
  if st = 0 then s.setLanes d k F.LN_STATUS_DETECTED 0 else s

/-- QUIET for 50 µs plus a back-off. -/
def State.enterQuiet (s : State) (d k backoff : Nat) (fromDetect : Bool) : State :=
  let s := (s.laneIdle d k).enterState d k 1
  s.modPly d k fun p => { p with deadline := s.now + us 50 + backoff, fromDetect := fromDetect }

/-- The jitter of a back-off, 0 µs to 255 µs: the LFSR's form is open, so it is a free value (04 R103; log entry 3). -/
def State.jitter (s : State) : Nat := us (s.draw % 256)

/-- A power of two. -/
def isPow2 (n : Nat) : Bool := (List.range 9).any fun k => n == 2 ^ k

/-- An exit to QUIET with back-off (04 R103). `fixed` replaces the formula by 256 ms (04 R110); `always` raises the event
whatever ATTEMPTS is (04 R105). -/
def State.quietBackoff (s : State) (d k cause mask : Nat) (fixed always : Bool) : State :=
  let rate := s.plyRate d k
  let before := s.get d F.PLY_LINK_STATE_ATTEMPTS k
  let n := satAdd 255 before 1
  let back := if fixed then 256 else min (2 ^ (n - 1)) 256
  let j := s.jitter
  let s := s.drawn
  let s := (s.set d F.PLY_LINK_STATE_ATTEMPTS n k).set d F.PLY_LINK_STATE_LAST_FAIL cause k
  let s := s.enterQuiet d k (ms back + j) false
  if always || (cause != 1 && n != before && isPow2 n) then
    s.raise d k 0x104 2 [(1, s.plyId d k), (1, cause), (1, rate), (1, n), (2, back), (1, mask)]
  else s

/-- PLY_DOWN (04 Table 4.18). -/
def State.plyDownEvent (s : State) (d k cause : Nat) : State :=
  s.raise d k 0x102 2 [(1, s.plyId d k), (1, cause), (2, 0), (8, s.pair d Reg.PLY_LINK_UP_LO Reg.PLY_LINK_UP_HI k),
    (4, ((s.ply? d k).map (·.uncorr)).getD 0)]

/-- What ends with ACTIVE (04 R103, R112). -/
def State.endActive (s : State) (d k cause : Nat) : State :=
  let s := s.plyDownEvent d k cause
  let s := (s.set d F.PLY_LINK_STATE_LAST_FAIL cause k).set d F.PLY_LINK_STATE_ATTEMPTS 0 k
  let s := (s.set d F.PLY_LINK_SLEEP_TX_STATE 3 k).set d F.PLY_LINK_SLEEP_RX_STATE 3 k
  s.plyWentDown d k

/-- ACTIVE is left for QUIET, with a back-off of jitter only (04 R103, R112). -/
def State.leaveActive (s : State) (d k cause : Nat) : State :=
  let j := s.jitter
  (s.drawn.endActive d k cause).enterQuiet d k j false

/-- An exit to QUIET that no rule marks as one with back-off: a failed deskew (04 R101), RETRAIN of a ply that is not ACTIVE (04 Table
4.16). -/
def State.quietPlain (s : State) (d k cause : Nat) : State :=
  (s.set d F.PLY_LINK_STATE_LAST_FAIL cause k).enterQuiet d k 0 false

/-- The cage of a lane, where the image binds one (04 R116). -/
def State.laneCage (s : State) (d n : Nat) : Option Nat :=
  let c := s.get d F.LN_CFG_CAGE n
  if c < 4 then some c else none

/-- The cages with a module that a ply's lanes use. -/
def State.plyCages (s : State) (d k : Nat) : List Nat :=
  ((s.plyLanes d k).filterMap (s.laneCage d)).filter fun m => s.flag d F.MOD_CAGE_STATUS_PRESENT m

/-- The slots of the plies that use a cage. -/
def State.cageSlots (s : State) (d m : Nat) : List Nat :=
  ((s.die d).plies.map (·.1)).filter fun k => (s.plyLanes d k).any fun n => s.laneCage d n == some m

/-- FORCE_LOWPWR holds the ply in DETECT (04 R117). -/
def State.heldLow (s : State) (d k : Nat) : Bool := (s.plyCages d k).any fun m => s.flag d F.MOD_CAGE_CTL_FORCE_LOWPWR m

/-- A condition of a ply link decided in its PLYI island (04 R102). -/
def onPly (a : At) (k : Nat) (s : State) (f : State → Ply → State) : Out :=
  onIsland a 8 (k < 8) s fun s =>
    match s.ply? a.die k with
    | some p => f s p
    | none => s

/-- A timer of Table 4.6 has expired in its state. -/
def State.timedOut (s : State) (d k st : Nat) (p : Ply) : Bool := s.plyState d k == st && fallen s p.deadline

/-! DETECT and QUIET. -/

/-- PLY_DETECT_DONE (04 R102, R117): the normal exit of DETECT. -/
def execPlyDetectDone (a : At) (k : Nat) (s : State) : Out :=
  onPly a k s fun s p =>
    let ready := (s.plyCages a.die k).all fun m =>
      (s.cage a.die m).dataPath && !s.flag a.die F.MOD_CAGE_FLAGS_RX_LOS m
    if s.plyState a.die k == 0 && inTime a s p.deadline && ready && !s.heldLow a.die k then
      let s := s.plyNear a k p.deadline
      (s.setLanes a.die k F.LN_STATUS_DETECTED 1).enterQuiet a.die k 0 true
    else s

/-- DETECT_TIMEOUT (04 Table 4.6). -/
def execDetectTimeout (a : At) (k : Nat) (s : State) : Out :=
  onPly a k s fun s p =>
    if s.timedOut a.die k 0 p && !s.heldLow a.die k then s.quietBackoff a.die k 1 0 false false else s

/-- QUIET_END (04 Table 4.6): TRAIN if entered from DETECT, otherwise DETECT. -/
def execQuietEnd (a : At) (k : Nat) (s : State) : Out :=
  onPly a k s fun s p =>
    if s.timedOut a.die k 1 p then s.enterState a.die k (if p.fromDetect then 2 else 0) else s

/-! TRAIN. -/

/-- TRAIN_TIMEOUT (04 Table 4.6): the rate under equalisation joins FAILED. -/
def execTrainTimeout (a : At) (k : Nat) (s : State) : Out :=
  onPly a k s fun s p =>
    if s.timedOut a.die k 2 p then
      let rate := s.plyRate a.die k
      let late := (s.plyLanes a.die k).foldl (fun m n => if (s.lane a.die n).trained then m else setBit m n) 0
      let failed := setBit (s.get a.die F.PLY_LINK_STATE_FAILED k) rate
      let s := s.quietBackoff a.die k 2 late false false
      if rate = 3 then s
      else (s.set a.die F.PLY_LINK_STATE_FAILED failed k).raise a.die k 0x105 1
        [(1, s.plyId a.die k), (1, rate), (1, failed)]
    else s

/-- The rate codes a ply may use: its record's, less those for which no module application matches (04 R117). -/
def State.ownRates (s : State) (d k : Nat) (p : Ply) : Nat :=
  (s.plyCages d k).foldl (fun r m => r &&& (s.cage d m).appRates) (p.cfg.rates % 8)

/-- The preset that INIT_PRESET names: |c(−1)| and |c(1)| in steps of 0.025 (04 R105). -/
def presetTaps (preset : Nat) : Nat × Nat := if preset = 1 then (0, 0) else (2, 6)

/-- A lane's transmit taps set to a preset. -/
def State.setTaps (s : State) (d n preset : Nat) : State :=
  (s.set d F.LN_TX_COEF_C_PRE (presetTaps preset).1 n).set d F.LN_TX_COEF_C_POST (presetTaps preset).2 n

/-- The 64 bits of a rate frame, bit 63 first. -/
def bitsDown (w n : Nat) : List Bool := (List.range n).map fun i => bit w (n - 1 - i)

/-- A rate frame is valid (04 Table 4.7). -/
def rateFrameOk (w : Nat) : Bool :=
  bits w 63 48 == 0xE41D && bits w 15 0 == crc16Bits (bitsDown (w / 2 ^ 16) 48)

/-- The rate of a set of codes: the fastest, code 0 before 1 before 2 (04 R105, Table 4.14). -/
def fastest (codes : Nat) : Option Nat := lowestBit 3 codes

/-- Every lane has resolved: equalisation starts at the chosen rate, or there is none in common (04 R105). -/
def State.resolveRate (s : State) (d k : Nat) (p : Ply) (w : Nat) : State :=
  let own := s.ownRates d k p
  let failed := s.get d F.PLY_LINK_STATE_FAILED k ||| bits w 44 42
  match fastest ((own &&& bits w 47 45) &&& (7 - failed % 8)) with
  | none => (s.set d F.PLY_LINK_STATE_FAILED 0 k).quietBackoff d k 3 0 false true
  | some r =>
    let s := (s.set d F.PLY_LINK_STATE_RATE r k).setLanes d k F.LN_STATUS_RATE r
    (s.plyLanes d k).foldl (fun s n => s.setTaps d n (s.get d F.LN_CFG_INIT_PRESET n)) s

/-- RATE_FRAME_RECEIVE (04 R105): frame `w` on a lane that has sent `sent` frames with ACK. -/
def execRateFrameReceive (a : At) (k lane w sent : Nat) (s : State) : Out :=
  onPly a k s fun s p =>
    if s.plyState a.die k == 2 && s.plyRate a.die k == 3 && inTime a s p.deadline && bit p.cfg.mask lane && rateFrameOk w then
      let s := s.modLane a.die lane fun x =>
        let run := if x.frameRun != 0 && x.lastFrame == w then x.frameRun + 1 else 1
        let ack := x.ack || decide (4 ≤ run)
        let got := x.gotAck || bit w 41
        { x with lastFrame := w, frameRun := min run 4, ack := ack, gotAck := got,
                 resolved := x.resolved || (ack && got && decide (8 ≤ sent)) }
      if s.allLanes a.die k fun n => (s.lane a.die n).resolved then s.resolveRate a.die k p w else s
    else s

/-- What a tap answers to a request, and the tap (04 R105): 1 INC towards 0, 2 DEC; the status returns to NOT_UPDATED on
HOLD, and a request already answered changes nothing more. -/
def tapStep (top req status c : Nat) : Nat × Nat :=
  if req = 1 then (if status ≠ 0 then (status, c) else if c = 0 then (3, c) else (1, c - 1))
  else if req = 2 then (if status ≠ 0 then (status, c) else if top ≤ c then (2, c) else (1, c + 1))
  else (0, c)

/-- TRAINING_FRAME_RECEIVE (04 R105): control and status words, their check, whether the marker came inverted, whether the
receiver is ready, and how many frames with RX_READY were sent since the far RX_READY. -/
def execTrainingFrameReceive (a : At) (k lane ctl stat chk : Nat) (inv ready : Bool) (sent : Nat) (s : State) : Out :=
  onPly a k s fun s p =>
    if s.plyState a.die k == 2 && s.plyRate a.die k != 3 && inTime a s p.deadline && bit p.cfg.mask lane &&
        chk == crc16Bits (bitsDown (ctl % 2 ^ 16) 16 ++ bitsDown (stat % 2 ^ 16) 16) then
      let d := a.die
      let s := if inv then s.set d F.LN_STATUS_POLARITY_INV 1 lane else s
      let init := bits ctl 9 8
      let s := if init = 1 ∨ init = 2 then s.setTaps d lane init else s
      let x := s.lane d lane
      let post := tapStep 14 (bits ctl 5 4) x.postStatus (s.get d F.LN_TX_COEF_C_POST lane)
      let pre := tapStep 10 (bits ctl 1 0) x.preStatus (s.get d F.LN_TX_COEF_C_PRE lane)
      let s := (s.set d F.LN_TX_COEF_C_POST post.2 lane).set d F.LN_TX_COEF_C_PRE pre.2 lane
      let s := s.modLane d lane fun x =>
        let far := x.farReady || bit stat 15
        { x with postStatus := post.1, preStatus := pre.1, ready := ready, farReady := far,
                 trained := x.trained || (far && ready && decide (16 ≤ sent)) }
      if s.allLanes d k fun n => (s.lane d n).trained then (s.plyNear a k p.deadline).enterState d k 3 else s
    else s

/-! LOCK. -/

/-- Lanes of a ply without block lock, as a mask. -/
def State.unlocked (s : State) (d k : Nat) : Nat :=
  (s.plyLanes d k).foldl (fun m n => if s.flag d F.LN_STATUS_BLOCK_LOCK n then m else setBit m n) 0

/-- LANE_BLOCK_LOCK (04 R106): 64 valid headers in a row lock the boundary; with every lane the ply goes to ALIGN. -/
def execLaneBlockLock (a : At) (k lane : Nat) (s : State) : Out :=
  onPly a k s fun s p =>
    let st := s.plyState a.die k
    if 3 ≤ st ∧ st ≤ 5 ∧ inTime a s p.deadline = true ∧ bit p.cfg.mask lane = true then
      let s := (s.set a.die F.LN_STATUS_CDR_LOCK 1 lane).set a.die F.LN_STATUS_BLOCK_LOCK 1 lane
      let s := s.modLane a.die lane fun x => { x with invalid := [] }
      if st = 3 ∧ s.unlocked a.die k = 0 then (s.plyNear a k p.deadline).enterState a.die k 4 else s
    else s

/-- LANE_HUNT_FAIL (04 R106): four passes of offsets without lock. -/
def execLaneHuntFail (a : At) (k lane examined : Nat) (s : State) : Out :=
  onPly a k s fun s p =>
    let st := s.plyState a.die k
    if 3 ≤ st ∧ st ≤ 5 ∧ bit p.cfg.mask lane = true ∧ s.flag a.die F.LN_STATUS_BLOCK_LOCK lane = false then
      let s := s.raise a.die lane 0x103 2 [(1, s.plyId a.die k), (1, lane), (1, s.plyRate a.die k), (1, 0), (4, examined)]
      s.quietBackoff a.die k 4 (2 ^ lane) false false
    else s

/-- LOCK_TIMEOUT (04 Table 4.6). -/
def execLockTimeout (a : At) (k : Nat) (s : State) : Out :=
  onPly a k s fun s p =>
    if s.timedOut a.die k 3 p then s.quietBackoff a.die k 5 (s.unlocked a.die k) false false else s

/-- INVALID_HEADER_BLOCK (04 R95, R106, R112): the block is discarded and counted; `gap` valid headers stood between it and
the lane's last invalid one. 16 in any 64 lose the lock. -/
def execInvalidHeaderBlock (a : At) (k lane gap : Nat) (s : State) : Out :=
  onPly a k s fun s p =>
    if bit p.cfg.mask lane && s.flag a.die F.LN_STATUS_BLOCK_LOCK lane then
      let s := s.bump a.die F.LN_HDR_ERR_COUNT 1 lane
      let ages := 0 :: (((s.lane a.die lane).invalid.map (· + gap + 1)).filter (· < 64))
      let s := s.modLane a.die lane fun x => { x with invalid := ages }
      if ages.length < 16 then s
      else if s.plyState a.die k = 6 then
        (if s.rxState a.die k = 0 then s.leaveActive a.die k 11 else s)
      else (s.set a.die F.LN_STATUS_BLOCK_LOCK 0 lane).modLane a.die lane fun x => { x with invalid := [] }
    else s

/-! FEC. -/

/-- FEC_CODEWORD_DECODE (04 R98): `some n` symbols corrected, or uncorrectable. -/
def execFecCodewordDecode (a : At) (k lane : Nat) (errs : Option Nat) (s : State) : Out :=
  onPly a k s fun s p =>
    let d := a.die
    if bit p.cfg.mask lane && s.flag d F.LN_STATUS_FEC_FRAMED lane then
      match errs.filter (· ≤ 15) with
      | some n =>
        let s := (s.bump d F.LN_FEC_CORR_COUNT n lane).bump d F.LN_FEC_HIST_COUNT 1 lane n
        s.modLane d lane fun x => { x with corrWindow := x.corrWindow + n, fecRun := 0 }
      | none =>
        let s := s.bump d F.LN_FEC_UNCORR_COUNT 1 lane
        let s := s.modLane d lane fun x => { x with fecRun := x.fecRun + 1 }
        let due : Bool := match p.uncorrAt with
          | none => true
          | some t => decide (t + ms 1 ≤ s.now)
        let s := s.modPly d k fun p =>
          { p with uncorr := satAdd 0xFFFFFFFF p.uncorr 1, uncorrNew := if due then 0 else satAdd 0xFFFFFFFF p.uncorrNew 1,
                   uncorrAt := if due then some s.now else p.uncorrAt }
        let s : State := if due then
            s.raise d lane 0x10A 2 [(1, s.plyId d k), (1, lane), (2, 0), (4, satAdd 0xFFFFFFFF p.uncorrNew 1)]
          else s
        if s.plyState d k == 6 && decide (8 ≤ (s.lane d lane).fecRun) then s.leaveActive d k 13 else s
    else s

/-- FEC_WINDOW_END (04 R98): a 1 ms window ends with the lane's SNR measured. -/
def execFecWindowEnd (a : At) (k lane snr : Nat) (s : State) : Out :=
  onPly a k s fun s p =>
    let d := a.die
    if bit p.cfg.mask lane then
      let s := s.set d F.LN_STATUS_SNR (min snr 255) lane
      let x := s.lane d lane
      let t := s.get d F.LN_DEGRADE_DEGRADE_THRESH lane
      if t ≠ 0 ∧ t < x.corrWindow then
        (s.modLane d lane fun x => { x with corrWindow := 0, lowWindows := 0, degraded := true }).raise d lane 0x108 2
          [(1, s.plyId d k), (1, lane), (1, min snr 255), (1, 0), (4, x.corrWindow)]
      else
        let low := if 2 * x.corrWindow < t then x.lowWindows + 1 else 0
        if x.degraded = true ∧ 100 ≤ low then
          (s.modLane d lane fun x => { x with corrWindow := 0, lowWindows := 0, degraded := false }).raise d lane 0x109 1
            [(1, s.plyId d k), (1, lane), (1, min snr 255)]
        else s.modLane d lane fun x => { x with corrWindow := 0, lowWindows := min low 100 }
    else s

/-! ALIGN. -/

/-- The spread between the earliest and the latest lane of a deskew, and the latest lane (04 R101). -/
def State.spread (s : State) (d k : Nat) : Nat × Nat :=
  let at' := (s.plyLanes d k).map fun n => ((s.lane d n).alignAt, n)
  let first := at'.foldl (fun m p => min m p.1) (at'.headD (0, 0)).1
  let last := at'.foldl (fun m p => if m.1 < p.1 then p else m) (at'.headD (0, 0))
  (last.1 - first, last.2)

/-- Both directions are framed: EXCHANGE (04 R107). -/
def State.alignDone (s : State) (a : At) (k : Nat) (p : Ply) : State :=
  match s.ply? a.die k with
  | some q => if q.fecSent && q.fecGot && inTime a s p.deadline then (s.plyNear a k p.deadline).enterState a.die k 5 else s
  | none => s

/-- What an ALIGN block brings in ALIGN state (04 R101, R107). -/
def State.takeAlign (s : State) (a : At) (k lane : Nat) (p : Ply) (b : List Byte) : State :=
  let d := a.die
  let seq := numAt b 4 4
  let s := s.modLane d lane fun x => { x with alignSeq := some seq, alignAt := s.now }
  let s := if bit (byteAt b 3) 1 then s.set d F.LN_STATUS_FEC_FRAMED 1 lane else s
  let same := s.allLanes d k fun n => (s.lane d n).alignSeq == some seq
  let sp := s.spread d k
  if same && decide (ns 160 < sp.1) then
    let id := s.plyId d k
    (s.quietPlain d k 7).raise d k 0x107 2 [(1, id), (1, sp.2), (2, sp.1 / 1000)]
  else
    let framed := s.allLanes d k fun n => s.flag d F.LN_STATUS_FEC_FRAMED n
    let s := s.modPly d k fun q =>
      { q with deskewed := q.deskewed || same, farDeskewed := q.farDeskewed || bit (byteAt b 3) 0,
               fecGot := q.fecGot || framed }
    let send := match s.ply? d k with
      | some q => q.deskewed && q.farDeskewed && !q.fecSent
      | none => false
    let s := if send then (s.modPly d k fun q => { q with fecSent := true }).emit (.align d k 3) else s
    s.alignDone a k p

/-- ALIGN_BLOCK_RECEIVE (04 R100, R101, R107, R111). -/
def execAlignBlockReceive (a : At) (k lane : Nat) (b : List Byte) (s : State) : Out :=
  onPly a k s fun s p =>
    if bit p.cfg.mask lane && s.flag a.die F.LN_STATUS_BLOCK_LOCK lane then
      s.takeBlock a k 5 b ([1, 2, 4, 8].contains (byteAt b 2)) fun s p =>
        let st := s.plyState a.die k
        if st = 4 then s.takeAlign a k lane p b
        else if bit (byteAt b 3) 2 && s.plyRate a.die k != 2 then s.set a.die F.LN_STATUS_PRECODE_RX 1 lane
        else s
    else s

/-- ALIGN_TIMEOUT (04 Table 4.6). -/
def execAlignTimeout (a : At) (k : Nat) (s : State) : Out :=
  onPly a k s fun s p =>
    if s.timedOut a.die k 4 p then
      let late := (s.plyLanes a.die k).foldl
        (fun m n => if s.flag a.die F.LN_STATUS_FEC_FRAMED n then m else setBit m n) 0
      s.quietBackoff a.die k 6 late false false
    else s

/-- ALIGN_LOST (04 R112): the ALIGN block was missing or out of its slot in two consecutive periods. -/
def execAlignLost (a : At) (k : Nat) (s : State) : Out :=
  onPly a k s fun s _ =>
    if s.plyActive a.die k && s.rxState a.die k == 0 then s.leaveActive a.die k 12 else s

/-! EXCHANGE. -/

/-- The interval between a direction's refresh bursts (04 Table 4.11). -/
def State.refreshEvery (s : State) (d k target : Nat) : Nat :=
  if target = 1 then us (s.get d F.PLY_LINK_SLEEP_DOZE_REFRESH_US k) else ms 10

/-- The features settled when exchange completes (04 R109), from the far EXCH block. -/
def State.settle (s : State) (d k : Nat) (p : Ply) : State :=
  let b := p.lastExch
  let pam := s.plyRate d k != 2
  let farPre := bit (byteAt b 3) 0
  let sleep := p.cfg.sleep &&& byteAt b 6
  let s := ((s.set d F.PLY_LINK_PEER_FAR_BASIN (numAt b 12 2) k).set d F.PLY_LINK_PEER_FAR_HUB (numAt b 10 2) k).set
    d F.PLY_LINK_PEER_CAP_FAR_PLY (byteAt b 14) k
  let s := ((s.set d F.PLY_LINK_PEER_CAP_FAR_BRAID (byteAt b 15) k).set d F.PLY_LINK_PEER_CAP_FAR_DIE (byteAt b 16) k).set
    d F.PLY_LINK_PEER_CAP_FAR_RATES (byteAt b 4) k
  let s := (s.set d F.PLY_LINK_PEER_CAP_ENC (b2n (bit p.cfg.flags 0 && bit (byteAt b 8) 0)) k).set
    d F.PLY_LINK_PEER_CAP_TICK (b2n (bit p.cfg.flags 1 && bit (byteAt b 7) 0 && pam)) k
  let s := (s.set d F.PLY_LINK_PEER_CAP_NAP (b2n (bit sleep 1)) k).set d F.PLY_LINK_PEER_CAP_DOZE (b2n (bit sleep 0)) k
  (s.set d F.PLY_LINK_PEER_CAP_PRECODE_FAR (b2n farPre) k).setLanes d k F.LN_STATUS_PRECODE_TX (b2n (farPre && pam))

/-- ACTIVE is entered (04 R111). -/
def State.enterActive (s : State) (d k : Nat) (p : Ply) : State :=
  let s := s.settle d k p
  let before := s.get d F.PLY_LINK_STATE_ATTEMPTS k
  let rate := s.plyRate d k
  let s := ((s.set d F.PLY_LINK_STATE_STATE 6 k).set d F.PLY_LINK_STATE_ATTEMPTS 0 k).set d F.PLY_LINK_STATE_FAILED 0 k
  let s := (s.set d F.PLY_LINK_SLEEP_TX_STATE 0 k).set d F.PLY_LINK_SLEEP_RX_STATE 0 k
  let s := s.setPair d Reg.PLY_LINK_UP_LO Reg.PLY_LINK_UP_HI s.ts k
  let s := s.modPly d k fun p => { p with liveAt := s.now, sentAt := s.now, uncorr := 0, uncorrNew := 0, uncorrAt := none }
  let preTx := s.flag d F.LN_STATUS_PRECODE_TX k
  let preRx := p.cfg.precode == 1 && rate != 2
  let fl := b2n preTx + 2 * b2n preRx + 4 * s.get d F.PLY_LINK_PEER_CAP_TICK k + 8 * s.get d F.PLY_LINK_PEER_CAP_ENC k
  let s := s.raise d k 0x101 1 [(1, s.plyId d k), (1, rate), (1, before), (1, fl),
    (2, s.get d F.PLY_LINK_PEER_FAR_HUB k), (2, s.get d F.PLY_LINK_PEER_FAR_BASIN k), (1, s.get d F.PLY_LINK_PEER_CAP_FAR_PLY k)]
  (s.emit (.align d k (1 + 4 * b2n preTx))).plyCameUp d k

/-- The ACTIVE plies of a braid on any die, but for one slot. -/
def State.braidPartners (s : State) (d k braid : Nat) : List Ply :=
  (List.range s.part.dies).flatMap fun d' => (s.die d').plies.filterMap fun q =>
    if q.2.cfg.braid = braid ∧ braid ≠ 0xFF ∧ (d', q.1) ≠ (d, k) ∧ s.plyState d' q.1 = 6 then some q.2 else none

/-- Which checks of R110 the far identity fails: [0] hub, [1] Basin, [2] braid partner (04 Table 4.18). -/
def State.peerFault (s : State) (d k : Nat) (p : Ply) (b : List Byte) : Nat :=
  b2n (p.cfg.farHub != 0xFFFF && p.cfg.farHub != numAt b 10 2) +
  2 * b2n (p.cfg.farBasin != 0xFFFF && p.cfg.farBasin != numAt b 12 2) +
  4 * b2n ((s.braidPartners d k p.cfg.braid).any fun q => q.farSerial != numAt b 18 8)

/-- The far hub fails R110: QUIET for 256 ms, and one event for each distinct identity. -/
def State.peerMismatch (s : State) (d k : Nat) (p : Ply) (b : List Byte) (fault : Nat) : State :=
  let id := (numAt b 10 2, numAt b 12 2, numAt b 18 8)
  let s := s.quietBackoff d k 9 0 true false
  if p.reported.contains id then s
  else
    (s.modPly d k fun q => { q with reported := q.reported ++ [id] }).raise d k 0x106 3
      [(1, s.plyId d k), (1, fault), (2, 0), (2, id.1), (2, id.2.1), (2, p.cfg.farHub), (2, p.cfg.farBasin)]

/-- ACTIVE is entered once ACK and CAL_DONE have been sent and received, and the far hub passes R110 (04 R110, R111). -/
def State.tryActive (s : State) (a : At) (k : Nat) (deadline : Nat) : State :=
  match s.ply? a.die k with
  | some q =>
    if s.plyState a.die k == 5 && q.ackSent && q.ackGot && q.calSent && q.calGot && inTime a s deadline then
      let fault := s.peerFault a.die k q q.lastExch
      if fault ≠ 0 then s.peerMismatch a.die k q q.lastExch fault else (s.plyNear a k deadline).enterActive a.die k q
    else s
  | none => s

/-- The bytes of an EXCH block that must repeat: all but FLAGS and the CRC over it (04 R108). -/
def exchBody (b : List Byte) : List Byte := (b.take 30).set 2 0

/-- EXCH_BLOCK_RECEIVE (04 R108 to R111). -/
def execExchBlockReceive (a : At) (k : Nat) (b : List Byte) (s : State) : Out :=
  onPly a k s fun s _ =>
    s.takeBlock a k 7 b (byteAt b 1 != 0 && [1, 2, 4, 8].contains (byteAt b 9)) fun s p =>
      let d := a.die
      if s.plyState d k ≠ 5 then s
      else if byteAt b 5 ≠ s.plyRate d k then s.quietBackoff d k 8 0 false false
      else
        let run := if p.exchRun != 0 && p.lastExch == exchBody b then p.exchRun + 1 else 1
        let s := s.modPly d k fun p =>
          { p with lastExch := exchBody b, exchRun := min run 3, ackSent := p.ackSent || decide (3 ≤ run),
                   ackGot := p.ackGot || bit (byteAt b 2) 0, calGot := p.calGot || bit (byteAt b 2) 1,
                   farSerial := numAt b 18 8 }
        let fault := s.peerFault d k p b
        if 3 ≤ run ∧ fault ≠ 0 then s.peerMismatch d k p b fault else s.tryActive a k p.deadline

/-- EXCHANGE_TIMEOUT (04 Table 4.6). -/
def execExchangeTimeout (a : At) (k : Nat) (s : State) : Out :=
  onPly a k s fun s p =>
    if s.timedOut a.die k 5 p then s.quietBackoff a.die k 8 0 false false else s

/-! Leaving ACTIVE. -/

/-- LIVENESS (04 R112): 100 µs without a valid control block on an ACTIVE receive direction. -/
def execLiveness (a : At) (k : Nat) (s : State) : Out :=
  onPly a k s fun s p =>
    if s.plyActive a.die k && s.rxState a.die k == 0 && fallen s (p.liveAt + us 100) then s.leaveActive a.die k 14 else s

/-- SIGNAL_LOST (04 R102, R112): electrical idle for 1 µs on a lane; a sleeping receive direction suspends it (R113). -/
def execSignalLost (a : At) (k lane : Nat) (s : State) : Out :=
  onPly a k s fun s p =>
    let st := s.plyState a.die k
    if bit p.cfg.mask lane = false then s
    else if 2 ≤ st ∧ st ≤ 5 then s.quietBackoff a.die k 10 (2 ^ lane) false false
    else if st = 6 ∧ s.rxState a.die k = 0 then s.leaveActive a.die k 10
    else s

/-- A write of PLY_LINKk_CTL (04 R112): DISABLE 1 takes the ply to DISABLED from any state, DISABLE 0 takes it from there to
DETECT, and RETRAIN clears FAILED and sends it to QUIET. -/
def State.writePlyCtl (s : State) (d k : Nat) (v : Word) : State :=
  match s.ply? d k with
  | none => s
  | some _ =>
    let dis := wordGet v 31 31 == 1
    let st := s.plyState d k
    let s := s.set d F.PLY_LINK_CTL_DISABLE (b2n dis) k
    let s := if wordGet v 30 30 = 1 then s.set d F.PLY_LINK_STATE_FAILED 0 k else s
    if dis then
      let s := if st = 6 then s.endActive d k 17 else s
      (s.laneIdle d k).enterState d k 7
    else if st = 7 then (s.set d F.PLY_LINK_STATE_ATTEMPTS 0 k).enterState d k 0
    else if wordGet v 30 30 = 1 then (if st = 6 then s.leaveActive d k 17 else s.quietPlain d k 17)
    else s

/-- PLY_DISABLE (04 R112). -/
def execPlyDisable (a : At) (q : Req) (k : Nat) (v : Word) (s : State) : Out :=
  onWrite a q (0x0A0004 + 0x100 * k) v (k < 8) s fun s => s.writePlyCtl a.die k v

/-- PLY_ENABLE (04 R112, Table 4.6). -/
def execPlyEnable (a : At) (q : Req) (k : Nat) (v : Word) (s : State) : Out :=
  onWrite a q (0x0A0004 + 0x100 * k) v (k < 8) s fun s => s.writePlyCtl a.die k v

/-- PLY_RETRAIN (04 R112). -/
def execPlyRetrain (a : At) (q : Req) (k : Nat) (v : Word) (s : State) : Out :=
  onWrite a q (0x0A0004 + 0x100 * k) v (k < 8) s fun s => s.writePlyCtl a.die k v

/-! Direction sleep. -/

/-- The mode that the Spindle gave a transmit direction: 0 AWAKE, 1 DOZE_IDLE, 2 NAP_IDLE (08 Table 8.3). -/
def State.dirMode (s : State) (d k : Nat) : Nat := s.get d F.SPD_DIR_MODE_MODE k

/-- How long nothing must have been sent before the mode's sleep (08 Table 8.3). -/
def State.idleTime (s : State) (d mode : Nat) : Nat :=
  if mode = 1 then ns (s.get d F.SPD_SLEEP_DOZE_IDLE_NS) else us (100 * s.get d F.SPD_SLEEP_NAP_IDLE_100US)

/-- A SLEEP block (04 Table 4.12). -/
def State.sleepBlock (s : State) (d k target : Nat) (refresh : Bool) : List Byte :=
  sealBlock ([0x06, BitVec.ofNat 8 target, BitVec.ofNat 8 (b2n refresh), 0] ++
    leBytes 2 (if target = 1 then s.get d F.PLY_LINK_SLEEP_DOZE_REFRESH_US k else 0))

/-- A block sent in the same slot on every lane. -/
def State.onEveryLane (s : State) (d k : Nat) (b : List Byte) : State :=
  s.emits ((s.plyLanes d k).map fun n => .block d k n b)

/-- R109 allows a target on both directions. -/
def State.sleepAllowed (s : State) (d k target : Nat) : Bool :=
  if target = 1 then s.flag d F.PLY_LINK_PEER_CAP_DOZE k else s.flag d F.PLY_LINK_PEER_CAP_NAP k

/-- DIRECTION_SLEEP_ENTER (04 R113): the commit step, or an abort on work that is queued. -/
def execDirectionSleepEnter (a : At) (k : Nat) (s : State) : Out :=
  onIsland a 9 (k < 8) s fun s =>
    let d := a.die
    let mode := s.dirMode d k
    match s.ply? d k with
    | none => s
    | some p =>
      if s.plyActive d k && s.txState d k == 0 && (mode == 1 || mode == 2) && s.sleepAllowed d k mode &&
          fallen s (p.sentAt + s.idleTime d mode) then
        if s.owesWork d k then s.bump d F.PLY_LINK_SLEEP_CNT_ABORTS 1 k
        else
          let s := s.onEveryLane d k (s.sleepBlock d k mode false)
          let s := (s.set d F.PLY_LINK_SLEEP_TX_STATE mode k).wrap d F.PLY_LINK_SLEEP_CNT_ENTRIES k
          s.modPly d k fun p => { p with refreshAt := s.now + s.refreshEvery d k mode }
      else s

/-- The wake run and the ALIGN that ends it (04 R114). -/
def State.wakeRun (s : State) (d k : Nat) (refresh : Bool) : State :=
  s.emits [.wakeRun d k refresh, .align d k (3 + 4 * s.get d F.LN_STATUS_PRECODE_TX k)]

/-- DIRECTION_WAKE (04 R113 to R115): work, an owed CREDIT of a lossless class, or a mode of AWAKE. -/
def execDirectionWake (a : At) (k : Nat) (s : State) : Out :=
  onIsland a 9 (k < 8) s fun s =>
    let d := a.die
    let t := s.txState d k
    if s.plyActive d k && (t == 1 || t == 2) && (s.owesWork d k || s.dirMode d k == 0) then
      (s.wakeRun d k false).set d F.PLY_LINK_SLEEP_TX_STATE 0 k
    else s

/-- REFRESH_BURST (04 R114, R115). -/
def execRefreshBurst (a : At) (k : Nat) (s : State) : Out :=
  onIsland a 9 (k < 8) s fun s =>
    let d := a.die
    let t := s.txState d k
    match s.ply? d k with
    | none => s
    | some p =>
      if s.plyActive d k && (t == 1 || t == 2) && fallen s p.refreshAt then
        let s := (s.wakeRun d k true).refreshBlocks d k
        let s := s.onEveryLane d k (s.sleepBlock d k t true)
        s.modPly d k fun p => { p with refreshAt := s.now + s.refreshEvery d k t }
      else s

/-- SLEEP_BLOCK_RECEIVE (04 R113): the receive direction sleeps. -/
def execSleepBlockReceive (a : At) (k : Nat) (b : List Byte) (s : State) : Out :=
  onPly a k s fun s _ =>
    s.takeBlock a k 6 b (byteAt b 1 == 1 || byteAt b 1 == 2) fun s _ =>
      let every := if byteAt b 1 = 1 then us (numAt b 4 2) else ms 10
      (s.set a.die F.PLY_LINK_SLEEP_RX_STATE (byteAt b 1) k).modPly a.die k fun p =>
        { p with rxRefreshBy := s.now + 2 * every, resync := false }

/-- Twice the wake figure of Table 4.11, in picoseconds (04 R114). -/
def wakeLimit (rx rate : Nat) : Nat := if rx = 2 then us 40 else if rate = 2 then ns 3200 else us 2

/-- WAKE_RUN_RECEIVE (04 R114): the receiver is locked `took` picoseconds after the far end left idle. -/
def execWakeRunReceive (a : At) (k took : Nat) (s : State) : Out :=
  onPly a k s fun s _ =>
    let d := a.die
    let r := s.rxState d k
    let lim := wakeLimit r (s.plyRate d k)
    if s.plyActive d k && (r == 1 || r == 2) && decide (took < lim + a.cyc) then
      let s := if lim ≤ took then s.bump d F.PLY_LINK_NEAR_MISS_COUNT 1 k else s
      let s := s.set d F.PLY_LINK_SLEEP_RX_STATE 0 k
      let s := (s.plyLanes d k).foldl (fun s n => s.modLane d n fun x => { x with invalid := [], fecRun := 0 }) s
      s.modPly d k fun p => { p with liveAt := s.now }
    else s

/-- PLY_WAKE_FAIL (04 R114): the lanes of `unlocked` were not locked in time. -/
def execPlyWakeFail (a : At) (k unlocked : Nat) (s : State) : Out :=
  onPly a k s fun s _ =>
    let r := s.rxState a.die k
    if s.plyActive a.die k && (r == 1 || r == 2) then
      (s.leaveActive a.die k 15).raise a.die k 0x10B 2 [(1, s.plyId a.die k), (1, r), (1, unlocked)]
    else s

/-- REFRESH_TIMEOUT (04 R114): no refresh within twice the interval. -/
def execRefreshTimeout (a : At) (k : Nat) (s : State) : Out :=
  onPly a k s fun s p =>
    let r := s.rxState a.die k
    if s.plyActive a.die k && (r == 1 || r == 2) && fallen s p.rxRefreshBy then s.leaveActive a.die k 10 else s

/-! Modules. -/

/-- MODULE_INSERTED (04 R117): page 00h, the application selected, LowPwr cleared unless it is forced. -/
def execModuleInserted (a : At) (m ident rev sel appRates waitMs : Nat) (s : State) : Out :=
  onIsland a 41 (m < 4) s fun s =>
    let d := a.die
    let s := ((s.setWord d Reg.MOD_CAGE_STATUS 0 m).set d F.MOD_CAGE_STATUS_PRESENT 1 m).set
      d F.MOD_CAGE_STATUS_IDENTIFIER ident m
    let s := (s.set d F.MOD_CAGE_STATUS_CMIS_REV rev m).set d F.MOD_CAGE_STATUS_APP_SEL sel m
    let s := s.modCage d m fun _ =>
      { appRates := appRates % 8, staged := false, dataPath := false, readyBy := s.now + ms (min waitMs 60000) }
    let s := s.raise d m 0x10C 1 [(1, m), (1, ident), (1, rev), (1, sel)]
    if s.flag d F.MOD_CAGE_CTL_FORCE_LOWPWR m then s else s.emit (.moduleLowPower d m false)

/-- MODULE_READY (04 R117): ModuleReady is read, or the wait has ended; the data path is staged and applied. -/
def execModuleReady (a : At) (m state : Nat) (s : State) : Out :=
  onIsland a 41 (m < 4) s fun s =>
    let d := a.die
    if s.flag d F.MOD_CAGE_STATUS_PRESENT m && !s.flag d F.MOD_CAGE_CTL_FORCE_LOWPWR m &&
        (state == 3 || fallen s (s.cage d m).readyBy) then
      (s.set d F.MOD_CAGE_STATUS_MODULE_STATE state m).modCage d m fun c => { c with staged := true }
    else s

/-- The ACTIVE plies of a cage go down with cause MODULE (04 R117). -/
def State.cageDown (s : State) (d m : Nat) : State :=
  (s.cageSlots d m).foldl (fun s k => if s.plyActive d k then s.leaveActive d k 16 else s) s

/-- MODULE_POLL (04 R117): every 10 ms the module's state, flags and data path are read. -/
def execModulePoll (a : At) (m state flags : Nat) (dpOk : Bool) (s : State) : Out :=
  onIsland a 41 (m < 4) s fun s =>
    let d := a.die
    if s.flag d F.MOD_CAGE_STATUS_PRESENT m then
      let s := s.set d F.MOD_CAGE_STATUS_MODULE_STATE state m
      let s := s.setWord d Reg.MOD_CAGE_FLAGS (s.word d Reg.MOD_CAGE_FLAGS m ||| BitVec.ofNat 32 (flags &&& 0xFC)) m
      let s := s.modCage d m fun c => { c with dataPath := c.staged && dpOk }
      if bit flags 7 || bit flags 6 || bit flags 4 || state == 5 then
        (s.raise d m 0x10E 3 [(1, m), (1, state), (1, (s.word d Reg.MOD_CAGE_FLAGS m).toNat)]).cageDown d m
      else s
    else s

/-- MODULE_REMOVED (04 R117). -/
def execModuleRemoved (a : At) (m : Nat) (s : State) : Out :=
  onIsland a 41 (m < 4) s fun s =>
    if s.flag a.die F.MOD_CAGE_STATUS_PRESENT m then
      let s := (s.setWord a.die Reg.MOD_CAGE_STATUS 0 m).modCage a.die m fun _ => {}
      (s.raise a.die m 0x10D 2 [(1, m)]).cageDown a.die m
    else s

/-- A ply held in DETECT by its module (04 R117). -/
def State.holdInDetect (s : State) (d k : Nat) : State :=
  let s := if s.plyActive d k then s.leaveActive d k 16 else s
  if s.plyState d k = 7 then s else (s.laneIdle d k).enterState d k 0

/-- A write of MOD_CAGEm_CTL (04 R117, R118). -/
def State.writeCageCtl (s : State) (d m : Nat) (v : Word) : State :=
  let low := wordGet v 31 31
  let was := s.get d F.MOD_CAGE_CTL_FORCE_LOWPWR m
  let s := s.set d F.MOD_CAGE_CTL_FORCE_LOWPWR low m
  let s := if wordGet v 30 30 = 1 then s.emit (.moduleReset d m) else s
  if low = was then s
  else
    let s := (s.emit (.moduleLowPower d m (low == 1))).modCage d m fun c => { c with staged := false, dataPath := false }
    if low = 1 then (s.cageSlots d m).foldl (fun s k => s.holdInDetect d k) s
    else (s.cageSlots d m).foldl (fun s k => if s.plyState d k = 0 then s.enterState d k 0 else s) s

/-- MODULE_RESET (04 R118). -/
def execModuleReset (a : At) (q : Req) (m : Nat) (v : Word) (s : State) : Out :=
  onWrite a q (0x0A0804 + 0x40 * m) v (m < 4) s fun s => s.writeCageCtl a.die m v

/-- FORCE_LOWPWR (04 R117). -/
def execForceLowpwr (a : At) (q : Req) (m : Nat) (v : Word) (s : State) : Out :=
  onWrite a q (0x0A0804 + 0x40 * m) v (m < 4) s fun s => s.writeCageCtl a.die m v

end Sys2Proof.Machine
end

