-- ==== Sys2Proof/Machine/Live.lean ====
section
/-! DEFINITION. Register-route writes of SKN fields (02 R57, R58). -/

namespace Sys2Proof.Machine

/-- Table 2.8 gives fields of a register the register route: policers, the shadow timing set, CLK and PIN, idle timeouts. -/
def registerRoute (off : Nat) : Bool :=
  (decide (0x0D0000 ≤ off) && decide (off < 0x0E0000)) || (decide (0x1C0000 ≤ off) && decide (off < 0x200000)) ||
  (decide (0x030000 ≤ off) && decide (off < 0x040000)) || (decide (0x2E0000 ≤ off) && decide (off < 0x300000)) ||
  off == 0x010018

/-- The bits of a register that software may change by the register route. -/
def State.liveMask (s : State) (d off : Nat) : Word :=
  if registerRoute off then Table.look s.skn.live (barAddr d off) 0 else 0

/-- A write of the SKN fields of a register: granted bits take effect, and a write that would change another is counted once
(02 R58). -/
def State.writeSkn (s : State) (d : Nat) (r : RegDesc) (v : Word) (i : Nat := 0) (j : Nat := 0) : State :=
  let old := s.word d r i j
  let skn := r.mask (· == .skn)
  let may := skn &&& s.liveMask d (r.off i j)
  let s := s.setWord d r ((old &&& ~~~ may) ||| (v &&& may)) i j
  if (old ^^^ v) &&& skn &&& ~~~ may = 0 then s else s.bump 0 F.SKN_IGNORED_COUNT

end Sys2Proof.Machine
end

