-- ==== Sys2Proof/Machine/MacTx.lean ====
section
/-! DEFINITION. What a MAC does with a frame that its output sends (10 R279, R286, R288, R293, R295, R299). -/

namespace Sys2Proof.Machine

/-! Bytes in network order. -/

/-- The big-endian number of some bytes, and of bytes `n` to `n + len − 1`. -/
def beNat (l : List Byte) : Nat := leNat l.reverse
def beAt (l : List Byte) (n len : Nat) : Nat := beNat ((l.drop n).take len)

/-- The `n` bytes of a number, most significant first. -/
def beBytes (n v : Nat) : List Byte := (leBytes n v).reverse

/-- Bytes replaced from position `n` on. -/
def splice (l : List Byte) (n : Nat) (b : List Byte) : List Byte := l.take n ++ b ++ l.drop (n + b.length)

/-- Where the first EtherType after up to two VLAN tags and any HSR tag stands (10 R281), and where the tags end. -/
def tagsEnd (f : List Byte) : Nat :=
  let vlan := fun n => decide (beAt f n 2 = 0x8100 ∨ beAt f n 2 = 0x88A8)
  if vlan 12 then (if vlan 16 then 20 else 16) else 12
def etypeAt (f : List Byte) : Nat := if beAt f (tagsEnd f) 2 = 0x892F then tagsEnd f + 6 else tagsEnd f

/-- A frame's bytes before its FCS. -/
def bodyOf (f : List Byte) : List Byte := f.take (f.length - 4)

/-- A frame's FCS is right. -/
def fcsOk (f : List Byte) : Bool := decide (crc32Run 0xFFFFFFFF f = crc32Good)

/-- A changed frame with its FCS computed again (10 R279). -/
def reseal (body : List Byte) : List Byte := body ++ fcsOf body

/-- A frame with its FCS inverted. -/
def spoil (f : List Byte) : List Byte := bodyOf f ++ (f.drop (f.length - 4)).map fun b => ~~~b

/-! Redundancy and MACsec on the way out. -/

/-- LRE MODE of a die: 0 none, 1 PRP, 2 HSR. -/
def State.lreMode (s : State) (d : Nat) : Nat := s.get d F.ETH_LRE_CFG_MODE

/-- The LRE of a die changed. -/
def State.modLre (s : State) (d : Nat) (f : Lre → Lre) : State := s.modDie d fun x => { x with lre := f x.lre }

/-- Bytes that a MAC's port adds to a carried frame (10 R286). -/
def State.macOverhead (s : State) (d m : Nat) : Nat :=
  (if m < 2 ∧ s.lreMode d ≠ 0 then 6 else 0) + (if s.flag d F.ETH_MSEC_CTL_EN m then 32 else 0)

/-- The association that TX_AN selects on a MAC (10 R294). -/
def State.txSa (s : State) (d m : Nat) : Option Sa :=
  List.find? (fun x => x.port == m && !x.rx && x.an == s.get d F.ETH_MSEC_CTL_TX_AN m) (s.die d).sas

/-- The MAC may start a frame: with MACsec on, its association has a PN left and its key in a slot (10 R294, R295). -/
def State.macReady (s : State) (d m : Nat) : Bool :=
  !s.flag d F.ETH_MSEC_CTL_EN m || ((s.txSa d m).map fun x => decide (x.pn < 0xFFFFFFFF) && s.hasKey d x.owner x.handle).getD false

/-- The package MAC number. -/
def macNo (d m : Nat) : Nat := 4 * d + m

/-- The PN of a transmit association moves on (10 R295). -/
def State.usePn (s : State) (d : Nat) (x : Sa) : State :=
  let m := macNo d x.port
  let pn := x.pn + 1
  let tell := !x.told && decide (s.get d F.ETH_MSEC_THRESH_PN_THRESH x.port ≤ pn)
  let spent := !x.spent && pn == 0xFFFFFFFF
  let s := s.modDie d fun y => { y with sas := y.sas.map fun z =>
    if z = x then { x with pn := pn, told := x.told || tell, spent := x.spent || spent } else z }
  let s := if tell then s.raise d m 0xD07 1 [(1, m), (1, x.an), (2, 0), (4, pn)] else s
  if spent then s.raise d m 0xD08 3 [(1, m), (1, x.an)] else s

/-- A frame leaves a MAC's pins: MACsec where it is on, a fresh FCS, and the count (10 R279, R293). -/
def State.macPut (s : State) (d m : Nat) (f : List Byte) (bad : Bool) : State :=
  let out := fun (s : State) (f : List Byte) =>
    (s.emit (.frame d m (if bad then spoil f else f) bad)).bump d F.ETH_TX_FRAMES_COUNT 1 m
  if s.flag d F.ETH_MSEC_CTL_EN m then
    match s.txSa d m with
    | some x =>
      if 0xFFFFFFFF ≤ x.pn then s
      else
        let b := bodyOf f
        let sci := beBytes 6 (Config.macAddress (macNo d m)).toNat ++ beBytes 2 1
        let tag := beBytes 2 0x88E5 ++ beBytes 1 (0x2C + x.an) ++
          beBytes 1 (if b.length - 12 < 48 then b.length - 12 else 0) ++ beBytes 4 x.pn ++ sci
        let key := ((s.keySlot? d 0 x.handle).map (·.key)).getD []
        let sealed := Config.gcmSeal key (sci ++ beBytes 4 x.pn) (b.take 12 ++ tag) (b.drop 12)
        out (s.usePn d x) (reseal (b.take 12 ++ tag ++ sealed))
    | none => s
  else out s f

/-- The LRE sends a frame on both ports, in PRP with a trailer, in HSR with a tag (10 R288). -/
def State.lreSend (s : State) (d : Nat) (f : List Byte) (bad : Bool) : State :=
  let n := (s.die d).lre.seq
  let b := bodyOf f
  let t := tagsEnd b
  let prp := s.lreMode d == 1
  let size := (b.length + 6 - t - 2) % 4096
  let copy := fun (p : Nat) =>
    if prp then reseal (b ++ beBytes 2 n ++ beBytes 2 ((0xA + p) * 4096 + size) ++ beBytes 2 0x88FB)
    else reseal (b.take t ++ beBytes 2 0x892F ++ beBytes 2 (p * 4096 + size) ++ beBytes 2 n ++ b.drop t)
  let s := s.modLre d fun x => { x with seq := (x.seq + 1) % 65536 }
  ((s.macPut d 0 (copy 0) bad).macPut d 1 (copy 1) bad)

/-! The transparent clock at egress (10 R299). -/

/-- A PTP message over Layer 2, and where it begins. -/
def isPtp (f : List Byte) : Bool := beAt f (etypeAt f) 2 == 0x88F7
def ptpAt (f : List Byte) : Nat := etypeAt f + 2

/-- sourcePortIdentity and sequenceId of a message, as one number. -/
def ptpKey (p : List Byte) : Nat := beAt p 20 12

/-- Nanoseconds added to the correctionField of a message, in sixteenths. -/
def addCorrection (p : List Byte) (q : Int) : List Byte :=
  splice p 8 (beBytes 8 (unsigned 64 (signed 64 (beAt p 8 8) + q * 4096)))

/-- A forwarded PTP message is corrected as it leaves: a marked Sync, by its residence, kept for the Follow_Up where two-step;
a Follow_Up, by the residence kept for it. -/
def State.ptpEgress (s : State) (d m : Nat) (f : List Byte) : State × List Byte :=
  if !isPtp f then (s, f)
  else
    let n := ptpAt f
    let p := (bodyOf f).drop n
    let type := byteAt p 0 % 16
    let mark := beAt p 16 4
    let put := fun (p : List Byte) => reseal ((bodyOf f).take n ++ p)
    if type = 0 ∧ mark ≠ 0 then
      let egress := (s.now / 1000 + s.get d F.ETH_PTP_LAT_TX_LAT m / 16) % 1000000000
      let resid := (egress + 1000000000 - mark % 1000000000) % 1000000000
      let p' := splice p 16 (beBytes 4 0)
      if bit (byteAt p 6) 1 then
        let old := Table.look (s.die d).residences m []
        let kept := (old.filter fun r => r.key != ptpKey p && decide (s.now < r.until_)).drop (old.length - 63)
        (s.modDie d fun x => { x with residences := Table.put x.residences m (kept ++ [⟨ptpKey p, resid, s.now + ms 1000⟩]) },
          put p')
      else (s, put (addCorrection p' (16 * resid : Nat)))
    else if type = 8 then
      match List.find? (fun (r : Residence) => r.key == ptpKey p && decide (s.now < r.until_))
          (Table.look (s.die d).residences m []) with
      | some r =>
        let rest := (Table.look (s.die d).residences m []).filter fun y => y.key != r.key
        (s.modDie d fun x => { x with residences := Table.put x.residences m rest }, put (addCorrection p (16 * r.resid : Nat)))
      | none => (s.bump d F.ETH_PTP_TC_UNMATCHED_COUNT 1 m, f)
    else (s, f)

/-- A frame leaves a MAC (10 R283): the transparent clock's correction, then redundancy and MACsec of its own port. -/
def State.macSend (s : State) (d m _idx : Nat) (bytes : List Byte) (bad : Bool) : State :=
  let r := s.ptpEgress d m bytes
  if m = 0 ∧ s.lreMode d ≠ 0 then r.1.lreSend d r.2 bad else r.1.macPut d m r.2 bad

/-! HSR transit (10 R290). -/

/-- Frames in transit towards a port, and their bytes. -/
def State.transit (s : State) (d m : Nat) : List (List Byte × Bool) := Table.look (s.die d).lre.transit m []
def transitBytes (l : List (List Byte × Bool)) : Nat := l.foldl (fun n f => n + f.1.length) 0

/-- The oldest transit frame of a port leaves on it; the port is busy for as long. -/
def State.sendTransit (s : State) (d m : Nat) : State :=
  match s.transit d m with
  | (f, bad) :: rest =>
    let s := s.modLre d fun x => { x with transit := Table.put x.transit m rest, turn := Table.put x.turn m true }
    let until_ := s.now + bytePs (f.length + 20) (s.speed d (8 + m))
    let s := s.modDie d fun x => { x with busy := Table.put x.busy (8 + m) until_ }
    s.macPut d m f bad
  | [] => s

end Sys2Proof.Machine
end

