-- ==== Sys2Proof/Machine/Schedule.lean ====
section
/-! DEFINITION. The output scheduler (07): shapers, the weighted group, gates and the guard, sending, sampling; and the end of
an Ethernet cut-through that runs dry (06 R169). -/

namespace Sys2Proof.Machine

/-! The head unit of a queue. -/

/-- The payload bytes that a segment occupies on an output: an encrypted ply segment carries 24 more (17 R446). -/
def State.wireLen (s : State) (o : Nat) (u : SUnit) (g : Seg) : Nat :=
  g.payload.length + (if o < 8 ∧ ((s.entry? u.idx).map (·.enc)).getD false then 24 else 0)

/-- The head unit of a queue and its cost in bytes (07 R192); none while the head has nothing to send yet. -/
def State.headCost (s : State) (d o q : Nat) : Option (SUnit × Seg × Nat) :=
  match (s.queue (512 * d + 16 * o + q)).units with
  | [] => none
  | u :: _ =>
    match u.segs with
    | [] => none
    | g :: _ =>
      if g.place = 1 then none
      else if 8 ≤ o ∧ o < 12 then
        let len := if u.done then u.segs.foldl (fun n x => n + x.payload.length) 0 + u.sent.length
          else s.get d F.SCH_OUT_GUARD_FIXED_LEN o
        some (u, g, len + s.macOverhead d (o - 8) + 20)
      else some (u, g, segCost (s.wireLen o u g))

/-- The bucket of a shaper, refilled to now (07 R195). -/
def State.shaper (s : State) (d o i : Nat) : Bucket :=
  let cap := s.get d F.SCH_OUT_SH_CFG_SBURST o i
  (Table.look (s.die d).shapers (4 * o + i) { tokens := cap, last := s.now / 1000 }).fill
    (s.get d F.SCH_OUT_SH_RATE_RATE o i) cap s.now

/-- A strict queue's shaper lets it send; a RATE of 0 stops the queue (07 R195). -/
def State.shaperOk (s : State) (d o q : Nat) : Bool :=
  if q < 4 ∧ q < s.get d F.SCH_OUT_CFG_NSTRICT o ∧ s.flag d F.SCH_OUT_SH_CFG_EN o q = true then
    s.get d F.SCH_OUT_SH_RATE_RATE o q != 0 && decide (0 < (s.shaper d o q).tokens)
  else true

/-- The head's key is at hand where it must be encrypted (17 R448). -/
def State.keyReady (s : State) (d o : Nat) (u : SUnit) : Bool :=
  match s.entry? u.idx with
  | some e => !(e.enc && decide (o < 8)) || s.hasKey d e.owner e.keyHandle
  | none => true

/-- The head's class has credit on a ply output (07 R193). -/
def State.creditOk (s : State) (d o : Nat) (u : SUnit) (g : Seg) : Bool :=
  decide (8 ≤ o) || s.covers d o (((s.entry? u.idx).map (·.tc)).getD 7) (unitsOf (s.wireLen o u g))

/-- A queue is eligible apart from the guard (07 R193). -/
def State.wouldSend (s : State) (d o q : Nat) : Bool :=
  match s.headCost d o q with
  | some (u, g, _) => s.creditOk d o u g && s.gateIsOpen d o q && s.shaperOk d o q && s.keyReady d o u
  | none => false

/-- A queue is eligible (07 R193). -/
def State.eligible (s : State) (d o q : Nat) : Bool :=
  s.wouldSend d o q && (match s.headCost d o q with
    | some (_, _, cost) => s.guardOk d o q cost
    | none => false)

/-! The weighted group (07 R196). -/

/-- The weighted queues of an output, in ring order from `start`. -/
def State.ring (s : State) (d o start : Nat) : List Nat :=
  let first := s.get d F.SCH_OUT_CFG_NSTRICT o
  let n := s.get d F.SCH_OUT_CFG_NWEIGHT o
  (List.range n).map fun i => first + (start + i) % n

/-- CREDIT and WEIGHT of a queue. -/
def State.qCredit (s : State) (d o q : Nat) : Nat := s.get d F.SCH_OUT_CREDIT_CREDIT o q
def State.qWeight (s : State) (d o q : Nat) : Nat := s.get d F.SCH_OUT_WEIGHT_WEIGHT o q

/-- A round ends: every weighted queue gains WEIGHT × QUANTUM, up to its BURST. -/
def State.endRound (s : State) (d o : Nat) : State :=
  (s.ring d o 0).foldl (fun s q =>
    s.set d F.SCH_OUT_CREDIT_CREDIT
      (min (s.qCredit d o q + s.qWeight d o q * s.get d F.SCH_OUT_CFG_QUANTUM o) (s.get d F.SCH_OUT_BURST_BURST o q)) o q) s

/-- The cost of a queue's head. -/
def State.costOf (s : State) (d o q : Nat) : Nat := ((s.headCost d o q).map (·.2.2)).getD 0

/-- Rounds until a queue qualifies: the position `cur` in the ring, the eligible set fixed at the decision. -/
def State.rounds (d o : Nat) (ready : List Nat) : Nat → Nat → State → State × Option (Nat × Nat)
  | 0, cur, s => (s, (ready.head?).map fun q => (q, cur))
  | fuel + 1, cur, s =>
    let n := s.get d F.SCH_OUT_CFG_NWEIGHT o
    let hit := ((s.ring d o cur).zipIdx).find? fun p => ready.contains p.1 && decide (s.costOf d o p.1 ≤ s.qCredit d o p.1)
    match hit with
    | some (q, i) => (s, some (q, (cur + i) % n))
    | none => State.rounds d o ready fuel ((cur + 1) % n) (s.endRound d o)

/-- The weighted queue that a decision picks (07 R196). -/
def State.weightedPick (s : State) (d o : Nat) : State × Option Nat :=
  let n := s.get d F.SCH_OUT_CFG_NWEIGHT o
  let cur := Table.look (s.die d).turn (2 * o) 0
  let z := Table.look (s.die d).turn (2 * o + 1) 0
  let ready := (s.ring d o 0).filter fun q => decide (0 < s.qWeight d o q) && s.eligible d o q
  if ready.isEmpty then
    let first := s.get d F.SCH_OUT_CFG_NSTRICT o
    match (s.ring d o (z + 1)).find? fun q => s.qWeight d o q == 0 && s.eligible d o q with
    | some q => (s.modDie d fun x => { x with turn := Table.put x.turn (2 * o + 1) (q - first) }, some q)
    | none => (s, none)
  else if n = 0 then (s, none)
  else
    let r := State.rounds d o ready 1100 cur s
    match r.2 with
    | some (q, c) => (r.1.modDie d fun x => { x with turn := Table.put x.turn (2 * o) c }, some q)
    | none => (r.1, none)

/-! The decision (07 R194). -/

/-- Units that the guard holds are counted once (07 R205). -/
def State.countGuard (s : State) (d o : Nat) : State :=
  (List.range 16).foldl (fun s q =>
    match s.headCost d o q with
    | some (u, _, cost) =>
      if s.wouldSend d o q && !s.guardOk d o q cost && !u.guarded then
        (s.bump d F.SCH_OUT_GUARD_HELD_COUNT 1 o).modQueue (512 * d + 16 * o + q) fun x =>
          { x with units := x.units.modify 0 fun u => { u with guarded := true } }
      else s
    | none => s) s

/-- A head that could never fit the open runs of its gate is dropped (07 R207). -/
def State.dropOversize (s : State) (d o : Nat) : State :=
  (List.range 16).foldl (fun s q =>
    match s.headCost d o q, s.longestRun d o q with
    | some (u, _, cost), some run =>
      if u.done && decide (run < bytePs (cost - gapOf o) (s.speed d o) + bytePs (gapOf o) (s.speed d o)) then
        ((s.dropHead (512 * d + 16 * o + q)).bump d F.SCH_OUT_GATE_OVERSIZE_COUNT 1 o).raiseLimited d 0x403
          (16 * o + q) (ms 1) fun _ s => s.raise d o 0x403 2 [(1, o), (1, q), (2, 0), (4, cost), (4, run / 1000)]
      else s
    | _, _ => s) s

/-- Heads that wait for a key have it loaded (17 R444, R448). -/
def State.fetchKeys (s : State) (d o : Nat) : State :=
  if 8 ≤ o then s
  else (List.range 16).foldl (fun s q =>
    match s.headCost d o q with
    | some (u, _, _) =>
      (match s.entry? u.idx with
       | some e => if e.enc && !s.hasKey d e.owner e.keyHandle then s.needKey d e.owner e.keyHandle (some o) else s
       | none => s)
    | none => s) s

/-- The payload of a TIM message as it departs (09 R274): the origin writes the departure; a forwarder adds its residence and
the mean delay of the ply it came on, or sets NO_LINK where that ply carries no TICK. -/
def State.timPayload (s : State) (e? : Option Entry) (g : Seg) : List Byte :=
  let p := g.payload
  if (e?.map (·.kind)) ≠ some 5 ∨ p.length ≠ 32 then p
  else if g.via = 255 then p.take 4 ++ leBytes 8 s.ts ++ p.drop 12
  else
    let tick := s.flag (g.via / 8) F.PLY_LINK_PEER_CAP_TICK (g.via % 8)
    let delay := if tick then (s.tlink (plyLink (g.via / 8) (g.via % 8))).meanDelay.toNat else 0
    let corr := min (2 ^ 32 - 1) (numAt p 12 4 + q16 (s.now - g.came) + delay)
    let flags := if tick then byteAt p 1 else byteAt p 1 ||| 8
    p.take 1 ++ leBytes 1 flags ++ (p.drop 2).take 10 ++ leBytes 4 corr ++ p.drop 16

/-- The segment that goes out on a ply: SN, flags, SEQ kept, payload encrypted where the entry asks (05 R130, R131, R133;
17 R446, R447). -/
def State.plySegment (s : State) (d o key : Nat) (u : SUnit) (g : Seg) : State :=
  let e? := s.entry? u.idx
  let enc := (e?.map (·.enc)).getD false
  let tc := (e?.map (·.tc)).getD 7
  let thresh := s.get d F.SCH_Q_ECN_ECN_THRESH (key % 512)
  let ecn := hEcn g.hdr || (thresh != 0 && decide (thresh ≤ (s.queue key).depth))
  let onOld := e?.bind (·.oldPath) == some (8 * d + o)
  let mark := (e?.map (·.markNext)).getD false && !onOld
  let len := s.wireLen o u g
  let hdr := mkHdr u.nextSn (hKind g.hdr) (hSop g.hdr) (hEop g.hdr) mark ecn (hStomp g.hdr) enc (hSeq g.hdr) len
  let pn := if g.pn ≠ 0 then g.pn else (e?.map (·.pn)).getD 0
  let plain := s.timPayload e? g
  let body := match e? with
    | some e =>
      if enc then
        let aad := leBytes 4 e.strandId ++ leBytes 1 e.kind ++ leBytes 1 (b2n (hSop g.hdr) + 2 * b2n (hEop g.hdr)) ++
          leBytes 2 (hSeq g.hdr)
        leBytes 8 pn ++ Config.gcmSeal ((s.keySlot? d e.owner e.keyHandle).map (·.key) |>.getD [])
          (leBytes 4 e.strandId ++ leBytes 8 pn) aad plain
      else plain
    | none => plain
  let s := (s.emit (.segment d o hdr body)).modCredit d o fun c =>
    { c with txc := c.txc.set tc ((c.txc.getD tc 0 + unitsOf len) % creditMod) }
  let s := s.modEntry u.idx fun e => { e with
    markNext := e.markNext && onOld, lastSeq := if onOld then e.lastSeq else hSeq g.hdr,
    oldSeq := if onOld then hSeq g.hdr else e.oldSeq, pn := if enc && g.pn == 0 then e.pn + 1 else e.pn,
    sentOn := if e.sentOn.contains (8 * d + o) then e.sentOn else e.sentOn ++ [8 * d + o] }
  (s.modPly d o fun p => { p with sentAt := s.now }).watchCredit d o

/-- Bytes sent for a strand in the window (08 R215). -/
def State.countSent (s : State) (d idx n : Nat) : State :=
  s.modDie d fun x => { x with sentBytes := Table.put x.sentBytes idx (Table.look x.sentBytes idx 0 + n) }

/-- The bytes that a MAC has ready of its head frame; the frame ends with its last segment (06 R169). -/
def State.ethSend (s : State) (d o key : Nat) (u : SUnit) : State :=
  let bytes := u.sent ++ u.segs.flatMap (·.payload)
  let stomped := u.segs.any fun g => hStomp g.hdr
  let s := s.releaseSegs (s.holdDie key) u.segs
  let s := s.modQueue key fun q => { q with units := match q.units with
    | x :: rest => if u.done then rest else { x with segs := [], sent := bytes, started := true } :: rest
    | [] => [] }
  if u.done then s.macSend d (o - 8) u.idx bytes stomped else s

/-- What a send takes of an output: the cost, or of a frame that a MAC sends as it arrives the part at hand, with the preamble before
the first byte and tag, MACsec and gap after the last (06 R169; 07 R192). -/
def State.sendCost (s : State) (d o : Nat) (u : SUnit) (cost : Nat) : Nat :=
  if 8 ≤ o ∧ o < 12 then
    (if u.started then 0 else 8) + u.segs.foldl (fun n x => n + x.payload.length) 0 + (if u.done then s.macOverhead d (o - 8) + 12 else 0)
  else cost

/-- The head of the chosen queue is sent. -/
def State.sendHead (s : State) (d o q : Nat) (u : SUnit) (g : Seg) (cost : Nat) : State :=
  let key := 512 * d + 16 * o + q
  let cost := s.sendCost d o u cost
  let late := us (s.get d F.SCH_Q_SOJOURN_MAX_SOJOURN (key % 512))
  let s := s.countSent d u.idx (if 8 ≤ o ∧ o < 12 then u.segs.foldl (fun n x => n + x.payload.length) 0 else g.payload.length)
  let s := if late ≠ 0 ∧ !u.started ∧ u.at_ + late = s.now then s.bump d F.SCH_AGE_NEAR_MISS_COUNT else s
  let nstrict := s.get d F.SCH_OUT_CFG_NSTRICT o
  let s := if q < nstrict ∧ q < 4 ∧ s.flag d F.SCH_OUT_SH_CFG_EN o q = true then
      let b := s.shaper d o q
      let b := { b with tokens := b.tokens - cost }
      (s.modDie d fun x => { x with shapers := Table.put x.shapers (4 * o + q) b }).set d F.SCH_OUT_SH_TOKENS_TOKENS
        (unsigned 32 b.tokens) o q
    else if nstrict ≤ q ∧ s.qWeight d o q ≠ 0 then
      s.set d F.SCH_OUT_CREDIT_CREDIT (s.qCredit d o q - cost) o q
    else s
  let s := s.modDie d fun x => { x with busy := Table.put x.busy o (s.now + bytePs cost (s.speed d o)) }
  let s := if o < 8 then ((s.plySegment d o key u g).releaseSeg (s.holdDie key) g).popSeg key
    else if o < 12 then s.ethSend d o key u
    else
      let thresh := s.get d F.SCH_Q_ECN_ECN_THRESH (key % 512)
      let ecn := hEcn g.hdr || (thresh != 0 && decide (thresh ≤ (s.queue key).depth))
      let hdr := mkHdr u.nextSn (hKind g.hdr) (hSop g.hdr) (hEop g.hdr) false ecn (hStomp g.hdr) false (hSeq g.hdr)
        g.payload.length
      ((s.emit (.deliver d o u.idx hdr g.payload)).releaseSeg (s.holdDie key) g).popSeg key
  ((s.afterDequeue key).watchLack d o).rechain

/-- An output can start a unit now: it is not sending, and its port is up (07 R194). -/
def State.outReady (s : State) (d o : Nat) : Bool :=
  decide (Table.look (s.die d).busy o 0 ≤ s.now) &&
  (if o < 8 then s.plyActive d o && s.txState d o == 0
   else if o < 12 then s.flag d F.ETH_STATUS_LINK (o - 8) && s.macReady d (o - 8)
   else s.serves d (outIsland o))

/-- The queue whose Ethernet cut-through frame is in progress on a MAC (07 R192). -/
def State.midFrame (s : State) (d o : Nat) : Option Nat :=
  if 8 ≤ o ∧ o < 12 then (List.range 16).find? fun q =>
    (match (s.queue (512 * d + 16 * o + q)).units with
     | u :: _ => u.cut && u.started
     | [] => false)
  else none

/-- An HSR port sends a transit frame next: before every local queue except strict queue 0, with which it alternates (10 R290). -/
def State.transitNext (s : State) (d o : Nat) (zero : Bool) : Bool :=
  (o == 8 || o == 9) && !(s.transit d (o - 8)).isEmpty && !(zero && Table.look (s.die d).lre.turn (o - 8) false)

/-- The next frame of an HSR port is a local one. -/
def State.localTurn (s : State) (d o : Nat) : State :=
  if (o == 8 || o == 9) && s.lreMode d == 2 then
    s.modLre d fun x => { x with turn := Table.put x.turn (o - 8) false }
  else s

/-- SCHED_DECISION (07 R194, R208): ageing, oversize heads, then the first eligible strict queue or the weighted pick. -/
def execSchedDecision (a : At) (o : Nat) (s : State) : Out :=
  onIsland a 13 (o < 19) s fun s =>
    let d := a.die
    if !s.outReady d o then s
    else
      match s.midFrame d o with
      | some q =>
        (match s.headCost d o q with
         | some (u, g, cost) => s.sendHead d o q u g cost
         | none => s)
      | none =>
        let s := (List.range 16).foldl (fun s q => s.ageDrop (512 * d + 16 * o + q)) s
        let s := (s.dropOversize d o).fetchKeys d o
        let s := s.countGuard d o
        let strict := (List.range (s.get d F.SCH_OUT_CFG_NSTRICT o)).find? fun q => s.eligible d o q
        if s.transitNext d o (strict == some 0) then s.sendTransit d (o - 8) else
        let s := s.localTurn d o
        let r := match strict with
          | some q => (s, some q)
          | none => s.weightedPick d o
        match r.2 with
        | some q =>
          (match r.1.headCost d o q with
           | some (u, g, cost) => r.1.sendHead d o q u g cost
           | none => r.1)
        | none => r.1.watchLack d o

/-- CT_UNDERRUN (06 R169): a cut-through frame of a MAC has no more bytes; it ends with an inverted FCS. -/
def execCtUnderrun (a : At) (m : Nat) (s : State) : Out :=
  onIsland a 13 (m < 4) s fun s =>
    let d := a.die
    let o := m + 8
    match s.midFrame d o with
    | none => s
    | some q =>
      let key := 512 * d + 16 * o + q
      match (s.queue key).units with
      | u :: rest =>
        if u.segs.isEmpty && !u.done && decide (Table.look (s.die d).busy o 0 ≤ s.now) then
          let s := (s.modQueue key fun x => { x with units := rest }).macSend d m u.idx u.sent true
          (s.bump d F.SWC_CT_UNDERRUN_COUNT).raiseLimited d 0x30A m (ms 1) fun _ s =>
            s.raise d 11 0x30A 2 [(1, m), (3, 0), (4, ((s.entry? u.idx).map (·.strandId)).getD 0)]
        else s
      | [] => s

/-! Sampling (07 R199, R200). -/

/-- The bin of a value: bin 0 for 0, then powers of two above 2^shift. -/
def binOf (shift x : Nat) : Nat := if x = 0 then 0 else min 15 (1 + (x.log2 - shift))

/-- One queue is sampled: software histograms unless frozen, and the Spindle's own accumulation. -/
def State.sampleQueue (s : State) (d n : Nat) (frozen : Bool) : State :=
  let q := s.queue (512 * d + n)
  let depth := binOf 3 q.depth
  let delay := match q.units with
    | u :: _ => binOf 7 ((s.now - u.at_) / 1000)
    | [] => 0
  let s := if frozen then s else (s.bump d F.SCH_Q_HD_COUNT 1 n depth).bump d F.SCH_Q_HL_COUNT 1 n delay
  s.modDie d fun x => { x with samples := Table.upd x.samples n {} fun y =>
    { samples := y.samples + 1, busy := if depth = 0 then y.busy else y.busy + 1, topBin := max y.topBin delay } }

/-- QUEUE_SAMPLE (07 R199): every queue of the die at one instant. -/
def execQueueSample (a : At) (s : State) : Out :=
  onIsland a 13 true s fun s =>
    let frozen := s.flag a.die F.SCH_HIST_CTL_FREEZE
    (List.range 304).foldl (fun s n => s.sampleQueue a.die n frozen) s

/-- A write of SCH_HIST_CTL (07 R200). -/
def State.writeHistCtl (s : State) (d : Nat) (v : Word) : State :=
  let s := if wordGet v 31 31 = 1 then s.zeroRange d 0x160000 (0x80 * 304) else s
  s.set d F.SCH_HIST_CTL_FREEZE (wordGet v 30 30)

/-- HIST_CLEAR (07 R200). -/
def execHistClear (a : At) (q : Req) (v : Word) (s : State) : Out :=
  onWrite a q 0x14F004 v true s fun s => s.writeHistCtl a.die v

/-- HIST_FREEZE (07 R200). -/
def execHistFreeze (a : At) (q : Req) (v : Word) (s : State) : Out :=
  onWrite a q 0x14F004 v true s fun s => s.writeHistCtl a.die v

/-! Gate lists and policer rates. -/

/-- GATE_ENTRY_CHANGE (07 R202, R204): a boundary falls; at T_s an armed list replaces the running one. -/
def execGateEntryChange (a : At) (o : Nat) (s : State) : Out :=
  onIsland a 13 (o < 19) s fun s =>
    let d := a.die
    if !s.flag d F.SCH_OUT_GCL_CTL_GATE_EN o then s
    else
      match Table.find? (s.die d).oldGcl o with
      | some g =>
        if g.switchAt ≤ s.now then
          let s := s.modDie d fun x => { x with oldGcl := Table.del x.oldGcl o }
          let s := (s.set d F.SCH_OUT_GCL_CTL_CHANGE_ARMED 0 o).raise d o 0x402 1
            [(1, o), (1, 0), (2, s.get d F.SCH_OUT_GCL_CTL_GCL_LEN o), (8, s.tsAt g.switchAt),
             (4, s.get d F.SCH_OUT_GCL_CYCLE_CYCLE_NS o)]
          s.showGate d o
        else s.showGate d o
      | none => s.showGate d o

/-- CIR or CBS of a policer by the register route (07 R188); a CBS below TOKENS clips them. -/
def State.writePolicer (s : State) (d p : Nat) (isCbs : Bool) (v : Word) : State :=
  let b := (s.policer d p).fill (s.get d F.STR_POL_CIR_CIR p) (s.get d F.STR_POL_CBS_CBS p) s.now
  if isCbs then
    let s := s.writeSkn d Reg.STR_POL_CBS v p
    let cbs := s.get d F.STR_POL_CBS_CBS p
    s.putPolicer d p { b with tokens := if (cbs : Int) < b.tokens then cbs else b.tokens }
  else (s.putPolicer d p b).writeSkn d Reg.STR_POL_CIR v p

/-- POLICER_RATE_WRITE (07 R188). -/
def execPolicerRateWrite (a : At) (q : Req) (p : Nat) (isCbs : Bool) (v : Word) (s : State) : Out :=
  onWrite a q (0x0D0000 + 0x10 * p + 4 * b2n isCbs) v (p < 4096) s fun s => s.writePolicer a.die p isCbs v

end Sys2Proof.Machine
end

