-- ==== Sys2Proof/Machine/Time.lean ====
section
/-! DEFINITION. Time commands (09): TICK and TIME messages, calibration, references, PPS, TIM_SET and TIM strands. -/

namespace Sys2Proof.Machine

/-! TICKs on plies (09 R255 to R257). -/

/-- TICK_SEND (09 R255): on an ACTIVE direction that carries TICK, and in EXCHANGE. -/
def execTickSend (a : At) (k : Nat) (s : State) : Out :=
  onIsland a 9 (k < 8) s fun s =>
    let d := a.die
    let st := s.plyState d k
    let awake := s.plyActive d k && s.txState d k == 0 && s.flag d F.PLY_LINK_PEER_CAP_TICK k
    if (s.ply? d k).isSome && fallen s (s.tlink (plyLink d k)).due then
      if st = 5 then s.sendTick d k (us 1) else if awake then s.sendTick d k (ns 62500) else s
    else s

/-- The mean offset of a lane pair. -/
def TLink.theta (x : TLink) (w i j : Nat) : Int :=
  let p := Table.look x.cal (w * i + j) (0, 0)
  if p.2 = 0 then 0 else p.1 / (p.2 : Int)

/-- Every lane pair has its samples (09 R257, step 1). -/
def TLink.calFull (x : TLink) (w : Nat) : Bool :=
  (List.range (w * w)).all fun n => decide ((if w = 1 then 64 else 16) ≤ (Table.look x.cal n (0, 0)).2)

/-- Calibration ends: F, B and SPREAD (09 R257, steps 2 to 5). -/
def State.calDone (s : State) (d k w : Nat) : State :=
  let l := plyLink d k
  let x := s.tlink l
  let t₀ := x.theta w 0 0
  let f := (List.range w).map fun i => x.theta w i 0 - t₀
  let b := (List.range w).map fun j => x.theta w 0 j - t₀
  let rest := (List.range (w * w)).map fun n => (x.theta w (n / w) (n % w) - t₀ - f.getD (n / w) 0 - b.getD (n % w) 0).natAbs
  let spread := (f.map Int.natAbs ++ b.map Int.natAbs ++ rest).foldl max 0
  let s := s.modLink l fun x => { x with f := f, b := b }
  let s := (s.set d F.PLY_LINK_TCAL_SPREAD_NS (min 255 (spread / 16)) k).set d F.PLY_LINK_TCAL_CAL_OK 1 k
  let s := s.modPly d k fun p => { p with calSent := true }
  s.raise d 32 0x608 (if 160 < spread then 2 else 0)
    [(1, s.plyId d k), (1, min 255 (spread / 16)), (2, 0), (4, unsigned 32 x.meanDelay)]

/-- TICK_RECEIVE (09 R256, R257): a sample for calibration in EXCHANGE, and for the servo on the parent ply. -/
def execTickReceive (a : At) (k : Nat) (b : List Byte) (s : State) : Out :=
  onIsland a 8 (k < 8) s fun s => s.takeBlock a k 3 b (timeFieldsOk b) fun s p =>
    let d := a.die
    let l := plyLink d k
    let w := (s.plyLanes d k).length
    let x := s.tlink l
    let exch := s.plyState d k == 5
    let corr := fun (i j : Nat) => if exch then 0 else x.f.getD (tickLane i w) 0 + x.b.getD (tickLane j w) 0
    let asym := signed 16 (s.get d F.PLY_LINK_TCAL_CABLE_ASYM_PS k) * 8 / 1000
    let s := if exch then s else s.boundary d k
    let s := s.modLink l fun x => { x with
      heard := true, cls := classOf (byteAt b 25), hops := byteAt b 26, gm := s.get 0 F.TIM_GM_GM }
    let r := s.timeSample l b corr (if exch then 0 else asym)
    let s := r.1.set d F.PLY_LINK_TDELAY_DELAY (unsigned 32 (r.1.tlink l).meanDelay) k
    match r.2 with
    | none => s
    | some (offset, i, j) =>
      if exch then
        let key := w * tickLane i w + tickLane j w
        let s := s.modLink l fun x => { x with
          cal := Table.upd x.cal key (0, 0) fun q => (q.1 + offset, q.2 + 1) }
        if !p.calSent && (s.tlink l).calFull w then
          let deadline := p.deadline
          (s.calDone d k w).tryActive a k deadline
        else s
      else
        let s := if s.tim.parent.isNone then s.seekParent 3 else s
        if s.tim.parent = some l then (s.follow (s.tlink l)).servo offset else s

/-! TIME frames on the Shoreline (09 R255, R256, R259). -/

/-- A command on a Shoreline port: port A on die 0, port B on die 1; it has its effect while the port's island runs. -/
def onPort (a : At) (port : Nat) (ok : Bool) (s : State) (f : State → State) : Out :=
  onUnit a (port < 2 && ok) s fun s => if s.runs port 33 then f s else s

/-- A frame leaves on a Shoreline side that is up, while the Spillway is open. -/
def State.shlSend (s : State) (port side : Nat) (bytes : List Byte) : State :=
  if s.runs port 33 && s.sideUp port side && (if port = 0 then s.shl.a.open_ else s.shl.b.open_) then
    s.emit (.shoreline port side bytes false)
  else s

/-- The Spillway of a port is open: the hub is on the ring. -/
def State.onRing (s : State) (port : Nat) : Bool := if port = 0 then s.shl.a.open_ else s.shl.b.open_

/-- TIME_FRAME_SEND (09 R255): every 125 µs on a side that is up. -/
def execTimeFrameSend (a : At) (port side : Nat) (s : State) : Out :=
  onPort a port (side < 2) s fun s =>
    let l := shlLink port side
    if s.sideUp port side && s.onRing port && fallen s (s.tlink l).due then
      let b := sealBlock ((0x02 : Byte) ::
        s.timeBody l (s.get 0 F.TIM_GM_PRIORITY) (s.get 0 F.TIM_UTC_TAI_UTC) (s.get 0 F.TIM_GM_GM))
      (s.shlSend port side b).departed l (us 125)
    else s

/-- TIME_FRAME_RECEIVE (09 R256, R259): an advertisement and a sample; a frame that fails its check is counted (09 R248). -/
def execTimeFrameReceive (a : At) (port side : Nat) (b : List Byte) (s : State) : Out :=
  onPort a port (side < 2) s fun s =>
    let l := shlLink port side
    if !(s.sideUp port side && s.onRing port) then s
    else if !(blockOk 2 b && timeFieldsOk b) then s.bump port F.SHL_FRAME_ERR_COUNT
    else
      let s := s.modLink l fun x => { x with
        heard := true, cls := classOf (byteAt b 25), prio := byteAt b 13, gm := numAt b 28 2 % 4096, hops := byteAt b 26,
        utc := byteAt b 27 }
      let r := s.timeSample l b (fun _ _ => 0) 0
      let s := r.1
      let s := if side = 0 then s.set port F.SHL_PORT_STATUS_IN_DELAY ((s.tlink l).meanDelay.toNat / 16) else s
      let s := s.elect
      let s := if s.tim.parent = some l && (s.tlink l).gm != s.get 0 F.TIM_GM_GM then s.seekParent 3
        else if s.tim.parent.isNone && !s.outranks s.ownClass then s.seekParent 3 else s
      match r.2 with
      | some (offset, _, _) => if s.tim.parent = some l then (s.follow (s.tlink l)).servo offset else s
      | none => s

/-- PARENT_SILENT (09 R260, R261): 1 ms without a sample from the parent; a new one is chosen, or the hub stands for election. -/
def execParentSilent (a : At) (s : State) : Out :=
  onUnit a true s fun s =>
    if !s.runs 0 32 then s
    else
      match s.tim.parent with
      | some l =>
        if l < 206 && fallen s (max s.tim.soughtAt ((s.tlink l).sampleAt.getD 0) + ms 1) then
          let s := s.modLink l fun x => { x with traceable := false }
          (s.seekParent 2).elect
        else s
      | none => if fallen s (s.tim.soughtAt + ms 1) then s.elect else s

/-- HOLDOVER_EXPIRE (09 R259): CLASS 7 becomes 52. -/
def execHoldoverExpire (a : At) (s : State) : Out :=
  onUnit a true s fun s =>
    if s.runs 0 32 && s.get 0 F.TIM_STATUS_STATE == 3 && s.get 0 F.TIM_STATUS_CLASS == 7 &&
        fallen s (s.tim.lostAt + ms (1000 * s.get 0 F.TIM_CFG_HOLDOVER_S)) then
      (s.set 0 F.TIM_STATUS_CLASS 52).elect
    else s

/-! References (09 R262 to R264). -/

/-- A MAC's PTP port is in the slave role. -/
def State.ptpSlave (s : State) : Bool :=
  (List.range s.part.dies).any fun d => (List.range 4).any fun m => s.get d F.ETH_PTP_STATUS_STATE m == 3

/-- The reference in use, in the order IRIG-B, PTP, 1PPS, as REF_EN allows (09 R264). -/
def State.bestRef (s : State) : Option Nat :=
  let en := s.get 0 F.TIM_CFG_REF_EN
  if bit en 2 && s.get 0 F.TIM_IRIG_STATUS_STATE == 2 then some 206
  else if bit en 1 && s.ptpSlave then some 208
  else if bit en 0 && s.flag 0 F.TIM_PPS_STATUS_IN_VALID then some 207
  else none

/-- No reference remains: the grandmaster holds over (09 R259, Table 9.4). -/
def State.refLost (s : State) : State :=
  match s.tim.parent with
  | some p =>
    if 206 ≤ p ∧ s.bestRef ≠ some p then
      let s := s.setParent none 1
      if s.bestRef.isNone then s.holdover.elect else s
    else s
  | none => s

/-- A sample of a reference: used where it is the best one and the hub, as CLASS 6, outranks what it hears. -/
def State.refSample (s : State) (id : Nat) (offset : Int) : State :=
  if s.bestRef = some id ∧ s.outranks 6 then
    let s := s.setParent (some id) 3
    let s := ((s.set 0 F.TIM_STATUS_STATE 4).set 0 F.TIM_STATUS_HOPS 0).setGm s.hubAddr 6 s.ownPrio
    s.servo offset
  else s

/-- The state of the IRIG-B input changes (09 Table 9.14). -/
def State.irigState (s : State) (st : Nat) : State :=
  let old := s.get 0 F.TIM_IRIG_STATUS_STATE
  if old = st then s
  else
    let s := s.set 0 F.TIM_IRIG_STATUS_STATE st
    let s := s.raise 0 32 0x606 (if old = 2 || st = 0 then 2 else 1) [(1, st), (1, s.get 0 F.TIM_IRIG_STATUS_SEEN)]
    if old = 2 then s.refLost else s

/-- Days from 1970 to the start of a year, and the year that a day number lies in. -/
def daysTo (y : Nat) : Nat := 365 * (y - 1970) + ((y - 1969) / 4 - (y - 1901) / 100 + (y - 1601) / 400)
def yearOf (day : Nat) : Nat := 1969 + ((List.range 300).filter fun n => decide (daysTo (1970 + n) ≤ day)).length

/-- A leap year. -/
def isLeap (y : Nat) : Bool := (y % 4 == 0 && y % 100 != 0) || y % 400 == 0

/-- Picoseconds by which a deglitch filter delays an edge (18 R475). -/
def deglitchPs (code : Nat) : Nat := (match code with
  | 0 => 0
  | 1 => ns 50
  | 2 => us 1
  | _ => us 20) + ns 8

/-- An invalid IRIG-B frame; the second in a row makes the input invalid (09 R262). -/
def State.irigInvalid (s : State) : State :=
  let bad := s.tim.irigBad + 1
  let s : State := { s with tim := { s.tim with irigBad := bad, irigRun := 0 } }
  let s := s.bump 0 F.TIM_IRIG_STATUS_FRAME_ERR
  if 2 ≤ bad ∧ s.get 0 F.TIM_IRIG_STATUS_STATE = 2 then s.irigState 1
  else if s.get 0 F.TIM_IRIG_STATUS_STATE = 0 then s.irigState 1 else s

/-- IRIG_FRAME (09 R262, R263): a frame of format B00`fmt`, its position markers in place or not, its BCD fields (second, minute,
hour, day, year), its control functions (leap warning, 1 for 59, offset in half hours with 1 for minus, time quality), and how long
ago its Pr rose at the pin. -/
def execIrigFrame (a : At) (fmt : Nat) (ok : Bool) (bcd ctl : List Nat) (ago : Nat) (s : State) : Out :=
  onUnit a (fmt < 8) s fun s =>
    if !s.runs 0 32 then s
    else
      let want := s.get 0 F.TIM_IRIG_CFG_FORMAT
      let g := fun n => bcd.getD n 0
      let hasYear := decide (4 ≤ fmt)
      let control := s.flag 0 F.TIM_IRIG_CFG_IEEE1344 && (fmt == 0 || fmt == 1 || fmt == 4 || fmt == 5)
      let c := fun n => ctl.getD n 0
      let now := s.now - ago
      let year := if hasYear then 2000 + g 4 else yearOf ((s.now / 1000000000000 - s.get 0 F.TIM_UTC_TAI_UTC) / 86400)
      let ranges := decide (g 0 ≤ 60) && decide (g 1 ≤ 59) && decide (g 2 ≤ 23) && decide (1 ≤ g 3) &&
        decide (g 3 ≤ (if isLeap year then 366 else 365)) && (!hasYear || decide (g 4 ≤ 99 ∧ bcd.length = 5))
      let valid := ok && ranges && (want == 8 || want == fmt) && !(control && decide (4 < c 4))
      let seen := s.get 0 F.TIM_IRIG_STATUS_SEEN
      let s : State := { s with tim := { s.tim with irigAt := s.now } }
      let s := s.set 0 F.TIM_IRIG_STATUS_SEEN fmt
      if !valid then s.irigInvalid
      else
        let utc := (daysTo year + g 3 - 1) * 86400 + g 2 * 3600 + g 1 * 60 + g 0
        let utc := if !control then utc else if c 3 = 1 then utc + 1800 * c 2 else utc - 1800 * c 2
        let changed := seen != 15 && seen != fmt
        let hold := if changed then s.now + ms 200 else s.tim.irigHold
        let run := if !changed && utc == s.tim.irigSec + 1 then min 3 (s.tim.irigRun + 1) else 1
        let s : State := { s with tim := { s.tim with irigRun := run, irigSec := utc, irigBad := 0, irigHold := hold } }
        let s := if control then
            (s.set 0 F.TIM_UTC_LEAP61 (b2n (c 0 == 1 && c 1 == 0))).set 0 F.TIM_UTC_LEAP59 (b2n (c 0 == 1 && c 1 == 1))
          else s
        let st := s.get 0 F.TIM_IRIG_STATUS_STATE
        let s := if changed then s.irigState 3
          else if run = 3 ∧ hold ≤ s.now then s.irigState 2
          else if st = 0 then s.irigState 1 else s
        if s.get 0 F.TIM_IRIG_STATUS_STATE = 2 then
          let true_ : Int := (utc + s.get 0 F.TIM_UTC_TAI_UTC : Nat) * 16000000000
          let edge : Int := (q16 now : Int) - (16 * s.get 0 F.TIM_IRIG_CFG_IRIG_DELAY_NS : Nat) -
            (q16 (deglitchPs (s.get 0 F.PIN_DEGLITCH_IRIGB)) : Int)
          s.refSample 206 (true_ - edge)
        else s

/-- IRIG_LOSS (09 R262): 1.5 s without a Pr. -/
def execIrigLoss (a : At) (s : State) : Out :=
  onUnit a true s fun s =>
    if s.runs 0 32 && s.get 0 F.TIM_IRIG_STATUS_STATE != 0 && fallen s (s.tim.irigAt + ms 1500) then
      let s : State := { s with tim := { s.tim with irigRun := 0, irigBad := 0 } }
      (s.irigState 0).set 0 F.TIM_IRIG_STATUS_SEEN 15
    else s

/-- IRIG_FORMAT_HOLD_END (09 R262): 200 ms after the first frame of a new format. -/
def execIrigFormatHoldEnd (a : At) (s : State) : Out :=
  onUnit a true s fun s =>
    if s.runs 0 32 && s.get 0 F.TIM_IRIG_STATUS_STATE == 3 && fallen s s.tim.irigHold then
      s.irigState (if s.tim.irigRun = 3 then 2 else 1)
    else s

/-- PPS_IN_EDGE (09 R264). -/
def execPpsInEdge (a : At) (s : State) : Out :=
  onUnit a true s fun s =>
    if !s.runs 0 32 then s
    else
      let t := s.now - deglitchPs (s.get 0 F.PIN_DEGLITCH_PPS_IN)
      let second := 1000000000000
      let whole := (t + second / 2) / second
      let err : Int := (t : Int) - (whole * second : Nat)
      let off := s.flag 0 F.TIM_PPS_STATUS_IN_VALID && decide (us 10 < err.natAbs)
      if off then
        (s.bump 0 F.TIM_PPS_STATUS_OUT_OF_WINDOW).raise 0 32 0x607 2 [(4, unsigned 32 (err / 1000))]
      else
        let locks := match s.tim.ppsAt with
          | some p => decide (((t - p : Nat) : Int) - second ≤ us 10) && decide ((second : Int) - ((t - p : Nat) : Int) ≤ us 10)
          | none => false
        let s : State := { s with tim := { s.tim with ppsAt := some t } }
        let s := if locks then s.set 0 F.TIM_PPS_STATUS_IN_VALID 1 else s
        let irig := s.get 0 F.TIM_IRIG_STATUS_STATE == 2
        if s.flag 0 F.TIM_PPS_STATUS_IN_VALID && (s.clock.traceable || irig) then s.refSample 207 (-(err * 16 / 1000)) else s

/-- PPS_OUT_PULSE (09 R265): the rise at a whole second plus OFFSET_NS, and the fall WIDTH_MS later. -/
def execPpsOutPulse (a : At) (high : Bool) (s : State) : Out :=
  onUnit a true s fun s =>
    if !s.runs 0 32 then s
    else if high then
      let no := (((s.now : Int) - 1000 * signed 20 (s.get 0 F.TIM_PPS_CFG_OFFSET_NS)) / 1000000000000).toNat
      if s.flag 0 F.TIM_PPS_CFG_OUT_EN && (s.clock.traceable || s.flag 0 F.TIM_PPS_CFG_OUT_ALWAYS) && !s.tim.ppsHigh &&
          s.tim.ppsNo != some no then
        { s with tim := { s.tim with ppsHigh := true, ppsNo := some no, ppsRose := s.now } }.emit (.ppsOut true)
      else s
    else if s.tim.ppsHigh && fallen s (s.tim.ppsRose + ms (s.get 0 F.TIM_PPS_CFG_WIDTH_MS)) then
      { s with tim := { s.tim with ppsHigh := false } }.emit (.ppsOut false)
    else s

/-- A write of TIM_SET_CMD (09 R261, Table 9.11): refused unless the hub is a class-248 grandmaster and SET obeys R11. -/
def State.writeTimSet (s : State) (d : Nat) (v : Word) : State :=
  if wordGet v 0 0 = 0 ∨ d ≠ 0 then s
  else
    let t := s.pair 0 Reg.TIM_SET_LO Reg.TIM_SET_HI
    let s := if tsOk t && s.tim.parent.isNone && s.get 0 F.TIM_STATUS_STATE == 0 then s.elect else s
    if s.get 0 F.TIM_STATUS_STATE = 4 ∧ s.get 0 F.TIM_STATUS_CLASS = 248 ∧ tsOk t = true then
      (s.set 0 F.TIM_SET_CMD_REFUSED 0).stepTo (tsPs t)
    else s.set 0 F.TIM_SET_CMD_REFUSED 1

/-- TIM_SET (09 R261). -/
def execTimSet (a : At) (q : Req) (v : Word) (s : State) : Out :=
  onWrite a q 0x1A0020 v true s fun s => s.writeTimSet a.die v

/-! TIM strands (09 R274). -/

/-- TIM_MESSAGE_SEND (09 R274): the origin of a TIM strand sends every 62.5 ms. -/
def execTimMessageSend (a : At) (idx : Nat) (s : State) : Out :=
  onIsland a 32 (idx < 8192) s fun s =>
    let i := 8192 * a.die + idx
    match s.entry? i with
    | some e =>
      if e.kind = 5 ∧ e.inType = 3 ∧ (e.st = 2 ∨ e.st = 3) ∧ fallen s (Table.look s.tim.strandDue i 0) = true then
        let flags := b2n s.clock.traceable + 2 * s.get 0 F.TIM_UTC_LEAP61 + 4 * s.get 0 F.TIM_UTC_LEAP59
        let b := leBytes 1 1 ++ leBytes 1 flags ++ leBytes 2 (s.get 0 F.TIM_GM_GM) ++ leBytes 8 s.ts ++ leBytes 4 0 ++
          leBytes 1 (s.get 0 F.TIM_STATUS_CLASS) ++ leBytes 1 (s.get 0 F.TIM_STATUS_HOPS) ++
          leBytes 1 (s.get 0 F.TIM_UTC_TAI_UTC) ++ leBytes 1 (s.get 0 F.TIM_GM_PRIORITY) ++ leBytes 12 0
        { s with tim := { s.tim with strandDue := Table.put s.tim.strandDue i (s.now + us 62500) } }.offerFrame i b
      else s
    | none => s

/-- TIM_MESSAGE_RECEIVE (09 R274): a message at the endpoint of a TIM strand; the one named by TIM_PARENT feeds the servo. -/
def execTimMessageReceive (a : At) (idx : Nat) (msg : List Byte) (s : State) : Out :=
  onIsland a 32 (idx < 8192) s fun s =>
    let i := 8192 * a.die + idx
    match s.entry? i with
    | some e =>
      if e.kind ≠ 5 ∨ e.outType ≠ 3 ∨ msg.length ≠ 32 ∨ byteAt msg 0 ≠ 1 ∨ tsOk (numAt msg 4 8) = false then s
      else if i ≠ s.get 0 F.TIM_PARENT_STRAND_TIM_PARENT ∨ s.flag 0 F.TIM_CFG_TIM_PARENT_EN = false then s
      else
        let flags := byteAt msg 1
        let s := s.modLink 200 fun x => { x with
          heard := true, traceable := bit flags 0, gm := numAt msg 2 2 % 4096, cls := classOf (byteAt msg 16),
          hops := byteAt msg 17, utc := byteAt msg 18, prio := byteAt msg 19, sampleAt := some s.now }
        let s := if s.tim.parent.isNone ∧ !s.outranks s.ownClass then s.seekParent 3 else s
        if s.tim.parent = some 200 then
          let s := (s.set 0 F.TIM_UTC_LEAP61 (b2n (bit flags 1))).set 0 F.TIM_UTC_LEAP59 (b2n (bit flags 2))
          (s.follow (s.tlink 200)).servo ((qOf (numAt msg 4 8) 0 + numAt msg 12 4 : Nat) - (q16 s.now : Int))
        else s
    | none => s

end Sys2Proof.Machine
end

