-- ==== Sys2Proof/Machine/Ptp.lean ====
section
/-! DEFINITION. IEEE 1588 ports (10 R296 to R299): messages, the peer delay, the choice of a master. Times in sixteenths of a
nanosecond. -/

namespace Sys2Proof.Machine

/-- A MAC's PTP port. -/
def State.ptpPort (s : State) (d m : Nat) : PtpPort := Table.look (s.die d).ptp m {}
def State.modPtp (s : State) (d m : Nat) (f : PtpPort → PtpPort) : State :=
  s.modDie d fun x => { x with ptp := Table.upd x.ptp m {} f }

/-- ROLE and STATE of a port. -/
def State.ptpRole (s : State) (d m : Nat) : Nat := s.get d F.ETH_PTP_CFG_ROLE m
def State.ptpState (s : State) (d m : Nat) : Nat := s.get d F.ETH_PTP_STATUS_STATE m

/-- The clockIdentity of the package, formed from the Device Serial Number (10 R297), and a port's sourcePortIdentity. -/
def State.clockId (s : State) : List Byte := beBytes 4 s.part.serialHi.toNat ++ beBytes 4 s.part.serialLo.toNat
def State.portId (s : State) (d m : Nat) : List Byte := s.clockId ++ beBytes 2 (macNo d m + 1)

/-- Departure and arrival of a message at the pins, corrected for an external PHY (10 R296). -/
def State.ptpOut (s : State) (d m : Nat) : Nat := q16 s.now + s.get d F.ETH_PTP_LAT_TX_LAT m
def State.ptpIn (s : State) (d m : Nat) : Nat := q16 s.now - s.get d F.ETH_PTP_LAT_RX_LAT m

/-- A PTP timestamp of 10 bytes, and the time it gives. -/
def ptpTime (q : Nat) : List Byte := beBytes 6 (q / 16 / 1000000000) ++ beBytes 4 (q / 16 % 1000000000)
def ptpTimeOf (p : List Byte) (n : Nat) : Nat := (beAt p n 6 * 1000000000 + beAt p (n + 6) 4) * 16

/-- The correctionField of a message. -/
def correction (p : List Byte) : Int := signed 64 (beAt p 8 8) / 4096

/-- A PTP message: type, two-step flag, domain, correction, sender, number, interval code, and its body (IEEE 1588-2019). -/
def ptpMsg (type : Nat) (twoStep : Bool) (domain : Nat) (corr : Int) (sender : List Byte) (seq logInterval : Nat)
    (body : List Byte) : List Byte :=
  let control := if type = 0 then 0 else if type = 8 then 2 else 5
  beBytes 1 type ++ beBytes 1 0x12 ++ beBytes 2 (34 + body.length) ++ beBytes 1 domain ++ beBytes 1 0 ++
    beBytes 1 (if twoStep then 2 else 0) ++ beBytes 1 0x08 ++ beBytes 8 (unsigned 64 (corr * 4096)) ++ beBytes 4 0 ++ sender ++
    beBytes 2 seq ++ beBytes 1 control ++ beBytes 1 logInterval ++ body

/-- A port sends a message over Layer 2 on its own MAC (10 R296). -/
def State.ptpSend (s : State) (d m : Nat) (p : List Byte) : State :=
  let b := beBytes 6 0x011B1900000E ++ beBytes 6 (Config.macAddress (macNo d m)).toNat ++ beBytes 2 0x88F7 ++ p
  s.macPut d m (reseal (b ++ List.replicate (60 - b.length) 0)) false

/-- The domain of a port. -/
def State.ptpDomain (s : State) (d m : Nat) : Nat := s.get d F.ETH_PTP_CFG_DOMAIN m

/-! The choice of a master (10 R297, R298). -/

/-- The rank of a clock: priority1, class, accuracy, variance, priority2, identity, lowest first. -/
def ptpRank (p1 cls acc var p2 id : Nat) : Nat :=
  ((((p1 * 256 + cls) * 256 + acc) * 65536 + var) * 256 + p2) * 2 ^ 64 + id

/-- The grandmasterIdentity of the Basin (10 R297). -/
def State.basinClock (s : State) : Nat :=
  beNat (beBytes 2 (s.get 0 F.SHL_ID_BASIN_ID) ++ [0xFF, 0xFE, 0, 0] ++ beBytes 2 (s.get 0 F.TIM_GM_GM))

/-- The CLASS that the clock's own dataset stands with: without what PTP itself gives it (log entry 20). -/
def State.ptpClass (s : State) : Nat := if s.tim.parent = some 208 then 248 else s.get 0 F.TIM_STATUS_CLASS

/-- clockAccuracy of a CLASS. -/
def accuracyOf (cls : Nat) : Nat := if cls = 6 then 0x21 else 0xFE

/-- The rank of the clock's own dataset. -/
def State.ownRank (s : State) : Nat :=
  ptpRank (s.get 0 F.TIM_GM_PRIORITY) s.ptpClass (accuracyOf s.ptpClass) Config.ptpVariance.toNat 128 s.basinClock

/-- A foreign master counts: two Announces within 4 s, the last within the receipt timeout of 3 s. -/
def State.qualified (s : State) (x : Foreign) : Bool :=
  decide (s.now < x.at_ + ms 3000) && (match x.before with
    | some b => decide (x.at_ < b + ms 4000)
    | none => false)

/-- The best foreign master of a port: by rank, then steps removed, then sender. -/
def State.bestForeign (s : State) (d m : Nat) : Option Foreign :=
  largestBy (fun (x : Foreign) => -((x.rank * 65536 + x.steps) * 2 ^ 80 + x.sender : Nat))
    ((s.ptpPort d m).foreign.filter fun x => s.qualified x)

/-- The state of a port changes (10 R298). -/
def State.setPtp (s : State) (d m st : Nat) : State :=
  let old := s.ptpState d m
  if old = st then s
  else
    let id := match s.bestForeign d m with
      | some x => leNat (beBytes 8 (x.sender / 65536))
      | none => 0
    (s.set d F.ETH_PTP_STATUS_STATE st m).raise d (macNo d m) 0xD0A 1 [(1, macNo d m), (1, old), (1, st), (1, 0), (8, id)]

/-- The boundary-clock ports that are up, as (die, MAC), lowest package number first. -/
def State.bcPorts (s : State) : List (Nat × Nat) :=
  (List.range (4 * s.part.dies)).filterMap fun n =>
    if s.ptpRole (n / 4) (n % 4) = 1 ∧ s.flag (n / 4) F.ETH_STATUS_LINK (n % 4) = true then some (n / 4, n % 4) else none

/-- A port's best foreign master outranks the clock's own dataset. -/
def State.outranked (s : State) (p : Nat × Nat) : Bool :=
  match s.bestForeign p.1 p.2 with
  | some x => decide (x.rank < s.ownRank)
  | none => false

/-- The BMCA over every port (10 R298): slave, passive or master; a port that has heard nothing listens for 3 s first. -/
def State.bmca (s : State) : State :=
  let ports := s.bcPorts
  let better := ports.filter fun p => s.outranked p && !s.flag p.1 F.ETH_PTP_CFG_MASTER_ONLY p.2
  let slave := if bit (s.get 0 F.TIM_CFG_REF_EN) 1 then better.head? else none
  let s := ports.foldl (fun (s : State) p =>
    let st := if slave = some p then 3 else if better.contains p then 4
      else if (s.bestForeign p.1 p.2).isNone && decide (s.now < (s.ptpPort p.1 p.2).heardAt + ms 3000) then s.ptpState p.1 p.2
      else 2
    s.setPtp p.1 p.2 st) s
  if s.tim.parent = some 208 then s.refLost else s

/-! Messages (10 R296, R299). -/

/-- An Announce of a port's foreign master. -/
def State.hearAnnounce (s : State) (d m : Nat) (p : List Byte) : State :=
  let sender := beAt p 20 10
  let rank := ptpRank (byteAt p 47) (byteAt p 48) (byteAt p 49) (beAt p 50 2) (byteAt p 52) (beAt p 53 8)
  if beAt p 20 8 = beNat s.clockId ∨ 255 ≤ beAt p 61 2 then s
  else
    let old := List.find? (fun (x : Foreign) => x.sender == sender) (s.ptpPort d m).foreign
    let x : Foreign := ⟨sender, rank, beAt p 61 2, beAt p 53 8, s.now, old.map (·.at_)⟩
    (s.modPtp d m fun y => { y with
      heardAt := s.now, foreign := y.foreign.filter (fun z => z.sender != sender) ++ [x] }).bmca

/-- The offset of the master's clock, from the times of a Sync, reaches the servo of a slave port (09 R264). -/
def State.ptpSample (s : State) (d m : Nat) (origin : Nat) (corr : Int) (t2 : Nat) : State :=
  s.refSample 208 ((origin : Int) + corr + (s.get d F.ETH_PTP_DELAY_DELAY m : Nat) - (t2 : Int))

/-- The sender of a message is the master that a slave port follows. -/
def State.fromMaster (s : State) (d m : Nat) (p : List Byte) : Bool :=
  s.ptpState d m == 3 && (match s.bestForeign d m with
    | some x => x.sender == beAt p 20 10
    | none => false)

/-- The mean path delay of a link is measured. -/
def State.ptpDelay (s : State) (d m : Nat) (delay : Int) : State :=
  (s.set d F.ETH_PTP_DELAY_DELAY (delay / 2).toNat m).modPtp d m fun x => { x with pdSent := none, pdGot := none }

/-- A peer-delay message at a port (IEEE 1588-2019, peer-to-peer mechanism). -/
def State.peerDelay (s : State) (d m : Nat) (p : List Byte) : State :=
  let type := byteAt p 0 % 16
  let one := s.flag d F.ETH_PTP_CFG_ONE_STEP m
  let t := s.ptpIn d m
  if type = 2 then
    let dst := (p.drop 20).take 10
    let seq := beAt p 30 2
    if one then
      let turn : Int := (s.ptpOut d m : Int) - (t : Int)
      s.ptpSend d m (ptpMsg 3 false (byteAt p 4) (correction p + turn) (s.portId d m) seq 0x7F (ptpTime 0 ++ dst))
    else
      (s.ptpSend d m (ptpMsg 3 true (byteAt p 4) 0 (s.portId d m) seq 0x7F (ptpTime t ++ dst))).ptpSend d m
        (ptpMsg 0xA false (byteAt p 4) (correction p) (s.portId d m) seq 0x7F (ptpTime (s.ptpOut d m) ++ dst))
  else if (p.drop 44).take 10 ≠ s.portId d m ∨ beAt p 30 2 ≠ (s.ptpPort d m).seqs.getD 2 0 then s
  else
    match (s.ptpPort d m).pdSent with
    | none => s
    | some t1 =>
      if type = 3 then
        if bit (byteAt p 6) 1 then
          s.modPtp d m fun x => { x with pdGot := some (beAt p 30 2, ptpTimeOf p 34, t, correction p) }
        else s.ptpDelay d m ((t : Int) - (t1 : Int) - correction p)
      else
        match (s.ptpPort d m).pdGot with
        | some (_, t2, t4, corr) =>
          s.ptpDelay d m (((t4 : Int) - (t1 : Int)) - ((ptpTimeOf p 34 : Int) - (t2 : Int)) - corr - correction p)
        | none => s

/-- A PTP message at a boundary-clock port; Delay_Req and other domains are discarded. -/
def State.boundaryMsg (s : State) (d m : Nat) (p : List Byte) : State :=
  let type := byteAt p 0 % 16
  if byteAt p 4 ≠ s.ptpDomain d m then s
  else if type = 0xB then s.hearAnnounce d m p
  else if type = 0 ∧ s.fromMaster d m p = true then
    if bit (byteAt p 6) 1 then s.modPtp d m fun x => { x with syncGot := some (beAt p 30 2, s.ptpIn d m, correction p) }
    else s.ptpSample d m (ptpTimeOf p 34) (correction p) (s.ptpIn d m)
  else if type = 8 ∧ s.fromMaster d m p = true then
    match (s.ptpPort d m).syncGot with
    | some (n, t2, corr) =>
      if n = beAt p 30 2 then
        (s.ptpSample d m (ptpTimeOf p 34) (corr + correction p) t2).modPtp d m fun x => { x with syncGot := none }
      else s
    | none => s
  else s

/-- A received frame meets its port's PTP role; the answer is the frame that goes on to classification, if any (10 R296, R299). -/
def State.ptpIngress (s : State) (d m : Nat) (f : List Byte) : State × Option (List Byte) :=
  let role := s.ptpRole d m
  if !isPtp f || role == 0 then (s, some f)
  else
    let n := ptpAt f
    let p := (bodyOf f).drop n
    let type := byteAt p 0 % 16
    if type = 1 then (s, none)
    else if type = 2 ∨ type = 3 ∨ type = 0xA then (s.peerDelay d m p, none)
    else if role = 1 then (s.boundaryMsg d m p, none)
    else if type = 0 then
      let p := splice p 16 (beBytes 4 (s.ptpIn d m / 16 % 1000000000))
      (s, some (reseal ((bodyOf f).take n ++ addCorrection p (s.get d F.ETH_PTP_DELAY_DELAY m : Nat))))
    else (s, some f)

/-- PTP_INTERVAL_TIMER (10 R296): 0 Announce and 1 Sync of a master port, 2 Pdelay_Req of any port, each every second. -/
def execPtpIntervalTimer (a : At) (m kind : Nat) (s : State) : Out :=
  onIsland a (21 + m) (m < 4 && kind < 3) s fun s =>
    let d := a.die
    let role := s.ptpRole d m
    let x := s.ptpPort d m
    let may := s.flag d F.ETH_STATUS_LINK m && (if kind = 2 then role == 1 || role == 2 else role == 1 && s.ptpState d m == 2)
    if !(may && fallen s (x.due.getD kind 0)) then s
    else
      let n := (x.seqs.getD kind 0 + 1) % 65536
      let dom := s.ptpDomain d m
      let id := s.portId d m
      let t := s.ptpOut d m
      let s := s.modPtp d m fun x => { x with due := x.due.set kind (s.now + ms 1000), seqs := x.seqs.set kind n }
      match kind with
      | 0 =>
        let cls := s.get 0 F.TIM_STATUS_CLASS
        let tlv := if s.get d F.ETH_PTP_CFG_PROFILE m = 1 then Config.profileTlvs (s.get 0 F.TIM_GM_GM) else []
        s.ptpSend d m (ptpMsg 0xB false dom 0 id n 0 (ptpTime t ++ beBytes 2 (s.get 0 F.TIM_UTC_TAI_UTC) ++ beBytes 1 0 ++
          beBytes 1 (s.get 0 F.TIM_GM_PRIORITY) ++ beBytes 1 cls ++ beBytes 1 (accuracyOf cls) ++
          beBytes 2 Config.ptpVariance.toNat ++ beBytes 1 128 ++ beBytes 8 s.basinClock ++
          beBytes 2 (s.get 0 F.TIM_STATUS_HOPS) ++ beBytes 1 0xA0 ++ tlv))
      | 1 =>
        if s.flag d F.ETH_PTP_CFG_ONE_STEP m then s.ptpSend d m (ptpMsg 0 false dom 0 id n 0 (ptpTime t))
        else (s.ptpSend d m (ptpMsg 0 true dom 0 id n 0 (ptpTime 0))).ptpSend d m (ptpMsg 8 false dom 0 id n 0 (ptpTime t))
      | _ =>
        (s.ptpSend d m (ptpMsg 2 false dom 0 id n 0x7F (ptpTime 0 ++ beBytes 10 0))).modPtp d m fun x =>
          { x with pdSent := some t, pdGot := none }

/-- PTP_ANNOUNCE_TIMEOUT (10 R296, R298): 3 s without an Announce; the BMCA runs again. -/
def execPtpAnnounceTimeout (a : At) (m : Nat) (s : State) : Out :=
  onIsland a (21 + m) (m < 4) s fun s =>
    let d := a.die
    if s.ptpRole d m == 1 && s.flag d F.ETH_STATUS_LINK m && fallen s ((s.ptpPort d m).heardAt + ms 3000) then
      (s.modPtp d m fun x => { x with foreign := x.foreign.filter fun y => decide (s.now < y.at_ + ms 3000) }).bmca
    else s

/-- PTP_FOLLOWUP_EXPIRE (10 R299): a kept residence is dropped after 1 s. -/
def execPtpFollowupExpire (a : At) (m key : Nat) (s : State) : Out :=
  onIsland a (21 + m) (m < 4) s fun s =>
    let rest := (Table.look (s.die a.die).residences m []).filter fun y => y.key != key || !fallen s y.until_
    s.modDie a.die fun x => { x with residences := Table.put x.residences m rest }

end Sys2Proof.Machine
end

