-- ==== Sys2Proof/Machine/Ethernet.lean ====
section
/-! DEFINITION. Station Ethernet (10 R277 to R295): receiving a frame, link redundancy, classification, secure associations. -/

namespace Sys2Proof.Machine

/-! Counted frames and their events (10 R278, R301). -/

/-- A received frame is discarded for a cause of ETH_RX_ERRORS. -/
def State.rxError (s : State) (d m : Nat) (f : Fld) (cause : Nat) : State :=
  (s.bump d f 1 m).raiseLimited d 0xD02 (macNo d m) (ms 1000) fun n s =>
    s.raise d (macNo d m) 0xD02 2 [(1, macNo d m), (1, cause), (2, 0), (4, n)]

/-- A frame fails MACsec: 1 ICV, 2 replay, 3 no association. -/
def State.msecError (s : State) (d m : Nat) (f : Fld) (cause : Nat) : State :=
  (s.bump d f 1 m).raiseLimited d 0xD09 (macNo d m) (ms 1000) fun n s =>
    s.raise d (macNo d m) 0xD09 2 [(1, macNo d m), (1, cause), (2, 0), (4, n)]

/-- A PAUSE or PFC frame: MAC control, opcodes 0x0001 and 0x0101. -/
def isPause (f : List Byte) : Bool := beAt f 12 2 == 0x8808 && (beAt f 14 2 == 1 || beAt f 14 2 == 0x101)

/-! Link redundancy (10 R289, R290). -/

/-- The sequence number of a valid PRP trailer and its LanId (10 R288). -/
def prpTrailer (f : List Byte) : Option (Nat × Nat) :=
  let b := bodyOf f
  let t := b.drop (b.length - 6)
  let lan := beAt t 2 2 / 4096
  if beAt t 4 2 = 0x88FB ∧ (lan = 0xA ∨ lan = 0xB) ∧ beAt t 2 2 % 4096 = (b.length - tagsEnd b - 2) % 4096 then
    some (beAt t 0 2, lan)
  else none

/-- The sequence number of an HSR tag. -/
def hsrTag (f : List Byte) : Option Nat :=
  if beAt f (tagsEnd f) 2 = 0x892F then some (beAt f (tagsEnd f + 4) 2) else none

/-- How far a sequence value stands behind the top of a window, modulo 2^16; ahead where at least 2^15. -/
def behind (top n : Nat) : Nat := (top + 65536 - n) % 65536

/-- The duplicate table takes a source and sequence value: whether the frame is accepted (10 R289). -/
def State.dupCheck (s : State) (d : Nat) (cyc src n : Nat) : State × Bool :=
  let l := (s.die d).lre.dups
  let live := fun (e : Dup) => decide (s.now < e.last + ms (s.get d F.ETH_LRE_CFG_ENTRY_FORGET_MS) + cyc)
  let put := fun (s : State) (l : List Dup) (e : Dup) => s.modLre d fun x => { x with dups := l ++ [e] }
  match List.find? (fun (e : Dup) => e.src == src && live e) l with
  | none =>
    let rest := l.filter fun e => e.src != src
    let new : Dup := ⟨src, n, [n], s.now⟩
    if rest.length < 256 then (put s rest new, true)
    else
      let oldest := largestBy (fun (e : Dup) => -(e.last : Int)) rest
      let kept := rest.filter fun e => some e != oldest
      let s := (s.bump d F.ETH_LRE_DUP_EVICT_COUNT).raiseLimited d 0xD05 0 (ms 1000) fun k s =>
        s.raise d (macNo d 0) 0xD05 1 [(1, d), (3, 0), (4, k)]
      (put s kept new, true)
  | some e =>
    let rest := l.filter fun x => x.src != src
    let back := behind e.top n
    let ahead := behind n e.top
    if back < 64 then
      if e.window.contains n then (put (s.bump d F.ETH_LRE_DUP_DISCARD_COUNT) rest { e with last := s.now }, false)
      else (put s rest { e with window := n :: e.window, last := s.now }, true)
    else if ahead < 64 then
      (put s rest { e with top := n, window := n :: e.window.filter fun x => behind n x < 64, last := s.now }, true)
    else (put s rest { e with top := n, window := [n], last := s.now }, true)

/-- An address is the LRE's own or one of its proxy addresses (10 R290). -/
def State.lreOwns (s : State) (d addr : Nat) : Bool :=
  addr == (Config.macAddress (macNo d 0)).toNat ||
  (List.range 16).any fun i => addr != 0 &&
    addr == s.get d F.ETH_LRE_PROXY_LO_ADDR i + 2 ^ 32 * s.get d F.ETH_LRE_PROXY_HI_ADDR i

/-- An HSR frame is forwarded to the other port (10 R290). -/
def State.hsrForward (s : State) (d p : Nat) (f : List Byte) (bad : Bool) : State :=
  let da := beAt f 0 6
  let unicast := byteAt f 0 % 2 == 0
  if (unicast && s.lreOwns d da) || s.lreOwns d (beAt f 6 6) then s
  else
    let q := s.transit d (1 - p)
    if 32768 < transitBytes q + f.length then
      (s.bump d F.ETH_LRE_TRANSIT_DROP_COUNT).raiseLimited d 0xD06 p (ms 1000) fun n s =>
        s.raise d (macNo d p) 0xD06 2 [(1, d), (1, p), (2, 0), (4, n)]
    else s.modLre d fun x => { x with transit := Table.put x.transit (1 - p) (q ++ [(f, bad)]) }

/-- PRP or HSR receive handling; the answer is the frame without its trailer or tag, if it goes on (10 R289, R290). -/
def State.lreReceive (s : State) (d p cyc : Nat) (f : List Byte) : State × Option (List Byte) :=
  let b := bodyOf f
  let src := beAt f 6 6
  if 2 ≤ p then (s, some f)
  else if s.lreMode d = 1 then
    match prpTrailer f with
    | none => (s, some f)
    | some (n, lan) =>
      let s := if lan = 0xA + p then s
        else (s.bump d F.ETH_LRE_WRONG_LAN_COUNT 1 p).raise d (macNo d p) 0xD04 2 [(1, d), (1, p), (1, 2)]
      let r := s.dupCheck d cyc src n
      (r.1, if r.2 then some (reseal (b.take (b.length - 6))) else none)
  else if s.lreMode d = 2 then
    match hsrTag f with
    | none => (s, some f)
    | some n =>
      let r := s.dupCheck d cyc src n
      if r.2 then (r.1.hsrForward d p f false, some (reseal (b.take (tagsEnd b) ++ b.drop (tagsEnd b + 6)))) else (r.1, none)
  else (s, some f)

/-! MACsec verification (10 R293, R295). -/

/-- A frame passes verification; the answer is the frame without SecTAG and ICV, if it goes on. `opened` is what its secure data
decrypts to under its association, `icvOk` whether its ICV is right. -/
def State.msecReceive (s : State) (d m : Nat) (f opened : List Byte) (icvOk : Bool) : State × Option (List Byte) :=
  if !s.flag d F.ETH_MSEC_CTL_EN m then (s, some f)
  else
    let mode := s.get d F.ETH_MSEC_CTL_VALIDATE m
    let b := bodyOf f
    let tagged := beAt f 12 2 == 0x88E5
    let an := byteAt f 14 % 4
    let pn := beAt f 16 4
    let sa := if tagged then List.find? (fun (x : Sa) => x.port == m && x.rx && x.an == an && x.sci == beAt f 20 8) (s.die d).sas
      else none
    let plain := reseal (b.take 12 ++ opened)
    let bare := if tagged then reseal (b.take 12 ++ (b.drop 28).take (b.length - 44)) else f
    let failing := fun (s : State) (g : List Byte) => (s, if mode = 2 then none else some g)
    match sa with
    | none => if mode = 0 then (s, some bare) else failing (s.msecError d m F.ETH_MSEC_NO_SA_COUNT 3) bare
    | some x =>
      if mode = 0 then (s, some plain)
      else if s.flag d F.ETH_MSEC_CTL_REPLAY_PROTECT m && decide (pn + s.get d F.ETH_MSEC_WINDOW_REPLAY_WINDOW m < x.pn) then
        failing (s.msecError d m F.ETH_MSEC_REPLAY_COUNT 2) plain
      else if !icvOk then failing (s.msecError d m F.ETH_MSEC_ICV_FAIL_COUNT 1) plain
      else
        (s.modDie d fun y => { y with sas := y.sas.map fun z => if z = x then { x with pn := max x.pn (pn + 1) } else z },
          some plain)

/-! Classification (10 R281). -/

/-- A rule matches a frame of a MAC. -/
def State.ruleMatches (s : State) (d m r : Nat) (da vid pcp etype appid : Nat) : Bool :=
  let prot := etype == 0x88B8 || etype == 0x88BA
  s.flag d F.ETH_RULE_CTL_VALID r && bit (s.get d F.ETH_RULE_CTL_MAC_MASK r) m &&
  (!s.flag d F.ETH_RULE_CTL_DA_EN r || da == s.get d F.ETH_RULE_DA_LO_DA r + 2 ^ 32 * s.get d F.ETH_RULE_DA_HI_DA r) &&
  (!s.flag d F.ETH_RULE_CTL_VID_EN r || vid == s.get d F.ETH_RULE_MATCH_VID r) &&
  bit (s.get d F.ETH_RULE_CTL_PCP_MASK r) pcp &&
  (!s.flag d F.ETH_RULE_CTL_ETYPE_EN r || etype == s.get d F.ETH_RULE_MATCH_ETYPE r) &&
  (!s.flag d F.ETH_RULE_CTL_APPID_EN r || (prot && appid == s.get d F.ETH_RULE_APPID_APPID r))

/-- The rule that matches a frame first, and the stream number it is given (10 R281). -/
def State.classify (s : State) (d m : Nat) (f : List Byte) : Option Nat × Nat :=
  let tagged := tagsEnd f != 12
  let tci := beAt f 14 2
  let vid := if tagged ∧ tci % 4096 ≠ 0 then tci % 4096 else s.get d F.ETH_CFG_PVID m
  let pcp := if tagged then tci / 8192 else 0
  let etype := beAt f (etypeAt f) 2
  let appid := beAt f (etypeAt f + 2) 2
  match (List.range 256).find? fun r => s.ruleMatches d m r (beAt f 0 6) vid pcp etype appid with
  | some r =>
    let sn := s.get d F.ETH_RULE_ACT_SN r
    (some r, if sn = 0 then 0xFFF else sn)
  | none =>
    if s.flag d F.ETH_CLS_PROT_EN m && (etype == 0x88B8 || etype == 0x88BA) &&
        decide (s.get d F.ETH_APPID_APPID_LO m ≤ appid) && decide (appid ≤ s.get d F.ETH_APPID_APPID_HI m) then
      (none, s.get d F.ETH_CLS_PROT_SN m)
    else (none, s.get d F.ETH_CLS_DEFAULT_SN m)

/-- The strand of a MAC's stream number (10 R282). -/
def State.ethStrand (s : State) (d m sn : Nat) : Option Nat :=
  (List.find? (fun (p : Nat × Entry) => p.2.inType == 3 && p.2.kind == 4 && p.2.inIndex == macNo d m && p.2.inSn == sn &&
    (p.2.st == 2 || p.2.st == 3)) (s.die d).ledger).map fun p => s.homeOf (8192 * d + p.1)

/-- Classification, stream filtering and the strand (10 R280, steps 4 to 6; R284). -/
def State.toStrand (s : State) (d m : Nat) (f : List Byte) : State :=
  let c := s.classify d m f
  let pass := fun (s : State) =>
    if c.2 = 0xFFF then s.rxError d m F.ETH_RX_NO_STREAM_COUNT 4
    else
      match s.ethStrand d m c.2 with
      | some idx => s.offerFrame idx f
      | none => s.rxError d m F.ETH_RX_NO_STREAM_COUNT 4
  match c.1 with
  | none => pass s
  | some r =>
    let sdu := s.get d F.ETH_RULE_ACT_MAX_SDU r
    if s.flag d F.ETH_RULE_ACT_BLOCKED r then s
    else if sdu ≠ 0 ∧ sdu < f.length then
      let s := s.rxError d m F.ETH_RX_OVERSIZE_COUNT 3
      if s.flag d F.ETH_RULE_ACT_BLOCK_OVERSIZE r then
        (s.set d F.ETH_RULE_ACT_BLOCKED 1 r).raise d (macNo d m) 0xD03 2
          [(1, macNo d m), (1, 0), (2, r), (2, f.length), (2, sdu)]
      else s
    else pass s

/-- Redundancy and MACsec on receipt (10 R280, steps 2 and 3): in PRP the trailer lies under MACsec and comes off after verification
(10 R293). -/
def State.openFrame (s : State) (d m cyc : Nat) (f opened : List Byte) (icvOk : Bool) : State × Option (List Byte) :=
  if m < 2 ∧ s.lreMode d = 1 then
    let r := s.msecReceive d m f opened icvOk
    match r.2 with
    | none => r
    | some f => r.1.lreReceive d m cyc f
  else
    let r := s.lreReceive d m cyc f
    match r.2 with
    | none => r
    | some f => r.1.msecReceive d m f opened icvOk

/-- A received frame, from its length and FCS to its strand (10 R280). -/
def State.receiveFrame (s : State) (d m cyc : Nat) (f opened : List Byte) (icvOk : Bool) : State :=
  if f.length < 64 then s.rxError d m F.ETH_RX_RUNT_COUNT 2
  else if s.get d F.ETH_CFG_MAX_FRAME m < f.length then s.rxError d m F.ETH_RX_OVERSIZE_COUNT 3
  else if !fcsOk f then
    let s := s.rxError d m F.ETH_RX_FCS_ERR_COUNT 1
    if m < 2 ∧ s.lreMode d = 2 ∧ (hsrTag f).isSome = true then s.hsrForward d m f true else s
  else if isPause f then s.rxError d m F.ETH_RX_PAUSE_COUNT 5
  else
    let s := s.bump d F.ETH_RX_FRAMES_COUNT 1 m
    let r := s.openFrame d m cyc f opened icvOk
    match r.2 with
    | none => r.1
    | some f =>
      let r := r.1.ptpIngress d m f
      match r.2 with
      | none => r.1
      | some f => r.1.toStrand d m f

/-- ETH_FRAME_RECEIVE (10 R280): the frame from its destination address to its FCS; under MACsec, what its secure data decrypts
to and whether its ICV is right. -/
def execEthFrameReceive (a : At) (m : Nat) (frame opened : List Byte) (icvOk : Bool) (s : State) : Out :=
  onIsland a (21 + m) (m < 4) s fun s =>
    if s.flag a.die F.ETH_STATUS_LINK m then s.receiveFrame a.die m a.cyc frame opened icvOk else s

/-- PTP_MESSAGE_RECEIVE (10 R296, R299): a frame that carries a PTP message. -/
def execPtpMessageReceive (a : At) (m : Nat) (frame opened : List Byte) (icvOk : Bool) (s : State) : Out :=
  onIsland a (21 + m) (m < 4) s fun s =>
    let plain := if s.flag a.die F.ETH_MSEC_CTL_EN m then frame.take 12 ++ opened else frame
    if s.flag a.die F.ETH_STATUS_LINK m && isPtp plain then s.receiveFrame a.die m a.cyc frame opened icvOk else s

/-- SPEED codes that a mode allows (10 R277). -/
def modeSpeeds (mode : Nat) : List Nat :=
  match mode with
  | 1 => [3]
  | 2 => [1, 2, 3]
  | 3 => [4]
  | 4 => [5]
  | _ => []

/-- A MAC's link comes up at a speed, with negotiation complete or not, or goes down (10 R277). -/
def State.ethLink (s : State) (d m : Nat) (up : Bool) (speed : Nat) (an : Bool) : State :=
  let mode := s.get d F.ETH_CFG_MODE m
  let wants := (mode = 1 ∧ s.flag d F.ETH_CFG_AN_EN m = true) ∨ mode = 2
  let was := s.flag d F.ETH_STATUS_LINK m
  if up && !((modeSpeeds mode).contains speed && (an || !decide wants)) then s
  else if up = was ∧ (!up ∨ s.get d F.ETH_STATUS_SPEED m = speed) then s
  else
    let s := ((s.set d F.ETH_STATUS_LINK (b2n up) m).set d F.ETH_STATUS_SPEED (if up then speed else 0) m).set d
      F.ETH_STATUS_AN_DONE (b2n (up && an && decide wants)) m
    let s := s.raise d (macNo d m) 0xD01 (if up then 1 else 2) [(1, macNo d m), (1, b2n up), (1, if up then speed else 0)]
    let s := if m < 2 then s.modLre d fun x => { x with
        downAt := x.downAt.set m (if up then none else some s.now), faulted := if up then x.faulted.set m false else x.faulted }
      else s
    let s := if m < 2 ∧ !up ∧ s.lreMode d ≠ 0 then s.raise d (macNo d m) 0xD04 2 [(1, d), (1, m), (1, 1)] else s
    let role := s.ptpRole d m
    if role = 0 then s
    else if !up then
      (s.setPtp d m 6).modPtp d m (fun _ => {}) |>.bmca
    else (s.modPtp d m fun x => { x with heardAt := s.now }).setPtp d m (if role = 2 then 7 else 1)

/-- ETH_LINK (10 R277): the link comes up at a speed that its mode allows, or goes down; none comes up while the package goes to sleep. -/
def execEthLink (a : At) (m : Nat) (up : Bool) (speed : Nat) (an : Bool) (s : State) : Out :=
  onIsland a (21 + m) (m < 4) s fun s => if up && s.sleeping then s else s.ethLink a.die m up speed an

/-- LRE_ENTRY_FORGET (10 R289): an entry not refreshed for ENTRY_FORGET_MS is freed. -/
def execLreEntryForget (a : At) (src : Nat) (s : State) : Out :=
  onIsland a 21 true s fun s =>
    let wait := ms (s.get a.die F.ETH_LRE_CFG_ENTRY_FORGET_MS)
    s.modLre a.die fun x => { x with dups := x.dups.filter fun e => e.src != src || !fallen s (e.last + wait) }

/-- The supervision frame of an address (10 R291; IEC 62439-3): path and version, sequence, TLV 20 or 23 with the address. -/
def State.supervision (s : State) (d addr : Nat) (seq : Nat) (box : Option Nat) : List Byte :=
  let tlv := fun (t : Nat) (x : Nat) => beBytes 1 t ++ beBytes 1 6 ++ beBytes 6 x
  let b := beBytes 6 (0x01154E000100 + s.get d F.ETH_LRE_SUP_SUP_DA_LSB) ++ beBytes 6 (Config.macAddress (macNo d 0)).toNat ++
    beBytes 2 0x88FB ++ beBytes 2 1 ++ beBytes 2 seq ++ tlv (if s.lreMode d = 2 then 23 else 20) addr ++
    (match box with
     | some x => tlv 30 x
     | none => []) ++ beBytes 2 0
  reseal (b ++ List.replicate (60 - b.length) 0)

/-- LRE_SUPERVISION_SEND (10 R291): every LIFE_CHECK_MS, on both ports, for the own address and each proxy address; and a port
that has not been up for LIFE_CHECK_MS is reported. -/
def execLreSupervisionSend (a : At) (s : State) : Out :=
  onIsland a 21 true s fun s =>
    let d := a.die
    let wait := ms (s.get d F.ETH_LRE_SUP_LIFE_CHECK_MS)
    if s.lreMode d = 0 ∨ fallen s (s.die d).lre.supDue = false then s
    else
      let own := (Config.macAddress (macNo d 0)).toNat
      let proxies := ((List.range 16).map fun i => s.get d F.ETH_LRE_PROXY_LO_ADDR i + 2 ^ 32 * s.get d F.ETH_LRE_PROXY_HI_ADDR i).filter
        (· != 0)
      let s := s.lreSend d (s.supervision d own (s.die d).lre.seq none) false
      let s := proxies.foldl (fun s x => s.lreSend d (s.supervision d x (s.die d).lre.seq (some own)) false) s
      let s := s.modLre d fun x => { x with supDue := s.now + wait }
      (List.range 2).foldl (fun (s : State) p =>
        match (s.die d).lre.downAt.getD p none with
        | some t =>
          if t + wait ≤ s.now ∧ (s.die d).lre.faulted.getD p false = false then
            (s.modLre d fun x => { x with faulted := x.faulted.set p true }).raise d (macNo d p) 0xD04 2 [(1, d), (1, p), (1, 3)]
          else s
        | none => s) s

/-! Secure associations (10 R294). -/

/-- A command ends with a result of Table 10.3. -/
def State.saDone (s : State) (d result : Nat) : State :=
  let s := s.modDie d fun x => { x with saWait := none }
  ((s.set d F.ETH_SA_STATUS_RESULT result).set d F.ETH_SA_STATUS_BUSY 0).wrap d F.ETH_SA_STATUS_SEQ

/-- The pin count of the slot that holds a handle for PF0 changes (17 R445). -/
def State.pinKey (s : State) (d owner handle : Nat) (f : Nat → Nat) : State :=
  s.modDie (keyDie d owner) fun x => { x with keySlots := x.keySlots.map fun p =>
    if p.2.handle = handle ∧ p.2.owner = owner then (p.1, { p.2 with pins := f p.2.pins }) else p }

/-- The association that a command names. -/
def saNamed (v : Word) (x : Sa) : Bool :=
  x.port == wordGet v 29 28 && x.rx == (wordGet v 27 27 == 1) && (!x.rx || x.sc == wordGet v 26 25) && x.an == wordGet v 24 23

/-- An INSTALL whose key is at hand. -/
def State.saInstall (s : State) (d : Nat) (w : SaWait) : State :=
  let v := w.cmd
  let x : Sa := ⟨wordGet v 29 28, wordGet v 27 27 == 1, wordGet v 26 25, wordGet v 24 23, wordGet v 15 0, w.sci, w.pn, false, false,
    (s.slotOwner? d (wordGet v 15 0)).getD 0⟩
  ((s.modDie d fun y => { y with sas := y.sas ++ [x] }).pinKey d x.owner x.handle (· + 1)).saDone d 0

/-- A write of ETH_SA_CMD (10 R294, Table 10.7). -/
def State.writeSaCmd (s : State) (d : Nat) (v : Word) : State :=
  let op := wordGet v 31 30
  let port := wordGet v 29 28
  let pn := s.get d F.ETH_SA_PN_NEXT_PN
  let held := (s.die d).sas.any (saNamed v)
  if op = 0 ∨ op = 3 then s
  else if s.flag d F.ETH_SA_STATUS_BUSY then s.set d F.ETH_SA_STATUS_RESULT 5
  else if !s.flag d F.ETH_MSEC_CTL_EN port then s.saDone d 4
  else if op = 1 then
    if pn = 0 then s.saDone d 4
    else if held then s.saDone d 3
    else
      let w : SaWait := ⟨v, pn, s.pair d Reg.ETH_SA_SCI_LO Reg.ETH_SA_SCI_HI⟩
      let handle := wordGet v 15 0
      if (s.slotOwner? d handle).isSome then s.saInstall d w
      else if s.keyHeldOff d handle then s.saDone d 2
      else ((s.modDie d fun x => { x with saWait := some w }).set d F.ETH_SA_STATUS_BUSY 1).needKey d 0 handle (some (8 + port))
  else if !held then s.saDone d 4
  else if wordGet v 27 27 = 0 ∧ wordGet v 24 23 = s.get d F.ETH_MSEC_CTL_TX_AN port then s.saDone d 3
  else
    let s := (List.find? (saNamed v) (s.die d).sas).elim s fun x => s.pinKey d x.owner x.handle (· - 1)
    (s.modDie d fun x => { x with sas := x.sas.filter fun y => !saNamed v y }).saDone d 0

/-- ETH_SA_INSTALL (10 R294): a write of ETH_SA_CMD with OP 1. -/
def execEthSaInstall (a : At) (q : Req) (v : Word) (s : State) : Out :=
  onWrite a q 0x2A4000 v (wordGet v 31 30 == 1) s fun s => s.writeSaCmd a.die v

/-- ETH_SA_RETIRE (10 R294): a write of ETH_SA_CMD with OP 2. -/
def execEthSaRetire (a : At) (q : Req) (v : Word) (s : State) : Out :=
  onWrite a q 0x2A4000 v (wordGet v 31 30 == 2) s fun s => s.writeSaCmd a.die v

/-- A write of ETHm_MSEC_CTL: TX_AN changes, the SKN fields by the register route (10 R294). -/
def State.writeMsecCtl (s : State) (d m : Nat) (v : Word) : State :=
  (s.writeSkn d Reg.ETH_MSEC_CTL (wordSet v 27 26 (s.get d F.ETH_MSEC_CTL_TX_AN m)) m).set d F.ETH_MSEC_CTL_TX_AN (wordGet v 27 26) m

/-- MSEC_TX_AN_SELECT (10 R294): it holds from the next frame that starts. -/
def execMsecTxAnSelect (a : At) (q : Req) (m : Nat) (v : Word) (s : State) : Out :=
  onWrite a q (0x2A0020 + 0x400 * m) v (m < 4) s fun s => s.writeMsecCtl a.die m v

end Sys2Proof.Machine
end

