-- ==== Sys2Proof/Machine/Spindle.lean ====
section
/-! DEFINITION. The Spindle (08): what it measures, the allotments it decides, placement, relief, sleep modes, the envelope, and
what a twist boundary applies of it. -/

namespace Sys2Proof.Machine

/-! Twists (08 R211, R212). -/

/-- The number of the last boundary at or before now, and that of the boundary whose window has closed by now. -/
def State.boundaryNo (s : State) : Nat := s.now / twist
def State.windowNo (s : State) : Nat := (s.now + us 50) / twist

/-- A window rate in Mb/s (08 R212). -/
def windowRate (bytes : Nat) : Nat := bytes * 8 / 250

/-- The Spindle of a die runs (08 R240). -/
def State.spinning (s : State) (d : Nat) : Bool := s.runs d 31 && s.get d F.SPD_STATUS_STATE != 0

/-- Dies that are not cut off from die 0 (08 R239). -/
def State.joined (s : State) (d : Nat) : Bool := !s.dieOut d

/-! Allotments (08 R216 to R222). -/

/-- Bounds of an allotment (08 R216). -/
def Entry.floor (e : Entry) : Nat := max e.guaranteed 1
def Entry.top (e : Entry) : Nat := max e.ceiling e.floor

/-- The strands mapped at an output. -/
def State.strandsAt (s : State) (d o : Nat) : List (Nat × Entry) :=
  s.entries.filter fun p => (p.2.st == 2 || p.2.st == 3) && s.outOf p.2 == some (d, o)

/-- The highest non-empty head-delay bin of a strand's queue in the window. -/
def State.strandBin (s : State) (d : Nat) (e : Entry) : Nat :=
  ((s.queueOf e).map fun key => (Table.look (s.die d).samples (key % 512) {}).topBin).getD 0

/-- A strand is at risk, and its bound is missed, given the highest bin (08 R220). -/
def atRisk (lat bin : Nat) : Bool :=
  lat != 0 && (bin == 15 || (bin != 0 && decide (lat * 1000 ≤ 2 * 2 ^ (bin + 7))))
def boundMissed (lat bin : Nat) : Bool := lat != 0 && (bin == 15 || (decide (2 ≤ bin) && decide (lat * 1000 < 2 ^ (bin + 6))))

/-- A strand as `decide_shares` of R217 sees it; `want` in 1/80 Mb/s. -/
structure Bid where
  idx : Nat
  e : Entry
  demand : Nat
  risk : Bool
  want : Nat
  /-- A PROTECT strand in a strict queue (08 R218). -/
  strict : Bool

/-- The bids at an output. -/
def State.bids (s : State) (d o : Nat) : List Bid :=
  (s.strandsAt d o).map fun p =>
    let demand := windowRate (Table.look (s.die d).linked p.1 0)
    let risk := atRisk p.2.latBound (s.strandBin d p.2)
    let want := if risk then 80 * p.2.top else min (80 * p.2.top) (max (80 * p.2.floor) (100 * demand))
    ⟨p.1, p.2, demand, risk, want,
     p.2.contract == 0 && (((s.queueOf p.2).map fun key => decide (key % 16 < s.get d F.SCH_OUT_CFG_NSTRICT o)).getD false)⟩

/-- The targets: each bid with its share `num / den` of what its class wanted beyond its floors (08 R217). -/
def grants (bids : List Bid) (c : Int) : List (Bid × Int × Nat) :=
  let r₀ : Int := c - bids.foldl (fun (n : Int) b => n + 80 * (b.e.floor : Int)) 0
  let step := fun (acc : Int × List (Bid × Int × Nat)) (cls : Nat) =>
    let mine := bids.filter fun b => b.e.contract == cls
    let x : Int := mine.foldl (fun (n : Int) b => n + ((b.want : Int) - 80 * (b.e.floor : Int))) 0
    if acc.1 ≤ 0 then (acc.1, acc.2 ++ mine.map fun b => (b, 0, 1))
    else if x ≤ acc.1 then (acc.1 - x, acc.2 ++ mine.map fun b => (b, 1, 1))
    else (0, acc.2 ++ mine.map fun b => (b, acc.1, x.toNat))
  ((List.range 5).foldl step (r₀, [])).2

/-- The next allotment of a bid: `on` in a surge or at its start, `end_` where one ends (08 R217, R223, R224). -/
def nextAllot (on end_ : Bool) (g : Bid × Int × Nat) : Allot :=
  let b := g.1
  let den : Int := g.2.2
  let floor : Int := 80 * (b.e.floor : Int) * den
  let t : Int := floor + g.2.1 * ((b.want : Int) - 80 * (b.e.floor : Int))
  let a : Int := (b.e.allot : Int) * den
  let prot := b.e.contract == 0
  let whole := fun (n : Int) => (n / (80 * den)).toNat
  let stepped := min (max (min (max t (60 * a)) (100 * a)) floor) (80 * (b.e.top : Int) * den)
  let still := decide (stepped - 80 * a < 4 * a) && decide (80 * a - stepped < 4 * a)
  let n := if on then (if prot then (b.want : Int) * den else floor)
    else if end_ && prot then t
    else if still then 80 * a else stepped
  let reason := if on then (if prot then 3 else 2) else if end_ && prot then 4
    else if b.e.surgeCut && decide (b.e.allot < whole n) then 5 else if b.risk then 13 else 1
  ⟨b.idx, whole t, b.demand, whole n, reason, b.risk, !on && still⟩

/-- Insertion in falling order of a measure, after equals. -/
def insertDown {α : Type} (m : α → Nat) (x : α) : List α → List α
  | [] => [x]
  | y :: ys => if m y < m x then x :: y :: ys else y :: insertDown m x ys

/-- A list in falling order of a measure; equals keep their order. -/
def sortDown {α : Type} (m : α → Nat) (l : List α) : List α := l.foldl (fun acc x => insertDown m x acc) []

/-- The twist's increases reduced until the sum is within `c`, lowest class first, largest increase first (08 R218). -/
def scaleBack (c : Nat) (l : List (Bid × Allot)) : List Allot :=
  let total := l.foldl (fun n p => if p.1.strict then n else n + p.2.next) 0
  let rise := fun (p : Bid × Allot) => p.2.next - p.1.e.allot
  let order := [4, 3, 2, 1].flatMap fun cls => sortDown rise (l.filter fun p => p.1.e.contract == cls)
  let cuts := (order.foldl (fun (acc : Nat × List (Nat × Nat)) p =>
    let k := min acc.1 (rise p)
    (acc.1 - k, (p.2.idx, k) :: acc.2)) (ceilDiv (80 * total - c) 80, [])).2
  l.map fun p => { p.2 with next := p.2.next - ((List.find? (fun q => q.1 == p.2.idx) cuts).map (·.2)).getD 0 }

/-- The surge state of an output. -/
def State.surge (s : State) (d o : Nat) : Surge := Table.look (s.die d).surges o {}

/-- A window's PROTECT rate is taken in (08 R223, R224); Δ = `delta` / 1,000. -/
def Surge.window (x : Surge) (p delta hold at_ : Nat) : Surge :=
  if x.on then
    let quiet := if 2000 * p * x.refDen ≤ 2000 * x.refNum + delta * x.refDen then x.quiet + 1 else 0
    { x with p := p, peak := max x.peak p, quiet := quiet, change := if hold ≤ quiet then 2 else 0 }
  else if 1000 * x.refNum + delta * x.refDen < 1000 * p * x.refDen then
    { x with p := p, peak := p, quiet := 0, since := at_, change := 1 }
  else
    let num := 7 * x.refNum + p * x.refDen
    let den := 8 * x.refDen
    let g := Nat.gcd num den
    { x with p := p, refNum := num / g, refDen := den / g, change := 0 }

/-- The windows of a die's outputs are taken in. -/
def State.takeSurges (s : State) (d : Nat) : State :=
  (List.range 19).foldl (fun s o =>
    let p := windowRate (Table.look (s.die d).protLinked o 0)
    let delta := s.get d F.SPD_CFG_SURGE_DELTA_PERMILLE * s.speed d o
    let x := (s.surge d o).window p delta (s.get d F.SPD_CFG_SURGE_HOLD) (s.windowNo * twist)
    s.modDie d fun y => { y with surges := Table.put y.surges o x }) s

/-- The allotments of an output (08 R217, R218). -/
def State.decideShares (s : State) (d o : Nat) : List Allot :=
  let x := s.surge d o
  let on := (x.on && x.change != 2) || x.change == 1
  let c := 76 * s.speed d o
  scaleBack c ((grants (s.bids d o) c).map fun g => (g.1, nextAllot on (x.change == 2) g))

/-- Guarantees and bounds of the window are watched (08 R220, R222). -/
def State.watchStrands (s : State) (d o : Nat) : State :=
  (s.strandsAt d o).foldl (fun s p =>
    let e := p.2
    let q := Table.look (s.die d).samples ((((s.queueOf e).getD 0)) % 512) {}
    let sent := windowRate (Table.look (s.die d).sentBytes p.1 0)
    let demand := windowRate (Table.look (s.die d).linked p.1 0)
    let s := if e.guaranteed ≤ demand ∧ q.samples ≠ 0 ∧ q.busy = q.samples ∧ 100 * sent < 99 * e.guaranteed then
        s.raiseLimited d 0x504 p.1 (ms 1000) fun _ s =>
          s.raise d 31 0x504 2 [(4, e.strandId), (4, sent), (4, e.guaranteed), (1, o)]
      else s
    if boundMissed e.latBound q.topBin then
      s.raiseLimited d 0x505 p.1 (ms 1000) fun _ s =>
        s.raise d 31 0x505 2 [(4, e.strandId), (4, 2 ^ (q.topBin + 6)), (2, e.latBound), (1, o)]
    else s) s

/-! Placement (08 R226 to R232). -/

/-- Splice hops between two dies. -/
def State.hops (s : State) (a b : Nat) : Nat → Nat
  | 0 => 99
  | fuel + 1 => if a = b then 0 else
    match s.hop a b with
    | some n => 1 + s.hops n b fuel
    | none => 99

/-- The die is in thermal relief (08 R232). -/
def State.hot (s : State) (d : Nat) : Bool := s.flag d F.SPD_STATUS_RELIEF

/-- The union of AVOID_DIE of a queue's strands. -/
def State.avoidUnion (s : State) (key : Nat) : Nat := (s.mapped key).foldl (fun m p => m ||| p.2.avoid) 0

/-- The dies to which strands of a queue are pinned. -/
def State.pins (s : State) (key : Nat) : List Nat := ((s.mapped key).filter (·.2.pinDieEn)).map (·.2.pinDie)

/-- The first strand of a queue whose pins or avoided dies cannot be met (08 R236). -/
def State.pinClash (s : State) (key : Nat) : Option (Nat × Entry) :=
  let m := s.mapped key
  let pins := s.pins key
  match m.find? fun a => a.2.pinDieEn &&
      (pins.any (· != a.2.pinDie) || m.any fun b => b.1 != a.1 && bit b.2.avoid a.2.pinDie) with
  | some p => some p
  | none => if (List.range s.part.dies).all fun d => bit (s.avoidUnion key) d then m.head? else none

/-- A strand may be moved at all: ACTIVE, not at risk, not moved within 16 twists (08 R220, R226). -/
def Entry.restful (e : Entry) : Bool := e.st == 2 && !e.risk && decide (16 ≤ e.since)

/-- The bound of an ISO strand leaves room for a move (08 R228). -/
def State.isoRoom (s : State) (d : Nat) (e : Entry) : Bool :=
  let bin := s.strandBin d e
  !(e.contract == 1 && e.latBound != 0) ||
  (bin != 15 && decide ((if bin = 0 then 0 else 2 ^ (bin + 7)) + 2000 ≤ e.latBound * 1000))

/-- A ply of a braid may take a strand: ACTIVE, and no pin or avoided die of the strand speaks against it (08 R234). -/
def State.mayTake (s : State) (p : Nat × Nat) (e : Entry) : Bool :=
  let h := ((s.queueOf { e with ply := s.plyId p.1 p.2 }).map s.holdDie).getD p.1
  s.plyActive p.1 p.2 && !bit e.avoid h && (!e.pinDieEn || e.pinDie == h) &&
  (!e.pinPlyEn || e.pinPly == s.plyId p.1 p.2)

/-- A strand on a braid is placed on another ply in a scratch state of the decision. -/
def State.tryPly (s : State) (idx dst : Nat) : State := s.modEntry idx fun e => { e with ply := dst, since := 0 }

/-- Strands of a braid placed on a ply. -/
def State.onPlyOf (s : State) (b p : Nat) : List (Nat × Entry) :=
  s.entries.filter fun q => (q.2.st == 2 || q.2.st == 3) && q.2.outType == 2 && q.2.outIndex == b && q.2.ply == p

/-- The percentage of a ply's payload. -/
def State.plyPct (s : State) (p : Nat × Nat) (pct : Nat) : Nat := pct * s.plySpeed p.1 p.2

/-- One balance move of a braid (08 R227). -/
def State.balanceOnce (s : State) (b : Nat) : Option (Nat × Nat) :=
  let slots := (s.braidSlots b).filter fun p => s.plyActive p.1 p.2
  let load := fun (p : Nat × Nat) => s.plyLoad (s.plyId p.1 p.2)
  match slots.find? fun p => decide (s.plyPct p (s.get 0 F.SPD_CFG_PLY_HIGH_PCT) < 100 * load p) with
  | none => none
  | some p =>
    let mine := (s.onPlyOf b (s.plyId p.1 p.2)).filter fun q =>
      q.2.contract != 0 && !q.2.pinPlyEn && q.2.restful && s.isoRoom p.1 q.2
    let order := [4, 3, 2, 1].flatMap fun cls => sortDown (fun q : Nat × Entry => q.2.allot) (mine.filter fun q => q.2.contract == cls)
    match order.head? with
    | none => none
    | some (idx, e) =>
      let fit := slots.filter fun q => q != p && s.mayTake q e && !s.hot q.1 &&
        decide (100 * (load q + e.allot) ≤ s.plyPct q (s.get 0 F.SPD_CFG_PLY_LOW_PCT))
      (largestBy (fun q => s.plyFree q.1 q.2) fit).map fun q => (idx, s.plyId q.1 q.2)

/-- Balance within a braid, at most `n` moves. -/
def State.balance (b : Nat) : Nat → State → List Move
  | 0, _ => []
  | n + 1, s =>
    match s.balanceOnce b with
    | some (idx, p) => .ply idx p 6 :: State.balance b n (s.tryPly idx p)
    | none => []

/-- CONSOLIDATE (08 R233): the strands of a braid's highest-numbered ply without a pinned strand all fit on the others. -/
def State.consolidate (s : State) (b : Nat) : List Move :=
  let slots := (s.braidSlots b).filter fun p => s.plyActive p.1 p.2
  let free := slots.filter fun p => !((s.onPlyOf b (s.plyId p.1 p.2)).any fun q => q.2.pinPlyEn)
  match largestBy (fun p => (s.plyId p.1 p.2 : Int)) free with
  | none => []
  | some p =>
    let mine := sortDown (fun q : Nat × Entry => q.2.allot) (s.onPlyOf b (s.plyId p.1 p.2))
    let others := slots.filter (· != p)
    let r := mine.foldl (fun (acc : State × Option (List Move)) q =>
      let s := acc.1
      let fit := others.filter fun x => s.mayTake x q.2 && !s.hot x.1 &&
        decide (100 * (s.plyLoad (s.plyId x.1 x.2) + q.2.allot) ≤ s.plyPct x (s.get 0 F.SPD_CFG_PLY_LOW_PCT))
      match acc.2, largestBy (fun x => s.plyFree x.1 x.2) fit with
      | some l, some x =>
        if q.2.contract != 0 && q.2.restful && s.isoRoom p.1 q.2 then
          (s.tryPly q.1 (s.plyId x.1 x.2), some (l ++ [.ply q.1 (s.plyId x.1 x.2) 12]))
        else (s, none)
      | _, _ => (s, none)) (s, some [])
    r.2.getD []

/-- Every queue of the package. -/
def State.allQueues (s : State) : List Nat :=
  (List.range s.part.dies).flatMap fun d => (List.range 304).map fun n => 512 * d + n

/-- A queue may change its holding die (08 R228, R229, R236); PROTECT queues only in thermal relief. -/
def State.queueMovable (s : State) (key : Nat) (thermal : Bool) : Bool :=
  let m := s.mapped key
  !m.isEmpty && (s.pinClash key).isNone &&
  m.all fun p => p.2.restful && !p.2.pinDieEn && (thermal || p.2.contract != 0) && s.isoRoom (key / 512) p.2

/-- The sent rate of a queue in the window. -/
def State.queueRate (s : State) (key : Nat) : Nat :=
  windowRate ((s.mapped key).foldl (fun n p => n + Table.look (s.die (key / 512)).sentBytes p.1 0) 0)

/-- Every splice from a die to the output's die stays within 80 % of 1.6 Tb/s with a rate counted twice (08 R229). -/
def State.routeFits (s : State) (a b rate : Nat) : Nat → Bool
  | 0 => false
  | fuel + 1 =>
    if a = b then true
    else match s.hop a b with
      | some n =>
        let used := windowRate (Table.look (s.die a).spliceBytes ((s.portTo a n).getD 3) 0)
        decide (used + 2 * rate ≤ 1280000) && s.routeFits n b rate fuel
      | none => false

/-- A die may take a queue's bobbins. -/
def State.mayHold (s : State) (key t : Nat) : Bool :=
  s.joined t && s.spinning t && !s.hot t && !bit (s.avoidUnion key) t && s.routeFits t (key / 512) (s.queueRate key) 4

/-- Bobbin pressure (08 R229): the largest movable queue of a pressed die goes to the die with the most room. -/
def State.pressure (s : State) (h : Nat) : List Move :=
  if Table.look s.spd.short h 0 < 4 then []
  else
    let roomy := (List.range s.part.dies).filter fun t =>
      t != h && decide (s.hops h t 4 ≤ 2) && decide (40 * s.sharedSize t < 100 * s.sharedFree t)
    let held := sortDown (fun key => (s.queue key).depth) (s.allQueues.filter fun key => s.holdDie key == h && s.queueMovable key false)
    (held.findSome? fun key =>
      (largestBy (fun t => (s.sharedFree t : Int)) (roomy.filter (s.mayHold key))).map fun t => Move.hold key t 9).toList

/-- The heads (die, head) whose frame store lies in a channel, 2 × die + c. -/
def State.headsOn (s : State) (x : Nat) : List (Nat × Nat) :=
  (List.range s.part.dies).flatMap fun d => ([0, 1].filter fun h =>
    s.get d F.DSP_HEAD_CTL_STORE h != 0 &&
    2 * s.get d F.SPD_HEAD_STORE_STORE_DIE h + s.get d F.SPD_HEAD_STORE_CHANNEL h == x).map fun h => (d, h)

/-- The measured load of a channel in the window. -/
def State.channelRate (s : State) (x : Nat) : Nat :=
  windowRate (Table.look (s.die (x / 2)).pondBytes (x % 2) 0 + Table.look (s.die (x / 2)).headBytes (x % 2) 0)

/-- The channels that a queue's Millpond may use (08 R230), with their place in the order of preference. -/
def State.pondChoices (s : State) (key : Nat) : List (Nat × Nat) :=
  let h := s.holdDie key
  ((List.range (2 * s.part.dies)).filter fun x =>
    decide (s.pondReserved (x / 2) (x % 2) < s.pondSize (x / 2) (x % 2)) && !bit (s.avoidUnion key) (x / 2) && decide (s.hops h (x / 2) 4 ≤ 2) && !s.hot (x / 2) &&
    ((s.headsOn x).isEmpty || decide (100 * s.channelRate x ≤ 80 * 273200))).map fun x =>
      (x, (if (s.headsOn x).isEmpty then 0 else 2) + (if x / 2 = h then 0 else 1))

/-- The Millpond that a queue should have: none while it keeps what it has (08 R230). -/
def State.pondMove (s : State) (key reason : Nat) : Option Move :=
  let q := s.queue key
  let m := s.mapped key
  if m.isEmpty || q.inPlace 1 != 0 || !(m.all fun p => p.2.restful) || (s.carverOf key).isSome then none
  else
    let none_ := (s.die (key / 512)).noPond.contains (key % 512)
    let cur := 2 * s.pondDie key + s.pondCh key
    let l := s.pondChoices key
    match largestBy (fun p => -((p.2 : Int) * 2 ^ 40 + (s.channelRate p.1 : Int))) l with
    | none => if none_ then none else some (.pond key 16 reason)
    | some best =>
      if !none_ && l.any (fun p => p.1 == cur && decide (p.2 ≤ best.2)) then none else some (.pond key best.1 reason)

/-- The die of a device memory address (11 R307), and its channel as 2 × die + c. -/
def memChannel (addr : Nat) : Nat := addr / 2 ^ 34 % 16

/-- The base of a candidate region of a mirror head (11 R322). -/
def State.regionBase (s : State) (d h r : Nat) : Nat :=
  s.pair d Reg.DSP_HEAD_MREGION_LO Reg.DSP_HEAD_MREGION_HI h r

/-- A mirror store leaves its region for the first other whose channel passes a test (08 R231). -/
def State.storeMove (s : State) (d h reason : Nat) (ok : Nat → Bool) : Option Move :=
  let pkg := 2 * d + h
  if s.get d F.DSP_HEAD_CTL_STORE h ≠ 2 ∨ Table.look s.spd.storeSince pkg 255 < 16 then none
  else ((List.range 4).find? fun r =>
    r != s.get d F.DSP_HEAD_MIRROR_REGION h && s.get d F.DSP_HEAD_MREGION_SIZE_SIZE h r != 0 &&
    ok (memChannel (s.regionBase d h r))).map fun r => .store pkg r reason

/-- The moves off a hot die, in the order of R232. -/
def State.relief (s : State) (d : Nat) : List Move :=
  if !s.hot d then []
  else
    let ponds := s.allQueues.filterMap fun key =>
      if s.pondDie key = d ∧ !(s.die (key / 512)).noPond.contains (key % 512) then s.pondMove key 8 else none
    let home := s.allQueues.filterMap fun key =>
      if s.holdDie key = d ∧ key / 512 ≠ d ∧ s.queueMovable key true ∧ !s.hot (key / 512) ∧ !bit (s.avoidUnion key) (key / 512) then
        some (Move.hold key (key / 512) 8) else none
    let heat := fun t => s.get t F.SPD_THERM_TEMP_C
    let away := s.allQueues.filterMap fun key =>
      if s.holdDie key = d ∧ key / 512 = d ∧ s.queueMovable key true then
        (largestBy (fun t => -(signed 8 (heat t))) ((List.range s.part.dies).filter fun t =>
          t != d && decide (s.hops d t 4 ≤ 2) && s.mayHold key t)).map fun t => Move.hold key t 8
      else none
    let strands := ((s.die d).plies.filter fun p => p.2.cfg.braid != 0xFF).flatMap fun p =>
      (s.onPlyOf p.2.cfg.braid p.2.cfg.id).filterMap fun q =>
        if q.2.contract ≠ 0 ∧ !q.2.pinPlyEn ∧ q.2.restful then
          (largestBy (fun x => s.plyFree x.1 x.2) ((s.braidSlots p.2.cfg.braid).filter fun x =>
            x.1 != d && !s.hot x.1 && s.mayTake x q.2)).map fun x => Move.ply q.1 (s.plyId x.1 x.2) 8
        else none
    let stores := (List.range s.part.dies).flatMap fun d' => [0, 1].filterMap fun h =>
      if memChannel (s.regionBase d' h (s.get d' F.DSP_HEAD_MIRROR_REGION h)) / 2 = d then
        s.storeMove d' h 8 fun x => x / 2 != d && !s.hot (x / 2) else none
    (ponds ++ home ++ away ++ strands ++ stores).take (s.get d F.SPD_THERM_RELIEF_MOVES)

/-- Queues that follow their pins, and conflicted ones that return to their output's die (08 R236). -/
def State.pinMoves (s : State) : List Move :=
  s.allQueues.filterMap fun key =>
    let want := if (s.pinClash key).isSome then some (key / 512) else (s.pins key).head?
    match want with
    | some d => if d ≠ s.holdDie key ∧ d < s.part.dies then some (.hold key d 15) else none
    | none => none

/-- Mirror stores that leave a channel on which a queue's Millpond lies (08 R231). -/
def State.storeMoves (s : State) : List Move :=
  (List.range s.part.dies).flatMap fun d => [0, 1].filterMap fun h =>
    let used := fun x => s.allQueues.any fun key =>
      2 * s.pondDie key + s.pondCh key == x && !(s.queue key).units.isEmpty && (s.queue key).overflow
    if used (memChannel (s.regionBase d h (s.get d F.DSP_HEAD_MIRROR_REGION h))) then
      s.storeMove d h 11 fun x => !used x && !s.hot (x / 2) else none

/-- The braids of the running image. -/
def State.braids (s : State) : List Nat :=
  ((List.range s.part.dies).flatMap fun d => (s.die d).plies.map fun p => p.2.cfg.braid).eraseDups.filter (· != 0xFF)

/-- Die 0's orders of a twist (08 R238). -/
def State.orders (s : State) : List Move :=
  let dies := List.range s.part.dies
  s.pinMoves ++ dies.flatMap s.relief ++ dies.flatMap s.pressure ++
  (s.braids.flatMap fun b => State.balance b 256 s) ++
  (if s.flag 0 F.SPD_CFG_CONSOLIDATE then s.braids.flatMap s.consolidate else []) ++
  (s.allQueues.filterMap fun key => s.pondMove key 10) ++ s.storeMoves

/-! The envelope (08 R234, R235). -/

/-- The rule that a staged write breaks (08 Table 8.7), 0 for none. -/
def State.breaks (s : State) : Attempt → Nat
  | .allot idx v =>
    match s.entry? idx with
    | none => 7
    | some e =>
      if v < e.floor then 1 else if e.top < v then 2
      else if 4 * v < 3 * e.allot ∨ 5 * e.allot < 4 * v then 3 else 0
  | .ply idx dst =>
    match s.entry? idx with
    | none => 7
    | some e =>
      let p := s.plyAt dst
      if e.outType ≠ 2 ∨ p.isNone then 7
      else if e.pinPlyEn ∧ e.pinPly ≠ dst then 4
      else if e.contract = 0 ∨ !e.restful then 6
      else if bit e.avoid (p.getD (0, 0)).1 then 5 else 0
  | .hold key dst =>
    if 512 * s.part.dies ≤ key ∨ 304 ≤ key % 512 ∨ s.part.dies ≤ dst then 7
    else if (s.pins key).any (· != dst) then 4
    else if bit (s.avoidUnion key) dst then 5
    else if !(s.queueMovable key true) then 6 else 0
  | .reg _ _ => 7

/-- What a rejected write was about, and the value it carried. -/
def State.attemptOf (s : State) : Attempt → Nat × Nat
  | .allot idx v => (((s.entry? idx).map (·.strandId)).getD 0, v)
  | .ply idx dst => (((s.entry? idx).map (·.strandId)).getD 0, dst)
  | .hold key dst => (queueIndex key, dst)
  | .reg off v => (off, v.toNat)

/-- A staged write passes the envelope, or is discarded, counted and reported. -/
def State.envelope (s : State) (d : Nat) (t : Attempt) : State :=
  let why := s.breaks t
  if why ≠ 0 then
    (s.bump d F.SPD_ENV_REJECT_COUNT).raise d 31 0x507 3 [(1, why), (3, 0), (4, (s.attemptOf t).1), (4, (s.attemptOf t).2)]
  else
    match t with
    | .allot idx v =>
      let own := (List.find? (fun x : Allot => x.idx == idx) s.spd.allots).getD ⟨idx, v, 0, v, 1, false, false⟩
      let rest := s.spd.allots.filter fun x => x.idx != idx
      { s with spd := { s.spd with allots := rest ++ [{ own with next := v }] } }
    | .ply idx dst => { s with spd := { s.spd with moves := s.spd.moves ++ [.ply idx dst 6] } }
    | .hold key dst => { s with spd := { s.spd with moves := s.spd.moves ++ [.hold key dst 9] } }
    | .reg _ _ => s

/-! The close of a window. -/

/-- Temperature, relief and pool pressure of a die's window (08 R229, R232). -/
def State.takeThermal (s : State) (d : Nat) : State :=
  let old := s.get d F.SPD_THERM_TEMP_C
  let t := match (s.die d).tempHigh with
    | some x => unsigned 8 (clampSigned 8 x)
    | none => old
  let s := s.set d F.SPD_THERM_TEMP_C t
  let level : Int := (s.get d F.PIN_TEMP_TRIP_C : Int) - (s.get d F.SPD_THERM_MARGIN_C : Int)
  let s := if !s.hot d && decide (level ≤ signed 8 t) then
      { (s.set d F.SPD_STATUS_RELIEF 1) with spd := { s.spd with reliefMoves := Table.put s.spd.reliefMoves d 0 } }.raise d 31 0x50A 2
        [(1, d), (1, t), (1, unsigned 8 level)]
    else if s.hot d && decide (signed 8 t ≤ level - (s.get d F.SPD_THERM_HYST_C : Int)) then
      (s.set d F.SPD_STATUS_RELIEF 0).raise d 31 0x50B 1 [(1, d), (1, t), (2, 0), (4, Table.look s.spd.reliefMoves d 0)]
    else s
  let low := decide (100 * s.sharedFree d < 15 * s.sharedSize d)
  { s with spd := { s.spd with short := Table.put s.spd.short d (if low then Table.look s.spd.short d 0 + 1 else 0) } }

/-- A die's measurement units start the next window. -/
def State.newWindow (s : State) (d : Nat) : State :=
  s.modDie d fun x => { x with samples := [], linked := [], sentBytes := [], protLinked := [], spliceBytes := [], pondBytes := [],
                               headBytes := [], tempHigh := none }

/-- TWIST_WINDOW_CLOSE (08 R212 to R236): at B − 50 µs the window of every running Spindle is read and decided upon. `late` are
dies whose summary die 0 lacks; `tries` what the firmware stages besides. -/
def execTwistWindowClose (a : At) (late : Nat) (tries : List Attempt) (s : State) : Out :=
  onUnit a true s fun s =>
    if s.clock.stopped ∨ s.spd.closed = s.windowNo ∨ !s.spinning a.die then s
    else
      let dies := (List.range s.part.dies).filter s.spinning
      let s := dies.foldl (fun s d => (s.takeSurges d).takeThermal d) s
      let s := dies.foldl (fun s d => (List.range 19).foldl (fun s o => s.watchStrands d o) s) s
      let allots := dies.flatMap fun d => (List.range 19).flatMap fun o => s.decideShares d o
      let here := fun (m : Move) => match m with
        | .ply idx _ _ => !bit late (idx / 8192)
        | .hold key _ _ => !bit late (key / 512)
        | .pond key _ _ => !bit late (key / 512)
        | .store h _ _ => !bit late (h / 2)
      let moves := if s.spinning 0 then s.orders.filter here else []
      let s := { s with spd := { s.spd with closed := s.windowNo, allots := allots, moves := moves } }
      let s := tries.foldl (fun s t => s.envelope a.die t) s
      dies.foldl State.newWindow s

/-! The boundary. -/

/-- SPD_DECISION (08 R244). -/
def State.decision (s : State) (d id reason action from_ dst old new : Nat) : State :=
  s.raise d 31 0x501 0 [(4, id), (1, reason), (1, action), (1, from_), (1, dst), (4, old), (4, new)]

/-- An allotment takes effect: held to the contract in force (08 R216, R221), reported when it changes by more than 10 %. -/
def State.applyAllot (s : State) (x : Allot) : State :=
  match s.entry? x.idx with
  | none => s
  | some e =>
    let new := min (max x.next e.floor) e.top
    let clamped := new != x.next || decide (e.allot < e.floor) || decide (e.top < e.allot)
    let reason := if e.changed && clamped then 14 else x.reason
    let s := s.modEntry x.idx fun e => { e with
      allot := new, target := x.target, demand := x.demand, risk := x.risk, changed := false,
      reason := if new ≠ e.allot then reason else e.reason,
      surgeCut := if x.reason = 2 && decide (new < e.allot) then true else if x.held then false else e.surgeCut }
    let o := ((s.outOf e).map (·.2)).getD 0
    if e.allot < 10 * (max new e.allot - min new e.allot) then
      s.decision (((s.outOf e).map (·.1)).getD 0) e.strandId reason 1 o o e.allot new
    else s

/-- Contracts changed since the decision was staged are followed in one step (08 R221); torn-down strands lose theirs (08 R216). -/
def State.clampContracts (s : State) (d : Nat) : State :=
  (s.die d).ledger.foldl (fun s p =>
    let idx := 8192 * d + p.1
    if p.2.mirrorOf.isSome then s
    else if p.2.st = 5 then s.modEntry idx fun e => { e with allot := 0 }
    else if p.2.changed ∧ (p.2.st = 2 ∨ p.2.st = 3) then
      s.applyAllot ⟨idx, p.2.target, p.2.demand, min (max p.2.allot p.2.floor) p.2.top, 14, p.2.risk, false⟩
    else s) s

/-- WEIGHT and RATE of an output follow its allotments (08 R219). -/
def State.setWeights (s : State) (d o : Nat) : State :=
  let l := s.strandsAt d o
  let sum := fun q => l.foldl (fun n p => if s.queueOf p.2 = some (512 * d + 16 * o + q) then n + p.2.allot else n) 0
  let any := fun q => l.any fun p => s.queueOf p.2 == some (512 * d + 16 * o + q)
  let first := s.get d F.SCH_OUT_CFG_NSTRICT o
  let group := (List.range (s.get d F.SCH_OUT_CFG_NWEIGHT o)).map (first + ·)
  let most := group.foldl (fun n q => max n (sum q)) 0
  let s := group.foldl (fun s q =>
    let base := s.get d F.SCH_OUT_WEIGHT_BASE_WEIGHT o q
    let w := if base = 0 then 0 else if any q && decide (0 < sum q) then max 1 (ceilDiv (255 * sum q) most) else base
    s.set d F.SCH_OUT_WEIGHT_WEIGHT w o q) s
  (List.range (min 4 first)).foldl (fun s q =>
    if s.flag d F.SCH_OUT_SH_CFG_EN o q then
      s.set d F.SCH_OUT_SH_RATE_RATE (max (s.get d F.SCH_OUT_SH_BASE_BASE_RATE o q) (1000 * sum q)) o q
    else s) s

/-- A surge starts or ends at this boundary (08 R223, R224), and the registers show it. -/
def State.applySurge (s : State) (d o : Nat) : State :=
  let x := s.surge d o
  let ref := x.refNum / x.refDen
  let y := { x with on := if x.change = 1 then true else if x.change = 2 then false else x.on, change := 0 }
  let s := s.modDie d fun z => { z with surges := Table.put z.surges o y }
  let s := (s.set d F.SPD_OUT_SURGE_P x.p o).set d F.SPD_OUT_SURGE_SURGE (b2n y.on) o
  if x.change = 1 then s.raise d 31 0x502 1 [(1, o), (3, 0), (4, x.p), (4, ref)]
  else if x.change = 2 then s.raise d 31 0x503 1 [(1, o), (3, 0), (4, (s.now - x.since) / us 1), (4, x.peak)]
  else s

/-- The budget of a head (08 R225); none where it has no store and feeds no mirror. -/
def State.headBudget (s : State) (d h : Nat) : Option Nat :=
  let pkg := 2 * d + h
  let live := fun (p : Nat × Entry) => (p.2.st == 2 || p.2.st == 3) && p.2.kind == 1
  if s.flag d F.DSP_HEAD_CTL_SOURCE h then
    some (s.entries.foldl (fun n p => if live p && p.2.inType == 3 && p.2.inIndex == pkg then n + p.2.allot else n) 0)
  else
    match s.get d F.DSP_HEAD_CTL_STORE h with
    | 2 => some (max 1 (s.entries.foldl (fun n p =>
        if live p && p.2.outType == 3 && p.2.outIndex == pkg then n + p.2.demand else n) 0))
    | 1 =>
      let x := 2 * s.get d F.SPD_HEAD_STORE_STORE_DIE h + s.get d F.SPD_HEAD_STORE_CHANNEL h
      let pond := s.allQueues.foldl (fun n key =>
        if 2 * s.pondDie key + s.pondCh key = x ∧ (s.queue key).overflow then n + s.queueRate key else n) 0
      some (218560 - pond)
    | _ => none

/-- The sleep mode of a transmit direction (08 Table 8.3; in EDDY 15 R399); `keep` is the ply of its braid that never naps. -/
def State.sleepMode (s : State) (d k : Nat) (keep : Bool) : Nat :=
  let id := s.plyId d k
  let on := s.entries.filter fun p => (p.2.st == 2 || p.2.st == 3) && ((s.outOf p.2) == some (d, k))
  let bound := s.get d F.SPD_SLEEP_DOZE_MIN_BOUND_US
  if s.get 0 F.PWR_STATUS_CURRENT = 1 ∧ s.flag d F.PLY_LINK_PEER_CAP_NAP k = true ∧ !keep ∧ !on.any (fun p => p.2.risk) then 2
  else if !s.flag d F.PLY_LINK_PEER_CAP_DOZE k || on.any fun p => p.2.risk || (p.2.latBound != 0 && decide (p.2.latBound < bound)) then 0
  else if on.isEmpty && s.flag d F.PLY_LINK_PEER_CAP_NAP k && !keep && id != 0xFF &&
      ((List.range 16).all fun q => (s.queue (512 * d + 16 * k + q)).units.isEmpty) then 2
  else 1

/-- The sleep modes of a die's plies (08 R233). -/
def State.setModes (s : State) (d : Nat) : State :=
  (s.die d).plies.foldl (fun s p =>
    let keep := match (s.braidSlots p.2.cfg.braid).find? fun x =>
        s.plyActive x.1 x.2 && s.flag x.1 F.PLY_LINK_PEER_CAP_TICK x.2 with
      | some x => x == (d, p.1)
      | none => false
    if s.plyActive d p.1 then s.set d F.SPD_DIR_MODE_MODE (s.sleepMode d p.1 keep) p.1 else s) s

/-- Units of a strand taken off the queues of an output, in order. -/
def State.takeUnits (s : State) (d o idx : Nat) : State × List SUnit :=
  (List.range 16).foldl (fun (acc : State × List SUnit) q =>
    let key := 512 * d + 16 * o + q
    let l := (acc.1.queue key).units.filter fun u => u.idx == idx
    if l.isEmpty then acc
    else
      let h := acc.1.holdDie key
      let r := l.foldl (fun (b : State × List SUnit) u =>
        let segs := u.segs.map fun g => { g with acct := if g.acct = acctNone then acctShared else g.acct, place := 0,
                                                  chargeDie := if g.acct = acctNone then h else g.chargeDie }
        let back := (u.segs.filter fun g => g.acct == acctNone).foldl (fun n g => n + g.units) 0
        (b.1.chargeTo h acctShared back, b.2 ++ [{ u with segs := segs }])) (acc.1, [])
      ((r.1.modQueue key fun q => { q with units := q.units.filter fun u => u.idx != idx }).afterDequeue key, acc.2 ++ r.2)) (s, [])

/-- Units of a strand relinked into its queue ahead of its later ones (08 R226). -/
def State.relink (s : State) (key : Nat) (l : List SUnit) : State :=
  match l with
  | [] => s
  | u :: _ => s.modQueue key fun q =>
    let l := l.map fun v => { v with queue := key }
    { q with units := q.units.takeWhile (fun v => v.idx != u.idx) ++ l ++ q.units.dropWhile fun v => v.idx != u.idx }

/-- A strand moves to another ply of its braid under the MARK protocol (05 R145), or by failover (08 R226). -/
def State.movePly (s : State) (idx dst reason : Nat) : State :=
  match s.entry? idx with
  | none => s
  | some e =>
    let old := s.plyAt e.ply
    let s := s.modEntry idx fun e => { e with ply := dst, since := 0, moved := (e.moved + 1) % 256, reason := reason, markNext := true }
    let s := match old with
      | none => s
      | some p =>
        if reason = 7 then
          let r := s.takeUnits p.1 p.2 idx
          let s := r.1.modEntry idx fun e => { (e.setF 14 12 2) with oldPath := none, sentOn := e.sentOn.filter (· != 8 * p.1 + p.2) }
          match (s.entry? idx).bind s.queueOf with
          | some key => s.relink key r.2
          | none => s
        else s.modEntry idx fun e => { (e.setF 14 12 3) with oldPath := some (8 * p.1 + p.2), oldSeq := e.lastSeq }
    let d := ((s.plyAt dst).map (·.1)).getD 0
    (s.decision d e.strandId reason 2 e.ply dst 0 0).rechain

/-- An unfinished move whose old ply has left ACTIVE goes on as a failover (08 R226). -/
def State.finishMove (s : State) (idx : Nat) : State :=
  match s.entry? idx with
  | none => s
  | some e =>
    match e.oldPath with
    | none => s
    | some p =>
      let r := s.takeUnits (p / 8) (p % 8) idx
      let s := r.1.modEntry idx fun e => { (e.setF 14 12 2) with oldPath := none, sentOn := e.sentOn.filter (· != p) }
      match (s.entry? idx).bind s.queueOf with
      | some key => (s.relink key r.2).rechain
      | none => s

/-- The failover moves of the package (08 R226, R227): strands on a ply that is not ACTIVE. -/
def State.failovers (s : State) : List (Nat × Option Nat) :=
  s.entries.filterMap fun p =>
    let e := p.2
    if (e.st = 2 ∨ e.st = 3) ∧ e.outType = 2 ∧ !(match s.plyAt e.ply with
        | some x => s.plyActive x.1 x.2
        | none => false) then
      let pinned := e.pinPlyEn && e.pinPly == e.ply
      let fit := (s.braidSlots e.outIndex).filter fun x => s.mayTake x e
      some (p.1, if pinned then none else (largestBy (fun x => s.plyFree x.1 x.2) fit).map fun x => s.plyId x.1 x.2)
    else none

/-- SPD_NO_PATH (08 R226, R236), once until a ply returns. -/
def State.noPath (s : State) (idx : Nat) : State :=
  match s.entry? idx with
  | none => s
  | some e =>
    let key := if e.pinPlyEn then 256 + e.pinPly else e.outIndex
    if s.spd.noPath.contains key then s
    else
      let waiting := (s.failovers.filter fun p => p.2.isNone &&
        ((s.entry? p.1).map fun x => (if x.pinPlyEn then 256 + x.pinPly else x.outIndex) == key).getD false).length
      { s with spd := { s.spd with noPath := s.spd.noPath ++ [key] } }.raise 0 31 0x50D 2
        [(1, e.outIndex), (1, if e.pinPlyEn then e.pinPly else 0xFF), (2, 0), (4, waiting)]

/-- The waits of SPD_NO_PATH end where a ply has returned. -/
def State.clearNoPath (s : State) : State :=
  { s with spd := { s.spd with noPath := s.spd.noPath.filter fun key =>
      if 256 ≤ key then !(match s.plyAt (key - 256) with
        | some x => s.plyActive x.1 x.2
        | none => false)
      else !(s.braidSlots key).any fun x => s.plyActive x.1 x.2 } }

/-- Failover at a boundary, within the move budget; the answer is what the budget has left. -/
def State.failover (s : State) (budget : Nat) : State × Nat :=
  let s := s.clearNoPath
  let stuck := s.entries.filter fun p => p.2.st == 3 && (match p.2.oldPath with
    | some x => !s.plyActive (x / 8) (x % 8)
    | none => false)
  let s := stuck.foldl (fun s p => s.finishMove p.1) s
  s.failovers.foldl (fun (acc : State × Nat) p =>
    match p.2 with
    | none => (acc.1.noPath p.1, acc.2)
    | some _ =>
      if acc.2 = 0 then acc
      else
        match ((acc.1.failovers.find? fun q => q.1 == p.1).bind (·.2)) with
        | some dst => (acc.1.movePly p.1 dst 7, acc.2 - 1)
        | none => acc) (s, budget)

/-- The strands of a queue count a move (08 R226). -/
def State.movedQueue (s : State) (key reason : Nat) : State :=
  (s.mapped key).foldl (fun s p => s.modEntry p.1 fun e => { e with since := 0, moved := (e.moved + 1) % 256, reason := reason }) s

/-- Moves off a die in relief are counted for SPD_RELIEF_END. -/
def State.countRelief (s : State) (d reason : Nat) : State :=
  if reason = 8 then { s with spd := { s.spd with reliefMoves := Table.upd s.spd.reliefMoves d 0 (· + 1) } } else s

/-- How many moves an order counts as (08 R226, R229). -/
def State.moveCost (s : State) : Move → Nat
  | .ply _ _ _ => 1
  | .hold key _ _ => max 1 (s.mapped key).length
  | .pond _ _ _ => 1
  | .store _ _ _ => 1

/-- An order still stands at the boundary. -/
def State.moveStands (s : State) : Move → Bool
  | .ply idx dst _ => ((s.entry? idx).map fun e => e.st == 2 && e.outType == 2 && e.ply != dst).getD false &&
      ((s.plyAt dst).map fun x => s.plyActive x.1 x.2).getD false && s.joined (idx / 8192)
  | .hold key dst _ => s.joined (key / 512) && s.joined dst && s.holdDie key != dst
  | .pond key _ _ => (s.queue key).inPlace 1 == 0 && s.joined (key / 512)
  | .store h _ _ => s.get (h / 2) F.DSP_HEAD_CTL_STORE (h % 2) == 2 && s.joined (h / 2)

/-- An order is carried out and reported; a store's order goes to its head, as `order` says (11 R323). -/
def State.applyMove (s : State) (order : Nat → Nat → Nat → State → State) : Move → State
  | .ply idx dst reason =>
    let d := ((s.entry? idx).bind fun e => (s.plyAt e.ply).map (·.1)).getD 0
    (s.movePly idx dst reason).countRelief d reason
  | .hold key dst reason =>
    let old := s.holdDie key
    let s := (s.set (key / 512) F.SCH_Q_PLACE_HOLD_DIE dst (key % 512)).movedQueue key reason
    ((s.decision (key / 512) 0 reason 3 old dst (queueIndex key) 0).countRelief old reason).rechain
  | .pond key dst reason =>
    let old := 2 * s.pondDie key + s.pondCh key
    let d := key / 512
    let n := key % 512
    let s := s.movedQueue key reason
    let s := if dst = 16 then s.modDie d fun x => { x with noPond := x.noPond ++ [n] }
      else ((s.set d F.SCH_Q_PLACE_POND_DIE (dst / 2) n).set d F.SCH_Q_PLACE_POND_CH (dst % 2) n).modDie d fun x =>
        { x with noPond := x.noPond.filter (· != n) }
    (s.decision d 0 reason 4 old dst (queueIndex key) 0).countRelief (old / 2) reason
  | .store h dst reason =>
    let d := h / 2
    let old := s.get d F.DSP_HEAD_MIRROR_REGION (h % 2)
    let s := { s with spd := { s.spd with storeSince := Table.put s.spd.storeSince h 0 } }
    ((order d (h % 2) dst s).decision d 0 reason 5
      (memChannel (s.regionBase d (h % 2) old)) (memChannel (s.regionBase d (h % 2) dst)) h 0).countRelief
        (memChannel (s.regionBase d (h % 2) old) / 2) reason

/-- The orders of die 0, within the move budget (08 R226). -/
def State.applyMoves (s : State) (order : Nat → Nat → Nat → State → State) (budget : Nat) : State :=
  (s.spd.moves.foldl (fun (acc : State × Nat) m =>
    let n := acc.1.moveCost m
    if acc.1.moveStands m && decide (n ≤ acc.2) then (acc.1.applyMove order m, acc.2 - n) else acc) (s, budget)).1

/-- Pin conflicts are reported, once per queue (08 R236). -/
def State.reportClashes (s : State) : State :=
  s.allQueues.foldl (fun s key =>
    let d := key / 512
    let n := key % 512
    match s.pinClash key with
    | some p =>
      if (s.die d).pinConflict.contains n then s
      else (s.modDie d fun x => { x with pinConflict := x.pinConflict ++ [n] }).raise d 31 0x508 2
        [(2, queueIndex key), (1, (s.pins key).foldl setBit 0), (1, s.avoidUnion key), (4, p.2.strandId)]
    | none => s) s

/-- A die missed its staging (08 R213). -/
def State.overrun (s : State) (d step : Nat) : State :=
  let n := Table.look s.spd.missed d 0 + 1
  let s := { s with spd := { s.spd with missed := Table.put s.spd.missed d n } }
  (s.bump d F.SPD_WDOG_OVERRUNS).raise d 31 0x506 2 [(1, d), (1, step), (2, n), (4, s.get d F.SPD_TWIST_COUNT)]

/-- What a boundary brings of the Spindle: staged writes, then moves (08 R212, R213, R214, R237). -/
def State.twistSpindle (s : State) (missed step : Nat) (order : Nat → Nat → Nat → State → State) : State :=
  let dies := (List.range s.part.dies).filter s.spinning
  let s : State := dies.foldl (fun s d => (s.wrap d F.SPD_TWIST_COUNT).modDie d fun x => { x with
    ledger := x.ledger.map fun p => (p.1, { p.2 with since := satAdd 255 p.2.since 1 }) }) s
  let s : State := { s with spd := { s.spd with storeSince := s.spd.storeSince.map fun p => (p.1, satAdd 255 p.2 1) } }
  let hold := s.flag 0 F.SPD_FREEZE_HOLD || s.sleeping
  let except := s.flag 0 F.SPD_FREEZE_EXCEPT_FAILOVER && !s.sleeping
  let s : State := if hold = s.spd.hold then s
    else { s with spd := { s.spd with hold := hold } }.raise 0 31 0x509 1
      [(1, b2n hold), (1, b2n except), (2, 0), (4, s.get 0 F.SPD_TWIST_COUNT)]
  let s : State := dies.foldl (fun s d => s.set d F.SPD_STATUS_STATE (if hold then 2 else 1)) s
  let s : State := dies.foldl (fun s d =>
    if bit missed d then s.overrun d step else { s with spd := { s.spd with missed := Table.del s.spd.missed d } }) s
  let ready := dies.filter fun d => !bit missed d
  let decided := s.spd.closed == s.boundaryNo && !s.spd.stepped
  let s : State := ready.foldl (fun s d => (List.range 19).foldl (fun s o => s.applySurge d o) s) s
  let s : State := ready.foldl (fun s d =>
    s.set d F.SPD_STATUS_SURGE (b2n ((List.range 19).any fun o => (s.surge d o).on))) s
  let s : State := if hold then s
    else
      let mine := fun (x : Allot) => match (s.entry? x.idx).bind s.outOf with
        | some p => ready.contains p.1
        | none => false
      let s : State := if decided then (s.spd.allots.filter mine).foldl State.applyAllot s else s
      let s : State := ready.foldl State.clampContracts s
      let s : State := if decided then ready.foldl (fun s d => (List.range 19).foldl (fun s o => s.setWeights d o) s) s else s
      let s : State := if decided then ready.foldl (fun s d => [0, 1].foldl (fun s h =>
          match s.headBudget d h with
          | some b => s.set d F.SPD_HEAD_BUDGET_BUDGET (min b 0xFFFFFE) h
          | none => s) s) s else s
      ready.foldl State.setModes s
  let s : State := s.reportClashes
  let first := if ready.contains 0 && (!hold || except) then s.failover 256 else (s, 0)
  let s : State := if ready.contains 0 && !hold && decided then first.1.applyMoves order first.2 else first.1
  { s with spd := { s.spd with allots := [], moves := [], stepped := false, fell := s.boundaryNo } }

/-- The Spindle of a die starts (08 R240). -/
def State.startSpindle (s : State) (d : Nat) : State :=
  let s := (s.set d F.SPD_STATUS_STATE 1).set d F.SPD_TWIST_COUNT 0
  let s := [0, 1].foldl (fun s h => s.set d F.SPD_HEAD_BUDGET_BUDGET 0xFFFFFF h) s
  let s := (s.die d).plies.foldl (fun s p => s.set d F.SPD_DIR_MODE_MODE 0 p.1) s
  let s := (s.newWindow d).modDie d fun x => { x with surges := [], noPond := [], pinConflict := [] }
  s.raise d 31 0x50E 0 [(2, s.get 0 F.SKN_FW_VERSION_MAJOR), (2, s.get 0 F.SKN_FW_VERSION_MINOR), (4, s.get 0 F.SKN_FW_BUILD_BUILD)]

/-- SPD_FREEZE_WRITE (08 R237, R243): die 0 only; elsewhere the write is ignored. -/
def State.writeFreeze (s : State) (d : Nat) (v : Word) : State :=
  if d = 0 then (s.set 0 F.SPD_FREEZE_HOLD (wordGet v 31 31)).set 0 F.SPD_FREEZE_EXCEPT_FAILOVER (wordGet v 30 30) else s

def execSpdFreezeWrite (a : At) (q : Req) (v : Word) (s : State) : Out :=
  onWrite a q 0x180008 v true s fun s => s.writeFreeze a.die v

end Sys2Proof.Machine
end

