-- ==== Sys2Proof/Machine/Display.lean ====
section
/-! DEFINITION. Display heads (11): links, timing sets, the commit rule, the raster, the reservoir and self-refresh. -/

namespace Sys2Proof.Machine

/-- A head. -/
def State.head (s : State) (d h : Nat) : Head := Table.look (s.die d).heads h {}
def State.modHead (s : State) (d h : Nat) (f : Head → Head) : State :=
  s.modDie d fun x => { x with heads := Table.upd x.heads h {} f }

/-- The package head number. -/
def headNo (d h : Nat) : Nat := 2 * d + h

/-- The function that owns a head (13 R353). -/
def State.headOwner (s : State) (d h : Nat) : Nat :=
  ((List.find? (fun (p : Nat × Slot) => homeDie p.1 == d && bit p.2.carve.heads h && p.2.st != 0) s.vfn.slots).map (·.1)).getD 0

/-- An event of a head (11 R327). -/
def State.raiseHead (s : State) (d h code sev : Nat) (fields : List (Nat × Nat)) : State :=
  s.raiseOwned (s.headOwner d h) d (headNo d h) code sev ((1, headNo d h) :: fields)

/-! Timing sets (11 R303, R309, R310). -/

/-- The shadow set. -/
def State.shadow (s : State) (d h : Nat) : Timing where
  hActive := s.get d F.DSP_HEAD_T_H0_H_ACTIVE h
  hFp := s.get d F.DSP_HEAD_T_H0_H_FP h
  hSync := s.get d F.DSP_HEAD_T_H1_H_SYNC h
  hBp := s.get d F.DSP_HEAD_T_H1_H_BP h
  vActive := s.get d F.DSP_HEAD_T_V0_V_ACTIVE h
  vFp := s.get d F.DSP_HEAD_T_V0_V_FP h
  vSync := s.get d F.DSP_HEAD_T_V1_V_SYNC h
  vBp := s.get d F.DSP_HEAD_T_V1_V_BP h
  vMin := s.get d F.DSP_HEAD_T_VRR_VBLANK_MIN h
  vMax := s.get d F.DSP_HEAD_T_VRR_VBLANK_MAX h
  rate := s.get d F.DSP_HEAD_T_PIX_LINK_RATE h
  lanes := s.get d F.DSP_HEAD_T_PIX_LANES h
  pol := 2 * s.get d F.DSP_HEAD_T_PIX_HS_POL h + s.get d F.DSP_HEAD_T_PIX_VS_POL h
  khz := s.get d F.DSP_HEAD_T_PIX_PIXEL_KHZ h
  fmt := s.get d F.DSP_HEAD_T_FMT_FORMAT h

/-- Payload of one lane at a LINK_RATE code, in kb/s: 8b/10b at 0.8, 128b/132b at 0.96 (11 R303). -/
def dpRate (code : Nat) : Nat :=
  match code with
  | 0 => 1296000
  | 1 => 2160000
  | 2 => 4320000
  | 3 => 6480000
  | 4 => 9600000
  | 5 => 12960000
  | 6 => 19200000
  | _ => 0

/-- Bits per pixel of a FORMAT (11 Table 11.2). -/
def pixelBits (fmt : Nat) : Nat := if fmt = 0 ∨ fmt = 2 then 24 else 30

/-- A set fits a link rate (11 R303). -/
def Timing.fits (t : Timing) (rate : Nat) : Bool := decide (t.khz * pixelBits t.fmt ≤ 2 ^ t.lanes * dpRate rate)

/-- Pixels of a line, lines of fixed blanking. -/
def Timing.hTotal (t : Timing) : Nat := t.hActive + t.hFp + t.hSync + t.hBp
def Timing.vBlank (t : Timing) : Nat := t.vFp + t.vSync + t.vBp

/-- Picoseconds of `n` lines (11 R309), and the first line start at or after some picoseconds. -/
def Timing.linesPs (t : Timing) (n : Nat) : Nat := if t.khz = 0 then 0 else n * t.hTotal * 1000000000 / t.khz
def Timing.linesUp (t : Timing) (ps : Nat) : Nat := if t.hTotal = 0 then 0 else ceilDiv (ps * t.khz) (t.hTotal * 1000000000)

/-- STRIDE of a mirror buffer, and its bytes (11 R322). -/
def Timing.mStride (t : Timing) : Nat := 256 * ceilDiv (4 * t.hActive) 256
def Timing.mBytes (t : Timing) : Nat := t.mStride * t.vActive

/-- A mirror region that cannot hold three buffers of a set (11 R322). -/
def State.regionShort (s : State) (d h : Nat) (t : Timing) : Bool :=
  s.get d F.DSP_HEAD_CTL_STORE h == 2 && (List.range 4).any fun r =>
    let size := s.get d F.DSP_HEAD_MREGION_SIZE_SIZE h r
    (r == 0 || size != 0) && decide (size * 1048576 < 3 * t.mBytes)

/-- The reason that a set is refused for, 0 for none (11 R310, Table 11.3). -/
def State.timingReason (s : State) (d h : Nat) (t : Timing) : Nat :=
  if t.hActive < 640 ∨ 7680 < t.hActive ∨ t.hActive % 8 ≠ 0 ∨ t.vActive < 480 ∨ 4320 < t.vActive ∨ t.khz = 0 ∨
      2200000 < t.khz ∨ 6 < t.rate ∨ 2 < t.lanes then 1
  else if 3 < t.fmt then 4
  else if t.fits t.rate = false then 2
  else if t.vBlank < 17 ∨ t.vMin < t.vBlank ∨ t.vMax < t.vMin ∨ 65535 < t.vActive + t.vMax then 3
  else if s.regionShort d h t then 5
  else 0

/-- Variable blanking is in force (11 R305). -/
def State.vrr (s : State) (d h : Nat) : Bool := s.flag d F.DSP_HEAD_CTL_VRR_EN h && s.flag d F.DSP_HEAD_SINK_VRR_CAP h

/-- The running set as its registers show it. -/
def State.showRun (s : State) (d h : Nat) (t : Timing) (rate : Nat) : State :=
  (((((s.set d F.DSP_HEAD_RUN_SIZE_H_ACTIVE t.hActive h).set d F.DSP_HEAD_RUN_SIZE_V_ACTIVE t.vActive h).set d
    F.DSP_HEAD_RUN_LINK_LINK_RATE rate h).set d F.DSP_HEAD_RUN_LINK_LANES t.lanes h).set d
    F.DSP_HEAD_RUN_LINK_FORMAT t.fmt h).set d F.DSP_HEAD_RUN_LINK_PIXEL_KHZ t.khz h

/-- STATE of a head. -/
def State.headState (s : State) (d h : Nat) : Nat := s.get d F.DSP_HEAD_STATUS_STATE h

/-- The state of a running raster: variable or fixed, and VRR with it (11 R305). -/
def State.setRunning (s : State) (d h : Nat) : State :=
  (s.set d F.DSP_HEAD_STATUS_STATE (if s.vrr d h then 5 else 4) h).set d F.DSP_HEAD_RUN_LINK_VRR (b2n (s.vrr d h)) h

/-- The lead in force. -/
def State.lead_ (s : State) (d h : Nat) : Nat := s.get d F.DSP_HEAD_STATUS_LEAD h
def State.resetLead (s : State) (d h : Nat) : State :=
  s.set d F.DSP_HEAD_STATUS_LEAD (s.get d F.DSP_HEAD_LT_CFG_PREFETCH_LEAD h) h

/-! Commits (11 R312, R313, R319). -/

/-- The result of a commit: 1 taken, 2 superseded, 3 rejected. -/
def State.commitResult (s : State) (d h result reason seq frame blank : Nat) : State :=
  let s := (((s.set d F.DSP_HEAD_COMMIT_STATUS_RESULT result h).set d F.DSP_HEAD_COMMIT_STATUS_REASON reason h).set d
    F.DSP_HEAD_COMMIT_STATUS_SEQ seq h).set d F.DSP_HEAD_COMMIT_FRAME_FRAME frame h
  if s.flag d F.DSP_HEAD_CTL_COMMIT_EVT h then s.raiseHead d h 0x703 0 [(1, result), (2, seq), (4, frame), (2, blank)] else s

/-- Commits that neither the raster nor the sender reads are released, oldest first (11 R319). -/
def State.releaseCommits (s : State) (d h : Nat) : State :=
  let x := s.head d h
  let held := ([x.pending, x.taken, x.front, x.unsent, x.sending].filterMap fun c => c).map (·.n)
  let free := x.commits.takeWhile fun p => !held.contains p.1
  match free.getLast? with
  | some p => (s.modHead d h fun x => { x with commits := x.commits.drop free.length }).set d F.DSP_HEAD_RELEASED_SEQ p.2 h
  | none => s

/-- A pending commit is superseded; its result follows at the prefetch point. -/
def Head.drop (x : Head) (c : Option Commit) : Head :=
  match c with
  | some c => { x with superseded := x.superseded ++ [c.seq] }
  | none => x

/-- The pending commit is taken for the next frame, in place of an earlier take; a mirror's ready buffer becomes its front
(11 R312, R320). -/
def State.take (s : State) (d h : Nat) : State :=
  let x := s.head d h
  if x.pending.isNone ∨ x.dark then s
  else
    let x := x.drop x.taken
    let x := { x with taken := x.pending, pending := none, takenAt := s.now }
    let x := match x.mReady with
      | some b => { x with mFront := some b, mReady := none }
      | none => x
    let s := match (s.head d h).mReady, x.taken with
      | some _, some c => s.set d F.DSP_HEAD_MIRROR_SOURCE_FRAME c.seq h
      | _, _ => s
    let s := s.modHead d h fun _ => x
    match x.moveTo, x.mFront with
    | some r, some b =>
      if b / 3 = r then
        let old := s.get d F.DSP_HEAD_MIRROR_REGION h
        ((s.modHead d h fun x => { x with moveTo := none }).set d F.DSP_HEAD_MIRROR_REGION r h).raiseHead d h 0x70B 1 [(1, old), (1, r)]
      else s
    | _, _ => s

/-- A commit completes (11 R312). -/
def State.complete (s : State) (d h : Nat) (c : Commit) : State :=
  let s := s.modHead d h fun x => { x.drop x.pending with pending := some c }
  (if (s.head d h).phase = 2 then s.take d h else s).releaseCommits d h

/-- When the prefetch point falls (11 R312): fixed timing, and variable timing with and without a commit taken. -/
def State.prefetchAt (s : State) (d h : Nat) (t : Timing) : Nat :=
  let x := s.head d h
  let lead := s.lead_ d h
  if s.vrr d h then
    match x.taken with
    | some _ => x.intakeAt + t.linesPs (max (t.vMin - lead) (t.linesUp (x.takenAt - x.intakeAt)))
    | none => x.intakeAt + t.linesPs (t.vMax - lead)
  else x.intakeAt + t.linesPs (t.vBlank - lead)

/-- When the next point of the raster falls: intake, prefetch or frame start. -/
def State.pointAt (s : State) (d h : Nat) : Option Nat :=
  let x := s.head d h
  match x.run, x.phase with
  | some t, 1 => some (x.frameAt + t.linesPs t.vActive)
  | some t, 2 => some (s.prefetchAt d h t)
  | some t, 3 => some (x.prefAt + t.linesPs (s.lead_ d h))
  | _, _ => none

/-- The running set becomes another (11 R311): lead, registers, and for another size the buffers of a mirror. -/
def State.setRun (s : State) (d h : Nat) (t : Timing) (rate form : Nat) : State :=
  let s := (s.showRun d h t rate).resetLead d h
  s.modHead d h fun x =>
    let x := { x with run := some t, next := none, dark := false, told := form }
    if form = 2 then { x with
      mFront := none, mReady := none, mFill := 3 * s.get d F.DSP_HEAD_MIRROR_REGION h, stale := [], copyFrom := none,
      written := [], openFrame := none, got := 0, gap := 0, token := none, moveTo := none }
    else x

/-- The intake point: a seamless set takes effect, and the pending commit is taken. -/
def State.intake (s : State) (d h : Nat) : State :=
  match s.pointAt d h with
  | some at_ =>
    let s := s.modHead d h fun x => { x with phase := 2, intakeAt := at_, fetching := false }
    let s := s.set d F.DSP_HEAD_STATUS_FILL 0 h
    let x := s.head d h
    let s := match x.next with
      | some t => if x.dark then s else (s.setRun d h t (s.get d F.DSP_HEAD_RUN_LINK_LINK_RATE h) 1).setRunning d h
      | none => s
    (s.take d h).releaseCommits d h
  | none => s

/-- The prefetch point: the taken commit becomes final, or the frame repeats; results are given and fetching begins. -/
def State.prefetch (s : State) (d h : Nat) : State :=
  match s.pointAt d h, (s.head d h).run with
  | some at_, some t =>
    let x := s.head d h
    let frame := (s.get d F.DSP_HEAD_FRAME_FRAME h + 1) % 2 ^ 32
    let blank := t.linesUp (at_ - x.intakeAt) + s.lead_ d h
    let s := x.superseded.foldl (fun s seq => s.commitResult d h 2 0 seq 0xFFFFFFFF blank) s
    let s := match x.taken with
      | some c => s.commitResult d h 1 0 c.seq frame blank
      | none =>
        if s.vrr d h then
          (s.bump d F.DSP_HEAD_REPEATS_COUNT 1 h).raiseLimited d 0x708 (headNo d h) (ms 1000) fun n s =>
            s.raiseHead d h 0x708 1 [(3, 0), (4, n)]
        else s
    let s := s.modHead d h fun x => { x with
      phase := 3, prefAt := at_, superseded := [], front := if x.taken.isSome then x.taken else x.front, taken := none,
      fetching := true }
    (s.set d F.DSP_HEAD_STATUS_FILL 0 h).releaseCommits d h
  | _, _ => s

/-- The first active line (11 R311, R312). -/
def State.startFrame (s : State) (d h : Nat) : State :=
  match s.pointAt d h, (s.head d h).run with
  | some at_, some t =>
    let told := (s.head d h).told
    let black := (s.head d h).dark || s.headState d h == 2
    let s := (s.wrap d F.DSP_HEAD_FRAME_FRAME h).modHead d h fun x => { x with phase := 1, frameAt := at_, told := 0 }
    let s := s.emit (.scan d h (if black then none else (s.head d h).front.map (·.base)))
    if told = 0 then s
    else s.raiseHead d h 0x704 1 [(1, told), (1, s.get d F.DSP_HEAD_RUN_LINK_LINK_RATE h), (1, t.lanes), (2, t.hActive),
      (2, t.vActive), (4, t.khz), (4, s.get d F.DSP_HEAD_FRAME_FRAME h)]
  | _, _ => s

/-- The next point of the raster is passed. -/
def State.point (s : State) (d h : Nat) : State :=
  match (s.head d h).phase with
  | 1 => s.intake d h
  | 2 => s.prefetch d h
  | 3 => s.startFrame d h
  | _ => s

/-- Points whose cycle lies behind are passed before what is captured now (01 R29). -/
def State.catchUp (s : State) (d h cyc : Nat) : Nat → State
  | 0 => s
  | fuel + 1 =>
    match s.pointAt d h with
    | some t => if t + cyc ≤ s.now then (s.point d h).catchUp d h cyc fuel else s
    | none => s

/-- A commit captured in the cycle in which a point falls is counted (11 R312). -/
def State.pointNear (s : State) (d h : Nat) : State :=
  match s.pointAt d h with
  | some t => if t ≤ s.now ∧ (s.head d h).phase ≠ 3 then s.bump d F.DSP_HEAD_NEAR_MISS_COUNT 1 h else s
  | none => s

/-- INTAKE_POINT (11 R312). -/
def execIntakePoint (a : At) (h : Nat) (s : State) : Out :=
  onIsland a (25 + h) (h < 2) s fun s =>
    match s.pointAt a.die h with
    | some t => if (s.head a.die h).phase = 1 ∧ t ≤ s.now then s.intake a.die h else s
    | none => s

/-- PREFETCH_POINT (11 R312). -/
def execPrefetchPoint (a : At) (h : Nat) (s : State) : Out :=
  onIsland a (25 + h) (h < 2) s fun s =>
    match s.pointAt a.die h with
    | some t => if (s.head a.die h).phase = 2 ∧ t ≤ s.now then s.prefetch a.die h else s
    | none => s

/-- FRAME_START (11 R312). -/
def execFrameStart (a : At) (h : Nat) (s : State) : Out :=
  onIsland a (25 + h) (h < 2) s fun s =>
    match s.pointAt a.die h with
    | some t => if (s.head a.die h).phase = 3 ∧ t ≤ s.now then s.startFrame a.die h else s
    | none => s

/-! The link (11 R304, R305). -/

/-- The head, enabled and with a sink, trains for its running set; without a set it has no link. -/
def State.train (s : State) (d h : Nat) : State :=
  if !s.flag d F.DSP_HEAD_CTL_ENABLE h then s
  else if (s.head d h).run.isSome && s.flag d F.DSP_HEAD_SINK_HPD h then s.set d F.DSP_HEAD_STATUS_STATE 2 h
  else s.set d F.DSP_HEAD_STATUS_STATE 1 h

/-- The raster stops. -/
def State.stopRaster (s : State) (d h st : Nat) : State :=
  ((s.set d F.DSP_HEAD_STATUS_STATE st h).set d F.DSP_HEAD_STATUS_FILL 0 h).modHead d h fun x =>
    { x with phase := 0, fetching := false, pending := if x.taken.isSome && x.pending.isNone then x.taken else x.pending,
             taken := none }

/-- The raster starts in blanking, so that a waiting commit shows in its first frame (log entry 21). -/
def State.startRaster (s : State) (d h : Nat) : State :=
  let s := (s.setRunning d h).modHead d h fun x => { x with phase := 2, intakeAt := s.now }
  (s.take d h).releaseCommits d h

/-- DSP_HPD_PLUG (11 R304, R305): HPD high for 2 ms; what the sink's DPCD reports. -/
def execDspHpdPlug (a : At) (h : Nat) (vrr : Bool) (rate lanes : Nat) (s : State) : Out :=
  onIsland a (25 + h) (h < 2) s fun s =>
    let d := a.die
    if s.flag d F.DSP_HEAD_SINK_HPD h then s
    else
      let s := (((s.set d F.DSP_HEAD_SINK_HPD 1 h).set d F.DSP_HEAD_SINK_VRR_CAP (b2n vrr) h).set d
        F.DSP_HEAD_SINK_MAX_RATE rate h).set d F.DSP_HEAD_SINK_MAX_LANES lanes h
      let s := s.raiseHead d h 0x706 1 [(1, 1)]
      let s := if s.flag d F.DSP_HEAD_CTL_VRR_EN h && !vrr then s.raiseHead d h 0x70D 1 [] else s
      s.train d h

/-- DSP_HPD_UNPLUG (11 R304): HPD low for 2 ms; the raster stops. -/
def execDspHpdUnplug (a : At) (h : Nat) (s : State) : Out :=
  onIsland a (25 + h) (h < 2) s fun s =>
    let d := a.die
    if !s.flag d F.DSP_HEAD_SINK_HPD h then s
    else
      let s := (s.setWord d Reg.DSP_HEAD_SINK 0 h).raiseHead d h 0x706 1 [(1, 0)]
      s.stopRaster d h (if s.flag d F.DSP_HEAD_CTL_ENABLE h then 1 else 0)

/-- DSP_HPD_IRQ (11 R304): a low pulse of 0.25 ms to 2 ms; the head retrains where the link status shows it lost. -/
def execDspHpdIrq (a : At) (h : Nat) (linkLost : Bool) (s : State) : Out :=
  onIsland a (25 + h) (h < 2) s fun s =>
    let d := a.die
    if !s.flag d F.DSP_HEAD_SINK_HPD h then s
    else
      let s := s.raiseHead d h 0x706 1 [(1, 2)]
      if linkLost && s.headState d h != 3 then s.train d h else s

/-- The lowest rate at which a set fits, at or below its own. -/
def Timing.lowest (t : Timing) : Nat := ((List.range (t.rate + 1)).find? fun r => t.fits r).getD t.rate

/-- DSP_LINK_TRAINED (11 R304): training ended at a rate, or failed at every rate tried. -/
def execDspLinkTrained (a : At) (h : Nat) (rate : Option Nat) (s : State) : Out :=
  onIsland a (25 + h) (h < 2) s fun s =>
    let d := a.die
    match (s.head d h).run with
    | none => s
    | some t =>
      if s.headState d h ≠ 2 then s
      else
        match rate with
        | some r =>
          if t.rate < r ∨ t.fits r = false then s
          else
            let s := s.set d F.DSP_HEAD_RUN_LINK_LINK_RATE r h
            if (s.head d h).phase = 0 then s.startRaster d h else s.setRunning d h
        | none => (s.stopRaster d h 1).raiseHead d h 0x707 3 [(1, t.lowest), (1, t.lanes)]

/-- A write of DSP_HEADh_CTL: ENABLE, COMMIT_EVT and REFRESH (11 Table 11.6). -/
def State.writeHeadCtl (s : State) (d h : Nat) (v : Word) : State :=
  let was := s.flag d F.DSP_HEAD_CTL_ENABLE h
  let en := wordGet v 31 31 == 1
  let old := s.word d Reg.DSP_HEAD_CTL h
  let s := s.writeSkn d Reg.DSP_HEAD_CTL ((v &&& Reg.DSP_HEAD_CTL.mask (· == .skn)) ||| (old &&& ~~~ Reg.DSP_HEAD_CTL.mask (· == .skn))) h
  let s := (s.set d F.DSP_HEAD_CTL_ENABLE (b2n en) h).set d F.DSP_HEAD_CTL_COMMIT_EVT (wordGet v 26 26) h
  let s := if wordGet v 25 25 = 1 then s.modHead d h fun x => { x with refresh := true } else s
  if en && !was then s.train d h else if was && !en then s.stopRaster d h 0 else s

/-- DSP_REFRESH (11 R318): a write of REFRESH. -/
def execDspRefresh (a : At) (q : Req) (h : Nat) (v : Word) (s : State) : Out :=
  onWrite a q (0x1C0000 + 0x1000 * h) v (h < 2) s fun s => s.writeHeadCtl a.die h v

/-- A write of DSP_HEADh_LT_CFG resets the lead in force (11 R317, Table 11.6). -/
def State.writeLead (s : State) (d h : Nat) (v : Word) : State := (s.writeSkn d Reg.DSP_HEAD_LT_CFG v h).resetLead d h

/-- PREFETCH_LEAD_WRITE (11 R317). -/
def execPrefetchLeadWrite (a : At) (q : Req) (h : Nat) (v : Word) (s : State) : Out :=
  onWrite a q (0x1C0084 + 0x1000 * h) v (h < 2) s fun s => s.writeLead a.die h v

/-! AUX (11 R306). -/

/-- The data bytes of an AUX request. -/
def State.auxData (s : State) (d h len : Nat) : List Byte :=
  ((List.range 4).flatMap fun k => leBytes 4 (s.word d Reg.DSP_HEAD_AUX_DATA h k).toNat).take len

/-- A request goes out, and its reply wait begins. -/
def State.auxSend (s : State) (d h : Nat) (v : Word) (defers : Nat) : State :=
  (s.emit (.aux d h v (s.auxData d h (wordGet v 27 24 + 1)))).modHead d h fun x => { x with aux := some ⟨v, s.now + us 3200, defers⟩ }

/-- A transaction ends: 0 ACK, 1 NACK, 2 DEFER exhausted, 3 timeout. -/
def State.auxDone (s : State) (d h result : Nat) : State :=
  (((s.modHead d h fun x => { x with aux := none }).set d F.DSP_HEAD_AUX_STATUS_RESULT result h).set d
    F.DSP_HEAD_AUX_STATUS_BUSY 0 h).wrap d F.DSP_HEAD_AUX_STATUS_SEQ h

/-- A write of DSP_HEADh_AUX_CMD; ignored while BUSY. -/
def State.writeAux (s : State) (d h : Nat) (v : Word) : State :=
  if s.flag d F.DSP_HEAD_AUX_STATUS_BUSY h then s
  else (s.set d F.DSP_HEAD_AUX_STATUS_BUSY 1 h).auxSend d h v 0

/-- AUX_TRANSACTION (11 R306). -/
def execAuxTransaction (a : At) (q : Req) (h : Nat) (v : Word) (s : State) : Out :=
  onWrite a q (0x1C0200 + 0x1000 * h) v (h < 2) s fun s => s.writeAux a.die h v

/-- Words of AUX data from reply bytes. -/
def State.putAux (s : State) (d h : Nat) (b : List Byte) : State :=
  (List.range 4).foldl (fun s k =>
    if 4 * k < b.length then s.setWord d Reg.DSP_HEAD_AUX_DATA (BitVec.ofNat 32 (leNat ((b.drop (4 * k)).take 4))) h k else s) s

/-- AUX_REPLY (11 R306): 0 ACK, 1 NACK, 2 DEFER; a reply after its wait is discarded. -/
def execAuxReply (a : At) (h kind : Nat) (bytes : List Byte) (s : State) : Out :=
  onIsland a (25 + h) (h < 2 && kind < 3 && bytes.length ≤ 16) s fun s =>
    let d := a.die
    match (s.head d h).aux with
    | none => s
    | some x =>
      if !inTime a s x.deadline then s
      else
        let s := if nearMiss a s x.deadline then s.bump d F.DSP_HEAD_NEAR_MISS_COUNT 1 h else s
        match kind with
        | 0 => (s.putAux d h bytes).auxDone d h 0
        | 1 => s.auxDone d h 1
        | _ => if x.defers < 7 then s.auxSend d h x.cmd (x.defers + 1) else s.auxDone d h 2

/-- AUX_TIMEOUT (11 R306). -/
def execAuxTimeout (a : At) (h : Nat) (s : State) : Out :=
  onIsland a (25 + h) (h < 2) s fun s =>
    match (s.head a.die h).aux with
    | some x => if fallen s x.deadline then s.auxDone a.die h 3 else s
    | none => s

/-! TIMING_APPLY (11 R310, R311). -/

/-- Everything but the raster's shape and link is unchanged (11 R311). -/
def Timing.seamless (t r : Timing) : Bool :=
  t.khz == r.khz && t.rate == r.rate && t.lanes == r.lanes && t.fmt == r.fmt && t.hActive == r.hActive && t.vActive == r.vActive

/-- A set is judged, and accepted as a seamless or a dark change, or refused. -/
def State.judge (s : State) (d h : Nat) (t : Timing) : State :=
  let reason := s.timingReason d h t
  let s := s.set d F.DSP_HEAD_APPLY_RESULT reason h
  if reason ≠ 0 then s.raiseHead d h 0x705 2 [(1, reason)]
  else
    let x := s.head d h
    let same := match x.run with
      | some r => t.seamless r
      | none => false
    let dropped := fun (x : Head) => { ((x.drop x.pending).drop x.taken) with pending := none, taken := none, front := none }
    if x.phase = 0 then
      let s := if same then s else s.modHead d h dropped
      ((s.setRun d h t t.rate (if same then 1 else 2)).train d h).releaseCommits d h
    else if same then s.modHead d h fun x => { x with next := some t }
    else
      ((s.modHead d h fun x => { dropped x with next := some t, dark := true, darkAt := s.now }).set d
        F.DSP_HEAD_STATUS_STATE 3 h).releaseCommits d h

/-- A write of TIMING_APPLY: while a dark change is in progress the set waits (11 R311). -/
def State.writeApply (s : State) (d h cyc : Nat) (v : Word) : State :=
  if wordGet v 0 0 = 0 then s
  else
    let s := s.catchUp d h cyc 3
    let t := s.shadow d h
    if (s.head d h).dark then (s.modHead d h fun x => { x with queued := some t }).set d F.DSP_HEAD_APPLY_PENDING 1 h
    else s.judge d h t

/-- TIMING_APPLY (11 R310). -/
def execTimingApply (a : At) (q : Req) (h : Nat) (v : Word) (s : State) : Out :=
  onWrite a q (0x1C002C + 0x1000 * h) v (h < 2) s fun s => s.writeApply a.die h a.cyc v

/-- DARK_CHANGE_DONE (11 R311): after at least a black frame of the old set, and where rate or lanes change a training. -/
def execDarkChangeDone (a : At) (h : Nat) (rate : Option Nat) (s : State) : Out :=
  onIsland a (25 + h) (h < 2) s fun s =>
    let d := a.die
    let x := s.head d h
    match x.run, x.next with
    | some old, some t =>
      if !x.dark || !fallen s (x.darkAt + old.linesPs (old.vActive + old.vBlank)) then s
      else
        let trains := old.rate != t.rate || old.lanes != t.lanes
        let r := if trains then rate else some (s.get d F.DSP_HEAD_RUN_LINK_LINK_RATE h)
        let s := match r with
          | some r =>
            let r := if t.rate < r ∨ t.fits r = false then t.lowest else r
            let s := (s.setRun d h t r 2).setRunning d h
            s.modHead d h fun x => { x with phase := 2, intakeAt := s.now }
          | none => ((s.setRun d h t t.rate 2).stopRaster d h 1).raiseHead d h 0x707 3 [(1, t.lowest), (1, t.lanes)]
        let s := if (s.head d h).phase = 2 then (s.take d h).releaseCommits d h else s
        match x.queued with
        | some q => ((s.modHead d h fun x => { x with queued := none }).set d F.DSP_HEAD_APPLY_PENDING 0 h).judge d h q
        | none => s
    | _, _ => s

/-! Local commits (11 R313, R318). -/

/-- Columns and rows of tiles of a set. -/
def Timing.cols (t : Timing) : Nat := ceilDiv t.hActive 64
def Timing.rows (t : Timing) : Nat := ceilDiv t.vActive 64

/-- The window of a head (11 R308). -/
def State.window (s : State) (d h : Nat) : Nat × Nat :=
  let b := s.pair d Reg.DSP_HEAD_WIN_LO Reg.DSP_HEAD_WIN_HI h
  (b, b + 1048576 * s.get d F.DSP_HEAD_WIN_SIZE_WIN_SIZE h)

/-- The reason that a local commit is rejected for, 0 for none (11 R313, Table 11.3). -/
def State.commitReason (s : State) (d h : Nat) (t : Timing) (c : Commit) : Nat :=
  let w := s.window d h
  if s.get d F.DSP_HEAD_CTL_STORE h ≠ 1 then 5
  else if c.base % 256 ≠ 0 ∨ c.stride % 256 ≠ 0 then 1
  else if c.stride < 4 * t.hActive then 2
  else if c.base < w.1 ∨ w.2 < c.base + c.stride * t.vActive then 3
  else
    match c.dirty with
    | some b =>
      if s.flag d F.DSP_HEAD_CTL_SOURCE h && (decide (b < w.1) || decide (w.2 < b + ceilDiv (t.cols * t.rows) 8)) then 4 else 0
    | none => 0

/-- The changed tiles of a bitmap in device memory. -/
def State.bitmap (s : State) (addr n : Nat) : List Nat :=
  (List.range n).filter fun i => bit (s.cell (devCell (addr + i / 8))).toNat (i % 8)

/-- The sender learns of a commit: its tiles join the union, and one not yet sent is skipped (11 R318). -/
def State.sourceCommit (s : State) (d h : Nat) (t : Timing) (c : Commit) : State :=
  if !s.flag d F.DSP_HEAD_CTL_SOURCE h then s
  else
    let x := s.head d h
    let s := if x.unsent.isSome then s.bump d F.DSP_HEAD_COALESCED_COUNT 1 h else s
    let new := c.dirty.map fun b => s.bitmap b (t.cols * t.rows)
    let all := match x.changed, new with
      | some l, some m => some (l ++ m.filter fun i => !l.contains i)
      | _, _ => none
    s.modHead d h fun x => { x with unsent := some c, changed := all }

/-- A write of DSP_HEADh_COMMIT completes a local commit. -/
def State.writeCommit (s : State) (d h cyc : Nat) (v : Word) : State :=
  let s := s.catchUp d h cyc 3
  let x := s.head d h
  let dirty := if wordGet v 31 31 = 1 then none else some (s.pair d Reg.DSP_HEAD_DIRTY_LO Reg.DSP_HEAD_DIRTY_HI h)
  let c : Commit := ⟨x.count, wordGet v 15 0, s.pair d Reg.DSP_HEAD_FB_LO Reg.DSP_HEAD_FB_HI h,
    s.get d F.DSP_HEAD_STRIDE_STRIDE h, dirty, s.ts⟩
  match (if x.dark then x.next else x.run) with
  | none => (s.commitResult d h 3 5 c.seq 0xFFFFFFFF 0).raiseHead d h 0x702 2 [(1, 5), (2, c.seq), (8, c.base), (4, c.stride)]
  | some t =>
    let reason := s.commitReason d h t c
    if reason ≠ 0 then
      (s.commitResult d h 3 reason c.seq 0xFFFFFFFF 0).raiseHead d h 0x702 2 [(1, reason), (2, c.seq), (8, c.base), (4, c.stride)]
    else
      let s := (s.pointNear d h).modHead d h fun x => { x with count := x.count + 1, commits := x.commits ++ [(c.n, c.seq)] }
      (s.sourceCommit d h t c).complete d h c

/-- DSP_COMMIT (11 R312). -/
def execDspCommit (a : At) (q : Req) (h : Nat) (v : Word) (s : State) : Out :=
  onWrite a q (0x1C0054 + 0x1000 * h) v (h < 2) s fun s => s.writeCommit a.die h a.cyc v

/-! Reservoir and underrun (11 R314, R317). -/

/-- RESERVOIR_WATERMARK (11 R314): fetching stops at HIGH_WM and resumes at LOW_WM. -/
def execReservoirWatermark (a : At) (h : Nat) (high : Bool) (s : State) : Out :=
  onIsland a (25 + h) (h < 2) s fun s =>
    let d := a.die
    let x := s.head d h
    if (x.phase ≠ 1 ∧ x.phase ≠ 3) ∨ x.front.isNone ∨ x.fetching ≠ high then s
    else
      (s.modHead d h fun x => { x with fetching := !high }).set d F.DSP_HEAD_STATUS_FILL
        (1024 * s.get d (if high then F.DSP_HEAD_RES_CFG_HIGH_WM else F.DSP_HEAD_RES_CFG_LOW_WM) h) h

/-- The line of the raster now, 0 the first active one. -/
def State.lineNow (s : State) (d h : Nat) : Nat :=
  let x := s.head d h
  match x.run with
  | some t => if x.phase = 0 ∨ t.hTotal = 0 then 0 else (s.now - x.frameAt) * t.khz / (t.hTotal * 1000000000)
  | none => 0

/-- DSP_UNDERRUN (11 R317): an active pixel finds the reservoir empty. -/
def execDspUnderrun (a : At) (h : Nat) (s : State) : Out :=
  onIsland a (25 + h) (h < 2) s fun s =>
    let d := a.die
    let x := s.head d h
    if x.phase ≠ 1 ∨ x.front.isNone then s
    else
      let lead := min 16 (s.lead_ d h + 1)
      let s := ((s.bump d F.DSP_HEAD_UNDERRUN_COUNT 1 h).set d F.DSP_HEAD_STATUS_LEAD lead h).set d F.DSP_HEAD_STATUS_FILL 0 h
      (s.modHead d h fun x => { x with fetching := false }).raiseHead d h 0x701 2
        [(1, lead), (2, s.lineNow d h), (4, s.get d F.DSP_HEAD_FRAME_FRAME h)]

/-! Latency tolerance and self-refresh (11 R315, R316). -/

/-- LT of a head in blanking before the prefetch point, in picoseconds; none while it depends on the bytes held. -/
def State.tolerance (s : State) (d h : Nat) : Option Nat :=
  let x := s.head d h
  match x.run, x.phase with
  | some t, 2 =>
    let lead := s.lead_ d h
    let first := if s.vrr d h && x.taken.isNone then
        max (x.intakeAt + t.linesPs t.vMin) (x.intakeAt + t.linesPs (t.linesUp (s.now - x.intakeAt) + lead))
      else s.prefetchAt d h t + t.linesPs lead
    some (first - s.now - ns (s.get d F.DSP_HEAD_LT_CFG_LT_MARGIN_NS h))
  | _, _ => none

/-- Channels (2 × die + c) that hold a store of a head. -/
def State.headChannels (s : State) (d h : Nat) : List Nat :=
  match s.get d F.DSP_HEAD_CTL_STORE h with
  | 1 => [memChannel (s.window d h).1]
  | 2 => memChannel (s.regionBase d h (s.get d F.DSP_HEAD_MIRROR_REGION h)) ::
      ((s.head d h).moveTo.map fun r => memChannel (s.regionBase d h r)).toList
  | _ => []

/-- Every head that a channel serves tolerates two exits, as far as it is known here. -/
def State.tolerant (s : State) (d c : Nat) : Bool :=
  (List.range (2 * s.part.dies)).all fun p =>
    !(s.headChannels (p / 2) (p % 2)).contains (2 * d + c) ||
    (match s.tolerance (p / 2) (p % 2) with
     | some t => decide (2 * ns (s.get d F.MEM_CH_SR_SR_EXIT_NS c) ≤ t)
     | none => true)

/-- A channel is in self-refresh. -/
def State.asleep (s : State) (d c : Nat) : Bool := Table.look (s.die d).selfRefresh c false

/-- MEM_SELF_REFRESH_ENTER (11 R316): no request is queued; the heads it serves tolerate it. -/
def execMemSelfRefreshEnter (a : At) (c : Nat) (s : State) : Out :=
  onIsland a (29 + c) (c < 2) s fun s =>
    let d := a.die
    if s.flag d F.MEM_CH_SR_SR_EN c && !s.asleep d c && s.tolerant d c then
      (s.modDie d fun x => { x with selfRefresh := Table.put x.selfRefresh c true }).wrap d F.MEM_CH_SR_COUNT_ENTRIES c
    else s

/-- MEM_SELF_REFRESH_EXIT (11 R316): a request arrives, or a tolerance falls below two exits. -/
def execMemSelfRefreshExit (a : At) (c : Nat) (s : State) : Out :=
  onIsland a (29 + c) (c < 2) s fun s => s.modDie a.die fun x => { x with selfRefresh := Table.put x.selfRefresh c false }

end Sys2Proof.Machine
end

