-- ==== Sys2Proof/Machine/Mirror.lean ====
section
/-! DEFINITION. Frames between hubs (11 R318 to R325): sourcing dirty tiles, mirror frame stores, moves and budgets. -/

namespace Sys2Proof.Machine

/-! Sourcing (11 R318). -/

/-- The DPT strand of a source head. -/
def State.sourceStrand (s : State) (d h : Nat) : Option Nat :=
  (List.find? (fun (p : Nat × Entry) => p.2.inType == 3 && p.2.kind == 1 && p.2.inIndex == headNo d h &&
    p.2.inSn == s.get d F.DSP_HEAD_CTL_SRC_SN h && (p.2.st == 2 || p.2.st == 3)) (s.die d).ledger).map fun p => s.homeOf (8192 * d + p.1)

/-- A tile of a store, as a DPT frame (11 Table 11.4). -/
def State.tileFrame (s : State) (t : Timing) (c : Commit) (frame i : Nat) : List Byte :=
  let tx := i % t.cols
  let ty := i / t.cols
  let w := min 64 (t.hActive - 64 * tx)
  let h := min 64 (t.vActive - 64 * ty)
  leBytes 1 1 ++ leBytes 1 t.fmt ++ leBytes 2 tx ++ leBytes 2 ty ++ leBytes 1 w ++ leBytes 1 h ++ leBytes 4 frame ++ leBytes 4 0 ++
    (List.range h).flatMap fun y => s.cellBytes (devCell (c.base + (64 * ty + y) * c.stride + 256 * tx)) (4 * w)

/-- The frame token of a commit. -/
def tokenFrame (t : Timing) (c : Commit) (frame tiles : Nat) (full : Bool) : List Byte :=
  leBytes 1 2 ++ leBytes 1 (b2n full) ++ leBytes 2 tiles ++ leBytes 2 t.hActive ++ leBytes 1 t.fmt ++ leBytes 1 0 ++ leBytes 4 frame ++
    leBytes 4 0 ++ leBytes 8 c.ts ++ leBytes 2 t.vActive ++ leBytes 6 0

/-- A DPT frame as segments. -/
def State.dptSegs (s : State) (idx : Nat) (b : List Byte) : List (Bool × Bool × List Byte) :=
  let size := if ((s.entry? idx).map (·.enc)).getD false then 2024 else 2048
  let cs := chunks size b (b.length / size + 1)
  (cs.zipIdx).map fun p => (p.2 == 0, p.2 + 1 == cs.length, p.1)

/-- The sender starts its newest commit, where none is being sent. -/
def State.startSending (s : State) (d h : Nat) (t : Timing) : State :=
  let x := s.head d h
  match x.sending, x.unsent with
  | none, some c =>
    let n := x.frameNo + 1
    let every := s.get d F.DSP_HEAD_MIRROR_FULL_EVERY h
    let full := x.refresh || (every != 0 && n % every == 0)
    let tiles := match x.changed with
      | some l => if full then List.range (t.cols * t.rows) else (List.range (t.cols * t.rows)).filter fun i => l.contains i
      | none => List.range (t.cols * t.rows)
    s.modHead d h fun x => { x with
      sending := some c, unsent := none, changed := some [], tiles := tiles, tileCount := tiles.length, full := full, segs := [],
      frameNo := n, refresh := false }
  | _, _ => s

/-- Segments go out while the strand takes them and the budget lets them; each tile is read as its turn comes, then the token. -/
def State.pump (d h idx : Nat) (t : Timing) : Nat → State → State
  | 0, s => s
  | fuel + 1, s =>
    let x := s.head d h
    match x.sending with
    | none => s
    | some c =>
      match x.segs with
      | (sop, eop, b) :: rest =>
        if s.now < x.paceAt then s
        else
          let r := s.offerSeg idx sop eop b
          if !r.2 then s
          else
            let budget := s.get d F.SPD_HEAD_BUDGET_BUDGET h
            let pace := if budget = 0xFFFFFF then s.now
              else if budget = 0 then s.now + us 1000 else max s.now x.paceAt + bytePs b.length budget
            let last := rest.isEmpty && x.tiles.isEmpty && byteAt b 0 == 2 && sop && eop
            let s := r.1.modHead d h fun x => { x with segs := rest, paceAt := pace, sending := if last then none else x.sending }
            if last then s.releaseCommits d h else State.pump d h idx t fuel s
      | [] =>
        match x.tiles with
        | i :: tiles =>
          State.pump d h idx t fuel (s.modHead d h fun x => { x with
            tiles := tiles, segs := s.dptSegs idx (s.tileFrame t c x.frameNo i) })
        | [] =>
          State.pump d h idx t fuel (s.modHead d h fun x => { x with
            segs := [(true, true, tokenFrame t c x.frameNo x.tileCount x.full)] })

/-- SOURCE_FRAME_SEND (11 R318): the sender starts its newest commit or goes on with it. -/
def execSourceFrameSend (a : At) (h : Nat) (s : State) : Out :=
  onIsland a (25 + h) (h < 2) s fun s =>
    let d := a.die
    match (s.head d h).run, s.sourceStrand d h with
    | some t, some idx =>
      if !s.flag d F.DSP_HEAD_CTL_SOURCE h || !s.flag d F.DSP_HEAD_CTL_ENABLE h then s
      else State.pump d h idx t 100000 (s.startSending d h t)
    | _, _ => s

/-! Receiving (11 R320, R321). -/

/-- The base of a mirror buffer, 3 × region + i. -/
def State.bufBase (s : State) (d h : Nat) (t : Timing) (b : Nat) : Nat := s.regionBase d h (b / 3) + b % 3 * t.mBytes

/-- A gap of the open frame: 1 FRAME, 2 TILES, 3 SEQ or discard; the first cause stands. -/
def Head.gapped (x : Head) (cause : Nat) : Head := { x with gap := if x.gap = 0 then cause else x.gap }

/-- A tile in place: column, row and size within the running area, and its words' number (11 Table 11.4, R321). -/
def tileFits (t : Timing) (f : List Byte) : Bool :=
  let tx := numAt f 2 2
  let ty := numAt f 4 2
  let w := byteAt f 6
  let h := byteAt f 7
  byteAt f 0 == 1 && decide (1 ≤ w ∧ w ≤ 64 ∧ 1 ≤ h ∧ h ≤ 64) && f.length == 16 + 4 * w * h && byteAt f 1 == t.fmt &&
    decide (64 * tx + w ≤ t.hActive) && decide (64 * ty + h ≤ t.vActive)

/-- DPT_TILE_RECEIVE (11 R320, R321): a DPT frame of a mirror head's strand; `lost` tells of a SEQ gap or a discard before it. -/
def execDptTileReceive (a : At) (h : Nat) (frame : List Byte) (lost : Bool) (s : State) : Out :=
  onIsland a (25 + h) (h < 2) s fun s =>
    let d := a.die
    match (s.head d h).run with
    | none => s.bump d F.DSP_HEAD_TILE_DISCARD_COUNT 1 h
    | some t =>
      let s := if lost then s.modHead d h fun x => x.gapped 3 else s
      if s.get d F.DSP_HEAD_CTL_STORE h ≠ 2 ∨ tileFits t frame = false then s.bump d F.DSP_HEAD_TILE_DISCARD_COUNT 1 h
      else
        let x := s.head d h
        let n := numAt frame 8 4
        let tx := numAt frame 2 2
        let ty := numAt frame 4 2
        let w := byteAt frame 6
        let base := s.bufBase d h t x.mFill
        let s := (List.range (byteAt frame 7)).foldl (fun s y =>
          s.setCells (devCell (base + (64 * ty + y) * t.mStride + 256 * tx)) ((frame.drop (16 + 4 * w * y)).take (4 * w))) s
        s.modHead d h fun x =>
          let x := if x.openFrame.isSome ∧ x.openFrame ≠ some n then x.gapped 1 else x
          let i := ty * t.cols + tx
          { x with openFrame := some n, got := x.got + 1, bytes := x.bytes + frame.length,
                   written := if x.written.contains i then x.written else x.written ++ [i] }

/-- DPT_TOKEN_RECEIVE (11 R320, R321): the fill buffer awaits its writes and its copy. -/
def execDptTokenReceive (a : At) (h : Nat) (frame : List Byte) (lost : Bool) (s : State) : Out :=
  onIsland a (25 + h) (h < 2) s fun s =>
    let d := a.die
    match (s.head d h).run with
    | none => s
    | some t =>
      if byteAt frame 0 ≠ 2 ∨ frame.length ≠ 32 ∨ s.get d F.DSP_HEAD_CTL_STORE h ≠ 2 then
        s.bump d F.DSP_HEAD_TILE_DISCARD_COUNT 1 h
      else
        let x := s.head d h
        let n := numAt frame 8 4
        let size := (byteAt frame 6, numAt frame 4 2, numAt frame 24 2)
        let s := if size = (t.fmt, t.hActive, t.vActive) then s.modHead d h fun x => { x with mismatch := none }
          else if x.mismatch = some size then s
          else (s.modHead d h fun x => { x with mismatch := some size }).raiseHead d h 0x70A 2
            [(1, size.1), (2, size.2.1), (2, size.2.2)]
        let x := s.head d h
        let x := if lost then x.gapped 3 else x
        let x := if x.openFrame.isSome ∧ x.openFrame ≠ some n then x.gapped 1 else x
        let x := if x.got ≠ numAt frame 2 2 then x.gapped 2 else x
        let s := s.modHead d h fun _ => { x with
          token := some ⟨n, numAt frame 2 2, numAt frame 16 8⟩, bytes := x.bytes + 32 }
        if x.gap = 0 then s
        else (s.bump d F.DSP_HEAD_GAPS_COUNT 1 h).raiseHead d h 0x709 2 [(1, x.gap), (2, numAt frame 2 2 - x.got), (4, n)]

/-- The tiles of a fill buffer's stale map that the frame has not written are copied from the newest complete buffer. -/
def State.copyStale (s : State) (d h : Nat) (t : Timing) : State :=
  let x := s.head d h
  match x.copyFrom with
  | none => s
  | some b =>
    let old := Table.look x.stale x.mFill []
    (old.filter fun i => !x.written.contains i).foldl (fun s i =>
      let off := 64 * (i / t.cols) * t.mStride + 256 * (i % t.cols)
      let w := min 64 (t.hActive - 64 * (i % t.cols))
      (List.range (min 64 (t.vActive - 64 * (i / t.cols)))).foldl (fun s y =>
        s.setCells (devCell (s.bufBase d h t x.mFill + off + y * t.mStride))
          (s.cellBytes (devCell (s.bufBase d h t b + off + y * t.mStride)) (4 * w))) s) s

/-- MIRROR_TOKEN_COMPLETE (11 R320): every write and the copy have reached LPDDR; the fill buffer becomes ready and commits. -/
def execMirrorTokenComplete (a : At) (h : Nat) (s : State) : Out :=
  onIsland a (25 + h) (h < 2) s fun s =>
    let d := a.die
    match (s.head d h).run, (s.head d h).token with
    | some t, some k =>
      let s := (s.catchUp d h a.cyc 3).copyStale d h t
      let x := s.head d h
      let region := x.moveTo.getD (s.get d F.DSP_HEAD_MIRROR_REGION h)
      let others := (List.range 3).map fun i => 3 * region + i
      let next := (others.find? fun b => b != x.mFill && some b != x.mFront).getD (3 * region)
      let all := List.range (t.cols * t.rows)
      let mark := fun (m : Table (List Nat)) (b : Nat) =>
        let l := Table.look m b []
        Table.put m b (l ++ x.written.filter fun i => !l.contains i)
      let stale := (others.filter fun b => b != x.mFill).foldl mark (Table.put x.stale x.mFill [])
      let stale := if next / 3 = x.mFill / 3 then stale else others.foldl (fun m b => Table.put m b all) stale
      let c : Commit := ⟨x.count, k.frame % 65536, s.bufBase d h t x.mFill, t.mStride, none, k.ts⟩
      let s := (s.pointNear d h).modHead d h fun x => { x with
        mReady := some x.mFill, mFill := next, copyFrom := some x.mFill, stale := stale, written := [], openFrame := none, got := 0,
        gap := 0, token := none, lastBytes := x.bytes, bytes := 0, count := x.count + 1 }
      s.complete d h c
    | _, _ => s

/-! The Spindle's orders and budgets (11 R323, R325). -/

/-- An order to move a mirror store; discarded while a move is in progress (11 R323). -/
def State.orderStore (s : State) (d h region : Nat) : State :=
  let x := s.head d h
  if x.moveTo.isSome then s.bump d F.DSP_HEAD_MOVE_DISCARD_COUNT 1 h
  else s.modHead d h fun x => { x with moveTo := some region }

/-- The fetch rate of a local head at its running refresh, in Mb/s. -/
def State.fetchRate (_s : State) (t : Timing) : Nat :=
  let frame := t.linesPs (t.vActive + t.vBlank)
  if frame = 0 then 0 else 32 * t.hActive * t.vActive * 1000000 / frame

/-- A head reads its budget at a twist boundary (11 R325). -/
def State.readBudget (s : State) (d h : Nat) : State :=
  let budget := s.get d F.SPD_HEAD_BUDGET_BUDGET h
  let x := s.head d h
  match s.get d F.DSP_HEAD_CTL_STORE h with
  | 2 => if budget = 0xFFFFFF ∨ budget = 0 then s else s.set d F.DSP_HEAD_EST_EST_INTERVAL_US (x.lastBytes * 8 / budget) h
  | 1 =>
    match x.run with
    | some t =>
      let rate := s.fetchRate t
      let past := decide (4 ≤ s.headState d h) && budget != 0xFFFFFF && decide (budget < rate)
      let s := s.modHead d h fun x => { x with short := past }
      if past && !x.short then
        s.raiseLimited d 0x70C (headNo d h) (ms 1000) fun _ s => s.raiseHead d h 0x70C 2 [(3, 0), (4, rate), (4, budget)]
      else s
    | none => s
  | _ => s

end Sys2Proof.Machine
end

