-- ==== Sys2Proof/Machine/Bridge.lean ====
section
/-! DEFINITION. The bridge (12 R328 to R344): windows, posted writes, tags, read-ahead, atomics, locks, semaphores and links. -/

namespace Sys2Proof.Machine

/-- The bridge's own state changed. -/
def State.modBrg (s : State) (f : Brg → Brg) : State := { s with brg := f s.brg }

/-! Windows (12 R333, R334). -/

/-- The physical function whose range holds a function index (13 R351). -/
def State.pfOf (s : State) (f : Nat) : Option Nat :=
  (List.range 4).find? fun p =>
    decide (s.get 0 F.VFN_PF_SRIOV_VF_FIRST p ≤ f) &&
    decide (f < s.get 0 F.VFN_PF_SRIOV_VF_FIRST p + s.get 0 F.VFN_PF_SRIOV_TOTAL_VFS p)

/-- The 64-bit BASE of a window. -/
def State.winBase (s : State) (w : Nat) : Nat := s.pair s.primary Reg.BRG_WIN_BASE_LO Reg.BRG_WIN_BASE_HI w

/-- A window matches a request of function `f` (12 Table 12.3); DEVICE_MEM windows lie in PF0's BAR2. -/
def State.winMatches (s : State) (f : Nat) (tgt : Target) (addr w : Nat) : Bool :=
  let d := s.primary
  let kind := s.get d F.BRG_WIN_CFG_KIND w
  let size := s.get d F.BRG_WIN_SIZE_SIZE_MIB w * 1048576
  s.flag d F.BRG_WIN_CFG_VALID w &&
  match tgt with
  | .vdp n pref => kind == (if pref then 2 else 1) && s.get d F.BRG_WIN_CFG_VDP w == n
  | .bar2 off => f == 0 && kind == 3 && decide (s.get d F.BRG_WIN_OFF_OFF_MIB w * 1048576 ≤ off) &&
      decide (off < s.get d F.BRG_WIN_OFF_OFF_MIB w * 1048576 + size)
  | .peer die => kind == 4 && s.get d F.BRG_WIN_CFG_SRC_DIE w == die && decide (s.winBase w ≤ addr) && decide (addr < s.winBase w + size)
  | .csr _ _ => false

/-- The window of a request. -/
def State.window? (s : State) (f : Nat) (tgt : Target) (addr : Nat) : Option Nat :=
  (List.range 64).find? fun w => s.winMatches f tgt addr w

/-- An attribute of a window; a range without a window has every attribute 0. -/
def State.winFlag (s : State) (w : Option Nat) (f : Fld) : Bool := (w.map fun w => s.flag s.primary f w).getD false

/-- The VDP that a request reaches. -/
def State.vdpOf (s : State) (tgt : Target) (w : Option Nat) : Option Nat :=
  match tgt with
  | .vdp n _ => if s.flag s.primary F.BRG_VDP_CFG_VALID n && n != 0 then some n else none
  | .peer _ => w.map fun w => s.get s.primary F.BRG_WIN_CFG_VDP w
  | _ => none

/-- The device memory address of an offset in a function's BAR2: through a window for PF0, at BAR2_TARGET for a virtual function
(12 R333; 13 R356). -/
def State.bar2Addr (s : State) (f off : Nat) (w : Option Nat) : Option Nat :=
  if f = 0 then w.map fun w => s.winBase w + off - s.get s.primary F.BRG_WIN_OFF_OFF_MIB w * 1048576
  else
    let x := s.slot f
    match s.pfOf f with
    | some p =>
      if (x.st = 1 ∨ x.st = 2) ∧ off < 1048576 * s.get 0 F.VFN_PF_BAR2_VF_BAR2_MIB p then some (x.carve.bar2 + off) else none
    | none => none

/-- The number of a window in events: 0xFF for none. -/
def winNo (w : Option Nat) : Nat := w.getD 0xFF

/-- A function is fenced from a window (12 R337). -/
def State.fenced (s : State) (f : Nat) (w : Option Nat) : Bool :=
  match w with
  | some w => bit (s.pair s.primary Reg.BRG_FN_FENCE_LO Reg.BRG_FN_FENCE_HI f) w
  | none => false

/-! VDPs (12 R331). -/

/-- A strand is ACTIVE. -/
def State.strandActive (s : State) (idx : Nat) : Bool := ((s.entry? idx).map fun e => e.st == 2).getD false

/-- The VDP stands for a port of this hub. -/
def State.vdpHere (s : State) (n : Nat) : Bool := s.get s.primary F.BRG_VDP_CFG_TGT_HUB n == s.hubAddr

/-- Both strands of a VDP are ACTIVE, or its splice route is up. -/
def State.vdpCarried (s : State) (n : Nat) : Bool :=
  if s.vdpHere n then !s.dieOut (s.get s.primary F.BRG_VDP_CFG_TGT_DIE n)
  else s.strandActive (s.get s.primary F.BRG_VDP_CFG_STRAND_OUT n) && s.strandActive (s.get s.primary F.BRG_VDP_IN_STRAND_IN n)

/-- A TLP travels to the far port of a VDP: over the splices, or as a PCT frame of its strand (12 R331, R335). -/
def State.forwardTlp (s : State) (n kind fn num addr : Nat) (bytes : List Byte) : State :=
  let s := s.emit (.forward n kind fn num addr bytes)
  if s.vdpHere n then s
  else s.offerFrame (s.get s.primary F.BRG_VDP_CFG_STRAND_OUT n) (Config.tlpFrame [kind, fn, num, addr] bytes)

/-! Tags (12 R339, R340). -/

/-- How many tags of a die are in use, as BRG_TAGS shows it. -/
def State.showTags (s : State) (d : Nat) : State :=
  let n := (s.die d).tags.length
  (s.set d F.BRG_TAGS_IN_USE n).set d F.BRG_TAGS_PEAK (max n (s.get d F.BRG_TAGS_PEAK))

/-- A tag taken; with every tag in use none is returned, and the request waits on the link. -/
def State.takeTag (s : State) (d : Nat) (x : BrgTag) : State × Option Nat :=
  match (List.range 1024).find? fun t => (Table.find? (s.die d).tags t).isNone with
  | some t => ((s.modDie d fun y => { y with tags := Table.put y.tags t x }).showTags d, some t)
  | none => (s.raiseLimited d 0x809 19 (ms 1000) (fun n s => s.raise d 19 0x809 1 [(1, d), (3, 0), (4, n)]), none)

/-- A tag freed. -/
def State.freeTag (s : State) (d t : Nat) : State := (s.modDie d fun y => { y with tags := Table.del y.tags t }).showTags d

/-- The deadline of a tag taken now. -/
def State.tagDeadline (s : State) : Nat := s.now + us (s.get s.primary F.BRG_CFG_CPL_TIMEOUT_US)

/-! Posted writes (12 R335 to R338). -/

/-- The next ordinal of a function. -/
def State.ordinal (s : State) (f : Nat) : Nat := s.get s.primary F.BRG_FN_ORDINAL_NEXT f

/-- BRG_POSTED_WRITE (12 R335, R337): accepted with an ordinal and delivered, or dropped under a fence. `f` is the initiator function,
255 for a device below a root port. -/
def execBrgPostedWrite (a : At) (f : Nat) (tgt : Target) (addr : Nat) (bytes : List Byte) (s : State) : Out :=
  onIsland a 19 (f < 249 || f == 255) s fun s =>
    let p := s.primary
    let w := s.window? f tgt addr
    let s := if f = 255 then s else s.activity
    if s.fenced f w && f != 255 then s.bump p F.BRG_FENCE_DROP_COUNT
    else
      let n := s.ordinal f
      let s := if f = 255 then s else s.set p F.BRG_FN_ORDINAL_NEXT ((n + 1) % 65536) f
      match tgt with
      | .bar2 off =>
        (match s.bar2Addr f off w with
         | some x => s.setCells (devCell x) bytes
         | none => if f = 0 then s else s.unprovisioned)
      | _ =>
        match s.vdpOf tgt w with
        | some v => s.forwardTlp v 0 f n addr bytes
        | none => s

/-- What a notice in time does: FAR_WRITE_ERR, LAST_ORDINAL, the fence of a FENCE_MODE window, WRITE_LOST (12 R337). -/
def State.honourNotice (s : State) (p f : Nat) (tgt : Target) (ord addr cause : Nat) : State :=
  let w := s.window? f tgt addr
  let fence := s.winFlag w F.BRG_WIN_CFG_FENCE_MODE
  let s := (s.set p F.BRG_FN_ERR_FAR_WRITE_ERR 1 f).set p F.BRG_FN_ERR_LAST_ORDINAL ord f
  let s := match w with
    | some w =>
      if fence then
        let v := s.pair p Reg.BRG_FN_FENCE_LO Reg.BRG_FN_FENCE_HI f
        s.setPair p Reg.BRG_FN_FENCE_LO Reg.BRG_FN_FENCE_HI (setBit v w) f
      else s
    | none => s
  s.raiseOwned f p 19 0x801 2 [(2, ord), (1, f), (1, cause), (8, addr), (1, winNo w), (1, b2n (s.fenced f w))]

/-- FAILURE_NOTICE_RECEIVE (12 R336 to R338): a far write failed. Its time-stamps are compared under 01 R31. -/
def execFailureNoticeReceive (a : At) (f : Nat) (tgt : Target) (ord addr ts cause : Nat) (s : State) : Out :=
  onIsland a 19 (f < 249) s fun s =>
    let p := s.primary
    let due := tsPs ts + 4000000000000
    if cause = 0 ∨ 5 < cause ∨ due < tsPs s.ts then s.bump p F.BRG_NOTICE_STALE_COUNT
    else (if due = tsPs s.ts then s.bump p F.BRG_NEAR_MISS_COUNT else s).honourNotice p f tgt ord addr cause

/-! Read-ahead (12 R341). -/

/-- A read-ahead buffer's unused data is discarded. -/
def State.dropAhead (s : State) (d b : Nat) : State :=
  match Table.find? (s.die d).aheads b with
  | none => s
  | some x =>
    let s := s.modDie d fun y => { y with aheads := Table.del y.aheads b }
    let left := (x.data.map (·.length)).getD 0
    if left = 0 then s
    else
      let s := s.bump s.primary F.BRG_PREFETCH_DISCARD_COUNT
      if s.winFlag (some x.window) F.BRG_WIN_CFG_WATCHED then
        s.raiseOwned (if x.fn = 255 then 0 else x.fn) d 19 0x802 1 [(1, x.window), (1, x.fn), (2, left), (8, x.addr)]
      else s

/-- The buffer that a stream takes: its own, a free one, or the least recently used. -/
def State.aheadSlot (s : State) (d f w : Nat) : Nat :=
  let mine := (List.find? (fun (p : Nat × Ahead) => p.2.fn == f && p.2.window == w) (s.die d).aheads).map (·.1)
  let free := (List.range 16).find? fun b => (Table.find? (s.die d).aheads b).isNone
  let oldest := (largestBy (fun (p : Nat × Ahead) => -(p.2.used : Int)) (s.die d).aheads).map (·.1)
  mine.getD (free.getD (oldest.getD 0))

/-- A sequential read makes the bridge read ahead: at most 512 bytes, within 4 KiB. -/
def State.readAhead (s : State) (d f w v start : Nat) : State :=
  let len := min 512 (4096 - start % 4096)
  let b := s.aheadSlot d f w
  let r := (s.dropAhead d b).takeTag d ⟨f, w, v, start, len, b, 0, s.tagDeadline, 1⟩
  match r.2 with
  | some t =>
    (r.1.modDie d fun y => { y with aheads := Table.put y.aheads b ⟨f, w, start, len, none, 0, s.now⟩ }).forwardTlp v 1 f t start
      (leBytes 2 len)
  | none => s

/-- Reading ahead in a DEVICE_MEM window: from device memory address `x` on, not past the window's end; the data is there at once. -/
def State.readAheadHere (s : State) (d f w start x : Nat) : State :=
  let end_ := s.winBase w + 1048576 * s.get s.primary F.BRG_WIN_SIZE_SIZE_MIB w
  let len := min 512 (min (4096 - start % 4096) (end_ - x))
  if len = 0 then s
  else
    let b := s.aheadSlot d f w
    (s.dropAhead d b).modDie d fun y => { y with
      aheads := Table.put y.aheads b ⟨f, w, start, len, some (s.cellBytes (devCell x) len), s.now, s.now⟩ }

/-- A read that a buffer covers completes from it; the answer is the data. -/
def State.fromAhead (s : State) (d f : Nat) (w : Option Nat) (addr len : Nat) : Option (State × List Byte) :=
  match w with
  | none => none
  | some w =>
    match List.find? (fun (p : Nat × Ahead) => p.2.fn == f && p.2.window == w && decide (p.2.addr ≤ addr) &&
        (match p.2.data with
         | some b => decide (addr + len ≤ p.2.addr + b.length)
         | none => false)) (s.die d).aheads with
    | none => none
    | some (b, x) =>
      let data := x.data.getD []
      let skip := addr - x.addr
      let rest := data.drop (skip + len)
      let left : Ahead := { x with addr := addr + len, data := some rest, used := s.now }
      let s := s.modDie d fun y => { y with aheads := if rest.isEmpty then Table.del y.aheads b else Table.put y.aheads b left }
      some (s, (data.drop skip).take len)

/-! Atomics (12 R342). -/

/-- What an atomic leaves in memory: 0 FetchAdd, 1 Swap, 2 CAS with the compared value first; none where the width has no meaning. -/
def atomicResult (op : Nat) (operand old : List Byte) : Option (List Byte) :=
  let n := old.length
  match op with
  | 0 => some (leBytes n (leNat old + leNat operand))
  | 1 => some operand
  | 2 => some (if operand.take n = old then operand.drop n else old)
  | _ => none

/-- Bytes that an atomic works on: 4 or 8. -/
def atomicWidth (op : Nat) (operand : List Byte) : Nat := if op = 2 then operand.length / 2 else operand.length

/-- The bridge completes no atomic of this shape: another operation, CAS at 128 bits, or a window without ATOMIC. -/
def State.atomicBlocked (s : State) (w : Option Nat) (x : Nat × List Byte) : Bool :=
  !(decide (x.1 < 3) && (atomicWidth x.1 x.2 == 4 || atomicWidth x.1 x.2 == 8) && s.winFlag w F.BRG_WIN_CFG_ATOMIC)

/-! Reads (12 R339 to R342). -/

/-- The lock that a later request of a broken sequence runs into (12 R343). -/
def State.brokenFor (s : State) (f : Nat) (v : Option Nat) : Bool :=
  match s.brg.lock with
  | some l => l.broken && l.fn == f && l.vdp == v && v.isSome
  | none => false

/-- A read of device memory at `x`: in a PREFETCH window from a buffer that covers it, and read ahead after a sequential one
(12 R341). -/
def State.readHere (s : State) (d f : Nat) (w : Option Nat) (addr x len tag : Nat) : State :=
  match w with
  | none => s.emit (.answer f tag 0 (s.cellBytes (devCell x) len))
  | some n =>
    if s.winFlag w F.BRG_WIN_CFG_PREFETCH then
      let key := 64 * f + n
      let sequential := Table.find? s.brg.ends key == some addr
      let r := (s.fromAhead d f w addr len).getD (s, s.cellBytes (devCell x) len)
      let t := (r.1.emit (.answer f tag 0 r.2)).modBrg fun b => { b with ends := Table.put b.ends key (addr + len) }
      if sequential then t.readAheadHere d f n (addr + len) (x + len) else t
    else s.emit (.answer f tag 0 (s.cellBytes (devCell x) len))

/-- BRG_READ_REQUEST (12 R339): a memory read, or an atomic with its operation and operand, from function `f`, or with 255 from a far
device with requester ID `rid`; `tag` is the requester's own. -/
def execBrgReadRequest (a : At) (f : Nat) (tgt : Target) (addr len tag rid : Nat) (atomic : Option (Nat × List Byte))
    (s : State) : Out :=
  onIsland a 19 ((f < 249 || f == 255) && 0 < len && len ≤ 4096) s fun s =>
    let p := s.primary
    let d := a.die
    let w := s.window? f tgt addr
    let v := s.vdpOf tgt w
    let s := if f = 255 then s else s.activity
    let blocked := (atomic.map fun x => s.atomicBlocked w x).getD false
    if s.fenced f w && f != 255 || s.brokenFor f v then s.emit (.answer f tag 4 [])
    else if blocked then
      ((s.bump p F.BRG_ATOMIC_BLOCKED_COUNT).raiseLimited d 0x80B 19 (ms 1000) fun _ s =>
        s.raiseOwned (if f = 255 then 0 else f) d 19 0x80B 2 [(1, f), (1, winNo w), (2, 0), (8, addr)]).emit (.answer f tag 1 [])
    else
      match tgt with
      | .bar2 off =>
        (match s.bar2Addr f off w with
         | some x =>
           (match atomic with
            | some (op, operand) =>
              let old := s.cellBytes (devCell x) (atomicWidth op operand)
              (s.setCells (devCell x) ((atomicResult op operand old).getD old)).emit (.answer f tag 0 old)
            | none => s.readHere d f w addr x len tag)
         | none => if f = 0 then s.emit (.answer f tag 1 []) else s.emit (.answer f tag 0 (List.replicate len 0)))
      | _ =>
        match v with
        | none => s.emit (.answer f tag 1 [])
        | some v =>
          if !s.vdpCarried v then s.emit (.answer f tag 1 [])
          else
            let key := 64 * f + w.getD 0
            let prefetch := s.winFlag w F.BRG_WIN_CFG_PREFETCH && atomic.isNone
            let sequential := prefetch && Table.find? s.brg.ends key == some addr
            let ended := fun (s : State) =>
              let s := if prefetch then s.modBrg fun b => { b with ends := Table.put b.ends key (addr + len) } else s
              if sequential then s.readAhead d f (w.getD 0) v (addr + len) else s
            match (if prefetch then s.fromAhead d f w addr len else none) with
            | some (s', data) => ended (s'.emit (.answer f tag 0 data))
            | none =>
              let r := s.takeTag d ⟨f, winNo w, v, addr, len, tag, rid, s.tagDeadline, 0⟩
              match r.2 with
              | some t =>
                let s := match atomic with
                  | some (op, operand) => r.1.forwardTlp v (4 + op) f t addr operand
                  | none => r.1.forwardTlp v 1 f t addr (leBytes 2 len)
                ended s
              | none => r.1

/-- BRG_COMPLETION_RECEIVE (12 R340): it frees its tag and is delivered, or is late. -/
def execBrgCompletionReceive (a : At) (tag status : Nat) (bytes : List Byte) (s : State) : Out :=
  onIsland a 19 (tag < 1024) s fun s =>
    let d := a.die
    match Table.find? (s.die d).tags tag with
    | none => s.bump s.primary F.BRG_LATE_CPL_COUNT
    | some x =>
      if !inTime a s x.deadline then s.bump s.primary F.BRG_LATE_CPL_COUNT
      else
        let s := if nearMiss a s x.deadline then s.bump s.primary F.BRG_NEAR_MISS_COUNT else s
        let s := s.freeTag d tag
        if x.use = 1 then
          match Table.find? (s.die d).aheads x.tag with
          | some b =>
            if b.addr ≠ x.addr ∨ b.fn ≠ x.fn then s
            else if status = 0 then
              s.modDie d fun y => { y with aheads := Table.put y.aheads x.tag { b with data := some bytes, at_ := s.now } }
            else s.modDie d fun y => { y with aheads := Table.del y.aheads x.tag }
          | none => s
        else if x.use = 4 then s
        else s.emit (.answer x.fn x.tag status bytes)

/-- BRG_CPL_TIMEOUT (12 R340). -/
def execBrgCplTimeout (a : At) (tag : Nat) (s : State) : Out :=
  onIsland a 19 (tag < 1024) s fun s =>
    let d := a.die
    match Table.find? (s.die d).tags tag with
    | none => s
    | some x =>
      if !fallen s x.deadline then s
      else
        let s := s.freeTag d tag
        let s := if x.use = 1 then s.modDie d fun y => { y with aheads := Table.del y.aheads x.tag } else if x.use = 4 then s else s.emit (.answer x.fn x.tag 4 [])
        s.raiseOwned (if x.fn = 255 then 0 else x.fn) d 19 0x803 2
          [(1, x.fn), (1, x.window), (2, tag), (8, x.addr), (2, if x.fn = 255 then x.rid else 0)]

/-- PREFETCH_DISCARD (12 R341): unused data is discarded 2 µs after it arrived. -/
def execPrefetchDiscard (a : At) (buf : Nat) (s : State) : Out :=
  onIsland a 19 (buf < 16) s fun s =>
    match Table.find? (s.die a.die).aheads buf with
    | some x => if x.data.isSome && fallen s (x.at_ + us 2) then s.dropAhead a.die buf else s
    | none => s

/-! Semaphores (12 R344). -/

/-- A semaphore is held by, or freed from, a function. -/
def State.semSet (s : State) (n holder : Nat) : State :=
  (s.set s.primary F.BRG_SEM_HOLDER holder n).set s.primary F.BRG_SEM_HELD (b2n (holder != 0x1FF)) n

/-- Semaphores 0 to 4 guard the privileged channels and 16 to 63 are software's; 5 to 15 are never granted (12 Table 12.5). -/
def semUsable (n : Nat) : Bool := decide (n < 5) || (decide (16 ≤ n) && decide (n < 64))

/-- A read acquires a free semaphore; the answer is the word that the reader sees. -/
def State.semRead (s : State) (q : Req) (n : Nat) : State × Word :=
  let me := reqCode q
  let s := if semUsable n && s.semHolder n == 0x1FF then s.semSet n me else s
  (s, wordSet (s.word s.primary Reg.BRG_SEM n) 31 31 (b2n (semUsable n && s.semHolder n == me)))

/-- A write to a semaphore: RELEASE by its holder, FORCE by PF0. -/
def State.writeSem (s : State) (q : Req) (n : Nat) (v : Word) : State :=
  if (wordGet v 0 0 = 1 ∧ s.semHolder n = reqCode q) ∨ (wordGet v 1 1 = 1 ∧ q = .pf0) then s.semSet n 0x1FF else s

/-- SEM_RELEASE (12 R344): a write with RELEASE set. -/
def semRelease (a : At) (q : Req) (n : Nat) (v : Word) (s : State) : Out :=
  onWrite a q (0x203000 + 4 * n) v (n < 64 && wordGet v 0 0 == 1) s fun s => if a.die = s.primary then s.writeSem q n v else s

/-- SEM_FORCE (12 R344): a write with FORCE set. -/
def semForce (a : At) (q : Req) (n : Nat) (v : Word) (s : State) : Out :=
  onWrite a q (0x203000 + 4 * n) v (n < 64 && wordGet v 1 1 == 1) s fun s => if a.die = s.primary then s.writeSem q n v else s

/-- Every semaphore of a function is freed (12 R344; 13 R361). -/
def State.freeSems (s : State) (f : Nat) : State :=
  (List.range 64).foldl (fun s n => if s.semHolder n = f then s.semSet n 0x1FF else s) s

/-! Locked sequences (12 R343). -/

/-- A lock ends: the VDP is released, or the semaphore. -/
def State.unlock (s : State) (l : Lock) : State :=
  let s := s.modBrg fun b => { b with lock := none }
  match l.vdp with
  | some v => s.set s.primary F.BRG_VDP_STATUS_LOCKED 0 v
  | none => if s.semHolder l.sem = l.fn then s.semSet l.sem 0x1FF else s

/-- UNLOCK_MESSAGE (12 R343): the host's Unlock ends the sequence; the far port is told. -/
def unlockMessage (a : At) (s : State) : Out :=
  onIsland a 19 true s fun s =>
    match s.brg.lock with
    | some l =>
      let s := s.unlock l
      (match l.vdp with
       | some v => if l.broken then s else s.forwardTlp v 3 l.fn 0 0 []
       | none => s)
    | none => s

/-- BRG_LOCK_BROKEN (12 R343): a far lock held for more than LOCK_MAX_MS is released; later requests of the sequence are refused. -/
def execBrgLockBroken (a : At) (s : State) : Out :=
  onIsland a 19 true s fun s =>
    match s.brg.lock with
    | some l =>
      (match l.vdp with
       | some v =>
         if l.broken || !fallen s (l.since + ms (s.get s.primary F.BRG_LOCK_CFG_LOCK_MAX_MS)) then s
         else
           let s := (s.modBrg fun b => { b with lock := some { l with broken := true } }).set s.primary F.BRG_VDP_STATUS_LOCKED 0 v
           (s.forwardTlp v 3 l.fn 0 0 []).raiseOwned l.fn s.primary 19 0x804 2
             [(1, v), (1, l.fn), (2, 0), (4, (s.now - l.since) / us 1)]
       | none => s)
    | none => s

/-! Virtual downstream ports (12 R331, R332). -/

/-- Requests held for a VDP complete with Unsupported Request. -/
def State.failVdp (s : State) (n : Nat) : State :=
  (List.range s.part.dies).foldl (fun s d =>
    ((s.die d).tags.filter fun p => p.2.vdp == n).foldl (fun s p =>
      let s := s.freeTag d p.1
      if p.2.use = 1 then s.modDie d fun y => { y with aheads := Table.del y.aheads p.2.tag } else s.emit (.answer p.2.fn p.2.tag 1 [])) s) s

/-- VDP_CONFIG_REQUEST (12 R332): a Type 0 or Type 1 read or write to a VDP's secondary bus. -/
def execVdpConfigRequest (a : At) (n : Nat) (type1 write : Bool) (addr tag : Nat) (bytes : List Byte) (s : State) : Out :=
  onIsland a 19 (n < 32) s fun s =>
    if n = 0 ∨ s.flag s.primary F.BRG_VDP_CFG_VALID n = false ∨ s.vdpCarried n = false then s.emit (.answer 0 tag 1 [])
    else
      let r := s.takeTag a.die ⟨0, 0xFF, n, addr, 4, tag, 0, s.tagDeadline, 0⟩
      match r.2 with
      | some t => r.1.forwardTlp n (8 + b2n type1 + 2 * b2n write) 0 t addr bytes
      | none => r.1

/-- VDP_LINK (12 R331): the far port reports presence and link, or a strand or the route changes; 1 far port, 2 strand, 3 Secondary
Bus Reset. -/
def execVdpLink (a : At) (n : Nat) (present active : Bool) (cause speed width : Nat) (s : State) : Out :=
  onIsland a 19 (0 < n && n < 32) s fun s =>
    let d := s.primary
    let here := present && s.vdpCarried n
    let act := here && active && !s.brg.disabled.contains n
    let dp := s.flag d F.BRG_VDP_STATUS_PRESENT n != here
    let da := s.flag d F.BRG_VDP_STATUS_LINK_ACTIVE n != act
    let s := (((s.set d F.BRG_VDP_STATUS_PRESENT (b2n here) n).set d F.BRG_VDP_STATUS_LINK_ACTIVE (b2n act) n).set d
      F.BRG_VDP_STATUS_FAR_SPEED (if act then speed else 0) n).set d F.BRG_VDP_STATUS_FAR_WIDTH (if act then width else 0) n
    let s := if s.vdpCarried n then s else s.failVdp n
    if !s.flag d F.BRG_VDP_CFG_VALID n || !(dp || da) then s
    else
      let old := Table.look s.brg.changed n 0
      let old := if dp then setBit old 0 else old
      let s := s.modBrg fun b => { b with changed := Table.put b.changed n (if da then setBit old 1 else old) }
      (s.emit (.vdpMsi n)).raise d 19 0x806 1 [(1, n), (1, b2n here + 2 * b2n act), (1, cause)]

/-- VDP_LINK_CONTROL (12 R331): 0 ends and 1 sets Link Disable, 2 Retrain Link, 3 Secondary Bus Reset; passed to the far port. -/
def execVdpLinkControl (a : At) (n kind : Nat) (s : State) : Out :=
  onIsland a 19 (0 < n && n < 32 && kind < 4) s fun s =>
    if s.flag s.primary F.BRG_VDP_CFG_VALID n then
      let off := if kind = 1 then n :: s.brg.disabled.erase n else if kind = 0 then s.brg.disabled.erase n else s.brg.disabled
      (s.modBrg fun b => { b with disabled := off }).emit (.vdpOrder n kind)
    else s

/-- A downstream root port's link changes. -/
def State.dsLink (s : State) (d : Nat) (up : Bool) (speed width : Nat) : State :=
  if (s.die d).dsUp = up then s
  else (s.modDie d fun x => { x with dsUp := up }).raise d 19 0x80A 1
    [(1, d), (1, b2n up), (1, if up then speed else 0), (1, if up then width else 0)]

/-- DS_PORT_LINK (12 R330). -/
def execDsPortLink (a : At) (up : Bool) (speed width : Nat) (s : State) : Out :=
  onIsland a 18 true s fun s => s.dsLink a.die up speed width

/-- The primary port leaves or regains DL_Active. -/
def State.primaryLink (s : State) (up : Bool) (rate width : Nat) : State :=
  let s := s.modBrg fun b => { b with downAt := if up then none else some (b.downAt.getD s.now) }
  (s.set 0 F.BRG_PORT_STATUS_RATE (if up then rate else 0)).set 0 F.BRG_PORT_STATUS_WIDTH (if up then width else 0)

/-- PRIMARY_LINK_DL_ACTIVE (12 R329): the primary port leaves or regains DL_Active; a return in the cycle in which PROMOTE_AFTER_MS
falls keeps the port and is counted. -/
def execPrimaryLinkDlActive (a : At) (up : Bool) (rate width : Nat) (s : State) : Out :=
  onIsland a 17 true s fun s =>
    if a.die ≠ s.primary then s
    else
      let near := match s.brg.downAt with
        | some t => nearMiss a s (t + ms (s.get 0 F.BRG_PORT_CFG_PROMOTE_AFTER_MS)) && s.flag 0 F.BRG_PORT_CFG_AUTO_PROMOTE
        | none => false
      let s := if up && near then s.bump s.primary F.BRG_NEAR_MISS_COUNT else s
      s.primaryLink up rate width

end Sys2Proof.Machine
end

