-- ==== Sys2Proof/Machine/Outlets.lean ====
section
/-! DEFINITION. Outlets (03): routing and writing records, overrun, message signalling, the journal, doorbells, and the
dirty log that covers what is written on a virtual function's behalf (13 R366, R367). -/

namespace Sys2Proof.Machine

/-! Writes to host memory and the dirty log. -/

/-- The pages of LOG_START's range that bytes `addr` to `addr + len − 1` touch. -/
def State.loggedPages (s : State) (f addr len : Nat) : List Nat :=
  let d := homeDie f
  let start := s.pair d Reg.VFN_VF_LOG_START_LO Reg.VFN_VF_LOG_START_HI (slotNo f)
  let n := s.get d F.VFN_VF_LOG_PAGES_PAGES (slotNo f)
  let first := addr / 4096
  ((List.range (if len = 0 then 0 else (addr + len - 1) / 4096 + 1 - first)).map (first + ·)).filterMap fun p =>
    if start / 4096 ≤ p ∧ p < start / 4096 + n then some (p - start / 4096) else none

/-- The dirty log marks a write made on a function's behalf (13 R366). -/
def State.markDirty (s : State) (f addr len : Nat) : State :=
  let d := homeDie f
  let i := slotNo f
  if f = 0 ∨ !s.flag d F.VFN_VF_LOG_CTL_EN i then s
  else
    let ps := s.loggedPages f addr len
    let x := s.slot f
    if ps.isEmpty then
      let s := (s.set d F.VFN_VF_LOG_CTL_OUT_OF_RANGE 1 i).bump d F.VFN_LOG_OUT_RANGE_COUNT 1 i
      if x.outRaised then s
      else (s.putSlot f { x with outRaised := true }).raise d 36 0x908 2 [(1, f), (3, 0), (8, addr)]
    else
      let new := ps.filter fun p => !x.markedPages.contains p
      (s.putSlot f { x with markedPages := x.markedPages ++ new }).bump d F.VFN_VF_LOG_MARKED_MARKED new.length i

/-- A posted write to a function's bus space, covered by the dirty log (03 R80, R81). -/
def State.hostWrite (s : State) (fn addr : Nat) (bytes : List Byte) : State :=
  (s.markDirty fn addr bytes.length).emit (.hostWrite fn addr bytes)

/-! The outlet's state. -/

/-- What an outlet keeps. -/
def State.outlet (s : State) (p : Nat) : Outlet := Table.look s.evt.outlets p {}

def State.putOutlet (s : State) (p : Nat) (o : Outlet) : State :=
  { s with evt := { s.evt with outlets := Table.put s.evt.outlets p o } }

/-- The owner of an outlet (03 R76). -/
def State.outletOwner (s : State) (p : Nat) : Nat := s.get (p / 128) F.EVT_OUT_VEC_OWNER (p % 128)

/-- The size of an outlet's ring (03 R71). -/
def State.ringSize (s : State) (p : Nat) : Nat := 2 ^ s.get (p / 128) F.EVT_OUT_CFG_SIZE_LOG2 (p % 128)

/-- Records outstanding in a ring (03 R74). -/
def State.outstanding (s : State) (p : Nat) : Nat := s.get (p / 128) F.EVT_OUT_STATUS_OUTSTANDING (p % 128)

/-- The write-back of an outlet: P, then the LOST count (03 R75). -/
def State.writeBack (s : State) (p : Nat) : State :=
  let d := p / 128
  let m := p % 128
  if s.flag d F.EVT_OUT_CFG_WB_EN m && s.busMaster (s.outletOwner p) then
    s.hostWrite (s.outletOwner p) (s.pair d Reg.EVT_OUT_WB_LO Reg.EVT_OUT_WB_HI m)
      (leBytes 4 (s.get d F.EVT_OUT_PRODUCER_P m) ++ leBytes 4 (s.get d F.EVT_OUT_LOST_COUNT m))
  else s

/-- A message on a vector of a function: sent, or recorded pending while the host masks the vector (03 R82). -/
def State.message (s : State) (fn vec : Nat) : State :=
  let key := 2048 * fn + vec
  if Table.look s.evt.unmasked key false then s.emit (.msix fn vec)
  else { s with evt := { s.evt with msixPending := Table.put s.evt.msixPending key true } }

/-- The outlet signals: write-back, then one message for everything pending; with Bus Master Enable 0 it stays due (03 R81, R82). -/
def State.signal (s : State) (p : Nat) : State :=
  let o := s.outlet p
  if s.busMaster (s.outletOwner p) then
    ((s.writeBack p).message (s.outletOwner p) (s.get (p / 128) F.EVT_OUT_VEC_VECTOR (p % 128))).putOutlet p
      { o with pending := 0, due := false }
  else s.putOutlet p { o with due := true }

/-- A record of this severity makes the outlet signal at once (03 R82). -/
def State.triggers (s : State) (p sev : Nat) : Bool :=
  let d := p / 128
  let m := p % 128
  let count := s.get d F.EVT_OUT_MOD_COUNT m
  let time := s.get d F.EVT_OUT_MOD_TIME_US m
  (count != 0 && decide (count ≤ (s.outlet p).pending)) ||
  (decide (s.get d F.EVT_OUT_CFG_URGENT_SEV m ≤ sev)) || (count == 0 && time == 0)

/-- The header dword of a record (03 Table 3.1). -/
def eventHeader (e : Event) (phase : Nat) : Nat :=
  e.code * 2 ^ 20 + e.sev * 2 ^ 17 + phase * 2 ^ 16 + e.die * 2 ^ 13 + e.src

/-- A record is written to its ring: SEQ = P in slot P mod N, bytes 4–31 first, then the header dword (03 R72, R73). -/
def State.writeRecord (s : State) (p : Nat) (e : Event) : State :=
  let d := p / 128
  let m := p % 128
  let P := s.get d F.EVT_OUT_PRODUCER_P m
  let n := s.ringSize p
  let at_ := s.pair d Reg.EVT_OUT_BASE_LO Reg.EVT_OUT_BASE_HI m + 32 * (P % n)
  let phase := if P / n % 2 = 0 then 1 else 0
  let s := s.hostWrite (s.outletOwner p) (at_ + 4) (leBytes 4 P ++ leBytes 8 e.ts ++ e.payload)
  let s := s.hostWrite (s.outletOwner p) at_ (leBytes 4 (eventHeader e phase))
  let s := (s.wrap d F.EVT_OUT_PRODUCER_P m).set d F.EVT_OUT_STATUS_OUTSTANDING (s.outstanding p + 1) m
  let o := s.outlet p
  s.putOutlet p { o with pending := o.pending + 1, firstAt := if o.pending = 0 then s.now else o.firstAt }

/-- A record is written and the outlet signals where a trigger is met. -/
def State.writeAndSignal (s : State) (p : Nat) (e : Event) : State :=
  let s := s.writeRecord p e
  if s.triggers p e.sev then s.signal p else s

/-! The journal (03 R86). -/

/-- One numbered copy of a raised event at or above JNL_MIN_SEV, unless the journal is frozen (16 R435). -/
def State.journalCopy (s : State) (e : Event) : State :=
  if e.copy || s.evt.frozen || decide (e.sev < s.get 0 F.EVT_JNL_CFG_JNL_MIN_SEV) then s
  else
    let n := (s.evt.newest + 1) % 2 ^ 32
    let rec_ := leBytes 4 (eventHeader e 0) ++ leBytes 4 n ++ leBytes 8 e.ts ++ e.payload
    { s with evt := { s.evt with newest := n, journal := Table.put s.evt.journal ((n + 4095) % 4096) rec_ } }

/-! A full ring (03 R83, R84). -/

/-- The overrun marker (03 Table 3.5). -/
def State.overrunMarker (s : State) (p : Nat) (o : Outlet) : Event :=
  ⟨0x001, 2, p / 128, p % 128, s.outletOwner p, false, s.ts,
    payload [(2, p), (2, 0), (8, o.firstLostTs), (2, o.firstLostCode)], false, false⟩

/-- A record is lost: counted, and the outlet enters overrun where it was not in it. -/
def State.loseRecord (s : State) (p : Nat) (e : Event) : State :=
  let d := p / 128
  let m := p % 128
  let past := s.flag d F.EVT_OUT_STATUS_OVERRUN m
  let o := s.outlet p
  let o := { o with lostNow := satAdd 0xFFFFFFFF o.lostNow 1, lastLostTs := e.ts,
                    firstLostTs := if past then o.firstLostTs else e.ts,
                    firstLostCode := if past then o.firstLostCode else e.code }
  let s := (s.bump d F.EVT_OUT_LOST_COUNT 1 m).putOutlet p o
  if past then s
  else
    let s := s.set d F.EVT_OUT_STATUS_OVERRUN 1 m
    if s.busMaster (s.outletOwner p) && decide (s.outstanding p < s.ringSize p) then
      let e' := s.overrunMarker p o
      let s := (s.writeRecord p e').journalCopy e'
      let s := if s.triggers p 2 then s.signal p else s.writeBack p
      if s.outletOwner p = 0 then s
      else { s with evt := { s.evt with raised := s.evt.raised ++ [{ e' with owner := 0, copy := true }] } }
    else s

/-- An outlet takes a record, or loses it (03 R78, R83). -/
def State.deliver (s : State) (p : Nat) (e : Event) : State :=
  if e.noRoom || s.flag (p / 128) F.EVT_OUT_STATUS_OVERRUN (p % 128) || !s.busMaster (s.outletOwner p) ||
      decide (s.ringSize p ≤ s.outstanding p + 1) then s.loseRecord p e
  else s.writeAndSignal p e

/-- The outlets that take an event: its owner's, and PF0's for a manager copy (03 R77). -/
def State.routes (s : State) (e : Event) : List Nat :=
  (s.outletFor e.owner e.code e.sev).toList ++
  (if e.mgr then (s.outletFor 0 e.code e.sev).toList else [])

/-- The die whose EVT island takes an event first: the serving die, or the raising die where no outlet matches. -/
def State.servingDie (s : State) (e : Event) : Nat :=
  match s.routes e with
  | p :: _ => p / 128
  | [] => e.die

/-- A raised event is accepted: journal, then its outlets, or counted unrouted on the raising die. -/
def State.acceptEvent (s : State) (e : Event) : State :=
  let ps := s.routes e
  let s := s.journalCopy e
  if ps.isEmpty then s.bump e.die F.EVT_UNROUTED_COUNT
  else ps.foldl (fun s p => s.deliver p e) s

/-- The position of the record that the die's EVT island accepts when it takes its `k`-th waiting one: records of one DIE
and SRC keep their order (03 R79). -/
def State.acceptIndex (s : State) (die k : Nat) : Option Nat :=
  let l := s.evt.raised.zipIdx.filter fun p => s.servingDie p.1 == die
  (l[k]?).bind fun p =>
    (l.find? fun p' => p'.1.die == p.1.die && p'.1.src == p.1.src).map (·.2)

/-- OUTLET_RECORD_ACCEPT (03 R77): the EVT island of the die takes its `k`-th waiting record. -/
def execOutletRecordAccept (a : At) (k : Nat) (s : State) : Out :=
  onIsland a 35 true s fun s =>
    match s.acceptIndex a.die k with
    | none => s
    | some i =>
      match s.evt.raised[i]? with
      | none => s
      | some e => State.acceptEvent { s with evt := { s.evt with raised := s.evt.raised.eraseIdx i } } e

/-- OUTLET_MOD_TIMER (03 R82): TIME_US after the first pending record the outlet signals. -/
def execOutletModTimer (a : At) (m : Nat) (s : State) : Out :=
  onIsland a 35 (m < 128) s fun s =>
    let p := a.die * 128 + m
    let o := s.outlet p
    let t := s.get a.die F.EVT_OUT_MOD_TIME_US m
    if s.flag a.die F.EVT_OUT_STATUS_ENABLED m && t != 0 && o.pending != 0 && !o.due && fallen s (o.firstAt + us t) then
      s.signal p
    else s

/-- A write of EVT_OUTm_DOORBELL (03 R74): records below the value are consumed, or the write is ignored as bad. -/
def State.writeOutletDoorbell (s : State) (d m : Nat) (v : Word) : State :=
  let p := d * 128 + m
  let P := s.get d F.EVT_OUT_PRODUCER_P m
  let left := (P + 2 ^ 32 - v.toNat) % 2 ^ 32
  if left ≤ s.outstanding p then (s.set d F.EVT_OUT_DOORBELL_C v.toNat m).set d F.EVT_OUT_STATUS_OUTSTANDING left m
  else
    (s.set d F.EVT_OUT_STATUS_BAD_DOORBELL 1 m).raise d m 0x003 2
      [(2, p), (1, s.outletOwner p), (1, 0), (4, v.toNat), (4, P)]

/-- OUTLET_DOORBELL (03 R74). -/
def execOutletDoorbell (a : At) (q : Req) (m : Nat) (v : Word) (s : State) : Out :=
  onWrite a q (0x051020 + 0x40 * m) v (m < 128) s fun s => s.writeOutletDoorbell a.die m v

/-- OUTLET_RESUMED (03 R83): with room for the marker and Bus Master Enable the outlet leaves overrun. -/
def execOutletResumed (a : At) (m : Nat) (s : State) : Out :=
  onIsland a 35 (m < 128) s fun s =>
    let p := a.die * 128 + m
    if s.flag a.die F.EVT_OUT_STATUS_ENABLED m && s.flag a.die F.EVT_OUT_STATUS_OVERRUN m && s.busMaster (s.outletOwner p) &&
        decide (s.outstanding p + 2 ≤ s.ringSize p) then
      let o := s.outlet p
      let e : Event := ⟨0x002, 1, a.die, m, s.outletOwner p, false, s.ts,
        payload [(4, o.lostNow), (8, o.lastLostTs)], false, false⟩
      let s := (s.set a.die F.EVT_OUT_STATUS_OVERRUN 0 m).putOutlet p { o with lostNow := 0 }
      (s.journalCopy e).writeAndSignal p e
    else s

/-- The MSI-X table size of a function: 64 for a virtual function (13 R358); PF0's, which the spec does not give, takes
every value of VECTOR (log entry 6). -/
def msixSize (fn : Nat) : Nat := if fn = 0 then 2048 else 64

/-- A function is in reset. -/
def State.fnInReset (s : State) (fn : Nat) : Bool := decide (s.now < Table.look s.vfn.resetUntil fn 0)

/-- The RW fields of EVT_OUTm_CFG that a write sets: SIZE_LOG2 is fixed while the outlet is enabled (03 R85). -/
def State.writeOutletCfg (s : State) (d m : Nat) (v : Word) : State :=
  let s := if s.flag d F.EVT_OUT_STATUS_ENABLED m then s
    else s.set d F.EVT_OUT_CFG_SIZE_LOG2 (wordGet v 28 24) m
  (((s.set d F.EVT_OUT_CFG_WB_EN (wordGet v 30 30) m).set d F.EVT_OUT_CFG_MIN_SEV (wordGet v 23 21) m).set d
    F.EVT_OUT_CFG_URGENT_SEV (wordGet v 20 18) m).set d F.EVT_OUT_CFG_RANGE_MASK (wordGet v 15 0) m

/-- Why an enable is refused, 0 for not (03 R85). -/
def State.outletCfgError (s : State) (d m : Nat) : Nat :=
  let p := d * 128 + m
  let size := s.get d F.EVT_OUT_CFG_SIZE_LOG2 m
  if size < 6 ∨ 16 < size then 1
  else if msixSize (s.outletOwner p) ≤ s.get d F.EVT_OUT_VEC_VECTOR m then 2
  else if s.fnInReset (s.outletOwner p) then 3
  else 0

/-- A write of EVT_OUTm_CFG with ENABLE set (03 R85). -/
def State.enableOutlet (s : State) (d m : Nat) (v : Word) : State :=
  let p := d * 128 + m
  let was := s.flag d F.EVT_OUT_STATUS_ENABLED m
  let s := s.writeOutletCfg d m v
  let err := s.outletCfgError d m
  if was then s
  else if err ≠ 0 then
    (s.set d F.EVT_OUT_STATUS_CFG_ERROR err m).raise d m 0x004 2 [(2, p), (1, s.outletOwner p), (1, err)]
  else
    let s := (s.set d F.EVT_OUT_CFG_ENABLE 1 m).set d F.EVT_OUT_PRODUCER_P 0 m
    let s := (s.set d F.EVT_OUT_DOORBELL_C 0 m).set d F.EVT_OUT_LOST_COUNT 0 m
    let s := s.set d F.EVT_OUT_STATUS_ENABLED 1 m
    let s := (s.set d F.EVT_OUT_STATUS_OVERRUN 0 m).set d F.EVT_OUT_STATUS_CFG_ERROR 0 m
    (s.set d F.EVT_OUT_STATUS_OUTSTANDING 0 m).putOutlet p {}

/-- OUTLET_ENABLE (03 R85). -/
def execOutletEnable (a : At) (q : Req) (m : Nat) (v : Word) (s : State) : Out :=
  onWrite a q (0x051010 + 0x40 * m) v (m < 128 && wordGet v 31 31 == 1) s fun s => s.enableOutlet a.die m v

/-- An outlet out of use (03 R85). -/
def State.disableOutlet (s : State) (d m : Nat) : State :=
  ((s.set d F.EVT_OUT_CFG_ENABLE 0 m).set d F.EVT_OUT_STATUS_ENABLED 0 m).putOutlet (d * 128 + m) {}

/-- OUTLET_DISABLE (03 R85): ENABLE cleared; records still staged find their outlet anew when they are accepted. -/
def execOutletDisable (a : At) (q : Req) (m : Nat) (v : Word) (s : State) : Out :=
  onWrite a q (0x051010 + 0x40 * m) v (m < 128 && wordGet v 31 31 == 0) s fun s => (s.writeOutletCfg a.die m v).disableOutlet a.die m

/-- A function index of the package: PF0 or a virtual function (13 R350). -/
def State.isFunction (s : State) (f : Nat) : Bool := decide (f ≤ 31 * s.part.dies)

/-- Messages that wait on vectors the host has unmasked are sent (03 R82). -/
def State.sendWaiting (s : State) (f : Nat) : State :=
  (s.evt.msixPending.filter fun p => p.1 / 2048 == f && p.2 && Table.look s.evt.unmasked p.1 false).foldl (fun s p =>
    State.emit { s with evt := { s.evt with msixPending := Table.del s.evt.msixPending p.1 } } (.msix f (p.1 % 2048))) s

/-- BUS_MASTER_ENABLE_SET (03 R82): every enabled outlet of the function with records pending signals. -/
def execBusMasterEnableSet (a : At) (f : Nat) (s : State) : Out :=
  onUnit a (s.isFunction f) s fun s =>
    let was := s.busMaster f
    let s : State := { s with evt := { s.evt with bme := Table.put s.evt.bme f true },
                              vfn := { s.vfn with hostEn := Table.put s.vfn.hostEn f true } }
    if was then s
    else
      let s := (List.range (s.part.dies * 128)).foldl (fun s p =>
        if s.flag (p / 128) F.EVT_OUT_STATUS_ENABLED (p % 128) && s.outletOwner p == f && (s.outlet p).pending != 0
        then s.signal p else s) s
      s.sendWaiting f

/-- The host unmasks a vector: a pending message is delivered (03 R82). -/
def State.unmask (s : State) (f vec : Nat) : State :=
  let key := 2048 * f + vec
  let s := { s with evt := { s.evt with unmasked := Table.put s.evt.unmasked key true } }
  if Table.look s.evt.msixPending key false && s.busMaster f then
    State.emit { s with evt := { s.evt with msixPending := Table.del s.evt.msixPending key } } (.msix f vec)
  else s

/-- MSIX_VECTOR_UNMASK (03 R82): a pending message is delivered. -/
def execMsixVectorUnmask (a : At) (f vec : Nat) (s : State) : Out :=
  onUnit a (s.isFunction f && decide (vec < msixSize f)) s fun s => s.unmask f vec

/-- A write of EVT_TEST (03 R87): the written SEV and TAG make an event owned by the writing function. -/
def State.evtTest (s : State) (d : Nat) (q : Req) (v : Word) : State :=
  if 4 < wordGet v 18 16 then s
  else s.raiseFor (reqFn q) false d (reqFn q) 0x00F (wordGet v 18 16) [(2, wordGet v 15 0)]

/-- EVT_TEST (03 R87). -/
def execEvtTest (a : At) (q : Req) (v : Word) (s : State) : Out :=
  onWrite a q 0x050004 v true s fun s => s.evtTest a.die q v

end Sys2Proof.Machine
end

