-- ==== Sys2Proof/Machine/Dma.lean ====
section
/-! DEFINITION. DMA channels (12 R345 to R347). -/

namespace Sys2Proof.Machine

/-- The package index of a channel. -/
def dmaNo (d c : Nat) : Nat := 64 * d + c

/-- A channel's owner function, ring size and strand. -/
def State.dmaOwner (s : State) (d c : Nat) : Nat := s.get d F.BRG_DMA_CFG_OWNER c
def State.dmaSize (s : State) (d c : Nat) : Nat := 2 ^ s.get d F.BRG_DMA_CFG_SIZE_LOG2 c

/-- The package Ledger index of a channel's strand; a virtual function names its own entry number (13 Table 13.1). -/
def State.dmaStrand (s : State) (d c : Nat) : Option Nat :=
  let n := s.get d F.BRG_DMA_CFG_STRAND c
  let f := s.dmaOwner d c
  if f = 0 then some n else (s.slot f).carve.entries[n]?

/-- A channel halts: 1 DESC_ERR, 2 STRAND, 3 READ_ERR, 4 BME, 5 PROMOTE (12 R347). -/
def State.haltDma (s : State) (d c cause : Nat) : State :=
  let s := s.modDie d fun x => { x with dmaJobs := Table.del x.dmaJobs c }
  let s := (s.set d F.BRG_DMA_CFG_HALTED 1 c).set d F.BRG_DMA_STATUS_HALT_CAUSE cause c
  s.raiseOwned (s.dmaOwner d c) d 20 0x808 3 [(2, dmaNo d c), (1, cause), (1, 0), (4, s.get d F.BRG_DMA_CONSUMER_CONSUMER c)]

/-- A channel runs. -/
def State.dmaRuns (s : State) (d c : Nat) : Bool := s.flag d F.BRG_DMA_CFG_ENABLE c && !s.flag d F.BRG_DMA_CFG_HALTED c

/-- A write of BRG_DMAc_CFG (12 R345): ENABLE starts a channel with both counts at 0, or is refused; other fields change only while it
is off. -/
def State.writeDmaCfg (s : State) (d c : Nat) (v : Word) : State :=
  let on := s.flag d F.BRG_DMA_CFG_ENABLE c
  let en := wordGet v 31 31 == 1
  if on then
    if en then s
    else (s.set d F.BRG_DMA_CFG_ENABLE 0 c).modDie d fun x => { x with dmaJobs := Table.del x.dmaJobs c }
  else
    let s := ((s.set d F.BRG_DMA_CFG_DIR (wordGet v 30 30) c).set d F.BRG_DMA_CFG_SIZE_LOG2 (wordGet v 28 24) c).set d
      F.BRG_DMA_CFG_STRAND (wordGet v 15 0) c
    if !en then s
    else if wordGet v 28 24 < 6 ∨ 16 < wordGet v 28 24 then s
    else if (s.dmaStrand d c).isNone then s.set d F.BRG_DMA_STATUS_HALT_CAUSE 2 c
    else
      (((((s.set d F.BRG_DMA_CFG_ENABLE 1 c).set d F.BRG_DMA_CFG_HALTED 0 c).set d F.BRG_DMA_STATUS_HALT_CAUSE 0 c).setWord d
        Reg.BRG_DMA_DOORBELL 0 c).setWord d Reg.BRG_DMA_CONSUMER 0 c)

/-- DMA_ENABLE (12 R345): a write of BRG_DMAc_CFG with ENABLE set. -/
def execDmaEnable (a : At) (q : Req) (c : Nat) (v : Word) (s : State) : Out :=
  onWrite a q (0x220000 + 0x40 * c) v (c < 64 && wordGet v 31 31 == 1) s fun s => s.writeDmaCfg a.die c v

/-- DMA_DISABLE (12 R347): a write of BRG_DMAc_CFG with ENABLE clear. -/
def execDmaDisable (a : At) (q : Req) (c : Nat) (v : Word) (s : State) : Out :=
  onWrite a q (0x220000 + 0x40 * c) v (c < 64 && wordGet v 31 31 == 0) s fun s => s.writeDmaCfg a.die c v

/-- A write of a ring base; ignored while the channel is enabled. -/
def State.writeDmaRing (s : State) (d c : Nat) (hi : Bool) (v : Word) : State :=
  if s.flag d F.BRG_DMA_CFG_ENABLE c then s
  else if hi then s.setWord d Reg.BRG_DMA_RING_HI v c else s.set d F.BRG_DMA_RING_LO_BASE (wordGet v 31 12) c

/-- A producer count; one more than N ahead of CONSUMER is ignored (12 R345). -/
def State.writeDoorbell (s : State) (d c : Nat) (v : Word) : State :=
  if s.dmaSize d c < (v.toNat + 2 ^ 32 - s.get d F.BRG_DMA_CONSUMER_CONSUMER c) % 2 ^ 32 then s
  else s.setWord d Reg.BRG_DMA_DOORBELL v c

/-- DMA_DOORBELL (12 R345). -/
def execDmaDoorbell (a : At) (q : Req) (c : Nat) (v : Word) (s : State) : Out :=
  onWrite a q (0x220010 + 0x40 * c) v (c < 64) s fun s => s.writeDoorbell a.die c v

/-- A descriptor is posted and not consumed. -/
def State.dmaPosted (s : State) (d c : Nat) : Bool := s.word d Reg.BRG_DMA_DOORBELL c != s.word d Reg.BRG_DMA_CONSUMER c

/-- The bus address of the next descriptor. -/
def State.dmaDesc (s : State) (d c : Nat) : Nat :=
  s.pair d Reg.BRG_DMA_RING_LO Reg.BRG_DMA_RING_HI c + 32 * (s.get d F.BRG_DMA_CONSUMER_CONSUMER c % s.dmaSize d c)

/-- A descriptor is completed, and DMA_DONE raised where it is due: 0 OK, 1 TRUNCATED, 2 CUT (12 R346). -/
def State.dmaDone (s : State) (d c status len tag : Nat) (tell : Bool) : State :=
  let s := s.wrap d F.BRG_DMA_CONSUMER_CONSUMER c
  if tell then
    s.raiseOwned (s.dmaOwner d c) d 20 0x807 0 [(2, dmaNo d c), (1, status), (1, 0), (4, s.get d F.BRG_DMA_CONSUMER_CONSUMER c),
      (4, len % 2 ^ 24), (4, tag)]
  else s

/-- What stops a channel before its descriptor is used: its owner's Bus Master Enable, its strand, the descriptor (12 R347). -/
def State.dmaFault (s : State) (d c : Nat) (desc : List Byte) (readOk : Bool) : Option Nat :=
  if !s.busMaster (s.dmaOwner d c) then some 4
  else
    match (s.dmaStrand d c).bind s.entry? with
    | none => some 2
    | some e =>
      if e.st ≠ 2 ∨ e.kind ≠ 7 then some 2
      else if !readOk ∨ desc.length ≠ 32 then some 3
      else if numAt desc 8 3 = 0 then some 1 else none

/-- Segments of a TX frame go out while the strand takes them. -/
def State.dmaPump (d c idx : Nat) : Nat → State → State
  | 0, s => s
  | fuel + 1, s =>
    match Table.find? (s.die d).dmaJobs c with
    | none => s
    | some j =>
      match j.segs with
      | [] => (s.modDie d fun x => { x with dmaJobs := Table.del x.dmaJobs c }).dmaDone d c 0 j.len j.tag j.int
      | (sop, eop, b) :: rest =>
        let r := s.offerSeg idx sop eop b
        if r.2 then State.dmaPump d c idx fuel (r.1.modDie d fun x => { x with dmaJobs := Table.put x.dmaJobs c { j with segs := rest } })
        else s

/-- DMA_TX_DESCRIPTOR (12 R346): the next descriptor and its buffer are read from the host and sent as one RAW frame; a frame that its
strand has made wait goes on. -/
def execDmaTxDescriptor (a : At) (c : Nat) (desc bytes : List Byte) (readOk : Bool) (s : State) : Out :=
  onIsland a 20 (c < 64) s fun s =>
    let d := a.die
    if !s.dmaRuns d c || s.flag d F.BRG_DMA_CFG_DIR c then s
    else if (Table.find? (s.die d).dmaJobs c).isSome then
      match s.dmaStrand d c with
      | some idx => if s.busMaster (s.dmaOwner d c) then State.dmaPump d c idx 10000 s else s.haltDma d c 4
      | none => s.haltDma d c 2
    else if !s.dmaPosted d c || decide (3 ≤ s.pwrStep) then s
    else
      match s.dmaFault d c desc readOk, s.dmaStrand d c with
      | some cause, _ => s.haltDma d c cause
      | none, none => s.haltDma d c 2
      | none, some idx =>
        let len := numAt desc 8 3
        let s := (s.emit (.hostRead (s.dmaOwner d c) (s.dmaDesc d c) 32)).emit (.hostRead (s.dmaOwner d c) (numAt desc 0 8) len)
        let j : DmaJob := ⟨s.dptSegs idx (bytes.take len), bit (byteAt desc 11) 0, len, numAt desc 12 4⟩
        State.dmaPump d c idx 10000 (s.modDie d fun x => { x with dmaJobs := Table.put x.dmaJobs c j })

/-- DMA_RX_FRAME (12 R346): a RAW frame of the channel's strand, whole or cut short, meets the next descriptor. -/
def execDmaRxFrame (a : At) (c : Nat) (desc frame : List Byte) (cut readOk : Bool) (s : State) : Out :=
  onIsland a 20 (c < 64) s fun s =>
    let d := a.die
    if !s.dmaRuns d c || !s.flag d F.BRG_DMA_CFG_DIR c || !s.dmaPosted d c || decide (3 ≤ s.pwrStep) then s
    else
      match s.dmaFault d c desc readOk with
      | some cause => s.haltDma d c cause
      | none =>
        let len := numAt desc 8 3
        let body := frame.take len
        let s := s.emit (.hostRead (s.dmaOwner d c) (s.dmaDesc d c) 32)
        let s := if body.isEmpty then s else s.hostWrite (s.dmaOwner d c) (numAt desc 0 8) body
        let status := if cut then 2 else if len < frame.length then 1 else 0
        s.dmaDone d c status (if cut then body.length else frame.length) (numAt desc 12 4) (status != 0 || bit (byteAt desc 11) 0)

/-- BUS_MASTER_ENABLE_CLEAR (12 R347; 03 R82): the function's enabled channels halt with cause BME, and its outlets stop sending. -/
def execBusMasterEnableClear (a : At) (f : Nat) (s : State) : Out :=
  onUnit a (s.isFunction f) s fun s =>
    let s : State := { s with evt := { s.evt with bme := Table.put s.evt.bme f false } }
    (List.range (64 * s.part.dies)).foldl (fun s n =>
      if s.dmaRuns (n / 64) (n % 64) && s.dmaOwner (n / 64) (n % 64) == f then s.haltDma (n / 64) (n % 64) 4 else s) s

end Sys2Proof.Machine
end

