-- ==== Sys2Proof/Machine/Ring.lean ====
section
/-! DEFINITION. The Shoreline ring (09): sides, enumeration, Spillways, Ripples, barriers and scheduled operations. -/

namespace Sys2Proof.Machine

/-- One byte of the CRC-32C (Castagnoli, reflected), as IEEE and iSCSI publish it. -/
def crc32cByte (crc : Nat) (b : Byte) : Nat :=
  (List.range 8).foldl (fun c _ => if c % 2 = 1 then (c / 2) ^^^ 0x82F63B78 else c / 2) (crc ^^^ b.toNat)

/-- The CRC-32C of bytes, as four bytes. -/
def crc32c (l : List Byte) : List Byte := leBytes 4 (l.foldl crc32cByte 0xFFFFFFFF ^^^ 0xFFFFFFFF)

/-! Ports. -/

def State.port (s : State) (p : Nat) : Port := if p = 0 then s.shl.a else s.shl.b
def State.modPort (s : State) (p : Nat) (f : Port → Port) : State :=
  { s with shl := if p = 0 then { s.shl with a := f s.shl.a } else { s.shl with b := f s.shl.b } }

/-- The hub is a gateway: a root-ring hub with GATEWAY_EN (09 R245, R247). -/
def State.gateway (s : State) : Bool := s.flag 0 F.SHL_CFG_GATEWAY_EN && s.hubAddr % 64 == 0

/-- The hub has disabled itself on the ring (09 R250). -/
def State.conflict (s : State) : Bool := s.flag 0 F.SHL_ID_CONFLICT

/-- The hub is the origin of a port's ring (09 R249). -/
def State.isOrigin (s : State) (p : Nat) : Bool :=
  if p = 1 then s.gateway else s.hubAddr == 0 || (s.hubAddr % 64 == 0 && s.shl.origin)

/-- N, position and CHAIN of a port's ring. -/
def State.ringN (s : State) (p : Nat) : Nat := s.get 0 (if p = 0 then F.SHL_RING_SIZE_A else F.SHL_RING_SIZE_B)
def State.ringPos (s : State) (p : Nat) : Nat := s.get 0 (if p = 0 then F.SHL_RING_POS_A else F.SHL_RING_POS_B)
def State.ringChain (s : State) (p : Nat) : Bool := s.flag 0 (if p = 0 then F.SHL_RING_CHAIN_A else F.SHL_RING_CHAIN_B)

/-- A port that is in use: B only on a gateway. -/
def State.portOn (s : State) (p : Nat) : Bool := p == 0 || s.flag 0 F.SHL_CFG_GATEWAY_EN

/-- How far the down side of a ring reaches: half the ring, or on a chain to the hub before the one whose IN segment is gone. -/
def State.downReach (s : State) (p : Nat) : Nat :=
  let n := s.ringN p
  if !s.ringChain p then n / 2
  else
    let l := (s.port p).entries
    if ((l.head?.map (·.2.2)).getD 0) = 0 then n - 1
    else (((l.zipIdx.drop 1).find? fun x => x.1.2.2 == 0).map fun x => x.2 - 1).getD (n - 1)

/-- TTLs downstream and upstream of a Ripple that starts here (09 R267). -/
def State.ttls (s : State) (p : Nat) : Nat × Nat :=
  let n := s.ringN p
  let m := s.downReach p
  let pos := s.ringPos p
  if !s.ringChain p then (n / 2, n - 1 - n / 2)
  else if pos ≤ m then (m - pos, pos + (n - 1 - m)) else (n - pos + m, pos - 1 - m)

/-! Enumeration (09 R249, R250). -/

/-- Our own entry, and the bytes of an entry (09 Table 9.2). -/
def State.ownEntry (s : State) (p : Nat) : Nat × Bool × Nat :=
  (s.hubAddr, s.flag 0 F.SHL_CFG_BARRIER_PART, s.get p F.SHL_PORT_STATUS_IN_DELAY)
def entryBytes (e : Nat × Bool × Nat) : List Byte := leBytes 2 (e.1 % 4096 + 4096 * b2n e.2.1) ++ leBytes 2 e.2.2

/-- A Ripple's 16 bytes (09 Table 9.5). -/
def rippleBytes (op : Nat) (basin failed : Bool) (ttl origin opId : Nat) (arg : List Byte) : List Byte :=
  let b := leBytes 1 (16 * op + b2n basin + 2 * b2n failed) ++ leBytes 1 ttl ++ leBytes 2 origin ++ leBytes 2 opId ++
    (arg ++ List.replicate 8 0).take 8
  b ++ leBytes 2 (crc16 b)

/-- A history record (09 Table 9.2): the Ripple of a scheduled operation with TTL 0. -/
def SchedOp.record (x : SchedOp) : List Byte := rippleBytes x.op x.basin false 0 x.origin x.opId (leBytes 8 x.t)

/-- An ENUM frame (09 Table 9.2). -/
def enumFrame (flags basinId origin seq : Nat) (entries : List (Nat × Bool × Nat)) (hist : List SchedOp) : List Byte :=
  let b := [0x04] ++ leBytes 1 flags ++ leBytes 2 basinId ++ leBytes 2 origin ++ leBytes 2 seq ++
    leBytes 1 entries.length ++ leBytes 1 hist.length ++ leBytes 6 0 ++ entries.flatMap entryBytes ++ hist.flatMap SchedOp.record
  b ++ crc32c b

/-- The entries of an ENUM frame. -/
def enumEntries (b : List Byte) : List (Nat × Bool × Nat) :=
  (List.range (byteAt b 8)).map fun i =>
    let w := numAt b (16 + 4 * i) 2
    (w % 4096, bit w 12, numAt b (18 + 4 * i) 2)

/-- An ENUM frame passes its checks. -/
def enumOk (b : List Byte) : Bool :=
  let len := 16 + 4 * byteAt b 8 + 16 * byteAt b 9 + 4
  byteAt b 0 == 4 && b.length == len && decide (1 ≤ byteAt b 8 ∧ byteAt b 8 ≤ 64 ∧ byteAt b 9 ≤ 8) &&
  b.drop (len - 4) == crc32c (b.take (len - 4))

/-- The history records of an ENUM frame. -/
def enumHistory (b : List Byte) : List SchedOp :=
  (List.range (byteAt b 9)).map fun i =>
    let o := 16 + 4 * byteAt b 8 + 16 * i
    ⟨byteAt b o / 16, bit (byteAt b o) 0, numAt b (o + 2) 2 % 4096, numAt b (o + 4) 2, numAt b (o + 6) 8⟩

/-- A request for an enumeration goes both ways, or our own falls due (09 R249). -/
def State.wantEnum (s : State) (p : Nat) : State :=
  if s.isOrigin p then s.modPort p fun x => { x with due := s.now }
  else
    let b := enumFrame 8 (s.get 0 F.SHL_ID_BASIN_ID) s.hubAddr 0 [s.ownEntry p] []
    (s.shlSend p 1 b).shlSend p 0 b

/-- A side changes state (09 R248, R249). -/
def State.sideChange (s : State) (p side : Nat) (up : Bool) : State :=
  if s.sideUp p side = up then s
  else
    let s := s.set p (if side = 0 then F.SHL_PORT_STATUS_IN_UP else F.SHL_PORT_STATUS_OUT_UP) (b2n up)
    let s := s.raise 0 33 0x609 1 [(1, p), (1, side), (1, b2n up)]
    let s := if up then s.modLink (shlLink p side) fun _ => { due := s.now } else s.linkLost (shlLink p side)
    s.wantEnum p

/-- SHL_SIDE_UP, SHL_SIDE_DOWN (09 R248). -/
def execShlSideUp (a : At) (port side : Nat) (s : State) : Out :=
  onPort a port (side < 2) s fun s => if s.portOn port then s.sideChange port side true else s
def execShlSideDown (a : At) (port side : Nat) (s : State) : Out :=
  onPort a port (side < 2) s fun s => if s.portOn port then s.sideChange port side false else s

/-! Barriers (09 R269), before enumeration, which ends them. -/

/-- A Ripple goes both ways round a port's ring (09 R267). -/
def State.rippleRing (s : State) (p op : Nat) (basin failed : Bool) (origin opId : Nat) (arg : List Byte) : State :=
  let t := s.ttls p
  let s := if t.1 = 0 then s else s.shlSend p 1 (rippleBytes op basin failed t.1 origin opId arg)
  if t.2 = 0 then s else s.shlSend p 0 (rippleBytes op basin failed t.2 origin opId arg)

/-- A Ripple is originated: on the ring of port A, and for the Basin on a gateway's leaf ring too. -/
def State.ripple (s : State) (op : Nat) (basin failed : Bool) (opId : Nat) (arg : List Byte) : State :=
  let s := { s with shl := { s.shl with seen := s.shl.seen ++ [(s.hubAddr, op, opId, s.now)] } }
  let s := s.rippleRing 0 op basin failed s.hubAddr opId arg
  if basin && s.gateway then s.rippleRing 1 op basin failed s.hubAddr opId arg else s

/-- The end of a barrier as every hub reports it (09 Table 9.14). -/
def State.barrierEvent (s : State) (opId arrived reason : Nat) (failed : Bool) : State :=
  if failed then s.raise 0 33 0x60E 2 [(2, opId), (2, arrived), (1, reason)]
  else s.raise 0 33 0x60D 1 [(2, opId), (2, arrived), (8, s.ts)]

/-- The root hub releases a barrier (09 R269). -/
def State.release (s : State) (opId arrived reason : Nat) : State :=
  let failed := reason != 0
  (s.ripple 4 true failed opId (leBytes 2 arrived ++ leBytes 1 reason)).barrierEvent opId arrived reason failed

/-- The hub takes part in barriers. -/
def State.takesPart (s : State) : Bool := s.flag 0 F.SHL_CFG_BARRIER_PART && !s.conflict

/-- The arcs of a port's ring that have hubs on them: downstream and upstream. -/
def State.arcs (s : State) (p : Nat) : List Nat :=
  let n := s.ringN p
  let m := s.downReach p
  (if 1 ≤ m ∧ 2 ≤ n then [2 * p] else []) ++ (if m + 1 < n then [2 * p + 1] else [])

/-- The participants counted on a gateway's leaf ring, once both arcs have reported. -/
def State.leafCount (s : State) (b : Barrier) : Option Nat :=
  if !s.gateway ∨ s.ringN 1 = 0 then some 0
  else if (s.arcs 1).all fun x => (Table.find? b.tokens x).isSome then
    some ((s.arcs 1).foldl (fun n x => n + Table.look b.tokens x 0) 0)
  else none

/-- The hub's barrier moves on: the root hub completes, another hub passes its token on (09 R269). -/
def State.barrierStep (s : State) (near : Bool) : State :=
  match s.shl.barrier with
  | none => s
  | some b =>
    let here := b.arrived || !s.takesPart
    let own := b2n s.takesPart
    match s.leafCount b with
    | none => s
    | some leaf =>
      if !here then s
      else if s.isOrigin 0 then
        if (s.arcs 0).all fun x => (Table.find? b.tokens x).isSome then
          let n := (s.arcs 0).foldl (fun n x => n + Table.look b.tokens x 0) (own + leaf)
          let s := if near then s.bump 0 F.SHL_NEAR_MISS_COUNT else s
          { s with shl := { s.shl with barrier := none } }.release b.opId n 0
        else s
      else if b.sent then s
      else
        let pos := s.ringPos 0
        let m := s.downReach 0
        let n := s.ringN 0
        let down := decide (pos ≤ m)
        let last := if down then pos == m else pos == m + 1
        let arc := if down then 0 else 1
        match Table.find? b.tokens arc with
        | none =>
          if last ∧ n ≠ 0 then
            ({ s with shl := { s.shl with barrier := some { b with sent := true } } }).shlSend 0 (if down then 0 else 1)
              (rippleBytes 3 false false 1 s.hubAddr b.opId (leBytes 2 (own + leaf)))
          else s
        | some k =>
          ({ s with shl := { s.shl with barrier := some { b with sent := true } } }).shlSend 0 (if down then 0 else 1)
            (rippleBytes 3 false false 1 s.hubAddr b.opId (leBytes 2 (k + own + leaf)))

/-- A barrier opens at this hub (09 R269). -/
def State.openBarrier (s : State) (opId deadline : Nat) : State :=
  match s.shl.barrier with
  | some b => if b.opId = opId then s else if s.isOrigin 0 then s.release opId 0 2 else s
  | none =>
    let early := s.shl.held.any fun h => h.1 == opId && decide (s.now < h.2)
    let held := s.shl.held.filter fun h => h.1 != opId
    ({ s with shl := { s.shl with barrier := some { opId := opId, deadline := deadline, arrived := early }, held := held } }).barrierStep false

/-- An enumeration during a barrier releases it (09 R269). -/
def State.enumEndsBarrier (s : State) (p : Nat) : State :=
  match s.shl.barrier with
  | some b => if p = 0 ∧ s.isOrigin 0 then { s with shl := { s.shl with barrier := none } }.release b.opId 0 3 else s
  | none => s

/-- BARRIER_DEADLINE (09 R269): the root hub releases at D without completion. -/
def execBarrierDeadline (a : At) (s : State) : Out :=
  onPort a 0 true s fun s =>
    match s.shl.barrier with
    | some b =>
      if s.isOrigin 0 ∧ fallen s b.deadline = true then
        { s with shl := { s.shl with barrier := none } }.release b.opId 0 1
      else s
    | none => s

/-- ARRIVE_HOLD_EXPIRE (09 R269): an ARRIVE held for 1 s is dropped. -/
def execArriveHoldExpire (a : At) (opId : Nat) (s : State) : Out :=
  onPort a 0 true s fun s =>
    { s with shl := { s.shl with held := s.shl.held.filter fun h => !(h.1 == opId && fallen s h.2) } }

/-! Enumeration, continued. -/

/-- ENUM_START (09 R249): the origin's enumeration begins downstream. -/
def execEnumStart (a : At) (port : Nat) (s : State) : Out :=
  onPort a port true s fun s =>
    if s.portOn port && s.isOrigin port && !s.conflict && fallen s (s.port port).due then
      let s := s.enumEndsBarrier port
      let n := ((s.port port).seq + 1) % 65536
      let s := s.modPort port fun x => { x with
        seq := n, due := s.now + ms 100, wait := some (s.now + ms 1), chained := false, down := [] }
      s.shlSend port 1 (enumFrame 0 (s.get 0 F.SHL_ID_BASIN_ID) s.hubAddr n [s.ownEntry port] [])
    else s

/-- A hub learns a complete enumeration (09 R249): size, position, delays, Basin ID and CHAIN. -/
def State.learnRing (s : State) (p : Nat) (list : List (Nat × Bool × Nat)) (chain : Bool) (basinId origin seq : Nat) : State :=
  let pos := ((list.zipIdx.find? fun x => x.1.1 == s.hubAddr).map (·.2)).getD 0
  let s := s.modPort p fun x => { x with entries := list, doneSeq := some seq }
  let f := fun (x y : Fld) => if p = 0 then x else y
  let s := ((s.set 0 (f F.SHL_RING_SIZE_A F.SHL_RING_SIZE_B) list.length).set 0 (f F.SHL_RING_POS_A F.SHL_RING_POS_B) pos).set 0
    (f F.SHL_RING_CHAIN_A F.SHL_RING_CHAIN_B) (b2n chain)
  let s := if s.hubAddr ≠ 0 ∧ p = 0 then s.set 0 F.SHL_ID_BASIN_ID basinId else s
  s.raise 0 33 0x60A 0 [(1, p), (1, list.length), (1, pos), (1, b2n chain), (2, origin)]

/-- The origin ends an enumeration: DONE goes both ways with the list and the history. -/
def State.enumDone (s : State) (p : Nat) (list : List (Nat × Bool × Nat)) (chain : Bool) : State :=
  let n := (s.port p).seq
  let b := enumFrame (1 + 2 * b2n chain) (s.get 0 F.SHL_ID_BASIN_ID) s.hubAddr n list s.shl.history
  let s := (s.modPort p fun x => { x with wait := none }).learnRing p list chain (s.get 0 F.SHL_ID_BASIN_ID) s.hubAddr n
  (s.shlSend p 1 b).shlSend p 0 b

/-- ENUM_RETURN_TIMEOUT (09 R249): the ring is a chain; the origin repeats upstream, or ends where it has no upstream side. -/
def execEnumReturnTimeout (a : At) (port : Nat) (s : State) : Out :=
  onPort a port true s fun s =>
    match (s.port port).wait with
    | some t =>
      if fallen s t then
        let s := s.modPort port fun x => { x with wait := none, chained := true }
        if s.sideUp port 0 then
          s.shlSend port 0 (enumFrame 4 (s.get 0 F.SHL_ID_BASIN_ID) s.hubAddr (s.port port).seq [s.ownEntry port] [])
        else s.enumDone port (s.ownEntry port :: (s.port port).down) true
      else s
    | none => s

/-- ORIGIN_TAKEOVER (09 R249): 300 ms without an ENUM from a lower address. -/
def execOriginTakeover (a : At) (s : State) : Out :=
  onPort a 0 true s fun s =>
    if s.hubAddr % 64 = 0 ∧ !s.isOrigin 0 ∧ !s.conflict ∧ fallen s (s.shl.lowAt + ms 300) = true then
      { s with shl := { s.shl with origin := true, a := { s.shl.a with due := s.now } } }
    else s

/-- The hub disables itself: 1 a duplicate address, 2 an address that breaks R246 (09 R250). -/
def State.findConflict (s : State) (p why : Nat) : State :=
  if s.conflict then s
  else (s.set 0 F.SHL_ID_CONFLICT 1).raise 0 33 0x60B 3 [(2, s.hubAddr), (1, p), (1, why)]

/-- The hub's address fits the ring that an ENUM's origin and entries show (09 R246). -/
def State.addrFits (s : State) (p origin : Nat) (entries : List (Nat × Bool × Nat)) : Bool :=
  let own := s.hubAddr
  let leafRing := entries.any fun e => e.1 % 64 != 0
  if p = 1 then true
  else if own % 64 = 0 then !leafRing && origin % 64 == 0
  else origin / 64 == own / 64 && origin % 64 == 0

/-- A hub takes in the history of a DONE (09 R268): what is still ahead is scheduled, what has passed is reported. -/
def State.takeHistory (s : State) (l : List SchedOp) : State :=
  l.foldl (fun s x =>
    if s.shl.history.any fun h => h == x then s
    else
      let s : State := { s with shl := { s.shl with history := ((s.shl.history ++ [x]).drop (s.shl.history.length - 7)) } }
      if x.t < s.ts then s.missedOp x 2
      else if 4 ≤ s.shl.ops.length then s.missedOp x 3
      else { s with shl := { s.shl with ops := s.shl.ops ++ [x] } }) s

/-- ENUM_FRAME_RECEIVE (09 R249, R250): on a side of a port. -/
def execEnumFrameReceive (a : At) (port side : Nat) (b : List Byte) (s : State) : Out :=
  onPort a port (side < 2) s fun s =>
    if !(s.portOn port && s.sideUp port side && s.onRing port) then s
    else if !enumOk b then s.bump port F.SHL_FRAME_ERR_COUNT
    else
      let fl := byteAt b 1
      let origin := numAt b 4 2 % 4096
      let seq := numAt b 6 2
      let entries := enumEntries b
      let onward := 1 - side
      let mine := origin == s.hubAddr && s.isOrigin port
      let s : State := if port = 0 ∧ origin < s.hubAddr then
          { s with shl := { s.shl with lowAt := s.now, origin := false } } else s
      if bit fl 3 then (if s.isOrigin port then s.modPort port fun x => { x with due := s.now } else s.shlSend port onward b)
      else if bit fl 0 then
        if mine then s
        else
          let s := if (s.port port).doneSeq = some seq then s
            else (s.learnRing port entries (bit fl 1) (numAt b 2 2) origin seq).takeHistory (enumHistory b)
          s.shlSend port onward b
      else if mine then
        if seq ≠ (s.port port).seq then s
        else if bit fl 1 then
          if bit fl 2 then
            s.enumDone port (s.ownEntry port :: (s.port port).down ++ (entries.drop 1).reverse) true
          else s.modPort port fun x => { x with down := entries.drop 1 }
        else if side = 0 then
          (match (s.port port).wait with
           | some t =>
             if inTime a s t then
               (if nearMiss a s t then s.bump 0 F.SHL_NEAR_MISS_COUNT else s).enumDone port entries false
             else s
           | none => s)
        else s
      else if bit fl 1 then s.shlSend port onward b
      else
        let s := if entries.any fun e => e.1 == s.hubAddr then s.findConflict port 1
          else if !s.addrFits port origin entries then s.findConflict port 2 else s
        let entries := if s.conflict ∨ 64 ≤ entries.length then entries else entries ++ [s.ownEntry port]
        let s := s.modPort port fun x => { x with arcUp := bit fl 2 }
        if s.sideUp port onward then s.shlSend port onward (enumFrame fl (numAt b 2 2) origin seq entries [])
        else s.shlSend port side (enumFrame (fl ||| 2) (numAt b 2 2) origin seq entries [])

/-! Spillways (09 R252, R254). -/

/-- A Spillway closes, with its cause as R252 lists them: 1 supply, 2 COLD or WARM, 3 DIE reset, 4 recovery, 5 power state,
6 SPILL_FORCE. -/
def State.spillClose (s : State) (p cause : Nat) : State :=
  if (s.port p).open_ then
    ((s.modPort p fun x => { x with open_ := false, due := s.now }).emit (.spillCtl p false)).raise 0 33 0x615 1
      [(1, 0), (1, p), (1, 1), (1, cause)]
  else s

/-- The Ethernet Spillway closes. -/
def State.ethSpillClose (s : State) (cause : Nat) : State :=
  if s.shl.ethOpen then
    { s with shl := { s.shl with ethOpen := false } }.raise 0 33 0x615 1 [(1, 1), (1, 0), (1, 1), (1, cause)]
  else s

/-- SPILLWAY_OPEN (09 R252): an inter-frame gap is found while every condition holds; kind 0 Shoreline, 1 Ethernet. -/
def execSpillwayOpen (a : At) (kind port : Nat) (s : State) : Out :=
  onUnit a (kind < 2 && port < 2) s fun s =>
    if s.pkg.recovery || s.pwrStep != 0 then s
    else if kind = 1 then
      if s.runs 0 21 && s.runs 0 22 && s.runs 0 33 && !s.shl.ethOpen then
        { s with shl := { s.shl with ethOpen := true } }.raise 0 33 0x615 1 [(1, 1), (1, 0), (1, 0), (1, 0)]
      else s
    else if s.runs port 33 && s.portOn port && !s.flag port F.SHL_PORT_STATUS_SPILL_FORCE && !(s.port port).open_ then
      let s := (s.modPort port fun x => { x with open_ := true }).emit (.spillCtl port true)
      (s.raise 0 33 0x615 1 [(1, 0), (1, port), (1, 0), (1, 0)]).wantEnum port
    else s

/-- A write of SHL_PORT_STATUS (09 R252). -/
def State.writePortStatus (s : State) (d : Nat) (v : Word) : State :=
  let t := s.set d F.SHL_PORT_STATUS_SPILL_FORCE (wordGet v 29 29)
  if 2 ≤ d then s else if wordGet v 29 29 = 1 then t.spillClose d 6 else t

/-- SPILL_FORCE (09 R252). -/
def execSpillForce (a : At) (q : Req) (v : Word) (s : State) : Out :=
  onWrite a q 0x1B0000 v true s fun s => s.writePortStatus a.die v

/-! Ripples received (09 R267 to R270). -/

/-- A hub sees a scheduled operation (09 R268): scheduled, refused as late, or dropped where four are pending; one that comes at its very
time is in time, and a near miss (01 R31). -/
def State.takeOp (s : State) (x : SchedOp) : State :=
  if s.shl.history.any (· == x) then s
  else
    let s : State := { s with shl := { s.shl with history := ((s.shl.history ++ [x]).drop (s.shl.history.length - 7)) } }
    let s := if x.t = s.ts then s.bump 0 F.SHL_NEAR_MISS_COUNT else s
    if x.t < s.ts then s.missedOp x 1
    else if 4 ≤ s.shl.ops.length then s.missedOp x 3
    else { s with shl := { s.shl with ops := s.shl.ops ++ [x] } }

/-- What a hub does with a Ripple, on a ring's port and side. -/
def State.actOn (s : State) (a : At) (port side op : Nat) (basin failed : Bool) (origin opId : Nat) (arg : List Byte) : State :=
  match op with
  | 1 => s.raise 0 33 0x60C 0 [(2, origin), (2, opId), (8, leNat arg)]
  | 2 => if s.conflict then s else s.openBarrier opId (tsPs (leNat arg))
  | 3 =>
    match s.shl.barrier with
    | none => s.bump 0 F.SHL_LATE_COUNT
    | some b =>
      if b.opId ≠ opId then s.bump 0 F.SHL_LATE_COUNT
      else if s.isOrigin 0 ∧ !inTime a s b.deadline then s.bump 0 F.SHL_LATE_COUNT
      else
        let arc := 2 * port + (if side = 1 then 0 else 1)
        let b := { b with tokens := Table.put b.tokens arc (leNat (arg.take 2)) }
        ({ s with shl := { s.shl with barrier := some b } }).barrierStep (s.isOrigin 0 && nearMiss a s b.deadline)
  | 4 =>
    let reason := (arg.getD 2 0).toNat
    let s : State := match s.shl.barrier with
      | some b => if b.opId = opId then { s with shl := { s.shl with barrier := none } } else s
      | none => s
    s.barrierEvent opId (leNat (arg.take 2)) reason failed
  | _ => s.takeOp ⟨op, basin, origin, opId, leNat arg⟩

/-- RIPPLE_RECEIVE (09 R248, R266, R267): acted on, forwarded with its TTL less 1, and relayed by a gateway. -/
def execRippleReceive (a : At) (port side : Nat) (b : List Byte) (s : State) : Out :=
  onPort a port (side < 2) s fun s =>
    let op := byteAt b 0 / 16
    let basin := bit (byteAt b 0) 0
    let failed := bit (byteAt b 0) 1
    let ttl := byteAt b 1
    let origin := numAt b 2 2 % 4096
    let opId := numAt b 4 2
    let arg := (b.drop 6).take 8
    if !(s.portOn port && s.sideUp port side && s.onRing port) then s
    else if b.length ≠ 16 ∨ numAt b 14 2 ≠ crc16 (b.take 14) then
      let s := s.bump port F.SHL_FRAME_ERR_COUNT
      if 1 < ttl ∧ s.sideUp port (1 - side) then s.emit (.shoreline port (1 - side) b true) else s
    else if op = 0 ∨ 7 ≤ op then
      (s.bump 0 F.SHL_RIPPLE_ERR_COUNT).raiseLimited 0 0x614 port (ms 1000) fun _ s => s.raise 0 33 0x614 2 [(1, port), (1, op)]
    else
      let s := if 1 < ttl ∧ op ≠ 3 then
          s.shlSend port (1 - side) (rippleBytes op basin failed (ttl - 1) origin opId arg) else s
      let known := s.shl.seen.any fun (x : Nat × Nat × Nat × Nat) => x.1 == origin && x.2.1 == op && x.2.2.1 == opId && decide (s.now < x.2.2.2 + ms 1)
      let s : State := if basin ∧ s.gateway ∧ op ≠ 3 ∧ !known then
          { s with shl := { s.shl with seen := (s.shl.seen.filter fun (x : Nat × Nat × Nat × Nat) => decide (s.now < x.2.2.2 + ms 1)) ++
              [(origin, op, opId, s.now)] } }.rippleRing (1 - port) op basin failed origin opId arg
        else s
      s.actOn a port side op basin failed origin opId arg

/-! SHL_CMD (09 R268 to R270, Table 9.12). -/

/-- The argument of a command. -/
def State.cmdArg (s : State) : Nat := s.pair 0 Reg.SHL_CMD_ARG_LO Reg.SHL_CMD_ARG_HI

/-- A command completes. -/
def State.shlDone (s : State) (r : Nat) : State := (s.wrap 0 F.SHL_CMD_STATUS_SEQ).set 0 F.SHL_CMD_STATUS_RESULT r

/-- SNAPSHOT and RESET: refused, or sent and scheduled here too. -/
def State.schedule (s : State) (op : Nat) (basin : Bool) (opId : Nat) : State :=
  let t := s.cmdArg
  let lead := s.tsAt (s.now + ns (s.get 0 F.SHL_MIN_LEAD_MIN_LEAD_NS))
  let r := if s.conflict then 3 else if !tsOk t then 2 else if t < lead then 1 else 0
  if r ≠ 0 then (s.shlDone r).raise 0 33 0x611 2 [(1, op), (1, r), (2, opId), (8, t)]
  else ((s.ripple op basin false opId (leBytes 8 t)).takeOp ⟨op, basin, s.hubAddr, opId, t⟩).shlDone 0

/-- A write of SHL_CMD (09 Table 9.12); it acts on die 0. -/
def State.writeShlCmd (s : State) (d : Nat) (v : Word) : State :=
  let basin := wordGet v 27 27 == 1
  let opId := wordGet v 15 0
  if d ≠ 0 then s
  else
    match wordGet v 31 28 with
    | 1 =>
      if s.conflict then s.shlDone 3
      else ((s.ripple 1 basin false opId (leBytes 8 s.cmdArg)).raise 0 33 0x60C 0
        [(2, s.hubAddr), (2, opId), (8, s.cmdArg)]).shlDone 0
    | 2 =>
      if s.conflict then s.shlDone 3
      else
        let deadline := s.now + us (s.cmdArg % 2 ^ 32)
        ((s.ripple 2 true false opId (leBytes 8 (s.tsAt deadline))).openBarrier opId deadline).shlDone 0
    | 3 =>
      if s.conflict then s.shlDone 3
      else if !s.flag 0 F.SHL_CFG_BARRIER_PART then s.shlDone 4
      else
        (match s.shl.barrier with
         | some b =>
           if b.opId = opId then ({ s with shl := { s.shl with barrier := some { b with arrived := true } } }).barrierStep false
           else { s with shl := { s.shl with held := s.shl.held ++ [(opId, s.now + ms 1000)] } }
         | none => { s with shl := { s.shl with held := s.shl.held ++ [(opId, s.now + ms 1000)] } }).shlDone 0
    | 4 => s.schedule 5 basin opId
    | 5 => s.schedule 6 basin opId
    | _ => s

/-- SHL_BROADCAST, BARRIER_OPEN, BARRIER_ARRIVE, SHL_SNAPSHOT, SHL_RESET: writes of SHL_CMD (09 R268 to R270). -/
def execShlBroadcast (a : At) (q : Req) (v : Word) (s : State) : Out :=
  onWrite a q 0x1B0020 v (wordGet v 31 28 == 1) s fun s => s.writeShlCmd a.die v
def execBarrierOpen (a : At) (q : Req) (v : Word) (s : State) : Out :=
  onWrite a q 0x1B0020 v (wordGet v 31 28 == 2) s fun s => s.writeShlCmd a.die v
def execBarrierArrive (a : At) (q : Req) (v : Word) (s : State) : Out :=
  onWrite a q 0x1B0020 v (wordGet v 31 28 == 3) s fun s => s.writeShlCmd a.die v
def execShlSnapshot (a : At) (q : Req) (v : Word) (s : State) : Out :=
  onWrite a q 0x1B0020 v (wordGet v 31 28 == 4) s fun s => s.writeShlCmd a.die v
def execShlReset (a : At) (q : Req) (v : Word) (s : State) : Out :=
  onWrite a q 0x1B0020 v (wordGet v 31 28 == 5) s fun s => s.writeShlCmd a.die v

/-- A write of SHL_SNAP_CTL (09 Table 9.12). -/
def State.writeSnapCtl (s : State) (d : Nat) (v : Word) : State :=
  if d = 0 ∧ wordGet v 29 29 = 1 then (s.set d F.SHL_SNAP_CTL_VALID 0).set d F.SHL_SNAP_CTL_OVERWRITE 0 else s

/-- SNAP_ACK (09 Table 9.12). -/
def execSnapAck (a : At) (q : Req) (v : Word) (s : State) : Out :=
  onWrite a q 0x1B0040 v true s fun s => s.writeSnapCtl a.die v

end Sys2Proof.Machine
end

