-- ==== Sys2Proof/Machine/Store.lean ====
section
/-! DEFINITION. Stores to NVM and fuses under the hold-up check (16 R428 to R437): energy, deferral, chunks, commit markers, the
journal log and the option bytes. -/

namespace Sys2Proof.Machine

/-! Commit markers (16 R436). -/

/-- The commit marker of some stored bytes. -/
def markerOf (seq : Nat) (l : List Byte) : List Byte :=
  [0x43, 0x4D, 0x54, 0x37] ++ leBytes 4 seq ++ crc32c l ++ List.replicate 20 0

/-- A marker that matches the bytes before it. -/
def markerOk (l m : List Byte) : Bool :=
  m.length == 32 && m.take 4 == [0x43, 0x4D, 0x54, 0x37] && (m.drop 8).take 4 == crc32c l && (m.drop 12).all (· == 0)

/-! The NVM map (16 Table 16.5). -/

def optionCopyAt (copy : Nat) : Nat := if copy = 1 then 0x1000 else 0
def journalLog : Nat := 0x100000
def slotAt (slot : Nat) : Nat := if slot = 1 then 0x1400000 else 0x400000
def patchLogAt (slot : Nat) : Nat := slotAt slot + 0x800000

/-- A range of cells listed with values erased: they read 0xFF again. -/
def State.eraseCells (s : State) (off len : Nat) : State :=
  let ns := ((s.cellLog.map (·.1)) ++ (s.cells.map (·.1))).filter fun n => decide (off ≤ n) && decide (n < off + len)
  { s with cellLog := ns.map (fun n => (n, (0xFF : Byte))) ++ s.cellLog }

/-! Committed flushes (16 R437). -/

/-- Bytes of the journal log, which wraps. -/
def State.logBytes (s : State) (o n : Nat) : List Byte := (List.range n).map fun i => s.cell (journalLog + (o + i) % 0x100000)

/-- The committed flush at a 4 KiB boundary of the log: SEQ, offset, COUNT. -/
def State.flushAt? (s : State) (k : Nat) : Option (Nat × Nat × Nat) :=
  let o := 4096 * k
  let count := leNat (s.logBytes (o + 20) 2)
  if s.logBytes o 4 = [0x4C, 0x57, 0x4A, 0x37] ∧ 0 < count ∧ count ≤ 4096 ∧
      markerOk (s.logBytes o (64 + 32 * count)) (s.logBytes (o + 64 + 32 * count) 32) = true then
    some (leNat (s.logBytes (o + 4) 4), o, count)
  else none

/-- A flush put in its place, newest first. -/
def putFlush (x : Nat × Nat × Nat) : List (Nat × Nat × Nat) → List (Nat × Nat × Nat)
  | [] => [x]
  | y :: l => if y.1 < x.1 then x :: y :: l else y :: putFlush x l

/-- The committed flushes, newest first. -/
def State.flushes (s : State) : List (Nat × Nat × Nat) := ((List.range 256).filterMap s.flushAt?).foldr putFlush []

/-- Where the next flush goes: the 4 KiB boundary after the newest. -/
def State.flushEnd (s : State) : Nat :=
  match s.flushes with
  | [] => 0
  | x :: _ => ceilDiv (x.2.1 + 96 + 32 * x.2.2) 4096 * 4096 % 0x100000

/-- The flush number that comes next. -/
def State.flushSeq (s : State) : Nat := (s.flushes.head?.map (·.1)).getD 0 + 1

/-- The journal's records, oldest first. -/
def State.journalRecords (s : State) : List (List Byte) :=
  let held := s.evt.journal.length
  (List.range held).map fun i => Table.look s.evt.journal ((s.evt.newest + 4096 - held + i) % 4096) []

/-! The hold-up check (16 R433), in exact integers: energy is `num / den` µJ. -/

/-- The mean code of the conversions. -/
def meanCode (codes : List Nat) : Nat := codes.foldl (· + ·) 0 / 4 % 4096

/-- Numerator of the voltage in millivolts; its denominator is 40,950. -/
def State.millivolts (s : State) (code : Nat) : Nat := 12 * code * s.get 0 F.HLD_SCALE_DIV_MILLI

/-- E_avail. -/
def eAvailDen : Nat := 2 * 1000000000 * 40950 * 40950
def State.eAvailNum (s : State) (code : Nat) : Nat :=
  let v := s.millivolts code
  let m := 40950 * s.get 0 F.HLD_VOLT_V_MIN_MV
  s.get 0 F.HLD_CAP_C_UF * s.get 0 F.HLD_VOLT_ETA_PERMILLE * (v * v - m * m)

/-- P_STORE and P_BOARD in milliwatts. -/
def State.storePower (s : State) : Nat := 600 + 150 * (s.part.dies - 1) + s.get 0 F.HLD_LOAD_P_BOARD_MW

/-- Programming rate in bytes per second. -/
def State.progRate (s : State) : Nat := 1024 * s.get 0 F.HLD_LOAD_PROG_KIBPS

/-- Milliseconds that a type takes whatever its size (16 Table 16.8). -/
def State.fixedMs (s : State) (type : Nat) : Nat :=
  match type with
  | 3 => s.get 0 F.HLD_MARGIN_ERASE_MS + 2
  | 4 => 20
  | _ => 2

/-- `margin × E_req`, in thousandths of a µJ times the programming rate. -/
def State.needScaled (s : State) (type bytes : Nat) : Nat :=
  s.get 0 F.HLD_MARGIN_MARGIN_PERMILLE * s.storePower * (s.fixedMs type * s.progRate + 1000 * bytes)

/-- The energy suffices for a store or a chunk. -/
def State.enough (s : State) (code type bytes : Nat) : Bool :=
  decide (eAvailDen * s.needScaled type bytes ≤ 1000 * s.progRate * s.eAvailNum code)

/-- `margin × E_req` in µJ, to the nearest (16 Table 16.9). -/
def State.needUj (s : State) (type bytes : Nat) : Nat := (s.needScaled type bytes + 500 * s.progRate) / (1000 * s.progRate)

/-- E_avail in µJ. -/
def State.availUj (s : State) (code : Nat) : Nat := s.eAvailNum code / eAvailDen

/-- The newest records that a reduced flush may take. -/
def State.reducedCount (s : State) (code : Nat) : Nat :=
  let d := eAvailDen * s.get 0 F.HLD_MARGIN_MARGIN_PERMILLE * s.storePower
  (500 * s.eAvailNum code * s.progRate - d * s.progRate - 48000 * d) / (16000 * d)

/-- The conversions are shown (16 Table 16.11). -/
def State.sense (s : State) (code : Nat) : State :=
  ((s.set 0 F.HLD_SENSE_CODE code).set 0 F.HLD_SENSE_V_MV (min 65535 (s.millivolts code / 40950))).set 0 F.HLD_EAVAIL_E_UJ
    (min 0xFFFFFFFF (s.availUj code))

/-! Completion. -/

/-- A store's result: 0 OK, 1 REDUCED, 2 DEFERRED, 3 ABANDONED, 4 REFUSED (16 Table 16.11). -/
def State.storeDone (s : State) (type result bytes msec : Nat) : State :=
  (((s.set 0 F.HLD_STORE_STATUS_TYPE type).set 0 F.HLD_STORE_STATUS_RESULT result).wrap 0 F.HLD_STORE_STATUS_SEQ).raise 0 42 0x03B 0
    [(1, type), (1, result), (2, 0), (4, bytes), (4, msec)]

/-- A job ends. -/
def State.endJob (s : State) (j : StoreJob) (result : Nat) : State :=
  State.storeDone { s with hold := { s.hold with running := none } } j.type result j.done
    (if s.hold.running.isSome then (s.now - j.began) / ms 1 else 0)

/-- A store or chunk that the check turns away (16 R434). -/
def State.deferJob (s : State) (j : StoreJob) (code bytes : Nat) : State :=
  (s.raise 0 42 0x03A 2 [(1, j.type), (3, 0), (4, s.availUj code), (4, s.needUj j.type bytes)]).endJob j 2

/-- Bytes of the next chunk: 65,536 of a Skein store, none of fuses, the whole of any other. -/
def StoreJob.chunk (j : StoreJob) : Nat := if j.type = 4 then 0 else if j.type = 2 then min 65536 (j.bytes.length - j.done) else j.bytes.length

/-- The header of a flush (16 R437). -/
def flushHeader (seq ts first count omitted cause eAvail : Nat) : List Byte :=
  [0x4C, 0x57, 0x4A, 0x37] ++ leBytes 4 seq ++ leBytes 8 ts ++ leBytes 4 first ++ leBytes 2 count ++ leBytes 2 omitted ++
  leBytes 1 cause ++ List.replicate 3 0 ++ leBytes 4 eAvail ++ List.replicate 32 0

/-- A flush of the newest `n` records. -/
def State.flushJob (s : State) (j : StoreJob) (n eAvail : Nat) : StoreJob :=
  let held := s.evt.journal.length
  let first := (s.evt.newest + 2 ^ 32 - n + 1) % 2 ^ 32
  let body := flushHeader s.flushSeq j.ts first n (held - n) j.arg eAvail ++ (s.journalRecords.drop (held - n)).flatten
  { j with off := s.flushEnd, bytes := body ++ markerOf s.flushSeq body, count := n, omitted := held - n }

/-- A store begins, if the check lets it: the answer says whether it runs. A flush of an empty journal is done at once. -/
def State.beginStore (s : State) (j : StoreJob) (codes : List Nat) : State × Bool :=
  let code := meanCode codes
  let s := s.sense code
  let run := fun (s : State) (j : StoreJob) => ({ s with hold := { s.hold with running := some { j with began := s.now } } }, true)
  if j.type = 1 then
    let held := s.evt.journal.length
    let n := if s.enough code 1 (96 + 32 * held) then held else min held (s.reducedCount code)
    if held = 0 then (s.endJob j 0, false)
    else if n = 0 then (s.deferJob j code (96 + 32 * held), false)
    else run s (s.flushJob j n (s.availUj code))
  else
    if s.enough code j.type j.chunk then run s j else (s.deferJob j code j.chunk, false)

/-- How a request is taken: `none` while it waits, else whether it runs. -/
abbrev Taken := Option Bool

/-- A store requested (16 R432, R434): it runs, waits in its type's slot, or is deferred; in a power failure only the flush is taken. -/
def State.requestStore (s : State) (j : StoreJob) (codes : List Nat) : State × Taken :=
  let code := meanCode codes
  if s.hold.failing.isSome && !(j.type == 1 && (j.arg == 1 || j.arg == 2)) then
    let s := s.sense code
    (s.raise 0 42 0x03A 2 [(1, j.type), (3, 0), (4, s.availUj code), (4, s.needUj j.type j.chunk)] |>.storeDone
      j.type 2 0 0, some false)
  else if s.hold.running.isSome then
    let old := Table.find? s.hold.waiting j.type
    let s : State := { s with hold := { s.hold with waiting := Table.put s.hold.waiting j.type j } }
    (old.elim s fun o => s.storeDone o.type 2 0 0, none)
  else
    let r := s.beginStore j codes
    (r.1, some r.2)

/-! A chunk or a whole store completes. -/

/-- What was programmed appears in NVM or fuses. A Skein store appears whole with its marker, so that until then the slot's earlier
content stands (16 R434); an image erases its slot and the slot's patch log first (02 R63). -/
def State.program (s : State) (j : StoreJob) : State :=
  match j.what with
  | 0 =>
    let tail := 0x100000 - j.off
    ((s.setCells (journalLog + j.off) (j.bytes.take tail)).setCells journalLog (j.bytes.drop tail)).raise 0 42 0x03C 1
      [(2, j.count), (2, j.omitted), (4, leNat ((j.bytes.drop 4).take 4))]
  | 1 => (s.eraseCells (slotAt j.arg) 0x1000000).setCells j.off j.bytes
  | 2 => s.setCells j.off j.bytes
  | 3 =>
    let o := s.boot.option
    State.setCells { s with boot := { s.boot with option := { o with counter := o.counter + 1, copy := j.arg, bytes := j.bytes } } }
      j.off j.bytes
  | 4 =>
    let f := s.boot.fuses
    { s with boot := { s.boot with fuses := { f with reach := f.reach ||| j.arg, reachValid := true } } }
  | _ => s

/-- A Skein store ends uncommitted: what it wrote has no marker, and the next boot says so. -/
def State.leaveTorn (s : State) (j : StoreJob) : State :=
  if j.done = 0 then s
  else { s with hold := { s.hold with torn := s.hold.torn ++ [(j.type, j.arg % 256, j.off)] } }

/-- A chunk of the running store completes; the answer is a store that ended, with its result. -/
def State.chunkDone (s : State) (codes : List Nat) : State × Option (StoreJob × Nat) :=
  match s.hold.running with
  | none => (s, none)
  | some j =>
    if j.what = 5 then (s, none)
    else
      let size := j.chunk
      let j : StoreJob := { j with done := j.done + size }
      if j.type = 2 ∧ j.done < j.bytes.length then
        if s.hold.failing.isSome then ((s.leaveTorn j).endJob j 3, some (j, 3))
        else
          let code := meanCode codes
          let s := s.sense code
          if s.enough code 2 j.chunk then ({ s with hold := { s.hold with running := some j } }, none)
          else ((s.leaveTorn j).deferJob j code j.chunk, some (j, 2))
      else
        let result := if j.omitted = 0 then 0 else 1
        ((s.program j).endJob j result, some (j, result))

/-- The store in the lowest waiting type begins; those the check turns away, or that a power failure stops, are answered. -/
def State.nextStores (s : State) (codes : List Nat) : Nat → State × List (StoreJob × Nat)
  | 0 => (s, [])
  | n + 1 =>
    match s.hold.running, s.hold.waiting with
    | none, (t, j) :: rest =>
      let s : State := { s with hold := { s.hold with waiting := rest } }
      let stop := s.hold.failing.isSome && t != 1
      let r := if stop then (s.deferJob j (meanCode codes) j.chunk, false) else s.beginStore j codes
      if r.2 then (r.1, [])
      else
        let more := State.nextStores r.1 codes n
        (more.1, (j, 2) :: more.2)
    | _, _ => (s, [])

/-! Option bytes (16 R429, R430). -/

/-- A copy is valid. -/
def optionOk (b : List Byte) : Bool :=
  b.length == 256 && b.take 4 == [0x4F, 0x50, 0x54, 0x37] && leNat ((b.drop 4).take 2) == 1 && b.drop 252 == crc32c (b.take 252)

/-- The fields of a valid copy. -/
def optionsOf (copy : Nat) (b : List Byte) : Options :=
  let at_ := fun (n : Nat) => ((b[n]?).getD 0).toNat
  { counter := leNat ((b.drop 8).take 4), copy := copy, bytes := b, vfPool := (List.range 64).map fun k => at_ (12 + k),
    remoteAccessMax := bits (at_ 92) 1 0, smbManager := bit (at_ 92) 2, swResetEn := bit (at_ 92) 3,
    tamperEn := bits (at_ 76) 3 0, unwrapLimit := at_ 77, smbAttest := bit (at_ 78) 0, vfEnc := bit (at_ 78) 1, pf0Slots := at_ 79 }

/-- The bytes of the built-in defaults. -/
def defaultOptionBytes : List Byte :=
  [0x4F, 0x50, 0x54, 0x37, 1, 0, 0, 0, 0, 0, 0, 0] ++ List.replicate 64 0 ++ [0x0F, 16, 2, 8] ++ List.replicate 12 0 ++ [0x0D] ++
  List.replicate 163 0

/-- The write of the option bytes that the attestation counter asks for (17 R453): the copy not in use, COUNTER + 1, CRC last. -/
def State.optionJob (s : State) : StoreJob :=
  let o := s.boot.option
  let b := if o.bytes.isEmpty then defaultOptionBytes else o.bytes
  let body := (splice b 8 (leBytes 4 (o.counter + 1))).take 252
  let copy := if o.copy = 0 then 1 else 0
  { type := 3, what := 3, arg := copy, off := optionCopyAt copy, bytes := body ++ crc32c body }

/-- NVM_ERASE_AHEAD (16 R432, R437): in FLOW the 132 KiB ahead of the journal log's end are erased, and the oldest flushes with them. -/
def execNvmEraseAhead (a : At) (s : State) : Out :=
  onIsland a 40 (a.die == 0) s fun s =>
    if s.get 0 F.PWR_STATUS_CURRENT = 0 ∧ s.hold.running = none then
      let o := s.flushEnd
      let tail := min 135168 (0x100000 - o)
      (s.eraseCells (journalLog + o) tail).eraseCells journalLog (135168 - tail)
    else s

end Sys2Proof.Machine
end

