-- ==== Sys2Proof/Machine/Image.lean ====
section
/-! DEFINITION. Skein images (02 R38 to R50, R57 to R60, R65): their layout, every check of a load and of a patch, and what their
records set. -/

namespace Sys2Proof.Machine

/-- A failed check (02 Table 2.10): code, section TYPE or 0, byte offset of the failing item. -/
structure Flaw where
  code : Nat
  type : Nat
  off : Nat
  deriving DecidableEq, Repr

/-- The first failed check of a list. -/
def firstFlaw (l : List (Bool × Flaw)) : Option Flaw := (l.find? (·.1)).map (·.2)

/-- A section: TYPE, where its header stands, payload, record size and count (02 R40). -/
structure Section where
  type : Nat
  off : Nat
  payload : List Byte
  size : Nat
  count : Nat
  deriving DecidableEq, Repr

/-- A record of a register-image or LIVE section: where it stands, its section's TYPE, ADDRESS, VALUE or FIELD_MASK. -/
structure Record where
  off : Nat
  type : Nat
  addr : Nat
  value : Word
  deriving DecidableEq, Repr

/-! Header fields (02 Table 2.1). -/

def imgLength (b : List Byte) : Nat := numAt b 8 4
def imgDies (b : List Byte) : Nat := byteAt b 12
def imgKind (b : List Byte) : Nat := byteAt b 13
def imgSections (b : List Byte) : Nat := numAt b 14 2
def imgSerial (b : List Byte) : Nat := numAt b 16 4
def imgBase (b : List Byte) : List Byte := (b.drop 32).take 48
def imgKeyId (b : List Byte) : Nat := numAt b 80 4

/-- MAGIC is right, and HEADER_CRC with it (02 R51). -/
def imgMagic (b : List Byte) : Bool := b.take 4 == [0x53, 0x4B, 0x4E, 0x37]
def imgHeaderOk (b : List Byte) : Bool := imgMagic b && (b.drop 124).take 4 == crc32c (b.take 124)

/-- The Skein digest (02 R39). -/
def imgDigest (b : List Byte) : List Byte := Config.sha384 (b.take (imgLength b - 96))

/-! The verification key (17 R441, Table 17.3). -/

/-- The owner fuse bank is valid (17 R441). -/
def Fuses.ownerValid (f : Fuses) : Bool :=
  f.bank.length == 180 && f.bank.drop 176 == crc32c (f.bank.take 176) && !(f.bank.all (· == 0xFF))

/-- The life-cycle code of the fuse pattern (17 R449). -/
def Fuses.lcCode (f : Fuses) : Nat :=
  match f.lc with
  | 0 => 0
  | 1 => 1
  | 3 => 2
  | 7 => 3
  | _ => 4

/-- The owner's keys: WRAP, ATTEST, SKEIN (17 R451), and OWNER_ID (17 Table 17.1). -/
def Fuses.wrap (f : Fuses) : List Byte := f.bank.take 32
def Fuses.attest (f : Fuses) : List Byte := (f.bank.drop 32).take 48
def Fuses.skein (f : Fuses) : List Byte := (f.bank.drop 80).take 96
def Fuses.ownerId (f : Fuses) : Nat := if f.ownerValid then leNat ((Config.sha384 f.skein).take 4) else 0

/-- The key that a load needs, with its identifier. -/
def Fuses.skeinKey (f : Fuses) : Option (Nat × List Byte) :=
  match f.lcCode with
  | 2 => if f.ownerValid then some (f.ownerId, f.skein) else none
  | 4 => none
  | _ => if f.root then some (Config.factoryId.toNat, Config.factoryKey) else none

/-- The image's signature is the required key's (02 R39). -/
def signedOk (f : Fuses) (b : List Byte) : Bool :=
  match f.skeinKey with
  | some (id, key) => imgKeyId b == id && Config.ecdsaOk key (imgDigest b) ((b.drop (imgLength b - 96)).take 96)
  | none => false

/-! The header (02 R38, R52). `kind` is 0 for a full image, 1 for a patch. -/

def headerFlaw (dies kind : Nat) (b : List Byte) : Option Flaw :=
  let len := imgLength b
  firstFlaw [
    (!imgMagic b, ⟨1, 0, 0⟩),
    (numAt b 4 2 != 1, ⟨2, 0, 4⟩),
    (numAt b 6 2 != 128, ⟨2, 0, 6⟩),
    (!imgHeaderOk b, ⟨3, 0, 124⟩),
    (len % 8 != 0 || decide (len < 224) || decide ((if kind = 1 then 65536 else 8388608) < len) || decide (b.length < len), ⟨4, 0, 8⟩),
    (imgDies b != dies, ⟨5, 0, 12⟩),
    (imgKind b != kind, ⟨2, 0, 13⟩)]

/-! Sections (02 R40 to R43). -/

/-- Record size, and the largest record count, or the largest blob, of a section type; nothing for a reserved one (02 Table 2.3). -/
def sectionShape (t : Nat) : Option (Nat × Nat) :=
  match t with
  | 0x01 => some (96, 1)
  | 0x02 => some (8, 1024)
  | 0x03 => some (16, 64)
  | 0x04 => some (8, 4096)
  | 0x05 => some (8, 16384)
  | 0x06 => some (8, 65535)
  | 0x07 => some (8, 65535)
  | 0x08 => some (40, 65535)
  | 0x09 => some (8, 512)
  | 0x0A => some (8, 2048)
  | 0x0B => some (8, 8192)
  | 0x0C => some (8, 2048)
  | 0x0D => some (0, 65536)
  | 0x0E => some (8, 2048)
  | 0x0F => some (8, 4096)
  | 0x10 => some (8, 64)
  | 0x11 => some (8, 512)
  | 0x12 => some (8, 512)
  | 0x13 => some (8, 4096)
  | 0x14 => some (0, 1048576)
  | 0x15 => some (0, 1544)
  | 0x16 => some (0, 65536)
  | 0x17 => some (8, 512)
  | 0x18 => some (8, 64)
  | _ => none

/-- A section's record size and count fit its type and its payload (02 R41, R43). -/
def countsOk (t len size count : Nat) (payload : List Byte) : Bool :=
  match sectionShape t with
  | none => true
  | some (0, most) => size == 0 && count == 0 && decide (len ≤ most)
  | some (n, most) => size == n && decide (count ≤ most) && decide (size * count ≤ len) && decide (len < size * count + 8) &&
      (payload.drop (size * count)).all (· == 0)

/-- The sections from an offset on, in order; `prev` is the TYPE before. -/
def takeSections (b : List Byte) : Nat → Nat → Option Nat → Except Flaw (List Section)
  | 0, off, _ => if off = imgLength b - 96 then .ok [] else .error ⟨9, 0, 14⟩
  | n + 1, off, prev =>
    let limit := imgLength b - 96
    if off = limit then .error ⟨9, 0, 14⟩
    else
      let h := (b.drop off).take 16
      let t := numAt h 0 2
      let len := numAt h 4 4
      let payload := (b.drop (off + 16)).take len
      let flaw := firstFlaw [
        (decide (limit < off + 16), ⟨8, 0, off⟩),
        (decide (limit < off + 16 + len), ⟨8, t, off⟩),
        ((h.drop 8).take 4 != crc32c payload, ⟨7, t, off⟩),
        (t == 0 || (decide (0x18 < t) && decide (t < 0x8000)), ⟨0xA, t, off⟩),
        ((prev.map fun p => decide (t ≤ p)).getD false, ⟨9, t, off⟩),
        (numAt h 2 2 != 0 || len % 8 != 0 || !countsOk t len (numAt h 12 2) (numAt h 14 2) payload, ⟨0xC, t, off⟩)]
      match flaw with
      | some f => .error f
      | none =>
        match takeSections b n (off + 16 + len) (some t) with
        | .ok l => .ok (⟨t, off, payload, numAt h 12 2, numAt h 14 2⟩ :: l)
        | .error f => .error f

/-- Every section of an image: 1 to 64 of them, as many as SECTION_COUNT says (02 R42, Table 2.1). -/
def imageSections (b : List Byte) : Except Flaw (List Section) :=
  let n := imgSections b
  if n = 0 ∨ 64 < n then .error ⟨9, 0, 14⟩ else takeSections b n 128 none

/-- The flaw that stands first in an image. -/
def lowestFlaw (l : List (Option Flaw)) : Option Flaw :=
  l.foldl (fun best x =>
    match best, x with
    | some a, some b => if b.off < a.off then some b else some a
    | none, x => x
    | a, none => a) none

/-- The section of a type. -/
def sectionOf (l : List Section) (t : Nat) : Option Section := l.find? fun x => x.type == t

/-- A required section is there and not empty (02 R43). -/
def missingFlaw (l : List Section) : Option Flaw :=
  firstFlaw (([1, 3, 5, 9, 0x10, 0x14].filter fun t => ((sectionOf l t).map fun x => x.payload.isEmpty).getD true).map
    fun t => (true, ⟨0xB, t, 0⟩))

/-- The records of a section, each with its offset in the image. -/
def Section.records (x : Section) : List (Nat × List Byte) :=
  (List.range x.count).map fun i => (x.off + 16 + x.size * i, (x.payload.drop (x.size * i)).take x.size)

/-- A section of register-image records, by TYPE. -/
def registerSection (t : Nat) : Bool := (sectionShape t).map (·.1) == some 8 && t != 0x13

/-- The register-image records of an image, in image order. -/
def registerRecords (l : List Section) : List Record :=
  (l.filter fun x => registerSection x.type).flatMap fun x => x.records.map fun p =>
    ⟨p.1, x.type, numAt p.2 0 4, BitVec.ofNat 32 (numAt p.2 4 4)⟩

/-- The LIVE records of an image. -/
def liveRecords (l : List Section) : List Record :=
  ((sectionOf l 0x13).map fun x => x.records.map fun p =>
    (⟨p.1, 0x13, numAt p.2 0 4, BitVec.ofNat 32 (numAt p.2 4 4)⟩ : Record)).getD []

/-- The STRAND records of an image. -/
def strandRecords (l : List Section) : List (Nat × List Byte) := ((sectionOf l 8).map (·.records)).getD []

/-! Register-image records (02 R44, R45). -/

/-- A gate register of the SCH block (07 Table 7.4). -/
def gateRegister (off : Nat) : Bool :=
  (decide (0x144000 ≤ off) && decide (off < 0x14D800)) ||
  (decide (0x140000 ≤ off) && decide (off < 0x142600) && decide (0x140 ≤ off % 0x200) && decide (off % 0x200 < 0x168))

/-- The section that may set the registers at a die offset, 0 for none (02 R44). -/
def sectionFor (die off : Nat) : Nat :=
  if off < 0x10000 then 0
  else if off < 0x30000 then 0x11
  else if off < 0x40000 then 2
  else if off < 0x50000 then 0
  else if off < 0x60000 then 0x11
  else if off < 0x70000 then 0
  else if off < 0x80000 then 0x10
  else if off < 0xC0000 then 4
  else if off < 0xD0000 then 0
  else if off < 0xE0000 then 7
  else if off < 0x140000 then 0
  else if off < 0x180000 then (if gateRegister off then 6 else 5)
  else if off < 0x1A0000 then 0x12
  else if off < 0x1C0000 then 0xE
  else if off < 0x200000 then 0xA
  else if off < 0x240000 then 0xB
  else if off < 0x260000 then 0xC
  else if off < 0x280000 then 0x17
  else if off < 0x2A0000 then 0
  else if off < 0x2C0000 then 0xF
  else if off < 0x2E0000 then 9
  else if off < 0x300000 then 2
  else if off < 0x3F0000 then 0
  else if die = 0 then 0x18 else 0

/-- The bits of a register that the Skein may set. -/
def RegDesc.skeinMask (r : RegDesc) : Word := r.mask fun a => a == .skn || a == .rw

/-- A register-image record names a register that its section may set, on an island that is on, and no reserved bit (02 R45). -/
def State.recordOk (s : State) (x : Record) : Bool :=
  let die := x.addr / 0x1000000
  let off := x.addr % 0x1000000
  decide (x.addr < 0x8000000) && x.addr % 4 == 0 && decide (die < s.part.dies) && sectionFor die off == x.type &&
  (match regAt off with
   | some r => r.skeinMask != 0 && x.value &&& ~~~ (r.mask fun _ => true) == 0
   | none => false) &&
  (s.holder die off == tarnIsland || !bit (s.islands die).off (s.holder die off))

/-- What a record sets beside its own fields: a weight and a rate in force take their bases (07 R198), a bucket starts full, a head's
lead follows its setting (11 R317). -/
def State.followRecord (s : State) (die off : Nat) : State :=
  match regAt off with
  | none => s
  | some r =>
    let p := r.index off
    if r = Reg.SCH_OUT_WEIGHT then s.set die F.SCH_OUT_WEIGHT_WEIGHT (s.get die F.SCH_OUT_WEIGHT_BASE_WEIGHT p.1 p.2) p.1 p.2
    else if r = Reg.SCH_OUT_SH_BASE then s.set die F.SCH_OUT_SH_RATE_RATE (s.get die F.SCH_OUT_SH_BASE_BASE_RATE p.1 p.2) p.1 p.2
    else if r = Reg.SCH_OUT_SH_CFG ∧ Table.find? (s.die die).shapers (4 * p.1 + p.2) = none then
      s.set die F.SCH_OUT_SH_TOKENS_TOKENS (s.get die F.SCH_OUT_SH_CFG_SBURST p.1 p.2) p.1 p.2
    else if r = Reg.STR_POL_CBS ∧ Table.find? (s.die die).police p.1 = none then
      s.set die F.STR_POL_TOKENS_TOKENS (s.get die F.STR_POL_CBS_CBS p.1) p.1
    else if r = Reg.DSP_HEAD_LT_CFG then s.set die F.DSP_HEAD_STATUS_LEAD (s.get die F.DSP_HEAD_LT_CFG_PREFETCH_LEAD p.1) p.1
    else s

/-- A register-image record takes effect on the bits of `mask` (02 R46). -/
def State.applyRecord (s : State) (mask : Word) (x : Record) : State :=
  let die := x.addr / 0x1000000
  let off := x.addr % 0x1000000
  match regAt off with
  | none => s
  | some r =>
    let m := r.skeinMask &&& mask
    (s.setReg x.addr ((s.reg x.addr &&& ~~~ m) ||| (x.value &&& m))).followRecord die off

/-! Ranges, on final values (02 R45). -/

/-- A power of two at most `top`, or 0. -/
def zeroOrPow2 (top v : Nat) : Bool := v == 0 || (decide (v ≤ top) && (List.range 64).any fun k => v == 2 ^ k)

/-- The fields of a register lie in their ranges. -/
def fieldsInRange (r : RegDesc) (w : Word) : Bool :=
  r.fields.all fun f =>
    let v := wordGet w f.hi f.lo
    !(f.acc == .skn || f.acc == .rw) || (decide (f.min ≤ v) && decide (v ≤ f.max))

/-- The largest cost of a unit at an output (07 R195). -/
def State.largestCost (s : State) (d o : Nat) : Nat :=
  if 8 ≤ o ∧ o < 12 then s.get d F.SCH_OUT_GUARD_FIXED_LEN o + 20 else 2056

/-- Fitted memory of a channel in MiB: the board's, taken as 16 GiB (log entry 22). -/
def fittedMib : Nat := 16384

/-- Where a range of device memory leaves the fitted memory or meets the reserved 1 MiB of 02 R62; in bytes. -/
def memoryBad (base size : Nat) : Bool :=
  decide (fittedMib * 1048576 < base % 2 ^ 34 + size) ||
  (base / 2 ^ 34 == 0 && decide ((fittedMib - 1) * 1048576 < base + size))

/-- Two ranges overlap. -/
def overlaps (a la b lb : Nat) : Bool := decide (a < b + lb) && decide (b < a + la) && la != 0 && lb != 0

/-- The Millpond regions of a die and channel, and the windows of the heads, as (base, bytes). -/
def State.pondRange (s : State) (d c : Nat) : Nat × Nat :=
  (d * 2 ^ 35 + c * 2 ^ 34 + s.pair d Reg.MEM_POND_BASE_LO Reg.MEM_POND_BASE_HI c % 2 ^ 34,
   1048576 * s.get d F.MEM_POND_SIZE_SIZE_MIB c)
def State.headWindows (s : State) : List (Nat × Nat) :=
  (List.range s.part.dies).flatMap fun d => (List.range 2).map fun h =>
    (s.pair d Reg.DSP_HEAD_WIN_LO Reg.DSP_HEAD_WIN_HI h, 1048576 * s.get d F.DSP_HEAD_WIN_SIZE_WIN_SIZE h)

/-- A rule on the final value of a register that its ranges do not say (Flaw code 0xC RECORD, 0xF STRUCTURE): the offsets whose
records it involves, and whether it is broken. -/
structure Relation where
  code : Nat
  addrs : List Nat
  broken : Bool
  deriving DecidableEq, Repr

/-- Rules on a single register whose ranges have gaps. -/
def State.gapRelations (s : State) (d : Nat) : List Relation :=
  ((List.range 8).map fun n => ⟨0xC, [barAddr d (Reg.LN_CFG.off n 0)],
    decide (4 ≤ s.get d F.LN_CFG_CAGE n) && s.get d F.LN_CFG_CAGE n != 15⟩) ++
  ((List.range 4).map fun n => ⟨0xC, [barAddr d (Reg.ETH_CFG.off n 0)], decide (5 ≤ s.get d F.ETH_CFG_MODE n)⟩) ++
  ((List.range 4).map fun n => ⟨0xC, [barAddr d (Reg.ETH_PTP_CFG.off n 0)], s.get d F.ETH_PTP_CFG_ROLE n == 3⟩) ++
  ((List.range 8).flatMap fun k => (List.range 8).map fun t => ⟨0xC, [barAddr d (Reg.PLY_LINK_ING.off k t)],
    (s.ply? d k).isSome && decide (s.get d F.PLY_LINK_ING_ING_UNITS k t < 528)⟩) ++
  ((List.range 2).map fun h => ⟨0xC, [barAddr d (Reg.DSP_HEAD_CTL.off h 0)], s.get d F.DSP_HEAD_CTL_STORE h == 3⟩) ++
  [⟨0xC, [barAddr d Reg.PWR_CFG.base], s.get d F.PWR_CFG_STILL_OFF / 32 != 0⟩,
   ⟨0xC, [barAddr d Reg.PIN_TEMP.base], !s.part.gradeX && decide (115 < s.get d F.PIN_TEMP_TRIP_C)⟩]

/-- The scheduler's rules (07 R191, R195, R197, R201, Table 7.4). -/
def State.outRelations (s : State) (d : Nat) : List Relation :=
  (List.range 19).flatMap fun o =>
    ((List.range 8).map fun t => ⟨0xC, [barAddr d (Reg.SCH_OUT_QMAP.off o t), barAddr d (Reg.SCH_OUT_CFG.off o 0)],
      (List.range 5).any fun c => !s.queueUsed d o (s.qmap d o t c)⟩) ++
    ((List.range 4).map fun i => ⟨0xC, [barAddr d (Reg.SCH_OUT_SH_CFG.off o i), barAddr d (Reg.SCH_OUT_GUARD.off o 0)],
      decide (s.get d F.SCH_OUT_SH_CFG_SBURST o i < s.largestCost d o)⟩) ++
    ((List.range 16).map fun q => ⟨0xC, [barAddr d (Reg.SCH_OUT_BURST.off o q), barAddr d (Reg.SCH_OUT_GUARD.off o 0)],
      decide (s.get d F.SCH_OUT_BURST_BURST o q < s.largestCost d o)⟩) ++
    [⟨0xC, [barAddr d (Reg.SCH_OUT_GCL_CTL.off o 0)], s.flag d F.SCH_OUT_GCL_CTL_GATE_EN o &&
       (s.get d F.SCH_OUT_GCL_CTL_GCL_LEN o == 0 || decide (256 < s.get d F.SCH_OUT_GCL_CTL_GCL_LEN o))⟩,
     ⟨0xC, [barAddr d (Reg.SCH_OUT_GCL_BASE_LO.off o 0), barAddr d (Reg.SCH_OUT_GCL_BASE_HI.off o 0)],
       !tsOk (s.pair d Reg.SCH_OUT_GCL_BASE_LO Reg.SCH_OUT_GCL_BASE_HI o)⟩]

/-- Rules of a die's other blocks (06 R163, R174; 08 Table 8.5; 10 R287, R290, R293; 11 R308, R314, R324). -/
def State.dieRelations (s : State) (d : Nat) : List Relation :=
  let lre := s.lreMode d
  let mode := fun (m : Nat) => s.get d F.ETH_CFG_MODE m
  let eth := [barAddr d (Reg.ETH_CFG.off 0 0), barAddr d (Reg.ETH_CFG.off 1 0), barAddr d Reg.ETH_LRE_CFG.base]
  [⟨0xC, [barAddr d Reg.SPD_CFG.base], decide (s.get d F.SPD_CFG_PLY_HIGH_PCT ≤ s.get d F.SPD_CFG_PLY_LOW_PCT)⟩,
   ⟨0xC, (List.range 8).flatMap fun k => (List.range 8).map fun t => barAddr d (Reg.PLY_LINK_ING.off k t),
     decide (262144 < s.reserves d + 16384)⟩,
   ⟨0xF, eth, (lre == 1 && !(mode 0 == mode 1 && decide (1 ≤ mode 0) && decide (mode 0 ≤ 4))) ||
     (lre == 2 && !(mode 0 == mode 1 && decide (1 ≤ mode 0) && decide (mode 0 ≤ 3)))⟩] ++
  ((List.range 2).map fun m => ⟨0xF, [barAddr d (Reg.SCH_OUT_GCL_CTL.off (8 + m) 0), barAddr d Reg.ETH_LRE_CFG.base],
    lre == 2 && s.flag d F.SCH_OUT_GCL_CTL_GATE_EN (8 + m)⟩) ++
  ((List.range 2).map fun m => ⟨0xF, [barAddr d (Reg.ETH_MSEC_CTL.off m 0), barAddr d Reg.ETH_LRE_CFG.base],
    lre == 2 && s.flag d F.ETH_MSEC_CTL_EN m⟩) ++
  ((List.range 2).flatMap fun h =>
    let low := s.get d F.DSP_HEAD_RES_CFG_LOW_WM h
    let high := s.get d F.DSP_HEAD_RES_CFG_HIGH_WM h
    [⟨0xC, [barAddr d (Reg.DSP_HEAD_RES_CFG.off h 0)], decide (low < 8) || decide (high ≤ low) || decide (512 < high)⟩,
     ⟨0xF, [barAddr d (Reg.DSP_HEAD_CTL.off h 0)], s.flag d F.DSP_HEAD_CTL_SOURCE h && s.get d F.DSP_HEAD_CTL_STORE h != 1⟩]) ++
  ((List.range 2).map fun c =>
    let p := s.pondRange d c
    ⟨0xC, [barAddr d (Reg.MEM_POND_BASE_LO.off c 0), barAddr d (Reg.MEM_POND_BASE_HI.off c 0), barAddr d (Reg.MEM_POND_SIZE.off c 0)],
     p.2 != 0 && (memoryBad p.1 p.2 || s.headWindows.any fun w => overlaps p.1 p.2 w.1 w.2)⟩)

/-- The bridge's rules (12 R333, R334). -/
def State.bridgeRelations (s : State) : List Relation :=
  let d := s.primary
  let kind := fun (w : Nat) => s.get d F.BRG_WIN_CFG_KIND w
  let valid := fun (w : Nat) => s.flag d F.BRG_WIN_CFG_VALID w
  let vdp := fun (w : Nat) => s.get d F.BRG_WIN_CFG_VDP w
  let size := fun (w : Nat) => s.get d F.BRG_WIN_SIZE_SIZE_MIB w
  let place := fun (w : Nat) => s.get d F.BRG_WIN_OFF_OFF_MIB w
  let at_ := fun (w : Nat) => [Reg.BRG_WIN_CFG, Reg.BRG_WIN_BASE_LO, Reg.BRG_WIN_BASE_HI, Reg.BRG_WIN_SIZE, Reg.BRG_WIN_OFF].map
    fun (r : RegDesc) => barAddr d (r.off w 0)
  ((List.range 64).map fun w => ⟨0xC, at_ w,
    decide (5 ≤ kind w) || ((kind w == 1 || kind w == 2 || kind w == 4) && vdp w == 0) ||
    (s.flag d F.BRG_WIN_CFG_PREFETCH w && !(kind w == 2 || kind w == 3)) ||
    (s.flag d F.BRG_WIN_CFG_LOCKABLE w && !(kind w == 1 || kind w == 2)) ||
    (valid w && (kind w == 1 || kind w == 2) &&
      (List.range w).any fun v => valid v && kind v == kind w && vdp v == vdp w) ||
    (valid w && kind w == 3 && (decide (s.get d F.BRG_LOCK_CFG_BAR2_MIB < place w + size w) ||
      decide (fittedMib * 1048576 < s.winBase w % 2 ^ 34 + size w * 1048576) ||
      (List.range w).any fun v => valid v && kind v == 3 && overlaps (place v) (size v) (place w) (size w)))⟩) ++
  [⟨0xC, [barAddr d Reg.BRG_LOCK_CFG.base], !zeroOrPow2 32768 (s.get d F.BRG_LOCK_CFG_BAR2_MIB)⟩]

/-- The virtual functions' rules (13 R351, Table 13.5). -/
def State.vfRelations (s : State) : List Relation :=
  let first := fun (p : Nat) => s.get 0 F.VFN_PF_SRIOV_VF_FIRST p
  let total := fun (p : Nat) => s.get 0 F.VFN_PF_SRIOV_TOTAL_VFS p
  (List.range 4).flatMap fun p =>
    [⟨0xC, [barAddr 0 (Reg.VFN_PF_BAR2.off p 0)], !zeroOrPow2 16384 (s.get 0 F.VFN_PF_BAR2_VF_BAR2_MIB p)⟩,
     ⟨0xF, (List.range 4).map fun q => barAddr 0 (Reg.VFN_PF_SRIOV.off q 0),
       (total p != 0 && decide (31 * s.part.dies < first p + total p - 1)) ||
       (List.range p).any fun q => overlaps (first q) (total q) (first p) (total p)⟩]

/-- Every rule that a load or a patch is held to beyond single ranges. -/
def State.relations (s : State) : List Relation :=
  ((List.range s.part.dies).flatMap fun d => s.gapRelations d ++ s.outRelations d ++ s.dieRelations d) ++ s.bridgeRelations ++
  s.vfRelations ++
  [⟨0xF, [barAddr 0 Reg.PKG_SMB_CFG.base], s.get 0 F.PKG_SMB_CFG_TARGET_ADDR == s.get 0 F.TRN_ADDR_WAKE_ADDR⟩]

/-- The offset and section of the last record that set one of some registers. -/
def lastSetting (rs : List Record) (addrs : List Nat) : Option Record := (rs.reverse.find? fun x => addrs.contains x.addr)

/-- The first range or relation that the final values break; a patch is held only to what its own records set. -/
def State.rangeFlaw (s : State) (rs : List Record) : Option Flaw :=
  match rs.find? fun x => !((regAt (x.addr % 0x1000000)).map fun r => fieldsInRange r (s.reg x.addr)).getD true with
  | some x => (lastSetting rs [x.addr]).map fun y => ⟨0xC, y.type, y.off⟩
  | none =>
    (s.relations.find? fun r => r.broken && (lastSetting rs r.addrs).isSome).map fun r =>
      ((lastSetting rs r.addrs).map fun y => (⟨r.code, y.type, y.off⟩ : Flaw)).getD ⟨r.code, 0, 0⟩

/-! The DEVICE record (02 Table 2.4, R47). -/

/-- Islands that no DEVICE record may switch off on a die. -/
def neverOff (primary d : Nat) : List Nat :=
  [10, 11, 12, 13, 31, 32, 35, 36, 37, 38, 42] ++ (if d = 0 then [39, 40, 43, 33] else []) ++ (if d = 1 then [33] else []) ++
  (if d = primary then [17] else [])

/-- ISLAND_OFF of a die. -/
def deviceOff (r : List Byte) (d : Nat) : Nat := numAt r (8 + 8 * d) 8

def State.deviceFlaw (s : State) (x : Section) : Option Flaw :=
  let r := x.payload
  let off := x.off + 16
  firstFlaw [
    (decide (s.part.dies ≤ byteAt r 0), ⟨0xC, 1, off⟩),
    (decide (4096 ≤ numAt r 6 2), ⟨0xC, 1, off⟩),
    ((List.range 8).any fun d => decide (2 ^ 44 ≤ deviceOff r d) || (decide (s.part.dies ≤ d) && deviceOff r d != 0), ⟨0xC, 1, off⟩),
    (!bit (byteAt r 2) (b2n s.part.gradeX), ⟨0xF, 1, off⟩),
    ((List.range s.part.dies).any fun d => (neverOff (byteAt r 0) d).any fun i => bit (deviceOff r d) i, ⟨0xF, 1, off⟩)]

/-- The DEVICE record takes effect. -/
def State.applyDevice (s : State) (r : List Byte) : State :=
  let s := (List.range s.part.dies).foldl (fun s d =>
    let o := deviceOff r d
    ((s.modIslands d fun i => { i with off := o, ok := i.ok - (i.ok &&& o) }).setWord d Reg.GLB_ISLAND_OFF_LO (BitVec.ofNat 32 o)).setWord d
      Reg.GLB_ISLAND_OFF_HI (BitVec.ofNat 32 (o / 2 ^ 32))) s
  let s := (s.set 0 F.BRG_PORT_STATUS_PRIMARY (byteAt r 0)).set 0 F.BRG_PORT_STATUS_STANDBY (clearBit (byteAt r 1) (byteAt r 0))
  (s.set 0 F.SHL_ID_BASIN_ID (numAt r 4 2)).set 0 F.SHL_ID_HUB_ADDR (numAt r 6 2 % 4096)

/-! PLY records (02 Table 2.5, R48). -/

/-- A PLY record's configuration, with its die. -/
def plyOf (r : List Byte) : Nat × PlyCfg :=
  (byteAt r 1, ⟨byteAt r 0, byteAt r 2, byteAt r 3, byteAt r 4, byteAt r 5, byteAt r 6, byteAt r 7, numAt r 8 2, numAt r 10 2⟩)

/-- A lane mask is an aligned group of 1, 2, 4 or 8 lanes. -/
def alignedMask (m : Nat) : Bool :=
  [1, 2, 4, 8].any fun w => (List.range (8 / w)).any fun k => m == (2 ^ w - 1) * 2 ^ (w * k)

def State.plyFlaw (s : State) (x : Section) : Option Flaw :=
  let rs := x.records.map fun p => (p.1, plyOf p.2)
  let fields := fun (p : Nat × Nat × PlyCfg) =>
    let c := p.2.2
    decide (63 < c.id) || decide (s.part.dies ≤ p.2.1) || (decide (63 < c.braid) && c.braid != 0xFF) || c.rates == 0 ||
    decide (7 < c.rates) || decide (1 < c.precode) || decide (3 < c.sleep) || decide (3 < c.flags)
  let twice := fun (p : Nat × Nat × PlyCfg) => rs.any fun q => decide (q.1 < p.1) && q.2.2.id == p.2.2.id
  let shape := fun (p : Nat × Nat × PlyCfg) =>
    let c := p.2.2
    let braid := rs.filter fun q => q.2.2.braid == c.braid
    !alignedMask c.mask || (rs.any fun q => decide (q.1 < p.1) && q.2.1 == p.2.1 && (q.2.2.mask &&& c.mask) != 0) ||
    (c.braid != 0xFF && (decide (8 < braid.length) || braid.any fun q => q.2.2.farHub != c.farHub || q.2.2.farBasin != c.farBasin))
  (rs.find? fun p => fields p || twice p || shape p).map fun p => ⟨if fields p || twice p then 0xC else 0xF, 3, p.1⟩

/-- A ply of the image exists: its slot, its lanes' order, and the default of its ingress reserves (06 R161). -/
def State.applyPly (s : State) (r : List Byte) : State :=
  let (d, c) := plyOf r
  match lowestBit 8 c.mask with
  | none => s
  | some k =>
    let s := s.modDie d fun x => { x with plies := Table.put x.plies k { cfg := c } }
    let s := s.set d F.PLY_LINK_STATE_PLY_ID c.id k
    let s := ((maskLanes c.mask).zipIdx).foldl (fun s (p : Nat × Nat) => s.set d F.LN_STATUS_LOGICAL p.2 p.1) s
    (List.range 8).foldl (fun s t => s.set d F.PLY_LINK_ING_ING_UNITS (512 * popCount 8 c.mask + 512) k t) s

/-! STRAND records (02 Table 2.6). -/

/-- The entry of a STRAND record: ACTIVE whatever its STATE field says, placed on the lowest ply of its braid until the Spindle chooses. -/
def State.strandEntry (s : State) (r : List Byte) : Entry :=
  let e : Entry := { raw := BitVec.ofNat 256 (leNat (r.drop 8)), isStatic := true, live := bit (byteAt r 5) 0 }
  let e := e.setF 14 12 2
  { e with allot := e.guaranteed,
           ply := (((s.braidSlots e.outIndex).head?).map fun p => s.plyId p.1 p.2).getD 0 }

/-- The package Ledger index of a STRAND record. -/
def strandIndex (r : List Byte) : Nat := 8192 * byteAt r 4 + numAt r 6 2

/-- A STRAND record is refused (02 Table 2.6), judged against what the image defines and the records before it. -/
def State.strandBad (s : State) (r : List Byte) : Bool :=
  let raw : Entry := { raw := BitVec.ofNat 256 (leNat (r.drop 8)) }
  let e := s.strandEntry r
  decide (s.part.dies ≤ byteAt r 4) || decide (8191 < numAt r 6 2) || decide (1 < byteAt r 5) || raw.strandId != numAt r 0 4 ||
  raw.f 11 0 != 0 || e.owner != 0 || (e.inType != 3 && (e.inSn == 0 || e.inSn == 0xFFF)) || !s.entryOk 0 e ||
  (s.entry? (strandIndex r)).isSome || (s.entries.any fun p => p.2.strandId == e.strandId) || s.duplicates (byteAt r 4) e ||
  (s.mirrorDies (byteAt r 4) e).any fun m => (s.freeIndex m).isNone

/-- The STRAND records take effect, or the offset of the first that is refused. -/
def State.applyStrands (s : State) : List (Nat × List Byte) → Except Flaw State
  | [] => .ok s
  | (off, r) :: l => if s.strandBad r then .error ⟨0xC, 8, off⟩ else State.applyStrands (s.install (strandIndex r) (s.strandEntry r)) l

/-! LIVE grants (02 R57, Table 2.8). -/

/-- The bits of a register that a grant may name, by the patch route. -/
def patchRoute (off : Nat) (r : RegDesc) : Word :=
  let skn := r.mask (· == .skn)
  if 0x0D0000 ≤ off ∧ off < 0x0E0000 then skn
  else if r = Reg.SCH_OUT_WEIGHT ∨ r = Reg.SCH_OUT_SH_BASE then skn
  else if r = Reg.SCH_OUT_CFG then fieldMask 15 0
  else if r = Reg.SCH_OUT_GCL_CTL then fieldMask 8 0
  else if r = Reg.SCH_OUT_GCL_GATES ∨ r = Reg.SCH_OUT_GCL_TIME ∨ r = Reg.SCH_OUT_GCL_CYCLE ∨ r = Reg.SCH_OUT_GCL_BASE_LO ∨
      r = Reg.SCH_OUT_GCL_BASE_HI then skn
  else if r = Reg.HLD_CAP ∨ r = Reg.HLD_VOLT then skn
  else if r = Reg.HLD_MARGIN then fieldMask 31 16
  else if r = Reg.TIM_CFG ∨ r = Reg.TIM_STEP ∨ r = Reg.TIM_UTC ∨ r = Reg.TIM_IRIG_CFG ∨ r = Reg.TIM_PPS_CFG then skn
  else 0

/-- The bits of a register that a grant may name, by the register route. -/
def registerGrant (off : Nat) (r : RegDesc) : Word :=
  let skn := r.mask (· == .skn)
  if 0x0D0000 ≤ off ∧ off < 0x0E0000 then skn
  else if (0x1C0000 ≤ off ∧ off < 0x200000) ∧ (off % 0x1000 < 0x40 ∨ r = Reg.DSP_HEAD_LT_CFG) then
    (if r = Reg.DSP_HEAD_CTL then 0 else if r = Reg.DSP_HEAD_LT_CFG then fieldMask 4 0 else skn)
  else if r = Reg.CLK_SPREAD then fieldMask 4 0
  else if r = Reg.PIN_SLEW ∨ r = Reg.PIN_DEGLITCH ∨ r = Reg.RST_IDLE_CFG then skn
  else 0

/-- The shadow timing set of a head may be granted by either route (02 Table 2.8). -/
def shadowRoute (off : Nat) (r : RegDesc) : Word :=
  if (0x1C0000 ≤ off ∧ off < 0x200000) ∧ off % 0x1000 < 0x40 ∧ r ≠ Reg.DSP_HEAD_CTL then r.mask (· == .skn) else 0

/-- The bits that a grant for an offset may name, by either route. -/
def liveCapable (off : Nat) : Word :=
  match regAt off with
  | some r => patchRoute off r ||| registerGrant off r ||| shadowRoute off r
  | none => 0

/-- A LIVE record names live-capable bits. -/
def State.liveOk (s : State) (x : Record) : Bool :=
  decide (x.addr < 0x8000000) && x.addr % 4 == 0 && decide (x.addr / 0x1000000 < s.part.dies) &&
  liveCapable (x.addr % 0x1000000) != 0 && x.value &&& ~~~ liveCapable (x.addr % 0x1000000) == 0

/-- The grants take effect; two grants of one register join. -/
def State.applyLive (s : State) (rs : List Record) : State :=
  { s with skn := { s.skn with live := rs.foldl (fun t x => Table.upd t x.addr 0 fun m => m ||| x.value) [] } }

/-! Firmware (02 R49, R50). -/

def fwFlaw (fw : Section) (policy : Option Section) : Option Flaw :=
  let b := fw.payload
  let len := numAt b 8 4
  let digest := (b.drop 16).take 48
  let version := numAt b 0 2 * 65536 + numAt b 2 2
  let p := (policy.map (·.payload)).getD []
  let digests := fun (from_ n : Nat) => (List.range n).map fun i => (p.drop (from_ + 48 * i)).take 48
  let accept := byteAt p 4
  let refuse := byteAt p 5
  firstFlaw [
    (len % 8 != 0 || decide (len < 8) || decide (1048416 < len) || decide (b.length < 160 + len), ⟨0xD, 0x14, fw.off⟩),
    ((policy.isSome && !p.isEmpty) && (decide (16 < accept) || decide (16 < refuse) || decide (p.length < 8 + 48 * (accept + refuse))),
      ⟨0xC, 0x15, (policy.map (·.off)).getD 0⟩),
    (!Config.ecdsaOk Config.firmwareKey (Config.sha384 (b.take 64)) ((b.drop 64).take 96) ||
      Config.sha384 ((b.drop 160).take len) != digest, ⟨0xD, 0x14, fw.off⟩),
    (!p.isEmpty && (decide (version < numAt p 0 2 * 65536 + numAt p 2 2) || (digests (8 + 48 * accept) refuse).contains digest ||
      (accept != 0 && !(digests 8 accept).contains digest)), ⟨0xE, 0x14, fw.off⟩)]

/-! The descriptor blob (14 R376, Table 14.3). -/

/-- The records of a blob from an offset on, or the offset of the one that breaks R376. -/
def usbRecords (b : List Byte) : Nat → Nat → List UsbRecord → Except Nat (List UsbRecord)
  | 0, _, acc => .ok acc
  | n + 1, off, acc =>
    let h := (b.drop off).take 8
    let len := numAt h 6 2
    let x : UsbRecord := ⟨byteAt h 0, byteAt h 1, byteAt h 2, numAt h 4 2, (b.drop (off + 8)).take len⟩
    let kinds := match x.target with
      | 1 => [1, 4, 5]
      | 4 => [1, 4]
      | _ => [1, 2, 3, 4, 5]
    if decide (b.length < off + 8 + len) || len == 0 || decide (4096 < len) || decide (4 < x.target) || !kinds.contains x.kind ||
        byteAt h 3 != 0 || (x.kind != 4 && (x.index != 0 || x.lang != 0)) ||
        (acc.any fun y => y.target == x.target && y.kind == x.kind && y.index == x.index && y.lang == x.lang) then .error off
    else usbRecords b n (off + 8 + (len + 7) / 8 * 8) (acc ++ [x])

/-- The records of a USB section. -/
def usbBlob (x : Section) : Except Nat (List UsbRecord) :=
  if x.payload.isEmpty then .ok []
  else if numAt x.payload 0 2 ≠ 1 ∨ (((x.payload.drop 4).take 12).all (· == 0)) = false then .error 0
  else usbRecords x.payload (numAt x.payload 2 2) 16 []

/-! A full image (02 R52). -/

/-- Every check of an image, and the state that its records make of `s`; nothing of it takes effect where a check fails. -/
def State.takeImage (s : State) (b : List Byte) : Except Flaw State :=
  match headerFlaw s.part.dies 0 b with
  | some f => .error f
  | none =>
    if !signedOk s.boot.fuses b then .error ⟨6, 0, imgLength b - 96⟩
    else
      match imageSections b with
      | .error f => .error f
      | .ok l =>
        match missingFlaw l with
        | some f => .error f
        | none =>
          let device := (sectionOf l 1).bind s.deviceFlaw
          let plies := (sectionOf l 3).bind s.plyFlaw
          let rs := registerRecords l
          let s₁ := ((sectionOf l 1).map fun x => s.applyDevice x.payload).getD s
          let s₂ := (((sectionOf l 3).map (·.records)).getD []).foldl (fun s p => State.applyPly s p.2) s₁
          let record := (rs.find? fun x => !s₂.recordOk x).map fun x => (⟨0xC, x.type, x.off⟩ : Flaw)
          let s₃ := rs.foldl (fun s x => State.applyRecord s (~~~ 0) x) s₂
          let live := ((liveRecords l).find? fun x => !s₃.liveOk x).map fun x => (⟨0xC, 0x13, x.off⟩ : Flaw)
          let usb := match sectionOf l 0xD with
            | some x => (match usbBlob x with
              | .error n => some (⟨0xC, 0xD, x.off + 16 + n⟩ : Flaw)
              | .ok _ => none)
            | none => none
          let strand := match s₃.applyStrands (strandRecords l) with
            | .error f => some f
            | .ok _ => none
          let fw := (sectionOf l 0x14).bind fun x => fwFlaw x (sectionOf l 0x15)
          match (lowestFlaw [device, plies, record, strand, usb, live]).or ((s₃.rangeFlaw rs).or fw), s₃.applyStrands (strandRecords l) with
          | some f, _ => .error f
          | none, .error f => .error f
          | none, .ok s₄ => .ok (s₄.applyLive (liveRecords l))

/-! A patch (02 R59, R61). -/

/-- Section types that a patch may not hold (02 R59). -/
def notInPatch : List Nat := [1, 3, 0xD, 0x13, 0x14, 0x15]

/-- The bits of a register that a patch may change: granted, and by the patch route (02 R57). -/
def State.patchMask (s : State) (addr : Nat) : Word :=
  match regAt (addr % 0x1000000) with
  | some r => Table.look s.skn.live addr 0 &&& (patchRoute (addr % 0x1000000) r ||| shadowRoute (addr % 0x1000000) r)
  | none => 0

/-- A STRAND record of a patch names a static strand whose contract is live. -/
def State.patchStrandOk (s : State) (r : List Byte) : Bool :=
  match s.entry? (strandIndex r) with
  | some e => e.isStatic && e.live && e.mirrorOf.isNone && e.strandId == numAt r 0 4
  | none => false

/-- The contract fields of a STRAND record replace an entry's (02 R59). -/
def Entry.takeContract (e : Entry) (r : List Byte) : Entry :=
  let n : Entry := { raw := BitVec.ofNat 256 (leNat (r.drop 8)) }
  { (((e.setF 213 190 n.guaranteed).setF 189 166 n.ceiling).setF 165 150 n.latBound).setF 149 126 n.burst with changed := true }

/-- The running digest (02 R60). -/
def State.digest (s : State) : List Byte := (List.range 12).flatMap fun k => leBytes 4 (s.word 0 Reg.SKN_DIGEST k).toNat
def State.setDigest (s : State) (b : List Byte) : State :=
  (List.range 12).foldl (fun s k => s.setWord 0 Reg.SKN_DIGEST (BitVec.ofNat 32 (numAt b (4 * k) 4)) k) s

/-- The registers and contracts that a patch sets, without arming. -/
def State.patchRecords (s : State) (l : List Section) : State :=
  let s := (registerRecords l).foldl (fun s x => State.applyRecord s (s.patchMask x.addr) x) s
  let mirror := fun (r : List Byte) (q : Nat × Entry) =>
    if q.2.mirrorOf = some (strandIndex r) then (q.1, q.2.takeContract r) else q
  (strandRecords l).foldl (fun s (p : Nat × List Byte) =>
    ((List.range s.part.dies).foldl (fun s d => s.modDie d fun x => { x with ledger := x.ledger.map (mirror p.2) }) s).modEntry
      (strandIndex p.2) fun e => e.takeContract p.2) s

/-- Every check of a patch (02 R61): its sections, or what fails. -/
def State.checkPatch (s : State) (b : List Byte) : Except Flaw (List Section) :=
  match headerFlaw s.part.dies 1 b with
  | some f => .error f
  | none =>
    if !signedOk s.boot.fuses b then .error ⟨6, 0, imgLength b - 96⟩
    else if imgBase b ≠ s.digest then .error ⟨0x11, 0, 32⟩
    else
      match imageSections b with
      | .error f => .error f
      | .ok l =>
        let rs := registerRecords l
        let bad := (l.find? fun x => notInPatch.contains x.type).map fun x => (⟨0x12, x.type, x.off⟩ : Flaw)
        let record := (rs.find? fun x => !s.recordOk x).map fun x => (⟨0xC, x.type, x.off⟩ : Flaw)
        let grant := (rs.find? fun x => s.patchMask x.addr == 0).map fun x => (⟨0x12, x.type, x.off⟩ : Flaw)
        let strand := ((strandRecords l).find? fun p => !s.patchStrandOk p.2).map fun p => (⟨0x12, 8, p.1⟩ : Flaw)
        let s' := s.patchRecords l
        let order := ((strandRecords l).find? fun p =>
          !(((s'.entry? (strandIndex p.2)).map (·.ratesOk)).getD true)).map fun p => (⟨0xC, 8, p.1⟩ : Flaw)
        match (lowestFlaw [bad, record, grant, strand]).or ((s'.rangeFlaw rs).or order) with
        | some f => .error f
        | none => .ok l

/-- The outputs of a die whose gate list a patch changes. -/
def gateOutputs (rs : List Record) (d : Nat) : List Nat :=
  (List.range 19).filter fun o => rs.any fun x =>
    let off := x.addr % 0x1000000
    x.addr / 0x1000000 == d && gateRegister off &&
    (if 0x144000 ≤ off then (off - 0x144000) / 0x800 else (off - 0x140000) / 0x200) == o

/-- The first cycle start of a list at or after a time (07 R204). -/
def Gcl.nextStart (g : Gcl) (t : Nat) : Nat := if g.phase t = 0 then t else t + (ns g.cycle - g.phase t)

/-- A gate list that a patch changes is armed: the running one stays in force until T_s (07 R204). -/
def State.armGates (s old : State) (rs : List Record) : State :=
  (List.range s.part.dies).foldl (fun s d => (gateOutputs rs d).foldl (fun s o =>
    if s.flag d F.SCH_OUT_GCL_CTL_GATE_EN o then
      let g := (old.gcl d o).1
      let t := g.nextStart (max s.now (s.gclRegs d o).base)
      (s.modDie d fun x => { x with oldGcl := Table.put x.oldGcl o ⟨g.entries, g.cycle, g.base, t⟩ }).set d
        F.SCH_OUT_GCL_CTL_CHANGE_ARMED 1 o
    else s) s) s

/-- SKN_SECTION_SKIPPED for each skippable section (02 R43, R59). -/
def State.tellSkipped (s : State) (l : List Section) : State :=
  l.foldl (fun s x => if 0x8000 ≤ x.type then s.raise 0 0 0x027 0 [(2, x.type), (2, 0), (4, x.payload.length)] else s) s

/-- A checked patch takes effect (02 R59 to R61): records, the running digest, the copy kept; its gate lists are armed where the package
runs already. -/
def State.takePatch (s : State) (arm : Bool) (b : List Byte) (l : List Section) : State :=
  let s' := s.patchRecords l
  let s' := if arm then s'.armGates s (registerRecords l) else s'
  let s' := s'.setDigest (Config.sha384 (s.digest ++ imgDigest b))
  let s' : State := { s' with skn := { s'.skn with patches := s'.skn.patches ++ [b] } }
  (s'.set 0 F.SKN_STATUS_PATCHES s'.skn.patches.length).tellSkipped l

/-- Records of a patch, as SKN_PATCH_APPLIED counts them (02 Table 2.13). -/
def recordCount (l : List Section) : Nat := (registerRecords l).length + (strandRecords l).length

end Sys2Proof.Machine
end

