-- ==== Sys2Proof/Machine/Splice.lean ====
section
/-! DEFINITION. Splices (01 R19 to R21) and the clocks of running islands (01 R24, R25). -/

namespace Sys2Proof.Machine

/-- A splice port that the variant uses. -/
def State.spliceHere (s : State) (d p : Nat) : Bool := decide (p < (s.faces d).length)

/-- The far end of a splice: its die and port. -/
def State.spliceFar (s : State) (d p : Nat) : Nat × Nat :=
  let n := (s.faces d).getD p 0
  (n, (s.portTo n d).getD 0)

/-- Both ends of a splice start or stop carrying traffic. -/
def State.setSplice (s : State) (d p : Nat) (up : Bool) : State :=
  let far := s.spliceFar d p
  (s.set d F.GLB_SPLICE_STATUS_UP (b2n up) p).set far.1 F.GLB_SPLICE_STATUS_UP (b2n up) far.2

/-- SPLICE_REPLAY (01 R21): the link layer replays a flit; both directions lose nothing. -/
def execSpliceReplay (a : At) (port : Nat) (s : State) : Out :=
  onIsland a (14 + port) (s.spliceHere a.die port) s fun s => s.bump a.die F.GLB_SPLICE_STATUS_REPLAY_COUNT 1 port

/-- The segments in a splice's replay buffers are lost, their strands' units with them; the answer counts them. -/
def State.dropCrossing (s : State) (d p : Nat) : State × Nat :=
  let far := s.spliceFar d p
  let gone := ((s.die d).inbound.filter fun c => c.port == p) ++ (s.die far.1).inbound.filter fun c => c.port == far.2
  let s := s.modDie d fun x => { x with inbound := x.inbound.filter fun c => c.port != p }
  let s := s.modDie far.1 fun x => { x with inbound := x.inbound.filter fun c => c.port != far.2 }
  (gone.foldl (fun s c => ((s.releaseSeg d c.seg).bump (c.unit.idx / 8192 % 8) F.STR_SEQ_GAP_COUNT).abortUnit c.unit.idx 2) s, gone.length)

/-- SPLICE_DOWN (01 R21): the replay buffers are discarded and routes recomputed; FATAL where a die is cut off. -/
def execSpliceDown (a : At) (port : Nat) (s : State) : Out :=
  onIsland a (14 + port) (s.spliceHere a.die port) s fun s =>
    let d := a.die
    if !s.flag d F.GLB_SPLICE_STATUS_UP port then s
    else
      let far := s.spliceFar d port
      let r := s.dropCrossing d port
      let s := ((r.1.setSplice d port false).bump d F.GLB_SPLICE_STATUS_DOWN_COUNT 1 port).bump far.1 F.GLB_SPLICE_STATUS_DOWN_COUNT 1 far.2
      let s := s.reroute
      let cut := s.pkg.diesCut != 0
      s.raise d (14 + port) 0x012 (if cut then 4 else 2) [(1, far.1), (1, b2n (!cut)), (2, 0), (4, r.2)]

/-- A route that has come back takes segments that waited for one. -/
def State.resend (s : State) : State :=
  (List.range s.part.dies).foldl (fun s d =>
    let wait := (s.die d).inbound.filter fun c => c.port == 255
    let s := s.modDie d fun x => { x with inbound := x.inbound.filter fun c => c.port != 255 }
    wait.foldl (fun s c => s.sendAcross d c) s) s

/-- SPLICE_UP (01 R21). -/
def execSpliceUp (a : At) (port : Nat) (s : State) : Out :=
  onIsland a (14 + port) (s.spliceHere a.die port) s fun s =>
    let d := a.die
    if s.flag d F.GLB_SPLICE_STATUS_UP port then s
    else (((s.setSplice d port true).reroute).resend).raise d (14 + port) 0x013 1 [(1, (s.spliceFar d port).1)]

/-! The clock of a running island (01 R25). -/

/-- CLK_OK of an island. -/
def State.setClk (s : State) (d isl : Nat) (ok : Bool) : State :=
  s.modIslands d fun i => { i with ok := if ok then setBit i.ok isl else clearBit i.ok isl }

/-- CLK_ISLAND_FAULT (01 R25): the period of a running island leaves its window; kind 0 too slow, 1 too fast, 2 no edges. -/
def execClkIslandFault (a : At) (isl kind : Nat) (s : State) : Out :=
  onIsland a isl (isl < 44 && kind < 3) s fun s =>
    let d := a.die
    let s := (s.setClk d isl false).modIslands d fun i => { i with faultAt := Table.put i.faultAt isl s.ts }
    let r := if isl < 32 then Reg.CLK_ISLAND_FAULT_LO else Reg.CLK_ISLAND_FAULT_HI
    (s.setWord d r (s.word d r ||| BitVec.ofNat 32 (2 ^ (isl % 32)))).raise d isl 0x010 3 [(1, isl), (1, kind)]

/-- CLK_ISLAND_RESTORED (01 R25): the island resumes from its held state. -/
def clkIslandRestored (a : At) (isl : Nat) (s : State) : Out :=
  onUnit a (bonded a.die isl) s fun s =>
    let d := a.die
    match Table.find? (s.islands d).faultAt isl with
    | some ts =>
      if s.clock.stopped || bit (s.islands d).off isl then s
      else
        ((s.setClk d isl true).modIslands d fun i => { i with faultAt := Table.del i.faultAt isl }).raise d isl 0x011 1
          [(1, isl), (3, 0), (8, ts)]
    | none => s

end Sys2Proof.Machine
end

