-- ==== Sys2Proof/Machine/Usb.lean ====
section
/-! DEFINITION. USB (14): the upstream port and its hub, embedded functions, transactions and control transfers, power management and
remote wake, USB strands and the relay hosts. -/

namespace Sys2Proof.Machine

/-! The state. -/

/-- The USB state of a die changed. -/
def State.modUsb (s : State) (d : Nat) (f : Usb → Usb) : State := s.modDie d fun x => { x with usb := f x.usb }

/-- An embedded function (0 to 3) or the hub (4). -/
def State.usbFn (s : State) (d u : Nat) : UsbFn := Table.look (s.die d).usb.fns u {}
def State.modFn (s : State) (d u : Nat) (f : UsbFn → UsbFn) : State :=
  s.modUsb d fun x => { x with fns := Table.upd x.fns u {} f }

/-- The slot of a virtual function that holds embedded function u of a die (14 R375). -/
def State.usbOwner (s : State) (d u : Nat) : Nat :=
  ((List.find? (fun (p : Nat × Slot) => homeDie p.1 == d && p.2.st != 0 && bit p.2.carve.usb u) s.vfn.slots).map (·.1)).getD 0

/-- The function is in HELD (13 Table 13.4). -/
def State.usbHeld (s : State) (d u : Nat) : Bool := bit (s.slot (s.usbOwner d u)).heldUsb u && s.usbOwner d u != 0

/-- An event of an embedded function (14 R395). -/
def State.raiseUsb (s : State) (d u code sev : Nat) (fields : List (Nat × Nat)) : State :=
  s.raiseOwned (s.usbOwner d u) d 27 code sev fields

/-- DEV_STATE and what it implies. -/
def State.devState (s : State) (d u : Nat) : Nat := s.get d F.USB_FN_STATE_DEV_STATE u
def State.setDev (s : State) (d u st : Nat) : State := s.set d F.USB_FN_STATE_DEV_STATE st u
def State.attached (s : State) (d u : Nat) : Bool := s.flag d F.USB_FN_CTL_ATTACH u && s.devState d u != 0

/-- The upstream port: speed (3 is SuperSpeed) and link. -/
def State.ufpSpeed (s : State) (d : Nat) : Nat := s.get d F.USB_UFP_STATUS_SPEED
def State.ufpLink (s : State) (d : Nat) : Nat := s.get d F.USB_UFP_STATUS_LINK

/-- USB_UFP_STATE (14 Table 14.11). -/
def State.ufpEvent (s : State) (d : Nat) : State :=
  s.raise d 27 0xA01 1 [(1, s.ufpSpeed d), (1, s.ufpLink d),
    (1, b2n (s.flag d F.USB_UFP_CTL_USB_CONNECT && s.flag d F.USB_UFP_STATUS_VBUS))]

/-- A descriptor record of the running image. -/
def State.usbRecord (s : State) (u kind index lang : Nat) : Option (List Byte) :=
  (s.skn.usb.find? fun r => r.target == u && r.kind == kind && r.index == index && (kind != 4 || r.lang == lang)).map (·.bytes)

/-- Endpoint descriptors of a configuration set: address and wMaxPacketSize. -/
def endpointsOf (b : List Byte) : Nat → List (Nat × Nat)
  | 0 => []
  | n + 1 =>
    let len := byteAt b 0
    if len < 2 then []
    else
      let rest := endpointsOf (b.drop len) n
      if byteAt b 1 = 5 then (byteAt b 2, numAt b 4 2 % 2048) :: rest else rest

/-- The slots of HID_RELAY that hold a source, lowest first. -/
def State.hidSlots (s : State) (d : Nat) : List (Nat × HidSource) := (s.usbFn d 1).sources

/-- The configuration that the VX7 builds for HID_RELAY (14 R391): a HID interface for each attached source. -/
def State.hidConfig (s : State) (d : Nat) : List Byte :=
  let body := (s.hidSlots d).zipIdx.flatMap fun (p : (Nat × HidSource) × Nat) =>
    leBytes 9 (9 + 4 * 256 + p.2 * 2 ^ 16 + 1 * 2 ^ 32 + 3 * 2 ^ 40) ++
    ([9, 0x21, 0x11, 0x01, 0, 1, 0x22] ++ leBytes 2 p.1.2.desc.length) ++
    ([7, 5] ++ leBytes 1 (0x80 + p.1.1 + 1) ++ [3] ++ leBytes 2 64 ++ leBytes 1 p.1.2.interval)
  [9, 2] ++ leBytes 2 (9 + body.length) ++ leBytes 1 (s.hidSlots d).length ++ [1, 0, 0xA0, 0] ++ body

/-- The configuration set of a function at the speed of the port. -/
def State.usbConfig (s : State) (d u : Nat) (ss : Bool) : Option (List Byte) :=
  if u = 1 then some (s.hidConfig d) else s.usbRecord u (if ss then 3 else 2) 0 0

/-- The VX7 presents the function at SuperSpeed: terminations allowed, and a configuration set (BOS for HID_RELAY) given. -/
def State.usbSuper (s : State) (d u : Nat) : Bool :=
  s.flag d F.USB_UFP_CTL_SS_EN && (s.usbRecord u (if u = 1 then 5 else 3) 0 0).isSome

/-! Carves (14 R377, R378). -/

/-- A buffer register: IN or OUT of an endpoint. -/
def epReg (dirIn : Bool) : RegDesc := if dirIn then Reg.USB_FN_EP_IN else Reg.USB_FN_EP_OUT
def State.epField (s : State) (d u e : Nat) (dirIn : Bool) (hi lo : Nat) : Nat := wordGet (s.word d (epReg dirIn) u e) hi lo
def State.epValid (s : State) (d u e : Nat) (dirIn : Bool) : Bool := s.epField d u e dirIn 31 31 == 1
def State.epHalted (s : State) (d u e : Nat) (dirIn : Bool) : Bool := s.epField d u e dirIn 29 29 == 1
def State.setHalted (s : State) (d u e : Nat) (dirIn : Bool) (v : Nat) : State :=
  s.setWord d (epReg dirIn) (wordSet (s.word d (epReg dirIn) u e) 29 29 v) u e

/-- Packets that a buffer holds. -/
def State.epCap (s : State) (d u e : Nat) (dirIn : Bool) : Nat :=
  if s.epValid d u e dirIn then 1 + s.epField d u e dirIn 30 30 else 0

/-- First unit and units of a carved buffer. -/
def State.epRange (s : State) (d u e : Nat) (dirIn : Bool) : Nat × Nat :=
  (s.epField d u e dirIn 25 16, s.epField d u e dirIn 4 0 * (1 + s.epField d u e dirIn 30 30))

/-- The endpoints a function uses: number, IN, largest wMaxPacketSize. -/
def State.usbEndpoints (s : State) (d u : Nat) : List (Nat × Bool × Nat) :=
  let ep0 := if s.usbSuper d u then 512 else 64
  let of_ := fun (ss : Bool) => ((s.usbConfig d u ss).map fun b => endpointsOf b b.length).getD []
  let all := if u = 1 then of_ false else of_ false ++ (if s.usbSuper d u then of_ true else [])
  (0, true, ep0) :: (0, false, ep0) :: all.map fun p => (p.1 % 16, decide (128 ≤ p.1), p.2)

/-- Every carved buffer of the attached functions of a die but one, and those of that one. -/
def State.usbBuffers (s : State) (d : Nat) (p : Nat → Bool) : List (Nat × Nat × Bool) :=
  (List.range 4).flatMap fun u => if p u then
    ((List.range 5).flatMap fun e => [(u, e, true), (u, e, false)]).filter fun x => s.epValid d x.1 x.2.1 x.2.2
  else []

/-- Why ATTACH is refused, with the endpoint; 0 for not (14 R378). -/
def State.carveError (s : State) (d u : Nat) : Nat × Nat :=
  let eps := s.usbEndpoints d u
  let code := fun (x : Nat × Bool × Nat) => x.1 + (if x.2.1 then 16 else 0)
  let none_ := (s.usbRecord u 1 0 0).isNone ||
    (u != 1 && (s.usbRecord u 2 0 0).isNone && (s.usbRecord u 3 0 0).isNone)
  let mine := s.usbBuffers d (· == u)
  let others := s.usbBuffers d fun w => w != u && s.flag d F.USB_FN_CTL_ATTACH w
  let clash := fun (x y : Nat × Nat × Bool) =>
    let a := s.epRange d x.1 x.2.1 x.2.2
    let b := s.epRange d y.1 y.2.1 y.2.2
    decide (a.1 < b.1 + b.2) && decide (b.1 < a.1 + a.2)
  let dup := mine.find? fun x => (others.any (clash x)) || mine.any fun y => y != x && clash x y
  let past := mine.find? fun x => decide (1024 < (s.epRange d x.1 x.2.1 x.2.2).1 + (s.epRange d x.1 x.2.1 x.2.2).2)
  let at_ := fun (x : Nat × Nat × Bool) => x.2.1 + (if x.2.2 then 16 else 0)
  if none_ then (1, 0)
  else
    match eps.find? fun x => decide (4 < x.1) || !s.epValid d u x.1 x.2.1 with
    | some x => (2, code x)
    | none =>
      match eps.find? fun x =>
          let size := s.epField d u x.1 x.2.1 4 0
          size == 0 || decide (16 < size) || decide (64 * size < x.2.2) with
      | some x => (3, code x)
      | none =>
        match dup, past with
        | some x, _ => (4, at_ x)
        | none, some x => (5, at_ x)
        | none, none => (0, 0)

/-- A write to a carve register: HALT halts; the carve changes only while the function is detached (14 R378, R381). -/
def State.writeEp (s : State) (d u e : Nat) (dirIn : Bool) (v : Word) : State :=
  let r := epReg dirIn
  let old := s.word d r u e
  let mask := fieldMask 31 30 ||| fieldMask 25 16 ||| fieldMask 4 0
  let s := if wordGet v 28 28 = 1 then s.setHalted d u e dirIn 1 else s
  if !s.flag d F.USB_FN_CTL_ATTACH u then s.setWord d r ((s.word d r u e &&& ~~~ mask) ||| (v &&& mask)) u e
  else if (old ^^^ v) &&& mask = 0 then s
  else
    (s.bump d F.USB_CARVE_IGNORED_COUNT 1 u).raiseLimited d 0xA07 u (ms 1000) fun n s =>
      s.raiseUsb d u 0xA07 1 [(1, u), (3, 0), (4, n)]

/-! Packets and strands. -/

/-- Largest packet of an endpoint at the port's speed. -/
def State.maxPacket (s : State) (d u e : Nat) : Nat :=
  let sp := s.ufpSpeed d
  if e = 0 then (if sp = 3 then 512 else 64)
  else if u = 1 then 64
  else if sp = 3 then 1024 else if sp = 2 then 512 else 64

/-- Packets waiting on an endpoint. -/
def State.inPackets (s : State) (d u e : Nat) : List (List Byte) := Table.look (s.usbFn d u).ins e []
def State.outPackets (s : State) (d u e : Nat) : List (List Byte) := Table.look (s.usbFn d u).outs e []

/-- A message as one bulk IN transfer, which ends with a short or zero-length packet (14 R390). -/
def transferPackets (size : Nat) (b : List Byte) : Nat → List (List Byte)
  | 0 => [b]
  | n + 1 => if b.length < size then [b] else b.take size :: transferPackets size (b.drop size) n

/-- An ERDY owed to the host is sent (14 R380). -/
def State.payErdy (s : State) (d u key : Nat) : State :=
  if (s.usbFn d u).owed.contains key then
    (s.modFn d u fun f => { f with owed := f.owed.filter (· != key) }).emit (.usb d u (key % 16) 4 [])
  else s

/-- Packets of a message move into the endpoint's buffer as there is room. -/
def State.stageIn (s : State) (d u e : Nat) : State :=
  let f := s.usbFn d u
  let have_ := (Table.look f.ins e []).length
  let stage := Table.look f.stage e []
  let room := s.epCap d u e true - have_
  if stage.isEmpty ∨ room = 0 then s
  else
    let s := s.modFn d u fun f => { f with
      ins := Table.upd f.ins e [] fun l => l ++ stage.take room, stage := Table.put f.stage e (stage.drop room) }
    s.payErdy d u (e + 16)

/-- Data for the host on an endpoint: whole packets of one transfer; `false` while an earlier one still waits. -/
def State.offerIn (s : State) (d u e : Nat) (packets : List (List Byte)) : State × Bool :=
  let f := s.usbFn d u
  if !(Table.look f.stage e []).isEmpty || decide (s.epCap d u e true ≤ (Table.look f.ins e []).length) then (s, false)
  else
    let s := s.modFn d u fun f => { f with stage := Table.put f.stage e packets }
    (s.stageIn d u e, true)

/-- The package Ledger index that a strand field names: an entry number of its carve for a virtual function's (14 Table 14.9). -/
def State.usbStrand (s : State) (d u : Nat) (out : Bool) : Option Nat :=
  let v := if out then s.get d F.USB_FN_STRAND_STRAND_OUT u else s.get d F.USB_FN_STRAND_STRAND_IN u
  let f := s.usbOwner d u
  if f = 0 then some v else ((s.slot f).carve.entries[v]?).map fun n => 8192 * homeDie f + n

/-- A strand message (14 Table 14.6). -/
def usbMessage (type slot vid pid : Nat) (b : List Byte) : List Byte :=
  leBytes 1 type ++ leBytes 1 slot ++ leBytes 2 b.length ++ leBytes 2 vid ++ leBytes 2 pid ++ b

/-- Buffered OUT packets of CONSOLE leave on its strand while the strand takes them (14 R390). -/
def State.drainConsole (s : State) (d : Nat) : Nat → State
  | 0 => s
  | n + 1 =>
    match s.outPackets d 0 1, s.usbStrand d 0 true with
    | p :: rest, some idx =>
      if s.wouldTake idx then
        let s := s.modFn d 0 fun f => { f with outs := Table.put f.outs 1 rest }
        State.drainConsole ((s.offerFrame idx (usbMessage 5 0 0 0 p)).payErdy d 0 1) d n
      else s
    | _, _ => s

/-! SLIP on MGMT_ACM (14 R392; RFC 1055). -/

/-- One byte taken in. -/
def UsbFn.slipByte (f : UsbFn) (b : Byte) : UsbFn :=
  if b = 0xC0 then
    (if f.slip.isEmpty ∧ f.overrun = false then { f with escaped := false }
     else { f with slip := [], escaped := false, overrun := false,
                   msgs := if f.overrun ∨ f.dtr = false then f.msgs else f.msgs ++ [f.slip] })
  else
    let put := fun (x : Byte) => if 1048 ≤ f.slip.length then { f with overrun := true, escaped := false }
      else { f with slip := f.slip ++ [x], escaped := false }
    if f.escaped then put (if b = 0xDC then 0xC0 else if b = 0xDD then 0xDB else b)
    else if b = 0xDB then { f with escaped := true }
    else put b

/-- A message framed for the host. -/
def slipFrame (b : List Byte) : List Byte :=
  (b.flatMap fun x => if x = 0xC0 then [0xDB, 0xDC] else if x = 0xDB then [0xDB, 0xDD] else [x]) ++ [0xC0]

/-- Messages that end badly on MGMT_ACM: counted, and the event at most once a second (14 R389, R392). -/
def State.routeError (s : State) (d u type : Nat) : State :=
  (s.bump d F.USB_FN_ROUTE_ERR_COUNT 1 u).raiseLimited d 0xA0A u (ms 1000) fun n s =>
    s.raiseUsb d u 0xA0A 2 [(1, u), (1, type), (2, 0), (4, n)]

/-- OUT bytes of MGMT_ACM's data endpoint. -/
def State.acmBytes (s : State) (d : Nat) (l : List Byte) : State :=
  l.foldl (fun s b =>
    let f := s.usbFn d 2
    let g := f.slipByte b
    let lost := b == 0xC0 && (f.overrun || (!f.slip.isEmpty && !f.dtr))
    let s := s.modFn d 2 fun _ => g
    if lost then s.routeError d 2 0 else s) s

/-! Wake reasons (14 R386). -/

/-- A function (or the hub, 4) gains a wake reason. -/
def State.wakeReason (s : State) (d u : Nat) : State :=
  if u = 4 then s.modUsb d fun x => { x with hubPending := true } else s.set d F.USB_FN_STATE_WAKE_PENDING 1 u

/-- The reason is delivered. -/
def State.wakeTaken (s : State) (d u : Nat) : State :=
  if u = 4 then s.modUsb d fun x => { x with hubPending := false } else s.set d F.USB_FN_STATE_WAKE_PENDING 0 u

/-- A reason is pending, and the host has enabled its signalling. -/
def State.wakeMaySignal (s : State) (d u : Nat) : Bool :=
  (s.die d).usb.hubWake &&
  (if u = 4 then (s.die d).usb.hubPending
   else s.flag d F.USB_FN_STATE_WAKE_PENDING u && s.flag d F.USB_FN_STATE_REMOTE_WAKE_EN u)

/-! Attach, detach and resets (14 R375, R379, R385). -/

/-- Bytes that a function has buffered. -/
def UsbFn.buffered (f : UsbFn) : Nat :=
  let count := fun (t : Table (List (List Byte))) => t.foldl (fun n p => n + p.2.foldl (fun n x => n + x.length) 0) 0
  count f.ins + count f.outs + count f.stage

/-- What a function keeps through a reset: its sources, line coding; everything buffered is gone. -/
def UsbFn.cleared (f : UsbFn) : UsbFn :=
  { sources := f.sources, lineCoding := f.lineCoding, reattachAt := f.reattachAt, before := 0, waiting := f.waiting }

/-- Every halt of a function cleared. -/
def State.clearHalts (s : State) (d u : Nat) : State :=
  (List.range 5).foldl (fun s e => (s.setHalted d u e true 0).setHalted d u e false 0) s

/-- A reset of a function (14 R385): 1 bus reset, 2 its owner's function reset, 3 detach. -/
def State.resetUsbFn (s : State) (d u cause st : Nat) : State :=
  let f := s.usbFn d u
  let n := f.buffered
  let stage := (f.ctl.map (·.stage)).getD 0
  let req := (f.ctl.map fun c => byteAt c.setup 1).getD 0
  let s := (s.clearHalts d u).modFn d u fun f => f.cleared
  let s := s.bump d F.USB_FN_RESET_DISCARD_COUNT n u
  let s := s.setWord d Reg.USB_FN_STATE (BitVec.ofNat 32 (st * 2 ^ 29)) u
  s.raiseUsb d u 0xA02 1 [(1, u), (1, cause), (1, stage), (1, req), (4, n)]

/-- An embedded function begins to report a connection: powered while the upstream port is connected. -/
def State.attachFn (s : State) (d u : Nat) : State :=
  (s.setDev d u 1).modFn d u fun f => { f with reattachAt := none }

/-- The function disappears as a cable pull would make it, and attaches again later where `again` says so. -/
def State.detachFn (s : State) (d u : Nat) (again : Option Nat) : State :=
  (s.resetUsbFn d u 3 0).modFn d u fun f => { f with reattachAt := again }

/-- A write of USB_FNu_CTL (14 R378). -/
def State.writeFnCtl (s : State) (d u : Nat) (v : Word) : State :=
  let on := s.flag d F.USB_FN_CTL_ATTACH u
  if wordGet v 31 31 = 1 then
    if on then s
    else
      let err := s.carveError d u
      let s := s.set d F.USB_FN_CTL_CARVE_ERR err.1 u
      if err.1 = 0 then (s.set d F.USB_FN_CTL_ATTACH 1 u).attachFn d u
      else s.raiseUsb d u 0xA06 2 [(1, u), (1, err.1), (1, err.2)]
  else if on then (s.set d F.USB_FN_CTL_ATTACH 0 u).detachFn d u none
  else s

/-- A write of USB_FNu_STRAND, taken only while the function is detached (14 R389). -/
def State.writeFnStrand (s : State) (d u : Nat) (v : Word) : State :=
  if s.flag d F.USB_FN_CTL_ATTACH u then s else s.setWord d Reg.USB_FN_STRAND v u

/-- The upstream port is no longer connected: no speed, no link, functions back to powered. -/
def State.ufpGone (s : State) (d : Nat) : State :=
  let s := (s.set d F.USB_UFP_STATUS_SPEED 0).set d F.USB_UFP_STATUS_LINK 5
  let s := s.modUsb d fun x => { x with wake := none, hubWake := false, u1 := false, u2 := false }
  (List.range 4).foldl (fun s u => if s.attached d u then
    (s.setWord d Reg.USB_FN_STATE (BitVec.ofNat 32 (2 ^ 29)) u).modFn d u fun f => { f with ctl := none } else s) s

/-- A write of USB_UFP_CTL (14 R379). -/
def State.writeUfpCtl (s : State) (d : Nat) (v : Word) : State :=
  let was := s.flag d F.USB_UFP_CTL_USB_CONNECT
  let s := (s.writeSkn d Reg.USB_UFP_CTL v).set d F.USB_UFP_CTL_USB_CONNECT (wordGet v 31 31)
  let now := wordGet v 31 31 == 1
  if was = now then s
  else
    let s := s.emit (.usbPullup d now)
    if now then (s.set d F.USB_UFP_STATUS_LINK 5).ufpEvent d else (s.ufpGone d).ufpEvent d

/-- A row of the UFP or of a function. -/
def onUsb (a : At) (ok : Bool) (s : State) (f : State → State) : Out := onIsland a 27 ok s f

/-- USB_CONNECT (14 R379). -/
def execUsbConnect (a : At) (q : Req) (v : Word) (s : State) : Out :=
  onWrite a q 0x260000 v true s fun s => s.writeUfpCtl a.die v

/-- USB_ATTACH (14 R378). -/
def execUsbAttach (a : At) (q : Req) (u : Nat) (v : Word) (s : State) : Out :=
  onWrite a q (0x261000 + 0x800 * u) v (u < 4 && wordGet v 31 31 == 1) s fun s => s.writeFnCtl a.die u v

/-- USB_DETACH (14 R378). -/
def execUsbDetach (a : At) (q : Req) (u : Nat) (v : Word) (s : State) : Out :=
  onWrite a q (0x261000 + 0x800 * u) v (u < 4 && wordGet v 31 31 == 0) s fun s => s.writeFnCtl a.die u v

/-- USB_EP_HALT (14 R381). -/
def execUsbEpHalt (a : At) (q : Req) (u e : Nat) (dirIn : Bool) (v : Word) (s : State) : Out :=
  onWrite a q ((epReg dirIn).off u e) v (u < 4 && e < 5 && wordGet v 28 28 == 1) s fun s => s.writeEp a.die u e dirIn v

/-! Transactions (14 R380, R381, R383). -/

/-- A handshake sent, counted as R380 and R381 say. -/
def State.handshake (s : State) (d u e hs : Nat) : State :=
  let s := if u = 4 then s
    else if hs = 1 then s.bump d F.USB_FN_NYET_COUNT 1 u
    else if hs = 2 then s.bump d F.USB_FN_NAK_COUNT 1 u
    else if hs = 5 then s.bump d F.USB_FN_STALL_SENT_COUNT 1 u
    else s
  s.emit (.usb d u e hs [])

/-- The endpoint's toggle or sequence number moves on. -/
def State.toggleEp (s : State) (d u key : Nat) : State :=
  s.modFn d u fun f => { f with toggles := Table.put f.toggles key ((Table.look f.toggles key 0 + 1) % 32) }

/-- No data or no room: NAK, or NRDY with an ERDY owed at SuperSpeed. -/
def State.notReady (s : State) (d u e key : Nat) : State :=
  if s.ufpSpeed d = 3 then
    (s.modFn d u fun f => { f with owed := if f.owed.contains key then f.owed else f.owed ++ [key] }).handshake d u e 3
  else s.handshake d u e 2

/-- Endpoint 0 in its data stage: an IN gives the next part, an OUT takes data up to wLength. -/
def State.controlData (s : State) (d u : Nat) (dirIn : Bool) (data : List Byte) : State :=
  match (s.usbFn d u).ctl with
  | none => s.notReady d u 0 (if dirIn then 16 else 0)
  | some c =>
    let want := numAt c.setup 6 2
    if c.stall then s.handshake d u 0 5
    else if dirIn then
      let n := s.maxPacket d u 0
      let rest := c.data.drop n
      let more := c.data.length == n && decide (n < want)
      let c' : UsbCtl := { c with data := rest, stage := if rest.isEmpty && !more then 2 else 1 }
      ((s.modFn d u fun f => { f with ctl := some c' }).toggleEp d u 16).emit (.usb d u 0 6 (c.data.take n))
    else if want < c.data.length + data.length then
      (s.modFn d u fun f => { f with ctl := some { c with stall := true } }).handshake d u 0 5
    else
      let all := c.data ++ data
      ((s.modFn d u fun f => { f with ctl := some { c with data := all, stage := if all.length = want then 2 else 1 } }).toggleEp d u
        0).handshake d u 0 0

/-- OUT data on a bulk endpoint of CONSOLE or MGMT_ACM. -/
def State.bulkOut (s : State) (d u e : Nat) (data : List Byte) : State :=
  let s := if u = 0 then s.drainConsole d 4 else s
  let cap := s.epCap d u e false
  if cap ≤ (s.outPackets d u e).length then s.notReady d u e e
  else
    let s := (s.modFn d u fun f => { f with outs := Table.upd f.outs e [] fun l => l ++ [data] }).toggleEp d u e
    let s := if u = 0 then s.drainConsole d 4
      else (s.acmBytes d data).modFn d u fun f => { f with outs := Table.put f.outs e [] }
    let full := decide (cap ≤ (s.outPackets d u e).length)
    s.handshake d u e (if full && s.ufpSpeed d != 3 then 1 else 0)

/-- An IN transaction: the oldest packet, whose answer delivers a pending wake reason. -/
def State.dataIn (s : State) (d u e : Nat) : State :=
  match s.inPackets d u e with
  | [] => s.notReady d u e (e + 16)
  | p :: rest =>
    let s := (s.modFn d u fun f => { f with ins := Table.put f.ins e rest }).toggleEp d u (e + 16)
    ((s.wakeTaken d u).emit (.usb d u e 6 p)).stageIn d u e

/-- A transaction to an endpoint: 0 OUT data, 1 IN, 2 PING, 3 OUT data with a bad CRC. Messages that MGMT_ACM completes wait in `msgs`. -/
def State.usbTransaction (s : State) (d u e kind : Nat) (data : List Byte) : State :=
  let s := s.modUsb d fun x => { x with activeAt := s.now }
  let s := if kind = 0 ∨ (kind = 1 ∧ !(s.inPackets d u e).isEmpty) then s.activity else s
  let dirIn := kind == 1
  let live := u == 4 || (s.attached d u && decide (2 ≤ s.devState d u))
  if !live ∨ kind = 3 ∨ (u = 4 ∧ e ≠ 0) then s
  else if u ≠ 4 ∧ s.epHalted d u e dirIn then s.handshake d u e 5
  else if e = 0 then (if kind = 2 then s.handshake d u 0 0 else s.controlData d u dirIn data)
  else if kind = 2 then
    s.handshake d u e (if (s.outPackets d u e).length < s.epCap d u e false then 0 else 2)
  else if dirIn then s.dataIn d u e
  else s.bulkOut d u e data

/-! Control requests (14 R381 to R384, Table 14.4). -/

/-- The journal copies that GET_JOURNAL returns (14 R393). -/
def State.journalCopies (s : State) (from_ n : Nat) : List Byte :=
  (List.range n).flatMap fun i => Table.look s.evt.journal ((from_ + i) % 4096) (List.replicate 32 0)

/-- The descriptor that GET_DESCRIPTOR names. -/
def State.descriptor (s : State) (d u type index lang : Nat) : Option (List Byte) :=
  match type with
  | 1 => s.usbRecord u 1 0 0
  | 2 => if u = 4 then none else s.usbConfig d u (s.ufpSpeed d == 3)
  | 3 => s.usbRecord u 4 index lang
  | 15 => s.usbRecord u 5 0 0
  | 0x22 => if u = 1 then ((s.hidSlots d)[lang]?).map (·.2.desc) else none
  | _ => none

/-- A request with an IN data stage: what it returns, or nothing where it is stalled. -/
def State.controlIn (s : State) (d u : Nat) (setup : List Byte) : Option (List Byte) :=
  let rt := byteAt setup 0
  let rq := byteAt setup 1
  let value := numAt setup 2 2
  let index := numAt setup 4 2
  let len := numAt setup 6 2
  let hid := ((s.hidSlots d)[index]?).map (·.2)
  if rt % 128 / 32 = 0 then
    (match rq with
     | 0 => some (if rt % 32 = 2 then leBytes 2 (b2n (s.epHalted d u (index % 16) (decide (128 ≤ index))))
              else leBytes 2 (2 * b2n (s.flag d F.USB_FN_STATE_REMOTE_WAKE_EN u && u != 4)))
     | 6 => s.descriptor d u (value / 256) (value % 256) index
     | 8 => some (leBytes 1 (if u = 4 then 1 else s.get d F.USB_FN_STATE_CONFIG u))
     | 10 => some [0]
     | _ => none)
  else if rt = 0xA1 ∧ u = 1 then
    (match rq with
     | 1 => if value / 256 = 1 ∧ 1 ≤ len ∧ len ≤ 64 then hid.map (·.report) else none
     | 2 => hid.map fun h => leBytes 1 h.idle
     | 3 => hid.map fun h => leBytes 1 h.protocol
     | _ => none)
  else if rt = 0xA1 ∧ u = 2 then (if rq = 0x21 ∧ len = 7 then some (s.usbFn d 2).lineCoding else none)
  else if rt = 0xC0 ∧ u = 3 then
    (if rq = 1 ∧ 32 ≤ len ∧ len ≤ 1024 ∧ len % 32 = 0 then some (s.journalCopies value (len / 32)) else none)
  else if rt = 0xA0 ∧ u = 4 then some (List.replicate 4 0)
  else none

/-- SET_CONFIGURATION names no configuration, or the one that the configuration set describes; the hub's own is 1. -/
def State.configValueOk (s : State) (d u value : Nat) : Bool :=
  value == 0 || value == (if u = 4 then 1 else ((s.usbConfig d u (s.ufpSpeed d == 3)).map (byteAt · 5)).getD 1)

/-- A request with an OUT data stage or none is one the function supports. -/
def State.controlOutOk (s : State) (d u : Nat) (setup : List Byte) : Bool :=
  let rt := byteAt setup 0
  let rq := byteAt setup 1
  let value := numAt setup 2 2
  let len := numAt setup 6 2
  let slot := decide (numAt setup 4 2 < (s.hidSlots d).length)
  if rt % 128 / 32 = 0 then
    rq == 1 || rq == 3 || rq == 5 || (rq == 9 && s.configValueOk d u value) || (rq == 11 && value == 0) || (rq == 0x30 && len == 6) || rq == 0x31
  else if rt = 0x21 ∧ u = 1 then
    slot && ((rq == 9 && value / 256 == 2 && decide (1 ≤ len) && decide (len ≤ 64)) || (rq == 10 && len == 0) || (rq == 11 && len == 0))
  else if rt = 0x21 ∧ u = 2 then (rq == 0x20 && len == 7) || (rq == 0x22 && len == 0)
  else (rt == 0x23 || rt == 0x20) && u == 4 && (rq == 1 || rq == 3)

/-- USB_SETUP_REQUEST (14 R381 to R383): the request starts, or is answered by STALL in its data or status stage. `u` 4 is the hub. -/
def execUsbSetupRequest (a : At) (u : Nat) (setup : List Byte) (s : State) : Out :=
  onUsb a (u < 5 && setup.length == 8) s fun s =>
    let d := a.die
    if u ≠ 4 ∧ (s.attached d u = false ∨ s.devState d u < 2) then s
    else
      let s := if u = 4 then s else (s.setHalted d u 0 true 0).setHalted d u 0 false 0
      let len := numAt setup 6 2
      let dirIn := decide (128 ≤ byteAt setup 0)
      let ctl : UsbCtl :=
        if dirIn then
          (match s.controlIn d u setup with
           | some b => { setup := setup, data := b.take len, stage := if len = 0 then 2 else 1 }
           | none => { setup := setup, stall := true })
        else if s.controlOutOk d u setup then { setup := setup, stage := if len = 0 then 2 else 1 }
        else { setup := setup, stall := true }
      (s.modFn d u fun f => { f with ctl := some ctl }).emit (.usb d u 0 0 [])

/-- A halt feature of an endpoint. -/
def State.endpointFeature (s : State) (d u index : Nat) (on : Bool) : State :=
  let e := index % 16
  let dirIn := decide (128 ≤ index)
  let s := s.setHalted d u e dirIn (b2n on)
  if on then s else s.modFn d u fun f => { f with toggles := Table.del f.toggles (e + (if dirIn then 16 else 0)) }

/-- SET_FEATURE and CLEAR_FEATURE of a function: endpoint halt, device remote wake, function suspend with its wake enable. -/
def State.functionFeature (s : State) (d u : Nat) (setup : List Byte) (on : Bool) : State :=
  let value := numAt setup 2 2
  let index := numAt setup 4 2
  match byteAt setup 0 % 32 with
  | 2 => if value = 0 then s.endpointFeature d u index on else s
  | 1 => if value = 0 then
      (s.set d F.USB_FN_STATE_REMOTE_WAKE_EN (b2n (on && bit index 9)) u).modFn d u fun f => { f with suspended := on && bit index 8 }
    else s
  | _ => if value = 1 then s.set d F.USB_FN_STATE_REMOTE_WAKE_EN (b2n on) u else s

/-- SET_FEATURE and CLEAR_FEATURE of the hub: remote wake, U1 and U2 of the upstream port; port power and reset of a port. -/
def State.hubFeature (s : State) (d : Nat) (setup : List Byte) (on : Bool) : State :=
  let value := numAt setup 2 2
  let port := numAt setup 4 2 % 256
  if byteAt setup 0 = 0x23 then
    if port = 0 ∨ 8 < port then s
    else if port ≤ 4 then
      (if value = 8 ∧ s.get d F.USB_DFP_CTL_MODE (port - 1) = 1 then
         (s.set d F.USB_DFP_CTL_POWER (b2n on) (port - 1)).emit (.usbPower d (port - 1) on)
       else s)
    else if value = 4 ∧ on ∧ s.attached d (port - 5) then
      ((s.setWord d Reg.USB_FN_STATE (BitVec.ofNat 32 (2 * 2 ^ 29)) (port - 5)).clearHalts d (port - 5)).modFn d (port - 5)
        fun f => { f with ctl := none, toggles := [], suspended := false }
    else s
  else
    match value with
    | 1 => s.modUsb d fun x => { x with hubWake := on }
    | 48 => s.modUsb d fun x => { x with u1 := on }
    | 49 => s.modUsb d fun x => { x with u2 := on }
    | _ => s

/-- A source's slot value changed. -/
def State.modSource (s : State) (d iface : Nat) (f : HidSource → HidSource) : State :=
  match (s.hidSlots d)[iface]? with
  | some (slot, _) => s.modFn d 1 fun x => { x with sources := x.sources.map fun p => if p.1 = slot then (p.1, f p.2) else p }
  | none => s

/-- A SET request of a class takes effect (14 Table 14.4, R391). -/
def State.classSet (s : State) (d u : Nat) (c : UsbCtl) : State :=
  let rq := byteAt c.setup 1
  let value := numAt c.setup 2 2
  let iface := numAt c.setup 4 2
  let slot := (((s.hidSlots d)[iface]?).map (·.1)).getD 0
  let send := fun (s : State) (b : List Byte) => match s.usbStrand d 1 true with
    | some idx => s.offerFrame idx (usbMessage 2 slot 0 0 b)
    | none => s
  if u = 1 then
    (match rq with
     | 9 => send s c.data
     | 10 => s.modSource d iface fun h => { h with idle := value / 256 }
     | _ => send (s.modSource d iface fun h => { h with protocol := value % 256 }) [])
  else if rq = 0x20 then s.modFn d 2 fun f => { f with lineCoding := c.data }
  else
    let dtr := value % 2 == 1
    s.modFn d 2 fun f => if dtr then { f with dtr := true } else { f with dtr := false, slip := [], escaped := false, overrun := false }

/-- USB_STATUS_STAGE_COMPLETE (14 R384): a SET request takes effect. -/
def execUsbStatusStageComplete (a : At) (u : Nat) (s : State) : Out :=
  onUsb a (u < 5) s fun s =>
    let d := a.die
    match (s.usbFn d u).ctl with
    | none => s
    | some c =>
      if c.stall then s.handshake d u 0 5
      else if c.stage ≠ 2 then s
      else
        let s := s.modFn d u fun f => { f with ctl := none }
        let rt := byteAt c.setup 0
        let rq := byteAt c.setup 1
        let value := numAt c.setup 2 2
        if 128 ≤ rt then s
        else if u = 4 then
          (if rq = 3 then s.hubFeature d c.setup true else if rq = 1 then s.hubFeature d c.setup false else s)
        else if rt % 128 / 32 = 0 then
          (match rq with
           | 1 => s.functionFeature d u c.setup false
           | 3 => s.functionFeature d u c.setup true
           | 5 => (s.set d F.USB_FN_STATE_ADDRESS (value % 128) u).setDev d u (if value % 128 = 0 then 2 else 3)
           | 9 => (((s.set d F.USB_FN_STATE_CONFIG (value % 16) u).setDev d u (if value % 256 = 0 then 3 else 4)).clearHalts d u).modFn d u
               fun f => { f with toggles := [] }
           | _ => s)
        else s.classSet d u c

/-! Bus reset (14 R385). -/

/-- USB_BUS_RESET (14 R385): the hub and the embedded functions of the port; `speed` is what the reset's negotiation gives. -/
def execUsbBusReset (a : At) (speed : Nat) (s : State) : Out :=
  onUsb a (1 ≤ speed && speed ≤ 3) s fun s =>
    let d := a.die
    if !s.flag d F.USB_UFP_CTL_USB_CONNECT || !s.flag d F.USB_UFP_STATUS_VBUS then s
    else
      let speed := if speed = 3 ∧ s.flag d F.USB_UFP_CTL_SS_EN = false then 2 else speed
      let s := (s.wrap d F.USB_UFP_STATUS_RESETS).set d F.USB_UFP_STATUS_SPEED speed
      let s := s.set d F.USB_UFP_STATUS_LINK 0
      let s := s.modUsb d fun x => { x with wake := none, hubWake := false, hubPending := false, u1 := false, u2 := false,
                                            signals := 0, activeAt := s.now, fns := Table.del x.fns 4 }
      let s := (List.range 4).foldl (fun s u => if s.attached d u then s.resetUsbFn d u 1 2 else s) s
      let s := (List.range 4).foldl (fun s p =>
        if s.get d F.USB_DFP_CTL_MODE p = 1 ∧ s.flag d F.USB_DFP_CTL_POWER p then
          (s.set d F.USB_DFP_CTL_POWER 0 p).emit (.usbPower d p false)
        else s) s
      s.ufpEvent d

/-- USB_VBUS_CHANGE (14 R372). -/
def execUsbVbusChange (a : At) (up : Bool) (s : State) : Out :=
  onUsb a true s fun s =>
    let d := a.die
    if s.flag d F.USB_UFP_STATUS_VBUS = up then s
    else
      let s := s.set d F.USB_UFP_STATUS_VBUS (b2n up)
      if up then (s.set d F.USB_UFP_STATUS_LINK 5).ufpEvent d else (s.ufpGone d).ufpEvent d

/-! Link power and remote wake (14 R386 to R388). -/

/-- Function states are set aside in suspend and come back on resume. -/
def State.suspendFns (s : State) (d : Nat) (on : Bool) : State :=
  (List.range 4).foldl (fun s u =>
    let st := s.devState d u
    if on then (if 2 ≤ st ∧ st ≤ 4 then (s.modFn d u fun f => { f with before := st }).setDev d u 5 else s)
    else if st = 5 then s.setDev d u (s.usbFn d u).before else s) s

/-- The link takes a state (14 Table 14.8). -/
def State.setLink (s : State) (d st : Nat) : State :=
  let was := s.ufpLink d
  let s := (s.set d F.USB_UFP_STATUS_LINK st).modUsb d fun x => { x with activeAt := s.now, wakeAfter := 0, signals := 0 }
  if st = 3 ∧ was ≠ 3 then (s.suspendFns d true).ufpEvent d
  else if was = 3 ∧ st ≠ 3 then (s.suspendFns d false).ufpEvent d
  else s

/-- USB_LPM_TOKEN (14 R386). -/
def execUsbLpmToken (a : At) (s : State) : Out :=
  onUsb a true s fun s =>
    let d := a.die
    let ready := (List.range 4).any fun u => (s.usbFn d u).ins.any fun p => !p.2.isEmpty
    if s.ufpLink d ≠ 0 ∨ s.ufpSpeed d = 0 ∨ s.ufpSpeed d = 3 then s
    else if s.flag d F.USB_UFP_CTL_LPM_EN && !ready then
      ((s.modUsb d fun x => { x with idleAt := s.now }).setLink d 4).emit (.usbLpm d true)
    else s.emit (.usbLpm d false)

/-- USB_SUSPEND (14 R386): the bus has been idle for 3 ms. -/
def execUsbSuspend (a : At) (s : State) : Out :=
  onUsb a true s fun s =>
    let d := a.die
    if (s.ufpLink d = 0 ∨ s.ufpLink d = 4) ∧ s.ufpSpeed d ≠ 0 ∧ s.ufpSpeed d ≠ 3 then
      (s.modUsb d fun x => { x with idleAt := s.now - ms 3 }).setLink d 3
    else s

/-- USB_U1_INITIATE (14 R386). -/
def execUsbU1Initiate (a : At) (s : State) : Out :=
  onUsb a true s fun s =>
    let d := a.die
    let t := s.get d F.USB_UFP_WAKE_U1_IDLE_US
    if t ≠ 0 ∧ s.ufpSpeed d = 3 ∧ s.ufpLink d = 0 ∧ fallen s ((s.die d).usb.activeAt + us t) then s.setLink d 1 else s

/-- USB_LINK_STATE_REQUEST (14 R386): the host directs U1, U2 or U3. -/
def execUsbLinkStateRequest (a : At) (st : Nat) (s : State) : Out :=
  onUsb a (1 ≤ st && st ≤ 3) s fun s =>
    let d := a.die
    let x := (s.die d).usb
    if s.ufpSpeed d ≠ 3 ∨ s.ufpLink d = 5 then s
    else if st = 3 ∨ (st = 1 ∧ x.u1) ∨ (st = 2 ∧ x.u2) then (s.modUsb d fun x => { x with idleAt := s.now }).setLink d st
    else s

/-- USB_WAKE_REASON (14 R386). -/
def execUsbWakeReason (a : At) (u : Nat) (s : State) : Out :=
  onUsb a (u < 5) s fun s => if u = 4 ∨ s.attached a.die u then s.wakeReason a.die u else s

/-- Where a wake starts from: 1 suspend, 2 L1, 3 U3, 0 nowhere. -/
def State.wakeFrom (s : State) (d : Nat) : Nat :=
  if s.ufpLink d = 4 then 2 else if s.ufpLink d = 3 then (if s.ufpSpeed d = 3 then 3 else 1) else 0

/-- USB_REMOTE_WAKE (14 R387): the drive begins once it is allowed. -/
def execUsbRemoteWake (a : At) (u : Nat) (s : State) : Out :=
  onUsb a (u < 5) s fun s =>
    let d := a.die
    let x := (s.die d).usb
    let from_ := s.wakeFrom d
    if from_ ≠ 0 ∧ x.wake = none ∧ s.wakeMaySignal d u ∧ (from_ ≠ 1 ∨ x.idleAt + ms 5 ≤ s.now) ∧ x.wakeAfter ≤ s.now ∧
        x.signals < s.get d F.USB_UFP_WAKE_WAKE_RETRIES then
      (s.modUsb d fun x => { x with wake := some { u := u, from_ := from_, start := s.now, signals := x.signals + 1 },
                                    signals := x.signals + 1 }).emit (.usbDrive d (if from_ = 3 then 2 else 1))
    else s

/-- A merged wake is reported, and the link is back in L0 or U0; the reason stays pending (14 R387). -/
def State.wakeMerged (s : State) (d u kind : Nat) : State :=
  ((s.setLink d 0).modUsb d fun x => { x with wake := none }).raise d 27 0xA04 1 [(1, u), (1, kind)]

/-- USB_RESUME_RELEASE (14 R387): after 1 ms, or 50 µs from L1, the drive is released. -/
def execUsbResumeRelease (a : At) (s : State) : Out :=
  onUsb a true s fun s =>
    let d := a.die
    match (s.die d).usb.wake with
    | none => s
    | some w =>
      if w.released.isSome ∨ w.from_ = 3 ∨ !fallen s (w.start + (if w.from_ = 2 then us 50 else ms 1)) then s
      else
        let s := s.emit (.usbDrive d 0)
        if w.overlap then s.wakeMerged d w.u 2
        else s.modUsb d fun x => { x with wake := some { w with released := some s.now } }

/-- Which function's reason a resume without a drive meets: the lowest one that would be signalled. -/
def State.wakeWanted (s : State) (d : Nat) : Option Nat := (List.range 5).find? fun u => s.wakeMaySignal d u

/-- USB_HOST_RESUME (14 R387, R388): the host's resume, or its answer to a wake, is seen. -/
def execUsbHostResume (a : At) (s : State) : Out :=
  onUsb a true s fun s =>
    let d := a.die
    if s.wakeFrom d = 0 ∧ s.ufpLink d ≠ 1 ∧ s.ufpLink d ≠ 2 then s
    else
      match (s.die d).usb.wake with
      | none =>
        (match s.wakeFrom d, s.wakeWanted d with
         | _ + 1, some u => s.wakeMerged d u 1
         | _, _ => s.setLink d 0)
      | some w =>
        if s.now < w.start + a.cyc ∧ w.released = none then
          (((s.emit (.usbDrive d 0)).bump d F.USB_NEAR_MISS_COUNT).wakeMerged d w.u 1)
        else if w.from_ = 3 then
          if inTime a s (w.start + ms 10) then
            let s := if nearMiss a s (w.start + ms 10) then s.bump d F.USB_NEAR_MISS_COUNT else s
            ((s.setLink d 0).modUsb d fun x => { x with wake := none }).raise d 27 0xA03 0 [(1, w.u), (1, 3), (1, w.signals)]
          else s.wakeMerged d w.u 3
        else
          match w.released with
          | none => s.modUsb d fun x => { x with wake := some { w with overlap := true } }
          | some t =>
            if inTime a s (t + ms 100) then
              let s := if nearMiss a s (t + ms 100) then s.bump d F.USB_NEAR_MISS_COUNT else s
              ((s.setLink d 0).modUsb d fun x => { x with wake := none }).raise d 27 0xA03 0 [(1, w.u), (1, w.from_), (1, w.signals)]
            else s.wakeMerged d w.u 1

/-- A wake that got no answer: again after a while, or failed once WAKE_RETRIES signals were sent (14 Table 14.5). -/
def State.wakeRetry (s : State) (d : Nat) (w : UsbWake) (after : Nat) : State :=
  let s := s.modUsb d fun x => { x with wake := none, wakeAfter := s.now + after }
  if w.signals < s.get d F.USB_UFP_WAKE_WAKE_RETRIES then s
  else s.raise d 27 0xA05 2 [(1, w.u), (1, w.from_), (1, w.signals)]

/-- USB_WAKE_TIMEOUT (14 Table 14.5): 100 ms from the release of K. -/
def execUsbWakeTimeout (a : At) (s : State) : Out :=
  onUsb a true s fun s =>
    match (s.die a.die).usb.wake with
    | some w =>
      (match w.released with
       | some t => if fallen s (t + ms 100) then s.wakeRetry a.die w (ms 5) else s
       | none => s)
    | none => s

/-- USB_LFPS_TIMEOUT (14 Table 14.5): 10 ms without an answer to the wake of U3. -/
def execUsbLfpsTimeout (a : At) (s : State) : Out :=
  onUsb a true s fun s =>
    match (s.die a.die).usb.wake with
    | some w => if w.from_ = 3 ∧ fallen s (w.start + ms 10) then s.wakeRetry a.die w (ms 100) else s
    | none => s

/-! Downstream ports (14 R374, R391). -/

/-- USB_DFP_PORT (14 Table 14.11): 1 attach, 2 detach, 3 over-current. -/
def State.dfpEvent (s : State) (d p kind vid pid : Nat) : State :=
  s.raise d 28 0xA08 (if kind = 3 then 2 else 1) [(1, p), (1, kind), (1, s.get d F.USB_DFP_STATUS_SPEED p),
    (1, s.get d F.USB_DFP_CTL_MODE p), (2, vid), (2, pid)]

/-- USB_OVERCURRENT (14 R374): over-current for 8 ms. -/
def execUsbOvercurrent (a : At) (p : Nat) (s : State) : Out :=
  onIsland a 28 (p < 4) s fun s =>
    let d := a.die
    if !s.flag d F.USB_DFP_CTL_POWER p then s
    else (((s.set d F.USB_DFP_CTL_POWER 0 p).set d F.USB_DFP_CTL_OVERCURRENT 1 p).emit (.usbPower d p false)).dfpEvent d p 3 0 0

/-- Driver software has cleared OVERCURRENT: a RELAY port is powered again (14 R374). -/
def State.overcurrentCleared (s : State) (d p : Nat) : State :=
  if s.get d F.USB_DFP_CTL_MODE p = 2 then (s.set d F.USB_DFP_CTL_POWER 1 p).emit (.usbPower d p true) else s

/-- A device on a LOCAL port comes or goes. -/
def State.dfpChange (s : State) (d p : Nat) (up : Bool) (speed vid pid : Nat) : State :=
  let s := (s.set d F.USB_DFP_STATUS_CONNECTED (b2n up) p).set d F.USB_DFP_STATUS_SPEED (if up then speed else 0) p
  (s.dfpEvent d p (if up then 1 else 2) vid pid).wakeReason d 4

/-- USB_DFP_CONNECT (14 R374, R386): a device on a LOCAL port comes or goes. -/
def execUsbDfpConnect (a : At) (p : Nat) (up : Bool) (speed vid pid : Nat) (s : State) : Out :=
  onIsland a 28 (p < 4 && speed < 5) s fun s =>
    let d := a.die
    if s.get d F.USB_DFP_CTL_MODE p ≠ 1 ∨ s.flag d F.USB_DFP_CTL_POWER p = false then s else s.dfpChange d p up speed vid pid

/-- The relay host of a port. -/
def State.relay? (s : State) (d p : Nat) : Option Relay := Table.find? (s.die d).usb.relays p

/-- A relay fault (14 Table 14.11). -/
def State.relayFault (s : State) (d p cause : Nat) : State := s.raise d 28 0xA09 2 [(1, p), (1, cause)]

/-- The strand of a relay port, and a message of it. -/
def State.relaySend (s : State) (d p type vid pid : Nat) (b : List Byte) : State :=
  s.offerFrame (s.get d F.USB_DFP_CTL_RELAY_STRAND p) (usbMessage type (s.get d F.USB_DFP_CTL_SLOT p) vid pid b)

/-- A polling period: bInterval in ms at low and full speed, 2^(n − 1) microframes above (USB 2.0). -/
def pollPeriod (speed interval : Nat) : Nat :=
  if speed ≤ 2 then ms (max 1 interval) else us 125 * 2 ^ (min interval 16 - 1)

/-- RELAY_DEVICE_ATTACH (14 R391): the device enumerated; `hid` is the bInterval and the report descriptor of its first usable interface. -/
def execRelayDeviceAttach (a : At) (p speed vid pid : Nat) (hid : Option (Nat × List Byte)) (s : State) : Out :=
  onIsland a 28 (p < 4 && 1 ≤ speed && speed < 5 && vid < 65536 && pid < 65536) s fun s =>
    let d := a.die
    if s.get d F.USB_DFP_CTL_MODE p ≠ 2 ∨ s.flag d F.USB_DFP_CTL_POWER p = false then s
    else
      let s := (s.set d F.USB_DFP_STATUS_CONNECTED 1 p).set d F.USB_DFP_STATUS_SPEED speed p
      let s := s.dfpEvent d p 1 vid pid
      match hid with
      | none => s.relayFault d p 1
      | some (interval, desc) =>
        if 1024 < desc.length then s.relayFault d p 2
        else
          let per := pollPeriod speed interval
          let s := s.modUsb d fun x => { x with relays := Table.put x.relays p { interval := per, pollAt := s.now + per } }
          (s.set d F.USB_DFP_STATUS_RELAY_UP 1 p).relaySend d p 3 vid pid (leBytes 1 interval ++ desc)

/-- A relayed device is gone. -/
def State.relayGone (s : State) (d p : Nat) : State :=
  let was := s.flag d F.USB_DFP_STATUS_RELAY_UP p
  let s := s.dfpEvent d p 2 0 0
  let s := (s.set d F.USB_DFP_STATUS_CONNECTED 0 p).set d F.USB_DFP_STATUS_SPEED 0 p
  let s := (s.set d F.USB_DFP_STATUS_RELAY_UP 0 p).modUsb d fun x => { x with relays := Table.del x.relays p }
  if was then s.relaySend d p 4 0 0 [] else s

/-- RELAY_DEVICE_DETACH (14 R391). -/
def execRelayDeviceDetach (a : At) (p : Nat) (s : State) : Out :=
  onIsland a 28 (p < 4) s fun s =>
    if s.get a.die F.USB_DFP_CTL_MODE p ≠ 2 ∨ s.flag a.die F.USB_DFP_STATUS_CONNECTED p = false then s else s.relayGone a.die p

/-- RELAY_POLL (14 R391): a poll falls due; a report is sent on. -/
def execRelayPoll (a : At) (p : Nat) (report : Option (List Byte)) (s : State) : Out :=
  onIsland a 28 (p < 4 && (report.map (·.length)).getD 0 ≤ 64) s fun s =>
    let d := a.die
    match s.relay? d p with
    | none => s
    | some r =>
      if r.disabled || !fallen s r.pollAt then s
      else
        let s := s.modUsb d fun x => { x with relays := Table.put x.relays p { r with pollAt := s.now + r.interval, errors := 0 } }
        match report with
        | some b => s.relaySend d p 1 0 0 b
        | none => s

/-- RELAY_TXN_TIMEOUT (14 Table 14.5): no response of a relayed device. -/
def execRelayTxnTimeout (a : At) (p : Nat) (s : State) : Out :=
  onIsland a 28 (p < 4) s fun s =>
    let d := a.die
    match s.relay? d p with
    | none => s
    | some r =>
      if r.disabled then s
      else
        let s := s.bump d F.USB_DFP_STATUS_TXN_ERR 1 p
        let off := decide (2 ≤ r.errors)
        let s := s.modUsb d fun x => { x with relays := Table.put x.relays p { r with errors := r.errors + 1, disabled := off } }
        if off then s.relayFault d p 3 else s

/-! Messages from strands (14 R389 to R391). -/

/-- A message obeys Table 14.6. -/
def usbMessageOk (b : List Byte) : Bool :=
  let t := byteAt b 0
  let len := numAt b 2 2
  decide (8 ≤ b.length) && len + 8 == b.length && decide (1 ≤ t) && decide (t ≤ 5) &&
  (if t = 5 then byteAt b 1 == 0 && decide (len ≤ 1025) else decide (byteAt b 1 < 4)) &&
  ((t != 1 && t != 2) || decide (len ≤ 64)) && (t != 3 || (decide (2 ≤ len) && decide (len ≤ 1025))) && (t != 4 || len == 0) &&
  (t == 3 || (numAt b 4 2 == 0 && numAt b 6 2 == 0))

/-- HID_RELAY's set of interfaces changed: it detaches for 100 ms (14 R391). -/
def State.hidRebuild (s : State) (d : Nat) : State :=
  if s.flag d F.USB_FN_CTL_ATTACH 1 then s.detachFn d 1 (some (s.now + ms 100)) else s

/-- A message taken by its function, or `false` while its endpoint has no room. -/
def State.takeUsbMessage (s : State) (d u : Nat) (b : List Byte) : State × Bool :=
  let slot := byteAt b 1
  let body := b.drop 8
  match u, byteAt b 0 with
  | 0, 5 =>
    let r := s.offerIn d 0 1 (transferPackets (s.maxPacket d 0 1) body 32)
    if r.2 then (r.1.wakeReason d 0, true) else r
  | 1, 1 =>
    if (Table.find? (s.usbFn d 1).sources slot).isNone then (s, true)
    else
      let s' := s.modFn d 1 fun f => { f with sources := f.sources.map fun p => if p.1 = slot then (p.1, { p.2 with report := body }) else p }
      let r := s'.offerIn d 1 (slot + 1) [body]
      if r.2 then (r.1.wakeReason d 1, true) else (s, false)
  | 1, 3 =>
    let x : HidSource := { vid := numAt b 4 2, pid := numAt b 6 2, interval := byteAt body 0, desc := body.drop 1 }
    let same := (Table.find? (s.usbFn d 1).sources slot).map fun y => (y.vid, y.pid, y.interval, y.desc)
    if same = some (x.vid, x.pid, x.interval, x.desc) then (s, true)
    else ((s.modFn d 1 fun f => { f with sources := Table.put f.sources slot x }).hidRebuild d, true)
  | 1, 4 =>
    if (Table.find? (s.usbFn d 1).sources slot).isNone then (s, true)
    else ((s.modFn d 1 fun f => { f with sources := Table.del f.sources slot }).hidRebuild d, true)
  | _, _ => (s.routeError d u (byteAt b 0), true)

/-- Messages that waited for room are taken in order. -/
def State.takeWaiting (s : State) (d u : Nat) : Nat → State
  | 0 => s
  | n + 1 =>
    match (s.usbFn d u).waiting with
    | [] => s
    | b :: rest =>
      let r := s.takeUsbMessage d u b
      if r.2 then State.takeWaiting (r.1.modFn d u fun f => { f with waiting := rest }) d u n else s

/-- USB_STRAND_MESSAGE_RECEIVE (14 R389): a message for function `u`, or REPORT_OUT for the relay host of DFP `u − 8`. -/
def execUsbStrandMessageReceive (a : At) (u : Nat) (msg : List Byte) (s : State) : Out :=
  onUsb a (u < 2 || (8 ≤ u && u < 12)) s fun s =>
    let d := a.die
    if 8 ≤ u then
      (if usbMessageOk msg && byteAt msg 0 == 2 && byteAt msg 1 == s.get d F.USB_DFP_CTL_SLOT (u - 8) then
         (if s.flag d F.USB_DFP_STATUS_RELAY_UP (u - 8) then s.emit (.usbSetReport d (u - 8) (msg.drop 8)) else s)
       else s.routeError d 1 (byteAt msg 0))
    else if !usbMessageOk msg then s.routeError d u (byteAt msg 0)
    else if s.usbHeld d u then s
    else if !s.attached d u && byteAt msg 0 != 3 && byteAt msg 0 != 4 then s
    else (s.modFn d u fun f => { f with waiting := f.waiting ++ [msg] }).takeWaiting d u 64

/-- USB_FUNC_REATTACH (14 R385, R391): after 100 ms or 10 ms a function attaches again, unless RELEASE is awaited. -/
def execUsbFuncReattach (a : At) (u : Nat) (s : State) : Out :=
  onUsb a (u < 4) s fun s =>
    match (s.usbFn a.die u).reattachAt with
    | some t =>
      if fallen s t && s.flag a.die F.USB_FN_CTL_ATTACH u && !(s.die a.die).usb.keptOff.contains u then s.attachFn a.die u else s
    | none => s

/-! What the owner's function reset does (14 R385; 13 Table 13.4). -/

/-- A USB function is in flight: a buffer holds data bound to or from a strand. -/
def State.usbInFlight (s : State) (d u : Nat) : Bool :=
  let f := s.usbFn d u
  decide (u < 2) && ((f.outs.any fun p => p.1 != 0 && !p.2.isEmpty) || (f.ins.any fun p => p.1 != 0 && !p.2.isEmpty) ||
    f.stage.any fun p => !p.2.isEmpty)

/-- The owner's function reset: it detaches for 10 ms, or until RELEASE where it was in flight. -/
def State.ownerResetUsb (s : State) (d u : Nat) : State :=
  let kept := s.usbInFlight d u
  let out := (s.usbFn d u).outs
  if !s.flag d F.USB_FN_CTL_ATTACH u then s
  else
    let s := s.resetUsbFn d u 2 0
    let s := s.modFn d u fun f => { f with reattachAt := some (s.now + ms 10), outs := if kept then out else [] }
    if kept then s.modUsb d fun x => { x with keptOff := if x.keptOff.contains u then x.keptOff else x.keptOff ++ [u] } else s

end Sys2Proof.Machine
end

