-- ==== Sys2Proof/Machine/Vfn.lean ====
section
/-! DEFINITION. Virtual functions (13): carving, slot states and commands, function resets, dirty-page logging. -/

namespace Sys2Proof.Machine

/-! The pool of a die (13 R353). -/

/-- The slots of a die whose carve is taken. -/
def State.carved (s : State) (d : Nat) : List Slot :=
  (s.vfn.slots.filter fun p => homeDie p.1 == d && p.2.st != 0 && p.2.st != 5).map (·.2)

/-- What the carves of a die take of one thing, and of a mask. -/
def State.carvedSum (s : State) (d : Nat) (m : Carve → Nat) : Nat := (s.carved d).foldl (fun n x => n + m x.carve) 0
def State.carvedMask (s : State) (d : Nat) (m : Carve → Nat) : Nat := (s.carved d).foldl (fun n x => n ||| m x.carve) 0

/-- VFN_POOL0 and VFN_POOL1 of a die: what VFN_LIMIT allows less what is carved (13 Table 13.5). -/
def State.pool0 (s : State) (d : Nat) : Word :=
  let l := s.word d Reg.VFN_LIMIT0
  let left := fun (hi lo : Nat) (m : Carve → Nat) (w : Word) => wordSet w hi lo (wordGet l hi lo - s.carvedSum d m)
  let mask := fun (hi lo : Nat) (m : Carve → Nat) (w : Word) =>
    wordSet w hi lo (wordGet l hi lo - (wordGet l hi lo &&& s.carvedMask d m))
  mask 5 2 (·.usb) (mask 7 6 (·.heads) (left 13 8 (·.outlets.length) (left 20 14 (·.dma.length) (left 31 21 (·.entries.length) 0))))
def State.pool1 (s : State) (d : Nat) : Word :=
  let l := s.word d Reg.VFN_LIMIT1
  let left := fun (hi lo : Nat) (m : Carve → Nat) (w : Word) => wordSet w hi lo (wordGet l hi lo - s.carvedSum d m)
  left 23 0 (·.rate) (left 26 24 (·.queues.length) (left 31 27 (·.keySlots.length) 0))

/-- Free resources of a die that a carve may take, lowest first. -/
def State.freeEntries (s : State) (d : Nat) : List Nat :=
  let taken := s.vfn.slots.flatMap fun p => if homeDie p.1 = d then p.2.carve.entries else []
  (List.range 8192).filter fun i => (Table.find? (s.die d).ledger i).isNone && !taken.contains i
def State.freeOutlets (s : State) (d : Nat) : List Nat :=
  ((List.range 128).filter fun m => s.get d F.EVT_OUT_VEC_OWNER m == 0 && !s.flag d F.EVT_OUT_STATUS_ENABLED m).map (128 * d + ·)
def State.freeDma (s : State) (d : Nat) : List Nat :=
  (List.range 64).filter fun c => s.dmaOwner d c == 0 && !s.flag d F.BRG_DMA_CFG_ENABLE c &&
    !(s.carved d).any fun x => x.carve.dma.contains c
def State.freeKeySlots (s : State) (d : Nat) : List Nat :=
  (List.range 64).filter fun i => (Table.find? (s.die d).keySlots i).isNone &&
    !(s.carved d).any fun x => x.carve.keySlots.contains i

/-! The carve registers. -/

/-- VFN_CARVE0 to VFN_CARVE8. -/
def State.carveWords (s : State) : List Word := (List.range 9).map fun i => s.reg (barAddr 0 (0x240010 + 4 * i))

/-- A field of the carve registers as CREATE read them. -/
def cw (ws : List Word) (i hi lo : Nat) : Nat := wordGet (ws.getD i 0) hi lo

/-- The (output, queue) pairs that the first QUEUES places name. -/
def carveQueues (ws : List Word) : List (Nat × Nat) :=
  [(cw ws 5 31 27, cw ws 5 26 23), (cw ws 5 15 11, cw ws 5 10 7), (cw ws 6 31 27, cw ws 6 26 23),
   (cw ws 6 15 11, cw ws 6 10 7)].take (cw ws 1 26 24)

/-- A carve field lies outside Table 13.5. -/
def badCarve (ws : List Word) : Bool :=
  decide (1024 < cw ws 0 31 21) || decide (64 < cw ws 0 20 14) || cw ws 0 13 8 == 0 || decide (32 < cw ws 0 13 8) ||
  decide (16 < cw ws 1 31 27) || decide (4 < cw ws 1 26 24) || (carveQueues ws).any fun p => decide (18 < p.1)

/-- A queue that may not be carved: not weighted, named in its output's map, or carved already (13 R354). -/
def State.queueShared (s : State) (d : Nat) (p : Nat × Nat) : Bool :=
  let strict := s.get d F.SCH_OUT_CFG_NSTRICT p.1
  decide (p.2 < strict) || decide (strict + s.get d F.SCH_OUT_CFG_NWEIGHT p.1 ≤ p.2) ||
  ((List.range 8).any fun t => (List.range 5).any fun c => s.qmap d p.1 t c == p.2) ||
  (s.carverOf (512 * d + 16 * p.1 + p.2)).isSome

/-- BAR2_TARGET of a carve, and the bytes of BAR2 of a function's PF. -/
def carveTarget (ws : List Word) : Nat := (ws.getD 7 0).toNat / 2 ^ 20 * 2 ^ 20 + 2 ^ 32 * (ws.getD 8 0).toNat
def State.bar2Size (s : State) (f : Nat) : Nat := ((s.pfOf f).map fun p => 1048576 * s.get 0 F.VFN_PF_BAR2_VF_BAR2_MIB p).getD 0

/-- BAR2 leaves the fitted memory, meets the reserved 1 MiB of 02 R62, or leaves a carved head's window outside (13 R356). -/
def State.bar2Flaw (s : State) (f : Nat) (ws : List Word) : Bool :=
  let t := carveTarget ws
  let size := s.bar2Size f
  let d := homeDie f
  size != 0 && (
    decide (2 * s.part.dies * 2 ^ 34 < t + size) ||
    (decide (t < fittedMib * 1048576) && decide ((fittedMib - 1) * 1048576 < t + size)) ||
    (List.range 2).any fun h => bit (cw ws 0 7 6) h && (decide ((s.window d h).1 < t) || decide (t + size < (s.window d h).2)))

/-- The first thing the pool lacks, as VFN_CMD_SHORT numbers it; 9 stands for RATE, which has no item (log entry 24). -/
def State.shortOf (s : State) (f : Nat) (ws : List Word) : Nat :=
  let d := homeDie f
  let p0 := s.pool0 d
  let p1 := s.pool1 d
  let lacks := fun (n pool free : Nat) => decide (pool < n) || decide (free < n)
  let heads := cw ws 0 7 6
  let usb := cw ws 0 5 2
  let keys := 64 - s.carvedSum d (·.keySlots.length)
  let ch := cw ws 2 31 31
  let pondUsed := (s.queueKeys.filter fun k => s.carverOf k == none && s.pondDie k == d && s.pondCh k == ch).foldl
    (fun n k => n + (s.queue k).pages) 0
  (((List.range 9).zip [
    lacks (cw ws 0 31 21) (wordGet p0 31 21) (s.freeEntries d).length,
    lacks (cw ws 0 13 8) (wordGet p0 13 8) (s.freeOutlets d).length,
    lacks (cw ws 0 20 14) (wordGet p0 20 14) (s.freeDma d).length,
    heads &&& wordGet p0 7 6 != heads || (List.range 2).any fun h => bit heads h && bit (s.islands d).off (25 + h),
    usb &&& wordGet p0 5 2 != usb || (usb != 0 && bit (s.islands d).off 27),
    lacks (cw ws 1 31 27) (wordGet p1 31 27) (s.freeKeySlots d).length ||
      decide (keys < s.boot.option.pf0Slots + cw ws 1 31 27),
    decide (wordGet p1 26 24 < cw ws 1 26 24),
    decide (s.pondSize d ch < s.pondReserved d ch + pondUsed + cw ws 2 21 0),
    decide (wordGet p1 23 0 < cw ws 1 23 0)]).find? (·.2)).elim 0 (·.1 + 1)

/-! Commands (13 R360). -/

/-- A command completes: its result and the short item; a refusal is reported (13 Table 13.3, R371). -/
def State.vfnDone (s : State) (op f result item : Nat) : State :=
  let s := (((s.set 0 F.VFN_CMD_STATUS_RESULT result).set 0 F.VFN_CMD_STATUS_BUSY 0).wrap 0 F.VFN_CMD_STATUS_SEQ).set 0
    F.VFN_CMD_SHORT_ITEM item
  if result = 0 then s else s.raise 0 36 0x902 2 [(1, op), (1, result), (1, f), (1, item)]

/-- A function index that a command may name. -/
def State.validFunc (s : State) (f : Nat) : Bool := decide (1 ≤ f) && decide (f ≤ 31 * s.part.dies) && (s.pfOf f).isSome

/-- A write of VFN_CMD: it acts on die 0 alone, is counted while BUSY, and stays BUSY while the home die's VFN island cannot act. -/
def State.vfnCmd (s : State) (d : Nat) (v : Word) (run : State → Nat → State) : State :=
  let f := wordGet v 7 0
  if d ≠ 0 then s
  else if s.flag 0 F.VFN_CMD_STATUS_BUSY then s.bump 0 F.SKN_IGNORED_COUNT
  else if !s.validFunc f then s.vfnDone (wordGet v 31 28) f 1 0
  else if !s.runs (homeDie f) 36 then (s.set 0 F.VFN_CMD_STATUS_BUSY 1).parkCmd ⟨true, 0, 0, v⟩
  else run s f

/-- OWNER of the outlets and channels of a carve. -/
def State.setOwners (s : State) (d : Nat) (c : Carve) (owner : Nat) : State :=
  let s := c.outlets.foldl (fun s p => s.set (p / 128) F.EVT_OUT_VEC_OWNER owner (p % 128)) s
  c.dma.foldl (fun s ch => s.set d F.BRG_DMA_CFG_OWNER owner ch) s

/-- The carve that CREATE takes. -/
def State.carveOf (s : State) (f : Nat) (ws : List Word) : Carve :=
  let d := homeDie f
  { entries := (s.freeEntries d).take (cw ws 0 31 21), outlets := (s.freeOutlets d).take (cw ws 0 13 8),
    dma := (s.freeDma d).take (cw ws 0 20 14), heads := cw ws 0 7 6, usb := cw ws 0 5 2,
    keySlots := (s.freeKeySlots d).take (cw ws 1 31 27), queues := carveQueues ws, pondCh := cw ws 2 31 31,
    pondPages := cw ws 2 21 0, rate := cw ws 1 23 0, braids := (ws.getD 3 0).toNat + 2 ^ 32 * (ws.getD 4 0).toNat,
    bar2 := carveTarget ws, words := ws }

/-- CREATE (13 R353, R354, R356): all or nothing. -/
def State.createVf (s : State) (f : Nat) : State :=
  let d := homeDie f
  let x := s.slot f
  let ws := s.carveWords
  let short := s.shortOf f ws
  if x.st ≠ 0 then s.vfnDone 1 f 2 0
  else if badCarve ws then s.vfnDone 1 f 5 0
  else if (carveQueues ws).any (s.queueShared d) then s.vfnDone 1 f 6 0
  else if s.bar2Flaw f ws then s.vfnDone 1 f 7 0
  else if short ≠ 0 then s.vfnDone 1 f 4 (if short = 9 then 0 else short)
  else
    let c := s.carveOf f ws
    let s := ((s.putSlot f { x with st := 1, carve := c }).setOwners d c f).vfnDone 1 f 0 0
    s.raise d 36 0x901 0 [(1, f), (1, d), (2, cw ws 0 31 21), (1, cw ws 0 13 8), (1, cw ws 0 20 14), (1, (ws.getD 0 0).toNat % 256),
      (1, cw ws 1 31 27), (4, cw ws 1 23 0)]

/-- VFN_CREATE (13 R353). -/
def execVfnCreate (a : At) (q : Req) (v : Word) (s : State) : Out :=
  onWrite a q 0x240000 v (wordGet v 31 28 == 1) s fun s => s.vfnCmd a.die v fun s f => s.createVf f

/-! Work in flight (13 Table 13.4). -/

/-- Bridge tags of a function that still serve it, as (die, tag). -/
def State.tagsOf (s : State) (f : Nat) : List (Nat × Nat) :=
  (List.range s.part.dies).flatMap fun d => ((s.die d).tags.filter fun p => p.2.fn == f).map fun p => (d, p.1)

/-- What of a carve holds work in flight. -/
def State.busyEntries (s : State) (f : Nat) : List Nat :=
  (s.slot f).carve.entries.filter fun i => (Table.find? (s.die (homeDie f)).ledger i).isSome
def State.busyQueues (s : State) (f : Nat) : List (Nat × Nat) :=
  (s.slot f).carve.queues.filter fun p => !(s.queue (512 * homeDie f + 16 * p.1 + p.2)).units.isEmpty
def State.busyDma (s : State) (f : Nat) : List Nat :=
  (s.slot f).carve.dma.filter fun c => s.flag (homeDie f) F.BRG_DMA_CFG_ENABLE c &&
    (s.dmaPosted (homeDie f) c || (Table.find? (s.die (homeDie f)).dmaJobs c).isSome)
def State.busyHeads (s : State) (f : Nat) : Nat :=
  (List.range 2).foldl (fun n h => if bit (s.slot f).carve.heads h && ((s.head (homeDie f) h).fetching ||
    (s.head (homeDie f) h).sending.isSome) then setBit n h else n) 0
def State.busyUsb (s : State) (f : Nat) : Nat :=
  (List.range 4).foldl (fun n u => if bit (s.slot f).carve.usb u && s.usbInFlight (homeDie f) u then setBit n u else n) 0

/-- INFLIGHT of a slot. -/
def State.inFlight (s : State) (f : Nat) : Nat :=
  (s.busyEntries f).length + (s.busyQueues f).length + (s.busyDma f).length + popCount 2 (s.busyHeads f) + popCount 4 (s.busyUsb f) +
  (s.tagsOf f).length

/-- The fields of a register that no function reset touches: what the Skein sets, and RWS. -/
def keepsSkein (x : Acc) : Bool := x == .skn || x == .rws

/-- An outlet, a channel and a head back at reset values; OWNER and what the sink told stay. -/
def State.resetOutlet (s : State) (p : Nat) : State :=
  let d := p / 128
  let m := p % 128
  let owner := s.get d F.EVT_OUT_VEC_OWNER m
  ((s.disableOutlet d m).resetRange d (0x051000 + 0x40 * m) 0x40 keepsSkein).set d F.EVT_OUT_VEC_OWNER owner m
def State.resetDma (s : State) (d c : Nat) : State :=
  let owner := s.get d F.BRG_DMA_CFG_OWNER c
  ((s.modDie d fun x => { x with dmaJobs := Table.del x.dmaJobs c }).resetRange d (0x220000 + 0x40 * c) 0x40 keepsSkein).set d
    F.BRG_DMA_CFG_OWNER owner c
def State.resetHead (s : State) (d h : Nat) : State :=
  let sink := s.word d Reg.DSP_HEAD_SINK h
  ((s.modDie d fun x => { x with heads := Table.del x.heads h }).resetRange d (0x1C0000 + 0x1000 * h) 0x1000 keepsSkein).setWord d
    Reg.DSP_HEAD_SINK sink h

/-- A Ledger entry takes STATE HELD; its segments are discarded, and the answer counts them (05 Table 5.4). -/
def holdEntry (d : Nat) (acc : State × Nat) (i : Nat) : State × Nat :=
  let idx := 8192 * d + i
  let r := acc.1.discardStrand idx
  (r.1.modEntry idx fun e => { e.setF 14 12 4 with allot := 0 }, acc.2 + r.2)

/-- Held entries, channels and heads: what they do while HELD (13 Table 13.4). -/
def State.holdAll (s : State) (d : Nat) (entries dma : List Nat) (heads : Nat) : State × Nat :=
  let r := entries.foldl (holdEntry d) (s, 0)
  let s := dma.foldl (fun s c => (s.set d F.BRG_DMA_CFG_ENABLE 0 c).modDie d fun x => { x with dmaJobs := Table.del x.dmaJobs c }) r.1
  let s := (List.range 2).foldl (fun s h =>
    if bit heads h then
      ((s.set d F.DSP_HEAD_CTL_ENABLE 0 h).stopRaster d h 0).modHead d h fun x => { x with sending := none, segs := [], tiles := [] }
    else s) s
  (s, r.2)

/-- Completions that arrive later for a function are discarded; its read-ahead and its lock end (13 R361). -/
def State.dropReads (s : State) (f : Nat) : State :=
  let s := (List.range s.part.dies).foldl (fun s d => s.modDie d fun x => { x with
    tags := x.tags.map fun p => if p.2.fn = f then (p.1, { p.2 with use := 4 }) else p
    aheads := x.aheads.filter fun p => p.2.fn != f }) s
  let me : Req := if f = 0 then .pf0 else .vf f
  let s : State := { s with access := { s.access with waiting := s.access.waiting.filter fun w => w.write || w.req != me } }
  match s.brg.lock with
  | some l => if l.fn = f then s.unlock l else s
  | none => s

/-- The configuration space of a function back at its reset values: Bus Master Enable and MSI-X (13 R361). -/
def State.resetConfig (s : State) (f : Nat) : State :=
  { s with evt := { s.evt with
      bme := Table.put s.evt.bme f false
      unmasked := s.evt.unmasked.filter fun p => p.1 / 2048 != f
      msixWords := s.evt.msixWords.filter fun p => p.1 / 1024 != f
      msixPending := s.evt.msixPending.filter fun p => p.1 / 2048 != f } }

/-- The SESSION keys of a function are destroyed, and its loads end. -/
def State.dropKeys (s : State) (f : Nat) : State :=
  s.modDie (homeDie f) fun x => { x with
    keySlots := x.keySlots.filter fun p => p.2.owner != f
    keyLoads := x.keyLoads.filter fun l => l.owner != f }

/-- A function reset of a virtual function (13 R361); cause 1 FLR, 2 VF Enable cleared, 3 NumVFs reduced, 4 a reset source. -/
def State.resetVf (s : State) (f cause : Nat) : State :=
  let d := homeDie f
  let x := s.slot f
  let s := s.resetConfig f
  if x.st = 3 then s
  else if x.st = 1 ∨ x.st = 2 then
    let n := s.inFlight f
    let es := s.busyEntries f
    let qs := s.busyQueues f
    let dm := s.busyDma f
    let hs := s.busyHeads f
    let us := s.busyUsb f
    let r := s.holdAll d es dm hs
    let s := ((r.1.freeSems f).dropKeys f).dropReads f
    let s := x.carve.outlets.foldl (fun s p => s.resetOutlet p) s
    let s := x.carve.dma.foldl (fun s c => if dm.contains c || x.heldDma.contains c then s else s.resetDma d c) s
    let s := (List.range 2).foldl (fun s h =>
      if bit x.carve.heads h && !bit hs h && !bit x.heldHeads h then s.resetHead d h else s) s
    let s := (List.range 4).foldl (fun s u => if bit x.carve.usb u then s.ownerResetUsb d u else s) s
    let s := s.putSlot f { x with
      st := if n = 0 ∧ x.st = 1 then 1 else 2
      heldEntries := x.heldEntries ++ es.filter fun e => !x.heldEntries.contains e
      heldQueues := x.heldQueues ++ qs.filter fun q => !x.heldQueues.contains q
      heldDma := x.heldDma ++ dm.filter fun c => !x.heldDma.contains c
      heldHeads := x.heldHeads ||| hs, heldUsb := x.heldUsb ||| us, discarded := x.discarded + r.2 }
    s.raise d 36 0x903 1 [(1, f), (1, cause), (1, b2n (n != 0)), (1, 0), (4, n)]
  else s.raise d 36 0x903 1 [(1, f), (1, cause), (1, 0), (1, 0), (4, 0)]

/-- VF_FUNCTION_RESET (13 R361). -/
def vfFunctionReset (a : At) (f cause : Nat) (s : State) : Out :=
  onIsland { a with die := homeDie f } 36 (1 ≤ f && f ≤ 31 * s.part.dies && 1 ≤ cause && cause ≤ 3) s fun s =>
    let s : State := if cause = 1 then s else { s with vfn := { s.vfn with hostEn := Table.del s.vfn.hostEn f } }
    s.resetVf f cause

/-! QUIESCE, RELEASE, DESTROY (13 R362 to R364). -/

/-- QUIESCE: every carved resource is HELD; the command completes once nothing is in flight. -/
def State.quiesceVf (s : State) (f : Nat) : State :=
  let d := homeDie f
  let x := s.slot f
  if x.st ≠ 1 ∧ x.st ≠ 2 then s.vfnDone 2 f 2 0
  else
    let c := x.carve
    let r := s.holdAll d (s.busyEntries f) c.dma c.heads
    let s := (List.range 4).foldl (fun s u => if bit c.usb u then s.ownerResetUsb d u else s) (r.1.dropReads f)
    let s := (s.modUsb d fun y => { y with keptOff := y.keptOff ++ (List.range 4).filter fun u => bit c.usb u && !y.keptOff.contains u }).putSlot
      f { x with st := 3, heldEntries := c.entries, heldDma := c.dma, heldHeads := c.heads, heldUsb := c.usb, heldQueues := c.queues,
                 discarded := x.discarded + r.2, quiesceAt := s.now }
    let s : State := { s with vfn := { s.vfn with busyFor := f } }
    s.set 0 F.VFN_CMD_STATUS_BUSY 1

/-- VFN_QUIESCE (13 R362). -/
def execVfnQuiesce (a : At) (q : Req) (v : Word) (s : State) : Out :=
  onWrite a q 0x240000 v (wordGet v 31 28 == 2) s fun s => s.vfnCmd a.die v fun s f => s.quiesceVf f

/-- VF_QUIESCED (13 R362): the last bridge tag of the function has ended. -/
def execVfQuiesced (a : At) (f : Nat) (s : State) : Out :=
  onIsland { a with die := homeDie f } 36 (1 ≤ f && f ≤ 31 * s.part.dies) s fun s =>
    let x := s.slot f
    if x.st ≠ 3 ∨ !(s.tagsOf f).isEmpty then s
    else
      let s : State := { s with vfn := { s.vfn with busyFor := 0 } }
      ((s.putSlot f { x with st := 4 }).vfnDone 2 f 0 0).raise (homeDie f) 36 0x904 1
        [(1, f), (3, 0), (4, (s.now - x.quiesceAt) / us 1), (4, x.discarded)]

/-- The resources of a quiesced slot are reset, its entries FREE under the SN quarantine (13 R363). -/
def State.clearCarve (s : State) (f : Nat) : State :=
  let d := homeDie f
  let c := (s.slot f).carve
  let s := c.entries.foldl (fun s i => s.freeEntry (8192 * d + i)) s
  let s := c.outlets.foldl (fun s p => s.resetOutlet p) s
  let s := c.dma.foldl (fun s ch => s.resetDma d ch) s
  let s := (List.range 2).foldl (fun s h => if bit c.heads h then s.resetHead d h else s) s
  (s.modUsb d fun x => { x with
    keptOff := x.keptOff.filter fun u => !bit c.usb u
    fns := x.fns.map fun p => if bit c.usb p.1 then (p.1, { p.2 with outs := [] }) else p }).dropKeys f

/-- RELEASE of a quiesced slot. -/
def State.releaseVf (s : State) (f : Nat) (keep : Bool) : State :=
  let x := (s.clearCarve f).slot f
  let s := s.clearCarve f
  let y : Slot := { x with heldEntries := [], heldDma := [], heldHeads := 0, heldUsb := 0, heldQueues := [], discarded := 0 }
  let s := if keep then s.putSlot f { y with st := 1 }
    else (s.setOwners (homeDie f) x.carve 0).putSlot f { y with st := 5, carve := {} }
  s.raise (homeDie f) 36 0x905 0 [(1, f), (1, b2n keep)]

/-- RELEASE fits a quiesced slot alone (13 R363). -/
def State.releaseCmd (s : State) (f : Nat) (keep : Bool) : State :=
  if (s.slot f).st ≠ 4 then s.vfnDone 3 f 2 0 else (s.releaseVf f keep).vfnDone 3 f 0 0

/-- VFN_RELEASE (13 R363). -/
def execVfnRelease (a : At) (q : Req) (v : Word) (s : State) : Out :=
  onWrite a q 0x240000 v (wordGet v 31 28 == 3) s fun s => s.vfnCmd a.die v fun s f => s.releaseCmd f (wordGet v 27 27 == 1)

/-- DESTROY of a quiesced or released slot leaves it EMPTY; its logging stays (13 R364). -/
def State.destroyVf (s : State) (f : Nat) : State :=
  match (s.slot f).st with
  | 0 => s.vfnDone 4 f 2 0
  | 4 | 5 =>
    let s := if (s.slot f).st = 4 then s.releaseVf f false else s
    ((s.putSlot f { s.slot f with st := 0, carve := {} }).vfnDone 4 f 0 0).raise (homeDie f) 36 0x906 0 [(1, f), (1, 1)]
  | _ => s.vfnDone 4 f 3 0

/-- VFN_DESTROY (13 R364). -/
def execVfnDestroy (a : At) (q : Req) (v : Word) (s : State) : Out :=
  onWrite a q 0x240000 v (wordGet v 31 28 == 4) s fun s => s.vfnCmd a.die v fun s f => s.destroyVf f

/-- READ shows the carve in VFN_CARVE0 to 6 (13 Table 13.5). -/
def State.readCarve (s : State) (f : Nat) : State :=
  let ws := (s.slot f).carve.words
  if ws.isEmpty then s.vfnDone 5 f 2 0
  else ((List.range 7).foldl (fun s i => s.setReg (barAddr 0 (0x240010 + 4 * i)) (ws.getD i 0)) s).vfnDone 5 f 0 0

/-- VFN_READ (13 Table 13.5). -/
def execVfnRead (a : At) (q : Req) (v : Word) (s : State) : Out :=
  onWrite a q 0x240000 v (wordGet v 31 28 == 5) s fun s => s.vfnCmd a.die v fun s f => s.readCarve f

/-- A write of VFN_CMD; OP 0 and 6 to 15 name no command. -/
def State.writeVfnCmd (s : State) (d : Nat) (v : Word) : State :=
  match wordGet v 31 28 with
  | 1 => s.vfnCmd d v fun s f => s.createVf f
  | 2 => s.vfnCmd d v fun s f => s.quiesceVf f
  | 3 => s.vfnCmd d v fun s f => s.releaseCmd f (wordGet v 27 27 == 1)
  | 4 => s.vfnCmd d v fun s f => s.destroyVf f
  | 5 => s.vfnCmd d v fun s f => s.readCarve f
  | _ => s

/-! Dirty-page logging (13 R366 to R369). -/

/-- A write of a slot's LOG_CTL: EN, OUT_OF_RANGE, and SWAP, which makes the other bitmap take every write from here on. -/
def State.writeLogCtl (s : State) (d i : Nat) (v : Word) : State :=
  let f := 31 * d + i + 1
  let s := s.set d F.VFN_VF_LOG_CTL_EN (wordGet v 31 31) i
  let s := if wordGet v 27 27 = 1 then s.set d F.VFN_VF_LOG_CTL_OUT_OF_RANGE 0 i else s
  if wordGet v 30 30 = 0 ∨ s.flag d F.VFN_VF_LOG_CTL_SWAP_PENDING i = true then s
  else
    let x := s.slot f
    ((s.putSlot f { x with oldPages := x.markedPages, markedPages := [], outRaised := false, swapAt := s.now }).set d
      F.VFN_VF_LOG_CTL_SWAP_PENDING 1 i).set d F.VFN_VF_LOG_MARKED_MARKED 0 i

/-- LOG_SWAP (13 R368). -/
def execLogSwap (a : At) (q : Req) (n : Nat) (v : Word) (s : State) : Out :=
  onWrite a q (0x241004 + 0x40 * n) v (n < 31 && wordGet v 30 30 == 1) s fun s => s.writeLogCtl a.die n v

/-- The words of a bitmap that hold marks, with their marks. -/
def bitmapWords (pages : List Nat) : Table Nat :=
  pages.foldl (fun (t : Table Nat) p => Table.upd t (p / 64) 0 fun w => setBit w (p % 64)) []

/-- VF_LOG_SWAPPED (13 R368): the old bitmap holds every mark of its epoch before ACTIVE toggles. -/
def execVfLogSwapped (a : At) (f : Nat) (s : State) : Out :=
  onIsland { a with die := homeDie f } 36 (1 ≤ f && f ≤ 31 * s.part.dies) s fun s =>
    let d := homeDie f
    let i := slotNo f
    let x := s.slot f
    if !s.flag d F.VFN_VF_LOG_CTL_SWAP_PENDING i then s
    else
      let b := s.flag d F.VFN_VF_LOG_CTL_ACTIVE i
      let base := if b then s.pair d Reg.VFN_VF_LOG_B_LO Reg.VFN_VF_LOG_B_HI i else s.pair d Reg.VFN_VF_LOG_A_LO Reg.VFN_VF_LOG_A_HI i
      let s := s.emits ((bitmapWords x.oldPages).map fun p => .hostWrite 0 (base / 8 * 8 + 8 * p.1) (leBytes 8 p.2))
      let s := (s.set d F.VFN_VF_LOG_CTL_ACTIVE (b2n (!b)) i).set d F.VFN_VF_LOG_CTL_SWAP_PENDING 0 i
      let ts := s.tsAt x.swapAt
      (s.putSlot f { x with oldPages := [] }).raise d 36 0x907 0
        [(1, f), (1, b2n (!b)), (2, 0), (4, x.oldPages.length), (4, ts % 2 ^ 30), (4, ts / 2 ^ 30)]

/-! The reach of wider resets (13 R365). -/

/-- A DIE reset leaves the slots of its die EMPTY. -/
def State.emptySlots (s : State) (d : Nat) : State :=
  s.vfn.slots.foldl (fun s p =>
    if homeDie p.1 = d ∧ p.2.st ≠ 0 then (s.putSlot p.1 {}).raise d 36 0x906 0 [(1, p.1), (1, 2)] else s) s

end Sys2Proof.Machine
end

