-- ==== Sys2Proof/Machine/Reset.lean ====
section
/-! DEFINITION. Reset sources, their reach, the idle handshake, what each level clears, release and restart (16 R416 to R425). -/

namespace Sys2Proof.Machine

/-! The reach table (16 R416, R417). -/

/-- The codes allowed for each source, and its default (16 Table 16.1). -/
def reachAllowed : List (List Nat) :=
  [[0], [0, 1, 7], [1, 2, 3], [1, 2, 4], [4], [4], [1, 2, 3, 7], [0, 1, 2, 3, 4, 7], [0, 1, 7], [0, 1, 2], [0, 1], [0, 1, 3],
   [0, 1, 7], [0, 1], [7], [7]]
def reachDefaults : List Nat := [0, 0, 1, 4, 4, 4, 2, 1, 1, 2, 0, 1, 1, 0, 7, 7]

/-- The code of a source in a table of 3-bit codes. -/
def codeAt (table src : Nat) : Nat := bits table (3 * src + 2) (3 * src)
def State.reachCode (s : State) (src : Nat) : Nat := codeAt s.boot.reach src

/-- A table of codes, and the sources whose code their row does not allow. -/
def packCodes (l : List Nat) : Nat := (l.zipIdx).foldl (fun n p => n + p.1 * 2 ^ (3 * p.2)) 0
def badCodes (table : Nat) : Nat :=
  (List.range 16).foldl (fun m k => if (reachAllowed.getD k []).contains (codeAt table k) then m else setBit m k) 0

/-- The fuses are read at COLD and WARM (16 R417). -/
def State.readReach (s : State) : State :=
  let f := s.boot.fuses
  let bad := if f.reachValid then badCodes f.reach else 0
  let codes := (List.range 16).map fun k =>
    if !f.reachValid || bit bad k then reachDefaults.getD k 7 else codeAt f.reach k
  let s : State := { s with boot := { s.boot with reach := packCodes codes, reachBad := bad } }
  if bad = 0 then s else s.raise 0 38 0x035 3 [(2, bad)]

/-! What holds an island (16 R423, R424). -/

/-- A source's area holds an island of a die. -/
def Source.covers (x : Source) (d i : Nat) : Bool :=
  decide (x.level ≤ 1) || (x.level == 2 && x.die == d) || (x.level == 3 && x.die == d && x.isl == i)

/-- A source's area lies within that of another. -/
def Source.within (x y : Source) : Bool :=
  decide (y.level ≤ 1) || (decide (2 ≤ x.level) && y.level == 2 && y.die == x.die) ||
  (x.level == 3 && y.level == 3 && y.die == x.die && y.isl == x.isl)

/-- RST_FORCE_RELEASE has freed an island from software and JTAG. -/
def State.freed (s : State) (x : Source) (d i : Nat) : Bool := (x.s == 7 || x.s == 13) && s.boot.force.contains (64 * d + i)

/-- An applied source holds an island. -/
def State.resetHolds (s : State) (d i : Nat) : Bool :=
  s.boot.sources.any fun x => x.applied && x.covers d i && !s.freed x d i

/-- The islands of die 0 that start before the Skein has loaded, and those of recovery (16 Table 16.6; 02 R55). -/
def bootIslands : List Nat := [37, 38, 39, 40, 42, 43]
def State.recoveryIslands (s : State) : List Nat :=
  [17, 35, 37, 38, 39, 40, 41, 42, 43] ++ (if s.get 0 F.RST_STRAP_BOOT = 2 then [33] else [])

/-- Boot has come far enough for an island to leave reset. -/
def State.bootAllows (s : State) (d i : Nat) : Bool :=
  if s.pkg.bootStep < 7 then d == 0 && decide (2 ≤ s.pkg.bootStep) && bootIslands.contains i
  else if s.get 0 F.SKN_STATUS_STATE = 2 then true else d == 0 && s.recoveryIslands.contains i

/-- An island leaves reset: no source holds it, its clock is good, boot allows it. -/
def State.mayLeave (s : State) (d i : Nat) : Bool :=
  let x := s.islands d
  bit x.held i && bit x.ok i && !bit x.off i && bonded d i && s.bootAllows d i && !s.resetHolds d i

/-! Start of an island. -/

/-- The plies of a die start again in DETECT, or stay DISABLED; those that a reset took down say so (04 R112). -/
def State.startPlies (s : State) (d : Nat) : State :=
  (s.die d).plies.foldl (fun s p =>
    let k := p.1
    let was := Table.find? s.boot.plyDown (8 * d + k)
    let s : State := { s with boot := { s.boot with plyDown := Table.del s.boot.plyDown (8 * d + k) } }
    let s := if was.isSome then s.set d F.PLY_LINK_STATE_LAST_FAIL 18 k else s
    let s := if was = some true then s.raise d k 0x102 2 [(1, s.plyId d k), (1, 18)] else s
    s.enterState d k (if s.flag d F.PLY_LINK_CTL_DISABLE k then 7 else 0)) s

/-- What follows when an island has left reset: plies start, a splice carries traffic again, a Spindle starts (08 R240). -/
def State.started (s : State) (d i : Nat) : State :=
  let running := s.get 0 F.SKN_STATUS_STATE == 2
  match i with
  | 8 | 9 => if s.serves d 8 && s.serves d 9 then s.startPlies d else s
  | 14 | 15 | 16 =>
    if s.spliceHere d (i - 14) then
      let far := s.spliceFar d (i - 14)
      if s.serves far.1 (14 + far.2) then ((s.setSplice d (i - 14) true).reroute).resend else s
    else s
  | 17 => if d = s.primary ∧ s.pkg.bootStep = 9 then s.emit (.port d true) else s
  | 28 => (List.range 4).foldl (fun s p => if s.flag d F.USB_DFP_CTL_OVERCURRENT p then s else s.overcurrentCleared d p) s
  | 31 => if running then s.startSpindle d else s
  | _ => s

/-- Every island that may leave reset leaves it. -/
def State.letGo (s : State) : State :=
  let gone := (List.range s.part.dies).flatMap fun d => ((List.range 44).filter fun i => s.mayLeave d i).map fun i => (d, i)
  let s := gone.foldl (fun s p => s.modIslands p.1 fun x => { x with held := clearBit x.held p.2 }) s
  gone.foldl (fun s p => s.started p.1 p.2) s

/-- CLK_OK_ASSERT (01 R24): an island generator has locked; a reset that waited for it releases the island. -/
def clkOkAssert (a : At) (isl : Nat) (s : State) : Out :=
  onUnit a (bonded a.die isl) s fun s =>
    let x := s.islands a.die
    if s.resting || bit x.ok isl || bit x.off isl || (Table.find? x.faultAt isl).isSome then s
    else (s.setClk a.die isl true).letGo

/-! Replay of the running image and its patches (02 R56; 16 R419). -/

/-- The trip level of the grade, before the image sets one (18 R466). -/
def State.tripDefault (s : State) : Nat := if s.part.gradeX then 135 else 115

/-- The sections of an image that has passed its checks. -/
def sectionsOf (b : List Byte) : List Section :=
  match imageSections b with
  | .ok l => l
  | .error _ => []

/-- Without a VFPOOL section the option bytes set the pool of a die (13 R353). -/
def State.applyPool (s : State) (d : Nat) (l : List Section) : State :=
  if (sectionOf l 0xC).isSome then s
  else
    let at_ := fun (k : Nat) => BitVec.ofNat 32 ((List.range 4).foldl (fun n i => n + s.boot.option.vfPool.getD (8 * d + k + i) 0 * 2 ^ (8 * i)) 0)
    (s.setWord d Reg.VFN_LIMIT0 (at_ 0 &&& Reg.VFN_LIMIT0.mask (· == .skn))).setWord d Reg.VFN_LIMIT1 (at_ 4)

/-- The records of the running image and of its patches for a die, or for one island of it, take effect again. -/
def State.replay (s : State) (d : Nat) (isl : Option Nat) : State :=
  let is := fun (i : Nat) => isl == none || isl == some i
  let s := if is 42 then s.set d F.PIN_TEMP_TRIP_C s.tripDefault else s
  if s.get 0 F.SKN_STATUS_STATE ≠ 2 then s
  else
    let l := sectionsOf s.skn.image
    let mine := fun (s : State) (x : Record) => x.addr / 0x1000000 == d && is (s.holder d (x.addr % 0x1000000))
    let off := (s.islands d).off
    let s := if is 37 then (s.setWord d Reg.GLB_ISLAND_OFF_LO (BitVec.ofNat 32 off)).setWord d Reg.GLB_ISLAND_OFF_HI
      (BitVec.ofNat 32 (off / 2 ^ 32)) else s
    let s := if is 8 then (((sectionOf l 3).map (·.records)).getD []).foldl (fun s p => if (plyOf p.2).1 = d then State.applyPly s p.2 else s) s
      else s
    let s := (registerRecords l).foldl (fun s x => if mine s x then State.applyRecord s (~~~ 0) x else s) s
    let s := if is 36 then s.applyPool d l else s
    let s := if isl.isNone then (strandRecords l).foldl (fun s p =>
      if strandIndex p.2 / 8192 = d then s.install (strandIndex p.2) (s.strandEntry p.2) else s) s else s
    let s := s.skn.patches.foldl (fun s b =>
      let l := sectionsOf b
      let s := (registerRecords l).foldl (fun s x => if mine s x then State.applyRecord s (s.patchMask x.addr) x else s) s
      if isl.isNone then (strandRecords l).foldl (fun s p =>
        if strandIndex p.2 / 8192 = d then s.modEntry (strandIndex p.2) fun e => e.takeContract p.2 else s) s else s) s
    if isl.isNone then s.set d F.GLB_DIE_STATUS_CONFIGURED 1 else s

/-! Causes (16 R425). -/

/-- A reset that reaches a die is recorded: beside the sources that held it already in the state `was` before it, or alone. -/
def State.recordCause (s was : State) (d src level : Nat) : State :=
  let others := s.boot.sources.filter fun x => x.applied && (decide (x.level ≤ 1) || x.die == d)
  let bits := if others.isEmpty then 2 ^ src else was.get d F.RST_CAUSE_LAST_SOURCES ||| 2 ^ src
  let s := (s.set d F.RST_CAUSE_LAST_SOURCES bits).set d F.RST_CAUSE_HIST_SOURCES (s.get d F.RST_CAUSE_HIST_SOURCES ||| bits)
  s.set d F.GLB_DIE_STATUS_LAST_LEVEL (others.foldl (fun n x => min n x.level) level)

/-! Stores that a reset cuts short (16 R417, R430, R434; 17 R450). -/

/-- Fuses or bytes of which only a free part was blown. -/
def partly (old new : List Byte) (mask : Nat) : List Byte :=
  (List.zip (List.zip old new) (leBytes old.length mask)).map fun p => p.1.1 ||| (p.1.2 &&& p.2)

/-- The fuses that a transition leaves (17 R450, Table 17.3): owner bank, root bank, life-cycle pattern. -/
def Fuses.after (f : Fuses) (op : Nat) (bank : List Byte) : Fuses :=
  match op with
  | 6 => { f with bank := partly f.bank bank (2 ^ 1440 - 1), lc := f.lc ||| 1 }
  | 7 => { f with lc := f.lc ||| 3 }
  | 8 => { f with bank := List.replicate 180 0xFF, lc := f.lc ||| 7 }
  | 9 => { f with bank := List.replicate 180 0xFF, root := false, lc := f.lc ||| 15 }
  | _ => f

/-- A store that was running or waiting ends with the island that ran it: a patch or an image is left without a marker, an option copy
invalid, reach fuses partly blown. A life-cycle transition runs on (17 R455). -/
def State.cutStores (s : State) : State :=
  let lc := s.hold.running.filter fun j => j.what == 5
  let s := match s.hold.running with
    | none => s
    | some j =>
      if j.what = 3 then s.eraseCells j.off 256
      else if j.what = 4 then
        let f := s.boot.fuses
        State.drawn { s with boot := { s.boot with fuses := { f with reach := f.reach ||| (j.arg &&& s.draw), reachValid := bit s.draw 48 } } }
      else s.leaveTorn j
  { s with hold := { s.hold with running := lc, waiting := [] } }

/-- A transition cut short by the loss of supply (17 R450): keys go before the state advances, lowest fuse first. -/
def State.cutTransition (s : State) : State :=
  match s.hold.running with
  | some j =>
    if j.what = 5 then
      let f := s.boot.fuses
      let g := f.after j.arg j.bytes
      let f' := if bit s.draw 0 then { g with lc := f.lc ||| (g.lc &&& (2 ^ (s.draw / 2 % 5) - 1)) }
        else { f with bank := partly f.bank g.bank (s.draw / 2) }
      let s := s.drawn
      { s with boot := { s.boot with fuses := f' }, hold := { s.hold with running := none } }
    else s
  | none => s

/-- Events on their way that a reset drops: the journal has taken its copy of each (03 R86). -/
def State.dropRaised (s : State) (p : Event → Bool) : State :=
  let s := (s.evt.raised.filter p).foldl (fun s e => s.journalCopy e) s
  { s with evt := { s.evt with raised := s.evt.raised.filter fun e => !p e } }

/-! COLD and WARM (16 R419). -/

/-- Fields that a reset keeps: RWS. -/
def keepsRws (x : Acc) : Bool := x == .rws

/-- Plies that are ACTIVE, by 8 × die + slot. -/
def State.activePlies (s : State) (d : Nat) : List Nat := ((s.die d).plies.map (·.1)).filter fun k => s.plyActive d k

/-- Every register of the package back at its reset value; WARM keeps RWS fields, and the Tarn island is not reached. -/
def State.resetRegs (s : State) (warm : Bool) : State :=
  ((s.regLog.map (·.1)) ++ (s.regs.map (·.1))).foldl (fun s n =>
    if 0x060000 ≤ n % 0x1000000 ∧ n % 0x1000000 < 0x070000 then s else s.resetReg n fun x => warm && keepsRws x) s

/-- The Spillways that were open close (09 R252). -/
def State.closeSpillways (s old : State) (cause : Nat) : State :=
  let shut := fun (s : State) (p : Nat) => if (old.port p).open_ then
      (s.emit (.spillCtl p false)).raise 0 33 0x615 1 [(1, 0), (1, p), (1, 1), (1, cause)] else s
  let s := shut (shut s 0) 1
  if old.shl.ethOpen then s.raise 0 33 0x615 1 [(1, 1), (1, 0), (1, 1), (1, cause)] else s

/-- COLD or WARM is applied: everything at its reset value but what Table 16.2 keeps. -/
def State.applyWide (s : State) (warm : Bool) : State :=
  let s := (s.dropRaised fun _ => true).cutStores
  let strap := s.word 0 Reg.RST_STRAP
  let down := (List.range s.part.dies).flatMap fun d => (s.activePlies d).map fun k => (8 * d + k, false)
  let isl := if warm then s.isl.map fun p => (p.1, ({ ok := p.2.ok } : Islands)) else []
  let r := s.resetRegs warm
  let r := if warm then r.setWord 0 Reg.RST_STRAP strap else r
  let s' : State := { State.reset with
    part := s.part, regs := r.regs, regLog := r.regLog, cells := r.cells, cellLog := r.cellLog, out := s.out, fresh := s.fresh,
    isl := isl, tarn := s.tarn, pending := s.pending,
    evt := if warm then { journal := s.evt.journal, newest := s.evt.newest } else {},
    skn := { fired := s.skn.fired },
    boot := { fuses := s.boot.fuses, sources := s.boot.sources, reach := s.boot.reach, reachBad := s.boot.reachBad,
              strapTie := warm && s.boot.strapTie, plyDown := down },
    hold := { running := s.hold.running, torn := s.hold.torn } }
  s'.closeSpillways s 2

/-! DIE (16 R419; 05 R136; 08 R240). -/

/-- A queue is emptied: its segments leave their accounts. -/
def State.dropQueue (s : State) (key : Nat) : State × Nat :=
  let segs := (s.queue key).segs
  ((s.releaseSegs (s.holdDie key) segs).modQueue key fun q => { q with units := [], overflow := false, full := false }, segs.length)

/-- Queues whose segments lie on a die: those of its outputs, those held there, and Millpond parts there. -/
def State.queuesOn (s : State) (d : Nat) : List Nat :=
  s.queueKeys.filter fun key => key / 512 == d || s.holdDie key == d || (s.pondDie key == d && (s.queue key).inPlace 1 != 0)

/-- A DIE reset is applied: the die's state is cleared, and what other dies hold of it. -/
def State.applyDie (s : State) (d : Nat) : State :=
  let mirrors := (s.die d).ledger.filterMap fun p => p.2.mirrorOf.map fun h => (8192 * d + p.1, h)
  let down := (s.activePlies d).map fun k => (8 * d + k, false)
  let s := (s.activePlies d).foldl (fun s k => s.plyWentDown d k) s
  let s := (s.queuesOn d).foldl (fun s key => (s.dropQueue key).1) s
  let s := (s.queueKeys.filter fun key => s.holdDie key == d).foldl (fun s key =>
    s.set (key / 512) F.SCH_Q_PLACE_HOLD_DIE (key / 512) (key % 512)) s
  let s := (List.range 3).foldl (fun s p => if s.spliceHere d p then (s.dropCrossing d p).1.setSplice d p false else s) s
  let homes := (s.die d).ledger.filter fun p => p.2.mirrorOf.isNone
  let s := homes.foldl (fun s p =>
    let idx := 8192 * d + p.1
    (List.range s.part.dies).foldl (fun s m => s.modDie m fun x =>
      if x.ledger.any fun q => q.2.mirrorOf == some idx then
        { x with ledger := x.ledger.filter fun q => q.2.mirrorOf != some idx,
                 quarantine := x.quarantine ++ [⟨p.2.inType, p.2.inIndex, p.2.inSn, s.now + ms 1⟩] }
      else x) s) s
  let s := s.emptySlots d
  let s := if d = s.primary then s.modBrg fun b => { b with downAt := some s.now, lock := none } else s
  let s := if d < 2 then (s.spillClose d 3).modPort d fun x => { due := x.due, seq := x.seq } else s
  let s := if d = 0 then s.ethSpillClose 3 else s
  let s := s.dropRaised fun e => s.servingDie e == d
  let s := (s.listedIn d 0 0x1000000).foldl (fun s n => s.resetReg n keepsRws) s
  let s := (s.modDie d fun _ => {}).modIslands d fun x => { x with held := allIslands }
  let s : State := { s with
    tim := { s.tim with links := s.tim.links.filter fun p => !(decide (plyLink d 0 ≤ p.1) && decide (p.1 ≤ plyLink d 7)) },
    spd := { s.spd with allots := s.spd.allots.filter fun x => x.idx / 8192 != d },
    evt := { s.evt with outlets := s.evt.outlets.filter fun p => p.1 / 128 != d },
    pkg := { s.pkg with diesReset := setBit s.pkg.diesReset d },
    boot := { s.boot with mirrors := mirrors.foldl (fun t p => Table.put t p.1 p.2) s.boot.mirrors,
                          plyDown := down.foldl (fun t p => Table.put t p.1 p.2) s.boot.plyDown } }
  (s.reroute).rechain

/-- Mirrors are rebuilt from their home entries at the index they held (05 R136). -/
def State.rebuildMirrors (s : State) (d : Nat) : State :=
  let mine := s.boot.mirrors.filter fun p => p.1 / 8192 == d
  let s : State := { s with boot := { s.boot with mirrors := s.boot.mirrors.filter fun p => p.1 / 8192 != d } }
  mine.foldl (fun s p =>
    match s.entry? p.2 with
    | some e => s.putEntry p.1 { e with mirrorOf := some p.2 }
    | none => s) s

/-- A DIE reset is released: mirrors, the running image and its patches, then the islands. -/
def State.releaseDie (s : State) (d : Nat) : State :=
  let s : State := { s with pkg := { s.pkg with diesReset := clearBit s.pkg.diesReset d } }
  ((s.rebuildMirrors d).replay d none).letGo

/-! BLOCK (16 R419, R420; 06 R182; 07 R188). -/

/-- Every segment held on a die, and every Millpond part whose queue it holds, is discarded and counted (06 R182). -/
def State.discardBuffers (s : State) (d : Nat) : State :=
  let r := (s.queueKeys.filter fun key => s.holdDie key == d).foldl (fun (acc : State × Nat) key =>
    let q := acc.1.dropQueue key
    (q.1.pondSync key, acc.2 + q.2)) (s, 0)
  let x := r.1.die d
  let segs := ((x.gather.map (·.2)) ++ x.complete ++ x.copies).flatMap (·.segs) ++ x.inbound.map (·.seg)
  let s := (r.1.releaseSegs d segs).modDie d fun x => { x with
    gather := [], complete := [], copies := [], inbound := [], releases := [], acct := [], chains := [], bobbins := [] }
  (s.bump d F.SWC_RESET_DISCARD_COUNT (r.2 + segs.length)).rechain

/-- A Millpond part is lost with its channel (06 R182): the queue's segments that lie there are discarded. -/
def State.dropPond (s : State) (d c : Nat) : State :=
  (s.queueKeys.filter fun key => s.pondDie key == d && s.pondCh key == c && (s.queue key).inPlace 1 != 0).foldl (fun s key =>
    let n := ((s.queue key).segs.filter fun g => g.place == 1).length
    let s := s.modQueue key fun q => { q with
      units := (q.units.map fun u => { u with segs := u.segs.filter fun g => g.place != 1 }).filter fun u => !(u.segs.isEmpty && u.done) }
    (s.bump d F.SWC_RESET_DISCARD_COUNT n).afterDequeue key) s

/-- What an island holds beyond its registers is lost. -/
def State.clearIsland (s : State) (d i : Nat) : State :=
  if i < 8 then s.modDie d fun x => { x with lanes := Table.del x.lanes i }
  else if i = 8 ∨ i = 9 then
    let down := (s.activePlies d)
    let s := down.foldl (fun s k => s.plyWentDown d k) s
    let s : State := { s with boot := { s.boot with plyDown := down.foldl (fun t k => Table.put t (8 * d + k) true) s.boot.plyDown } }
    s.modDie d fun x => { x with plies := x.plies.map fun p => (p.1, ({ cfg := p.2.cfg } : Ply)) }
  else if i = 10 then s.modDie d fun x => { x with police := [] }
  else if i = 11 ∨ i = 12 then s.discardBuffers d
  else if i = 13 then (s.discardBuffers d).modDie d fun x => { x with busy := [], shapers := [], turn := [], oldGcl := [] }
  else if i < 17 then
    if s.spliceHere d (i - 14) then (((s.dropCrossing d (i - 14)).1).setSplice d (i - 14) false).reroute else s
  else if i = 17 then (if d = s.primary then s.modBrg fun b => { b with downAt := some s.now } else s)
  else if i = 18 then s.modDie d fun x => { x with dsUp := false }
  else if i = 19 then (s.modDie d fun x => { x with tags := [], aheads := [] }).modBrg fun b =>
    if d = s.primary then { b with changed := [], disabled := [], ends := [], lock := none } else b
  else if i = 20 then s.modDie d fun x => { x with dmaJobs := [] }
  else if i < 25 then
    let s := s.modDie d fun x => { x with ptp := Table.del x.ptp (i - 21), residences := Table.del x.residences (i - 21),
                                          sas := x.sas.filter fun y => y.port != i - 21 }
    let s := if i = s.lead d 21 4 then s.modDie d fun x => { x with lre := {}, sas := [], saWait := none } else s
    if d = 0 ∧ i < 23 then s.ethSpillClose 3 else s
  else if i < 27 then s.modDie d fun x => { x with heads := Table.del x.heads (i - 25) }
  else if i = 27 then s.modUsb d fun x => { relays := x.relays }
  else if i = 28 then s.modUsb d fun x => { x with relays := [] }
  else if i < 31 then (s.dropPond d (i - 29)).modDie d fun x => { x with selfRefresh := Table.del x.selfRefresh (i - 29) }
  else if i = 31 then
    let s := s.modDie d fun x => { x with samples := [], linked := [], sentBytes := [], protLinked := [], spliceBytes := [], pondBytes := [],
                                          headBytes := [], tempHigh := none, surges := [], noPond := [], pinConflict := [] }
    if d = 0 then { s with spd := {} } else s
  else if i = 32 then
    if d = 0 then { s with clock := {}, tim := {} } else s
  else if i = 33 then (if d < 2 then (s.spillClose d 3).modPort d fun _ => {} else s)
  else if i = 34 then
    let s := s.modDie d fun x => { x with keySlots := [], keyLoads := [], keyFail := [], keyWait := [] }
    if d = 0 then { s with key := { s.key with cmd := none } } else s
  else if i = 35 then
    let s := s.dropRaised fun e => s.servingDie e == d
    { s with evt := { s.evt with outlets := s.evt.outlets.filter fun p => p.1 / 128 != d } }
  else if i = 36 then
    if d = 0 then { s with vfn := { s.vfn with busyFor := 0 } } else s
  else if i = 39 then
    if d = 0 then
      let boot := { s.boot with pushing := none, fetching := none }
      State.set { s with skn := { s.skn with cmd := none, wait := none }, boot := boot } 0 F.SKN_STATUS_PATCH_PENDING 0
    else s
  else if i = 40 ∨ i = 42 then
    let s := if i = 42 then s.modDie d fun x => { x with tempRun := 0 } else s
    if d = 0 then s.cutStores else s
  else s

/-- Registers that show what outlives the reset of their island: owners of carved resources, the primary port and the hub's identity,
and what the BOOT island shows of the running image. -/
def keptByBlock (d i : Nat) : List (RegDesc × Nat) :=
  (if i = 35 then (List.range 128).map fun m => (Reg.EVT_OUT_VEC, m) else []) ++
  (if i = 20 then (List.range 64).map fun c => (Reg.BRG_DMA_CFG, c) else []) ++
  (if i = 19 ∧ d = 0 then [(Reg.BRG_PORT_STATUS, 0)] else []) ++
  (if i = 33 ∧ d = 0 then [(Reg.SHL_ID, 0)] else [])

/-- The bits of such a register that stay: the RO ones, but for HALTED. -/
def keptBits (r : RegDesc) : Word :=
  if r = Reg.BRG_DMA_CFG then fieldMask 23 16 else r.mask (· == .ro)

/-- A BLOCK reset is applied: what the island holds, and its registers (01 R512); the islands that show the running image keep that. -/
def State.applyBlock (s : State) (d i : Nat) : State :=
  let kept := (keptByBlock d i).map fun p => (p, s.word d p.1 p.2)
  let s := s.clearIsland d i
  let mine := (s.listedIn d 0 0x1000000).filter fun n => s.holder d (n % 0x1000000) == i
  let s := mine.foldl (fun s n => s.resetReg n fun x => keepsRws x || (i == 39 && x == .ro)) s
  let s := kept.foldl (fun s p =>
    s.setWord d p.1.1 ((s.word d p.1.1 p.1.2 &&& ~~~ keptBits p.1.1) ||| (p.2 &&& keptBits p.1.1)) p.1.2) s
  s.modIslands d fun x => { x with held := setBit x.held i }

/-- A BLOCK reset is released: the island's SKN fields come from the running image and its patches. -/
def State.releaseBlock (s : State) (d i : Nat) : State := (s.replay d (some i)).letGo

/-! FUNCTION (16 R419). -/

/-- PF0 is reset: configuration space and MSI-X, its outlets, its DMA channels with cause BME, its semaphores and tags. -/
def State.resetPf0 (s : State) : State :=
  let s := s.resetConfig 0
  let s := (List.range (128 * s.part.dies)).foldl (fun s p =>
    if s.outletOwner p = 0 ∧ s.flag (p / 128) F.EVT_OUT_STATUS_ENABLED (p % 128) = true then s.disableOutlet (p / 128) (p % 128) else s) s
  let s := (List.range (64 * s.part.dies)).foldl (fun s n =>
    if s.dmaRuns (n / 64) (n % 64) && s.dmaOwner (n / 64) (n % 64) == 0 then s.haltDma (n / 64) (n % 64) 4 else s) s
  let s := (s.freeSems 0).dropReads 0
  { s with vfn := { s.vfn with resetUntil := Table.put s.vfn.resetUntil 0 (s.now + ms 10) } }

/-- A function is reset by a source. -/
def State.resetFunction (s : State) (f : Nat) : State := if f = 0 then s.resetPf0 else s.resetVf f 4

/-- Every PCIe function is reset: PF0, and each virtual function that is created or that the host has enabled. -/
def State.resetAllFunctions (s : State) : State :=
  ((List.range (31 * s.part.dies)).map (· + 1)).foldl (fun s f =>
    if (s.slot f).st ≠ 0 ∨ Table.look s.vfn.hostEn f false = true then s.resetVf f 4 else s) s.resetPf0

/-! Firing (16 R416, R420, R422, R424). -/

/-- How long a source holds by itself; none where its condition stands. -/
def holdTime (src : Nat) : Option Nat := if [6, 7, 8, 11, 12].contains src then some (us 10) else none

/-- A source is applied: the reach is cleared, and the causes are recorded (16 R424, R425). -/
def State.applySource (s : State) (x : Source) : State :=
  let was := s
  let others := s.boot.sources.filter (·.applied)
  let bits := others.foldl (fun b y => if y.within x || x.within y then b ||| y.bits else b) x.bits
  let x : Source := { x with applied := true, until_ := (holdTime x.s).map (s.now + ·), bits := bits }
  let joined := others.any fun y => x.within y
  let s := if joined then s
    else if x.level ≤ 1 then s.applyWide (x.level == 1)
    else if x.level = 2 then s.applyDie x.die
    else s.applyBlock x.die x.isl
  let dies := if x.level ≤ 1 then List.range s.part.dies else [x.die]
  let s := dies.foldl (fun s d => s.recordCause was d x.s x.level) s
  { s with boot := { s.boot with
      sources := (s.boot.sources.map fun y => if y.applied && x.within y then { y with bits := y.bits ||| bits }
        else if x.level ≤ 1 then { y with applied := true } else y) ++ [{ x with until_ := (holdTime x.s).map (s.now + ·) }]
      restart := if x.level ≤ 1 then none else s.boot.restart } }

/-- A DIE reach on die 0, and a BLOCK reach on RCP or CSR of die 0, is WARM (01 R18; 16 R420). -/
def widened (level die isl : Nat) : Nat :=
  if die = 0 ∧ (level = 2 ∨ (level = 3 ∧ (isl = 37 ∨ isl = 38))) then 1 else level

/-- A source fires at COLD, WARM, DIE or BLOCK (16 R416, R420, R422). -/
def State.fire (s : State) (src level die isl : Nat) : State :=
  let l := widened level die isl
  let x : Source := { s := src, level := l, die := if l ≤ 1 then 0 else die, isl := if l = 3 then isl else 0, bits := 2 ^ src }
  let again := s.boot.sources.any fun y => y.s == src && y.level == l && y.die == x.die && y.isl == x.isl
  if 3 < l ∨ s.part.dies ≤ die ∨ again = true then s
  else if l = 3 ∧ (bit (s.islands die).off isl = true ∨ bonded die isl = false) then s
  else if l ≤ 1 ∨ (s.boot.sources.any fun y => y.applied && x.within y) then s.applySource x
  else
    { s with boot := { s.boot with sources := s.boot.sources ++
        [{ x with applied := false, deadline := s.now + us (s.get 0 F.RST_IDLE_CFG_IDLE_TIMEOUT_US) }] } }

/-- A source fires with the reach of its code; code 7 is ignored. -/
def State.fireReach (s : State) (src die isl : Nat) : State := s.fire src (s.reachCode src) die isl

/-! The handshake (16 R422). -/

/-- The handshake of a source ends. -/
def State.handshakeEnds (s : State) (x : Source) : State :=
  State.applySource { s with boot := { s.boot with sources := s.boot.sources.filter fun y => y != x } } { x with deadline := 0 }

/-- The source on a die that waits for its handshake. -/
def State.awaiting (s : State) (d src : Nat) : Option Source :=
  s.boot.sources.find? fun x => x.s == src && x.die == d && !x.applied

/-- RESET_IDLE_ACK (16 R422): the last island reached acknowledges. -/
def execResetIdleAck (a : At) (src : Nat) (s : State) : Out :=
  onUnit a (src < 16) s fun s =>
    match s.awaiting a.die src with
    | some x =>
      if s.clock.stopped || !inTime a s x.deadline then s
      else (if nearMiss a s x.deadline then s.bump 0 F.RST_NEAR_MISS_COUNT else s).handshakeEnds x
    | none => s

/-- RESET_IDLE_TIMEOUT (16 R422): the reset is applied anyway; the islands that had not acknowledged lose their items. -/
def execResetIdleTimeout (a : At) (src : Nat) (items : List (Nat × Nat)) (s : State) : Out :=
  onUnit a (src < 16 && items.all fun p => decide (p.1 < 44)) s fun s =>
    match s.awaiting a.die src with
    | some x =>
      if s.clock.stopped || !fallen s x.deadline then s
      else
        let s := items.foldl (fun s (p : Nat × Nat) =>
          (s.bump 0 F.RST_FORCED_COUNT).raise 0 38 0x032 2 [(1, p.1), (1, a.die), (2, 0), (4, p.2)]) s
        s.handshakeEnds x
    | none => s

/-! Release (16 R423, R424). -/

/-- The widest reset left is released: boot starts again from step 2 or 4 (16 R419); local time starts anew (00 R12). -/
def State.restartBoot (s : State) (x : Source) (powered : Bool) : State :=
  let s : State := { s with
    clock := {}, pkg := { s.pkg with bootStep := if x.level = 1 then 4 else if powered then 1 else 2 },
    boot := { s.boot with restart := some (x.level, x.bits), begun := 0, force := [] } }
  let s : State := { s with pkg := { s.pkg with bootStep := max 2 s.pkg.bootStep } }
  s.letGo

/-- The power-on reset is among the sources of the reset that ends (16 R425). -/
def State.recordPowerOn (s : State) : State :=
  (List.range s.part.dies).foldl (fun s d =>
    (s.set d F.RST_CAUSE_LAST_SOURCES (s.get d F.RST_CAUSE_LAST_SOURCES ||| 1)).set d F.RST_CAUSE_HIST_SOURCES
      (s.get d F.RST_CAUSE_HIST_SOURCES ||| 1)) s

/-- A source releases: its area restarts unless another source holds it (16 Table 16.3). -/
def State.releaseSource (s : State) (x : Source) : State :=
  let s := if x.s = 0 then s.recordPowerOn else s
  let s : State := { s with boot := { s.boot with sources := s.boot.sources.filter fun y => y != x } }
  if !x.applied || (s.boot.sources.any fun y => y.applied && x.within y) then s
  else if x.level ≤ 1 then s.restartBoot x (x.s == 0)
  else
    let still := if x.level = 2 then (s.islands x.die).held != 0 else bit (s.islands x.die).held x.isl
    if !still || s.pkg.bootStep < 7 then s
    else
      let s := if x.level = 2 then s.releaseDie x.die else s.releaseBlock x.die x.isl
      s.raise 0 38 0x031 1 [(1, x.level), (1, x.die), (2, x.bits), (8, s.ts)]

/-- RESET_RELEASE (16 R423): a source's condition has ended, or its time has run out. -/
def resetRelease (a : At) (src : Nat) (s : State) : Out :=
  onUnit a (src < 16) s fun s =>
    match s.boot.sources.find? fun x => x.s == src && x.applied && (decide (x.level ≤ 1) || x.die == a.die) with
    | some x =>
      if (match x.until_ with
        | some t => fallen s t
        | none => true) && !(src == 10 && s.hold.failing.isSome) then
        (s.releaseSource x).modIslands 0 id
      else s
    | none => s

/-- The islands that a write of RST_FORCE_RELEASE names. -/
def forceTargets (isl : Nat) : List Nat := if isl = 0x3F then List.range 44 else if isl < 44 then [isl] else []

/-- RST_FORCE_RELEASE (16 R423): islands that only software or JTAG holds are released, once their clocks are good. -/
def State.forceRelease (s : State) (v : Word) : State :=
  let d := wordGet v 8 6
  let only := (forceTargets (wordGet v 5 0)).filter fun i => bit (s.islands d).held i && bonded d i &&
    (s.boot.sources.any fun x => x.applied && x.covers d i && (x.s == 7 || x.s == 13)) &&
    !(s.boot.sources.any fun x => x.applied && x.covers d i && x.s != 7 && x.s != 13)
  if s.part.dies ≤ d then s
  else
    let s := only.foldl (fun s i =>
      let s : State := { s with boot := { s.boot with force := s.boot.force ++ [64 * d + i] } }
      if bit (s.islands d).ok i then s.replay d (some i) else s.raise 0 38 0x033 1 [(1, i), (1, d)]) s
    s.letGo

def rstForceRelease (a : At) (q : Req) (v : Word) (s : State) : Out :=
  onWrite a q 0x010024 v true s fun s => if a.die = 0 then s.forceRelease v else s

/-! The sources. -/

/-- POWER_ON_RESET (16 R416): the rails rise; COLD until every monitor has been in its window for 1 ms. What the supply kept is lost. -/
def execPowerOnReset (a : At) (s : State) : Out :=
  onUnit a true s fun s =>
    let ram := ((s.cellLog.map (·.1)) ++ (s.cells.map (·.1))).filter fun n => decide (2 ^ 40 ≤ n)
    let s : State := { s with cellLog := ram.map (fun n => (n, (0 : Byte))) ++ s.cellLog, skn := { s.skn with fired := false },
                              boot := { s.boot with sources := [] },
                              tarn := { s.tarn with asleep := false } }
    let s := s.cutTransition.fire 0 0 0 0
    { s with isl := [], pkg := {}, boot := { s.boot with plyDown := [] } }

/-- RST_N_ASSERT, PERST_N_ASSERT, JTAG_RESET (16 R416, Table 16.1). -/
def execRstNAssert (a : At) (s : State) : Out := onUnit a true s fun s => if s.tarn.asleep then s else s.fireReach 1 0 0
def execPerstNAssert (a : At) (s : State) : Out :=
  onUnit a true s fun s => if s.tarn.asleep then s else s.fireReach 2 s.primary 17
def execJtagReset (a : At) (s : State) : Out := onUnit a true s fun s => if s.tarn.asleep then s else s.fireReach 13 0 0

/-- PCIE_HOT_RESET (16 Table 16.1): at FUNCTION, every PCIe function. -/
def pcieHotReset (a : At) (s : State) : Out :=
  onUnit a true s fun s =>
    if !s.runs s.primary 17 then s
    else if s.reachCode 3 = 4 then s.resetAllFunctions else s.fireReach 3 s.primary 17

/-- PF0_FLR (16 R419). -/
def pf0Flr (a : At) (s : State) : Out :=
  onUnit a true s fun s => if s.runs s.primary 17 then s.resetPf0 else s

/-- A request's target is out of range, or an island that is off (16 R421). -/
def State.badTarget (s : State) (level die isl fn : Nat) : Bool :=
  match level with
  | 0 | 1 => false
  | 2 => decide (s.part.dies ≤ die)
  | 3 => decide (s.part.dies ≤ die) || decide (43 < isl) || bit (s.islands die).off isl
  | 4 => !s.isFunction fn
  | _ => true

/-- RST_REQ (16 R421). -/
def State.requestReset (s : State) (v : Word) : State :=
  let level := wordGet v 31 29
  let die := wordGet v 28 26
  let isl := wordGet v 25 20
  let fn := wordGet v 19 12
  let wide := widened level die isl
  let r7 := s.reachCode 7
  let result :=
    if r7 = 7 ∨ s.boot.option.swResetEn = false then 2
    else if 4 < level then 3
    else if wide < r7 then 1
    else if s.badTarget wide die isl fn then 3
    else if s.boot.sources.any fun x => x.s == 7 then 4
    else 0
  let s := (s.set 0 F.RST_REQ_STATUS_RESULT result).wrap 0 F.RST_REQ_STATUS_SEQ
  if result ≠ 0 then s.raise 0 38 0x034 2 [(1, level), (1, result)]
  else if level = 4 then s.resetFunction fn
  else s.fire 7 level die isl

def rstReq (a : At) (q : Req) (v : Word) (s : State) : Out :=
  onWrite a q 0x010010 v true s fun s => if a.die = 0 then s.requestReset v else s

end Sys2Proof.Machine
end

