-- ==== Sys2Proof/Machine/Skein.lean ====
section
/-! DEFINITION. Skein commands (02 R59 to R65): patches applied at a twist boundary, stores of patches and images, patch logs. -/

namespace Sys2Proof.Machine

/-! Slots and patch logs (02 R51, R63; 16 Table 16.5). -/

/-- What a slot holds as far as its header says: the header alone where that is not right. -/
def State.readSlot (s : State) (slot : Nat) : List Byte :=
  let h := s.cellBytes (slotAt slot) 128
  let n := imgLength h
  if imgHeaderOk h && decide (128 ≤ n) && decide (n ≤ 8388608) then s.cellBytes (slotAt slot) n else h

/-- An image and its marker lie within the 8 MiB before the patch log: a longer one exceeds the slot (02 Table 2.10). -/
def exceedsSlot (b : List Byte) : Bool := decide (0x800000 < imgLength b + 32)

/-- The patches of a slot's log from an offset on, where the log ends, and whether a torn patch ends it (02 R63). -/
def State.patchLog (s : State) (slot : Nat) : Nat → Nat → List (List Byte) × Nat × Bool
  | 0, off => ([], off, false)
  | n + 1, off =>
    let h := s.cellBytes (patchLogAt slot + off) 128
    let len := imgLength h
    if decide (0x800000 < off + 128) || !imgHeaderOk h || imgKind h != 1 then ([], off, false)
    else if 0x800000 < off + len + 32 ∨ len < 128 then ([], off, true)
    else
      let b := s.cellBytes (patchLogAt slot + off) len
      if markerOk b (s.cellBytes (patchLogAt slot + off + len) 32) then
        let r := State.patchLog s slot n (off + len + 32)
        (b :: r.1, r.2)
      else ([], off, true)

/-- The serials that a stored image must exceed (02 R63, R64). -/
def State.serials (s : State) : List Nat :=
  let held := ([0, 1].filter fun k => imgHeaderOk (s.readSlot k)).map fun k => imgSerial (s.readSlot k)
  if s.get 0 F.SKN_STATUS_STATE ≠ 2 then held
  else if s.get 0 F.SKN_STATUS_SLOT = 2 then s.get 0 F.SKN_SERIAL_SERIAL :: held
  else [s.get 0 F.SKN_SERIAL_SERIAL]

/-- The slot that STORE writes (02 R63, R64). -/
def State.storeSlot (s : State) : Nat :=
  let slot := s.get 0 F.SKN_STATUS_SLOT
  if s.get 0 F.SKN_STATUS_STATE = 2 ∧ slot < 2 then 1 - slot
  else
    let a := s.readSlot 0
    let b := s.readSlot 1
    match imgHeaderOk a, imgHeaderOk b with
    | true, true => if imgSerial a < imgSerial b then 0 else 1
    | true, false => 1
    | false, true => 0
    | false, false => 1

/-! Completion (02 R61, R68). -/

/-- A command completes: SEQ advances, RESULT is set; what no other event reports raises SKN_PATCH_REJECTED. -/
def State.sknAnswer (s : State) (op code off : Nat) : State :=
  let s := (s.set 0 F.SKN_PATCH_STATUS_RESULT code).wrap 0 F.SKN_PATCH_STATUS_SEQ
  if [0, 0x15, 0x16, 0x19, 0x1A].contains code then s else s.raise 0 0 0x024 2 [(1, code), (1, op), (2, 0), (4, off)]

/-- The command in progress completes. -/
def State.sknDone (s : State) (op code off : Nat) : State :=
  State.sknAnswer { s with skn := { s.skn with cmd := none } } op code off

/-! APPLY and APPLY_STORE. -/

/-- The refusals of R61 that come before the image checks. -/
def State.applyRefusal (s : State) (store : Bool) : Option Nat :=
  let len := s.get 0 F.SKN_PATCH_LEN_LEN
  let slot := s.get 0 F.SKN_STATUS_SLOT
  if s.skn.cmd.isSome || s.skn.wait.isSome then some 0x13
  else if s.get 0 F.SKN_STATUS_STATE ≠ 2 then some 0x11
  else if len = 0 ∨ 65536 < len then some 4
  else if !tsOk (s.pair 0 Reg.SKN_PATCH_AT_LO Reg.SKN_PATCH_AT_HI) then some 0x17
  else if 16 ≤ s.skn.patches.length || (store && decide (slot < 2) && decide (16 ≤ (s.patchLog slot 16 0).1.length)) then some 0x14
  else none

/-- A command starts to read host memory. -/
def State.readHost (s : State) (op : Nat) : State :=
  let len := s.get 0 F.SKN_PATCH_LEN_LEN
  State.emit { s with skn := { s.skn with cmd := some ⟨op, len, s.pair 0 Reg.SKN_PATCH_AT_LO Reg.SKN_PATCH_AT_HI⟩ } }
    (.hostRead 0 (s.pair 0 Reg.SKN_PATCH_ADDR_LO Reg.SKN_PATCH_ADDR_HI) len)

/-- APPLY (1) or APPLY_STORE (2) is written. -/
def State.applyCmd (s : State) (op : Nat) : State :=
  match s.applyRefusal (op == 2) with
  | some code => s.sknAnswer op code 0
  | none => s.readHost op

/-- STORE is written (02 R61, R63). -/
def State.storeCmd (s : State) : State :=
  let len := s.get 0 F.SKN_PATCH_LEN_LEN
  if s.skn.cmd.isSome then s.sknAnswer 4 0x13 0
  else if len = 0 ∨ 8388608 < len then s.sknAnswer 4 4 0
  else s.readHost 4

/-- CANCEL (02 R62): a pending patch is dropped; its APPLY_STORE completes just before. -/
def State.cancelCmd (s : State) : State :=
  if s.skn.wait.isNone then s.sknAnswer 3 0x18 0
  else
    let s := { s with skn := { s.skn with wait := none } }.set 0 F.SKN_STATUS_PATCH_PENDING 0
    let s := if s.skn.cmd.any fun c => c.op == 2 then s.sknDone 2 0x16 0 else s
    s.sknAnswer 3 0x16 0

/-- A write of SKN_PATCH_CMD; codes 0 and 5 to 7 are ignored, and the block exists on die 0 alone (02 R67). -/
def State.writeSknCmd (s : State) (d : Nat) (v : Word) : State :=
  if d ≠ 0 then s
  else
    match wordGet v 2 0 with
    | 1 => s.applyCmd 1
    | 2 => s.applyCmd 2
    | 3 => s.cancelCmd
    | 4 => s.storeCmd
    | _ => s

/-- SKN_APPLY (02 R61). -/
def execSknApply (a : At) (q : Req) (v : Word) (s : State) : Out :=
  onWrite a q 0x040038 v (wordGet v 2 0 == 1) s fun s => s.writeSknCmd a.die v
/-- SKN_APPLY_STORE (02 R61, R63). -/
def execSknApplyStore (a : At) (q : Req) (v : Word) (s : State) : Out :=
  onWrite a q 0x040038 v (wordGet v 2 0 == 2) s fun s => s.writeSknCmd a.die v
/-- SKN_CANCEL (02 R62). -/
def execSknCancel (a : At) (q : Req) (v : Word) (s : State) : Out :=
  onWrite a q 0x040038 v (wordGet v 2 0 == 3) s fun s => s.writeSknCmd a.die v
/-- SKN_STORE (02 R63). -/
def execSknStore (a : At) (q : Req) (v : Word) (s : State) : Out :=
  onWrite a q 0x040038 v (wordGet v 2 0 == 4) s fun s => s.writeSknCmd a.die v

/-! The bytes have been read and checked. -/

/-- SKN_PATCH_CHECKED (02 R61): the patch is refused, or it awaits its boundary; nothing read is no image (log entry 26). -/
def execSknPatchChecked (a : At) (readOk : Bool) (bytes : List Byte) (s : State) : Out :=
  onIsland a 39 (a.die == 0) s fun s =>
    match s.skn.cmd with
    | some c =>
      if (c.op ≠ 1 ∧ c.op ≠ 2) ∨ s.skn.wait.isSome then s
      else
        let b := if readOk then bytes.take c.len else []
        match s.checkPatch b with
        | .error f => s.sknDone c.op f.code f.off
        | .ok _ =>
          let due := if tsTraceable c.at_ == s.clock.traceable then some (tsPs c.at_) else none
          let s := { s with skn := { s.skn with wait := some ⟨b.take (imgLength b), due, c.op == 2⟩ } }.set 0
            F.SKN_STATUS_PATCH_PENDING 1
          if c.op = 1 then s.sknDone 1 0 0 else s
    | none => s

/-- The state that the records of a stored image are judged on: registers at their reset values (02 R45). -/
def State.blank (s : State) : State :=
  (List.range s.part.dies).foldl (fun s d => s.set d F.PIN_TEMP_TRIP_C s.tripDefault)
    { State.reset with part := s.part, boot := s.boot, evt := s.evt }

/-- A store of the Skein is requested; one that cannot run is answered at once (02 R63). -/
def State.sknRequest (s : State) (op : Nat) (j : StoreJob) (codes : List Nat) : State :=
  let s : State := { s with skn := { s.skn with cmd := s.skn.cmd.map fun c => { c with op := op + 8 } } }
  let r := s.requestStore j codes
  if r.2 = some false then r.1.sknDone op 0x15 0 else r.1

/-- The number that the next store completes as, which its marker carries (16 R436; log entry 27). -/
def State.storeSeq (s : State) : Nat := (s.get 0 F.HLD_STORE_STATUS_SEQ + 1) % 65536

/-- SKN_STORE_CHECKED (02 R63, R64): the image is refused, or its store is requested. -/
def execSknStoreChecked (a : At) (readOk : Bool) (bytes : List Byte) (codes : List Nat) (s : State) : Out :=
  onIsland a 39 (a.die == 0) s fun s =>
    match s.skn.cmd with
    | some c =>
      if c.op ≠ 4 then s
      else
        let b := if readOk then bytes.take c.len else []
        match s.blank.takeImage b with
        | .error f => s.sknDone 4 f.code f.off
        | .ok _ =>
          let b := b.take (imgLength b)
          let slot := s.storeSlot
          if exceedsSlot b then s.sknDone 4 4 8
          else if s.serials.any fun n => decide (imgSerial b ≤ n) then s.sknDone 4 0x10 16
          else s.sknRequest 4 { type := 2, what := 1, arg := slot, off := slotAt slot, bytes := b ++ markerOf s.storeSeq b } codes
    | none => s

/-- A Skein store has ended (02 R63, R68): SKN_STORED, and the command completes. -/
def State.sknStored (s : State) (j : StoreJob) (result : Nat) : State :=
  let s := if result = 0 then
      s.raise 0 0 0x026 1 [(1, j.arg), (1, j.what - 1), (2, 0), (4, imgSerial j.bytes)] else s
  match s.skn.cmd with
  | some c =>
    if c.op < 8 then s
    else s.sknDone (c.op - 8) (if result = 0 then 0 else if result = 3 then 0x1A else 0x15) 0
  | none => s

/-! The boundary (02 R61 to R63). -/

/-- A pending patch that is due takes effect; APPLY_STORE then asks for its store, or says that no slot holds the running image. -/
def State.patchDue (s : State) (codes : List Nat) : State :=
  match s.skn.wait with
  | none => s
  | some p =>
    let at_ := s.now / us 250 * us 250
    if s.pkg.bootStep < 9 ∨ (p.at_.map fun t => decide (at_ < t)).getD false = true then s
    else
      let l := sectionsOf p.bytes
      let slot := s.get 0 F.SKN_STATUS_SLOT
      let s := s.takePatch true p.bytes l
      let s := { s with skn := { s.skn with wait := none } }.set 0 F.SKN_STATUS_PATCH_PENDING 0
      let s := if p.store ∧ slot = 2 then s.sknDone 2 0x19 0 else s
      let s := s.raise 0 0 0x023 1 [(2, s.get 0 F.SKN_PATCH_STATUS_SEQ), (2, recordCount l), (8, s.tsAt at_)]
      if p.store ∧ slot ≠ 2 then
        s.sknRequest 2 { type := 2, what := 2, arg := slot, off := patchLogAt slot + (s.patchLog slot 16 0).2.1,
                         bytes := p.bytes ++ markerOf s.storeSeq p.bytes } codes
      else s

end Sys2Proof.Machine
end

