-- ==== Sys2Proof/Machine/Boot.lean ====
section
/-! DEFINITION. Start-up (16 R426, R427, R429, R431): straps, fuses and option bytes, the load of the Skein, push sources, recovery, and
the steps that follow a load. -/

namespace Sys2Proof.Machine

/-! Steps 2 to 4: straps, clocks, fuses (16 R426, R431). -/

/-- The islands of die 0 whose clocks boot needs (16 Table 16.6). -/
def clockIslands : List Nat := [37, 38, 39, 40, 42, 43]

/-- The majority of one bit of 8 samples; a tie gives 0. -/
def majority (l : List Nat) (b : Nat) : Nat := if 4 < (l.filter fun x => bit x b).length then 1 else 0
def tied (l : List Nat) : Bool := [0, 1].any fun b => (l.filter fun x => bit x b).length == 4

/-- The straps are sampled, at COLD only. -/
def State.sampleStraps (s : State) (boots clks : List Nat) : State :=
  let two := fun (l : List Nat) => majority l 0 + 2 * majority l 1
  ({ s with boot := { s.boot with strapTie := tied boots || tied clks } }.set 0 F.RST_STRAP_BOOT (two boots)).set 0 F.RST_STRAP_CLK
    (two clks)

/-- BOOT_CLOCKS_READY (16 R431, steps 2 to 4). -/
def execBootClocksReady (a : At) (boots clks : List Nat) (s : State) : Out :=
  onUnit a (boots.length == 8 && clks.length == 8) s fun s =>
    let ready := clockIslands.all fun i => bit (s.islands 0).ok i
    if !ready || (s.pkg.bootStep != 2 && s.pkg.bootStep != 4) then s
    else
      let s := if s.pkg.bootStep = 2 then s.sampleStraps boots clks else s
      let s := if s.tarn.wakeReq then { s with tarn := { s.tarn with wakeReq := false } }.emit (.wakeReq false) else s
      State.readReach { s with pkg := { s.pkg with bootStep := 5 } }

/-! Step 5 (16 R429). -/

/-- OPTION_BYTES_READ (16 R429): the valid copy with the higher COUNTER is used, A on equal counters, the defaults without a valid one. -/
def execOptionBytesRead (a : At) (s : State) : Out :=
  onIsland a 40 (a.die == 0) s fun s =>
    if s.pkg.bootStep ≠ 5 then s
    else
      let copyA := s.cellBytes (optionCopyAt 0) 256
      let copyB := s.cellBytes (optionCopyAt 1) 256
      let okA := optionOk copyA
      let okB := optionOk copyB
      let o : Options :=
        if okA && (!okB || decide ((optionsOf 1 copyB).counter ≤ (optionsOf 0 copyA).counter)) then optionsOf 0 copyA
        else if okB then optionsOf 1 copyB else {}
      let s : State := { s with boot := { s.boot with option := o }, pkg := { s.pkg with bootStep := 6 } }
      if okA && okB then s else s.raise 0 39 0x037 3 [(1, b2n (!okA) + 2 * b2n (!okB))]

/-! Steps 7 to 9 (16 R431). -/

/-- Islands are released, the Spindle starts with its island, the primary port trains. -/
def State.finishBoot (s : State) : State :=
  let s : State := { s with pkg := { s.pkg with bootStep := 7 } }
  let s := match s.boot.restart with
    | some (level, bits) => s.raise 0 38 0x031 1 [(1, level), (1, 0xFF), (2, bits), (8, s.ts)]
    | none => s
  let s := State.letGo { s with boot := { s.boot with restart := none } }
  let s := if s.serves s.primary 17 then s.emit (.port s.primary true) else s
  let s : State := { s with pkg := { s.pkg with bootStep := 9 } }
  s.raise 0 39 0x036 0 [(1, s.get 0 F.RST_STRAP_BOOT), (1, s.get 0 F.RST_STRAP_CLK), (1, b2n s.boot.strapTie), (1, s.boot.option.copy),
    (4, (s.boot.loaded - s.boot.begun) / us 1), (4, (s.now - s.boot.begun) / us 1)]

/-! An image that has passed every check becomes the running image (02 R52, R60). -/

/-- The trip level of the grade on every die, before an image sets one. -/
def State.tripReset (s : State) : State :=
  (List.range s.part.dies).foldl (fun s d => s.set d F.PIN_TEMP_TRIP_C s.tripDefault) s

/-- What the SKN block shows of an image, its digest, and the rest that its sections give. `s` has its records. -/
def State.adopt (s : State) (b : List Byte) (slot : Nat) (fallback : Bool) : State :=
  let l := sectionsOf b
  let fw := ((sectionOf l 0x14).map (·.payload)).getD []
  let usb := match (sectionOf l 0xD).map usbBlob with
    | some (.ok x) => x
    | _ => []
  let skn := { s.skn with image := b.take (imgLength b), patches := [], codeDigest := (fw.drop 16).take 48, usb := usb }
  let s : State := { s with skn := skn, pkg := { s.pkg with recovery := false } }
  let s := ((s.set 0 F.SKN_STATUS_STATE 2).set 0 F.SKN_STATUS_SLOT slot).set 0 F.SKN_STATUS_FALLBACK (b2n fallback)
  let s := (s.set 0 F.SKN_STATUS_PATCHES 0).set 0 F.SKN_SERIAL_SERIAL (imgSerial b)
  let s := (s.set 0 F.SKN_FW_VERSION_MAJOR (numAt fw 0 2)).set 0 F.SKN_FW_VERSION_MINOR (numAt fw 2 2)
  let s := (s.set 0 F.SKN_FW_BUILD_BUILD (numAt fw 4 4)).setDigest (imgDigest b)
  let s := (List.range s.part.dies).foldl (fun s d => (s.applyPool d l).set d F.GLB_DIE_STATUS_CONFIGURED 1) s
  s.tellSkipped l

/-- SKN_LOADED. -/
def State.tellLoaded (s : State) : State :=
  s.raise 0 0 0x020 0 [(1, s.get 0 F.SKN_STATUS_SLOT), (1, s.get 0 F.SKN_STATUS_FALLBACK), (1, s.skn.patches.length), (1, 0),
    (4, s.get 0 F.SKN_SERIAL_SERIAL), (2, s.get 0 F.SKN_FW_VERSION_MAJOR), (2, s.get 0 F.SKN_FW_VERSION_MINOR)]

/-- The committed patches of a slot, in order; the first that fails a check is skipped with all later ones (02 R63). -/
def State.applyLogged (s : State) (slot total : Nat) : List (List Byte) → State
  | [] => s
  | b :: rest =>
    match s.checkPatch b with
    | .ok l => State.applyLogged (s.takePatch false b l) slot total rest
    | .error _ => s.raise 0 0 0x025 2 [(1, slot), (1, total - (rest.length + 1)), (1, rest.length + 1)]

/-- NVM_TORN (16 R436). -/
def State.tellTorn (s : State) (type slot off : Nat) : State := s.raise 0 39 0x038 2 [(1, type), (1, slot), (2, 0), (4, off)]

/-- SKN_LOAD_FAIL (02 R54). -/
def State.tellFailed (s : State) (slot : Nat) (f : Flaw) : State :=
  s.raise 0 0 0x021 3 [(1, slot), (1, f.code), (2, f.type), (4, f.off)]

/-! Failure of every available image (02 R54, R55). -/

/-- Recovery. -/
def State.enterRecovery (s : State) : State :=
  let s := { s with pkg := { s.pkg with recovery := true } }.set 0 F.SKN_STATUS_STATE 3
  let s := ((s.spillClose 0 4).spillClose 1 4).ethSpillClose 4
  let s := s.raise 0 0 0x022 4 [(1, s.get 0 F.SKN_FAIL_A_CODE), (1, s.get 0 F.SKN_FAIL_B_CODE)]
  if s.pkg.bootStep < 9 then s.finishBoot else s

/-- Source 12 fires once since the supply was applied, unless its code is 7; then recovery. -/
def State.loadFailed (s : State) : State :=
  if !s.skn.fired && s.reachCode 12 != 7 then { s with skn := { s.skn with fired := true } }.fireReach 12 0 0
  else s.enterRecovery

/-! Step 6 from NVM (02 R51). -/

/-- Reads, checks and takes the image of a slot. -/
def State.loadSlot (s : State) (slot : Nat) : Except (Flaw × Bool) (List Byte × State) :=
  let b := s.readSlot slot
  let early := match headerFlaw s.part.dies 0 b with
    | some f => f.off != 12 && f.off != 13
    | none => false
  if early then .error ((headerFlaw s.part.dies 0 b).getD ⟨1, 0, 0⟩, false)
  else if exceedsSlot b then .error (⟨4, 0, 8⟩, false)
  else if !markerOk b (s.cellBytes (slotAt slot + b.length) 32) then .error (⟨1, 0, 0⟩, true)
  else match s.tripReset.takeImage b with
    | .ok s' => .ok (b, s')
    | .error f => .error (f, false)

/-- A slot's load has failed. -/
def State.slotFailed (s : State) (slot : Nat) (f : Flaw × Bool) : State :=
  let r := if slot = 0 then (F.SKN_FAIL_A_CODE, F.SKN_FAIL_A_OFFSET) else (F.SKN_FAIL_B_CODE, F.SKN_FAIL_B_OFFSET)
  let s := (s.set 0 r.1 f.1.code).set 0 r.2 f.1.off
  (if f.2 then s.tellTorn 2 slot (slotAt slot) else s).tellFailed slot f.1

/-- An image of a slot runs, with its committed patches. -/
def State.runSlot (s : State) (slot : Nat) (fallback : Bool) (b : List Byte) : State :=
  let s := s.adopt b slot fallback
  let log := s.patchLog slot 16 0
  let s := if log.2.2 then s.tellTorn 2 slot (patchLogAt slot + log.2.1) else s
  (s.applyLogged slot log.1.length log.1).tellLoaded.finishBoot

/-- Images A and B are tried, the higher serial first (02 R51). -/
def State.loadNvm (s : State) : State :=
  let a := s.readSlot 0
  let b := s.readSlot 1
  let first := if imgHeaderOk b && (!imgHeaderOk a || decide (imgSerial a < imgSerial b)) then 1 else 0
  match s.loadSlot first with
  | .ok r => r.2.runSlot first false r.1
  | .error f =>
    let s := s.slotFailed first f
    match s.loadSlot (1 - first) with
    | .ok r => r.2.runSlot (1 - first) true r.1
    | .error g => (s.slotFailed (1 - first) g).loadFailed

/-- SKN_LOAD (02 R51; 16 R426): step 6. A push source first runs steps 7 to 9 as in recovery. -/
def sknLoad (a : At) (s : State) : Out :=
  onIsland a 39 (a.die == 0) s fun s =>
    if s.pkg.bootStep ≠ 6 then s
    else
      let s := s.hold.torn.foldl (fun s t => s.tellTorn t.1 t.2.1 t.2.2) s
      let s : State := { s with hold := { s.hold with torn := [] }, boot := { s.boot with loaded := s.now } }
      if s.get 0 F.RST_STRAP_BOOT = 0 then s.loadNvm else s.finishBoot

/-! Push sources (16 R426, R427). -/

/-- A pushed image has failed (02 R55). -/
def State.pushFailed (s : State) (f : Flaw) : State :=
  State.loadFailed (State.tellFailed { s with boot := { s.boot with pushing := none, fetching := none } } 2 f)

/-- A write of RST_BOOT_PUSH: ignored while an image runs and while a load runs; a FETCH is the host's alone. -/
def State.writePush (s : State) (d : Nat) (q : Req) (v : Word) : State :=
  let n := wordGet v 23 0
  let fetch := wordGet v 31 31 == 1
  if d ≠ 0 ∨ s.pkg.bootStep < 9 ∨ s.get 0 F.SKN_STATUS_STATE = 2 ∨ s.boot.pushing.isSome ∨ s.boot.fetching.isSome then s
  else if fetch && q != .pf0 then s
  else if fetch && !s.busMaster 0 then s.pushFailed ⟨1, 0, 0⟩
  else if fetch && n != 0 && decide (n ≤ 8388608) && n % 8 == 0 then
    { s with boot := { s.boot with fetching := some n } }.emit
      (.hostRead 0 (s.pair 0 Reg.RST_BOOT_HOST_LO Reg.RST_BOOT_HOST_HI) n)
  else { s with boot := { s.boot with pushing := some n } }

/-- BOOT_PUSH, BOOT_PUSH_FETCH (16 R427). -/
def execBootPush (a : At) (q : Req) (v : Word) (s : State) : Out :=
  onWrite a q 0x010034 v (wordGet v 31 31 == 0) s fun s => s.writePush a.die q v
def execBootPushFetch (a : At) (q : Req) (v : Word) (s : State) : Out :=
  onWrite a q 0x010034 v (wordGet v 31 31 == 1) s fun s => s.writePush a.die q v

/-- BOOT_FETCH_DONE (16 R427): the image is in the boot buffer, or the push fails as a load of an absent image. -/
def execBootFetchDone (a : At) (ok : Bool) (bytes : List Byte) (s : State) : Out :=
  onIsland a 39 (a.die == 0) s fun s =>
    match s.boot.fetching with
    | some n =>
      if ok && bytes.length == n then
        State.setCells { s with boot := { s.boot with fetching := none, pushing := some n } } (bootCell 0) bytes
      else s.pushFailed ⟨1, 0, 0⟩
    | none => s

/-- PUSH_IMAGE_LOADED (16 R427): the load of a pushed image ends; the primary port retrains, and boot goes on from step 7. -/
def pushImageLoaded (a : At) (s : State) : Out :=
  onIsland a 39 (a.die == 0) s fun s =>
    match s.boot.pushing with
    | some n =>
      if n = 0 ∨ 8388608 < n ∨ n % 8 ≠ 0 then s.pushFailed ⟨4, 0, 8⟩
      else
        let b := s.cellBytes (bootCell 0) n
        match s.tripReset.takeImage b with
        | .error f => s.pushFailed f
        | .ok s' =>
          let s : State := { s' with boot := { s'.boot with pushing := none } }
          ((((s.adopt b 2 false).tellLoaded).emit (.port 0 false))).finishBoot
    | none => s

end Sys2Proof.Machine
end

