-- ==== Sys2Proof/Machine/Key.lean ====
section
/-! DEFINITION. Keys, life cycle and attestation (17): loads from blobs, pins and flushes, ATTEST and authorizations, transitions, tamper. -/

namespace Sys2Proof.Machine

/-! Slots (17 R444, R445). -/

/-- SESSION is destroyed: every slot and every engine copy, on every die; the answer counts the slots. -/
def State.destroySession (s : State) : State × Nat :=
  (List.range s.part.dies).foldl (fun acc d =>
    (acc.1.modDie d fun x => { x with keySlots := [], engines := [] }, acc.2 + (acc.1.die d).keySlots.length)) (s, 0)

/-- The slots of a die that a function's loads may take (17 R444; 13 R353): PF0's are those not carved. -/
def State.slotPool (s : State) (d owner : Nat) : List Nat :=
  if owner = 0 then (List.range 64).filter fun i => !(s.carved d).any fun x => x.carve.keySlots.contains i
  else (s.slot owner).carve.keySlots

/-- The slot that a load takes, and whether it evicts a key: a free one, else the least recently used that is not pinned. -/
def State.takeSlot (s : State) (d owner : Nat) : Option (Nat × Bool) :=
  let pool := s.slotPool d owner
  let slots := (s.die d).keySlots
  match pool.find? fun i => (Table.find? slots i).isNone with
  | some i => some (i, false)
  | none =>
    let loose := slots.filter fun p => pool.contains p.1 && p.2.pins == 0 && !p.2.pinned
    match loose with
    | [] => none
    | p :: rest => some ((rest.foldl (fun (m : Nat × KeySlot) q => if q.2.used < m.2.used then q else m) p).1, true)

/-- Every slot that holds a handle changes, on every die. -/
def State.onHandle (s : State) (h : Nat) (f : KeySlot → KeySlot) : State :=
  (List.range s.part.dies).foldl (fun s d => s.modDie d fun x => { x with
    keySlots := x.keySlots.map fun p => if p.2.handle = h then (p.1, f p.2) else p }) s

/-- Some slot holds a handle. -/
def State.handleHeld (s : State) (h : Nat) : Bool :=
  (List.range s.part.dies).any fun d => (s.die d).keySlots.any fun p => p.2.handle == h

/-- FLUSH (17 R445): every slot and engine copy of the handle is zeroed; it may be fetched again at once (R444). -/
def State.flushKey (s : State) (h : Nat) : State :=
  let s := (List.range s.part.dies).foldl (fun s d => s.modDie d fun x => { x with
    keySlots := x.keySlots.filter fun p => p.2.handle != h
    engines := x.engines.map fun p => (p.1, p.2.filter (· != h))
    keyFail := Table.del x.keyFail h }) s
  { s with key := { s.key with flushedAt := Table.put s.key.flushedAt h s.now } }

/-! Completion of KEY commands (17 R454, R458). -/

/-- A command completes; one that is not OK is reported. -/
def State.keyDone (s : State) (op handle result : Nat) : State :=
  let s : State := { s with key := { s.key with cmd := none } }
  let s := ((s.set 0 F.KEY_CMD_STATUS_RESULT result).set 0 F.KEY_CMD_STATUS_BUSY 0).wrap 0 F.KEY_CMD_STATUS_SEQ
  if result = 0 then s else s.raise 0 34 0xB06 2 [(1, op), (1, result), (2, handle)]

/-- A command that does not complete at once. -/
def State.keyBusy (s : State) (c : KeyCmd) : State :=
  { s with key := { s.key with cmd := some c } }.set 0 F.KEY_CMD_STATUS_BUSY 1

/-! The counter (17 R453). -/

/-- The Device Serial Number's lower 64 bits. -/
def State.serialBytes (s : State) : List Byte := leBytes 4 s.part.serialLo.toNat ++ leBytes 4 s.part.serialHi.toNat

/-- KEY_ATT_COUNTER: the option bytes' COUNTER above the lower half. -/
def State.attCounter (s : State) : Nat := (s.boot.option.counter * 2 ^ 32 + s.key.attLow) % 2 ^ 64

/-- The counter moves on. -/
def State.countAtt (s : State) : State := { s with key := { s.key with attLow := s.key.attLow + 1 } }

/-! ATTEST (17 R452). -/

/-- The life-cycle code in force. -/
def State.lc (s : State) : Nat := s.boot.fuses.lcCode

/-- Twelve or fourteen words of bytes. -/
def State.setResp (s : State) (b : List Byte) : State :=
  (List.range 14).foldl (fun s k => s.setWord 0 Reg.KEY_RESP (BitVec.ofNat 32 (numAt b (4 * k) 4)) k) s

/-- KEY_ARG as bytes. -/
def argBytes (args : List Word) (n : Nat) : List Byte := (args.take n).flatMap fun w => leBytes 4 w.toNat

/-- The message of Table 17.4. -/
def State.attestMessage (s : State) (c : KeyCmd) : List Byte :=
  [0x41, 0x54, 0x54, 0x37] ++ argBytes c.args 8 ++ c.digest ++
  (if s.skn.codeDigest.isEmpty then List.replicate 48 0 else s.skn.codeDigest) ++
  leBytes 1 s.lc ++ leBytes 1 s.part.dies ++ [0, 0] ++ leBytes 8 s.attCounter

/-- The response is placed, and the counter moves on. -/
def State.attest (s : State) (c : KeyCmd) : State :=
  let n := s.attCounter
  let mac := Config.hmac384 s.boot.fuses.attest (s.attestMessage c)
  let s := (s.setResp (mac.take 48 ++ leBytes 8 n)).countAtt.raise 0 34 0xB07 0 [(1, if c.req = 0 then 0 else 1), (1, s.lc), (2, 0), (8, n)]
  s.keyDone 5 c.handle 0

/-! Transitions (17 R449 to R451). -/

/-- The state in which a transition's command is accepted, and whether it needs an authorization (17 Table 17.3). -/
def lcAllows (op lc : Nat) : Bool :=
  match op with
  | 6 => lc == 0
  | 7 => lc == 1
  | 8 => lc == 2
  | 9 => decide (lc < 4)
  | _ => false
def lcAuthorized (op lc : Nat) : Bool := op == 7 || op == 8 || (op == 9 && (lc == 1 || lc == 2))

/-- A transition that has begun first destroys SESSION (17 R450). -/
def State.lcBegins (s : State) : State :=
  match s.hold.running with
  | some j => if j.what = 5 then s.destroySession.1 else s
  | none => s

/-- The store of a transition is requested. -/
def State.transition (s : State) (c : KeyCmd) (bank : List Byte) (codes : List Nat) : State :=
  let s := s.keyBusy { c with stage := 2 }
  let r := s.requestStore { type := 4, what := 5, arg := c.op, off := 0, bytes := bank } codes
  match r.2 with
  | some true => r.1.lcBegins
  | some false => r.1.keyDone c.op c.handle 6
  | none => r.1

/-- The authorization of a command (17 R451). -/
def State.authorized (s : State) (c : KeyCmd) : Bool :=
  Config.hmac384 s.boot.fuses.attest
    ([0x41, 0x55, 0x54, 0x37] ++ leBytes 1 c.op ++ [0, 0, 0] ++ s.serialBytes ++ leBytes 8 s.attCounter) == argBytes c.args 12

/-- A command that uses the counter goes on, the counter being open. -/
def State.keyGoOn (s : State) (c : KeyCmd) (codes : List Nat) : State :=
  if c.op = 5 then s.attest c
  else
    let ok := s.authorized c
    let s := s.countAtt
    if ok then s.transition c [] codes else s.keyDone c.op c.handle 2

/-- The first such command since the boot opens the counter by a write of the option bytes (17 R453). -/
def State.openCounter (s : State) (c : KeyCmd) (codes : List Nat) : State :=
  if s.key.attOpen then s.keyGoOn c codes
  else
    let s := s.keyBusy { c with stage := 1 }
    let r := s.requestStore s.optionJob codes
    if r.2 = some false then r.1.keyDone c.op c.handle 6 else r.1

/-- PROVISION's buffer (17 R451): the 176 bytes to be fused. -/
def State.provisionBank (s : State) (buf : List Byte) : Option (List Byte) :=
  if buf.length != 200 || !s.boot.fuses.root then none
  else match Config.unwrap Config.transportKey buf with
  | some p =>
    if p.length == 192 && p.take 4 == [0x4F, 0x57, 0x4E, 0x37] && (p.drop 4).take 8 == s.serialBytes then some (p.drop 16) else none
  | none => none

/-- A store that the KEY island waits for has ended (17 R450, R453). -/
def State.keyStored (s : State) (j : StoreJob) (result : Nat) (codes : List Nat) : State :=
  match s.key.cmd with
  | some c =>
    if j.what = 3 ∧ c.stage = 1 then
      if result = 0 then State.keyGoOn { s with key := { s.key with attOpen := true, attLow := 0 } } c codes
      else s.keyDone c.op c.handle 6
    else if j.what = 5 ∧ c.stage = 2 ∧ result ≠ 0 then s.keyDone c.op c.handle 6
    else s
  | none => s

/-! Writes of KEY_CMD (17 Table 17.6). -/

/-- The handle a LOAD names is in a slot, or its load starts (17 R444). -/
def State.loadCmd (s : State) (c : KeyCmd) : State :=
  if (s.slotOwner? 0 c.handle).isSome then s.keyDone 1 c.handle 0
  else if s.keyHeldOff 0 c.handle then s.keyDone 1 c.handle 3
  else (s.keyBusy c).needKey 0 0 c.handle none

/-- A write of KEY_CMD: ignored and counted while BUSY; PF0's alone but for ATTEST. -/
def State.writeKeyCmd (s : State) (d : Nat) (q : Req) (v : Word) (buf : List Byte) (codes : List Nat) : State :=
  let op := wordGet v 31 28
  let h := wordGet v 15 0
  let c : KeyCmd := ⟨op, h, reqCode q, s.digest, (List.range 16).map fun k => s.word 0 Reg.KEY_ARG k, 0⟩
  if d ≠ 0 ∨ op = 0 ∨ 9 < op then s
  else if s.key.cmd.isSome then s.bump 0 F.SKN_IGNORED_COUNT
  else if q ≠ .pf0 ∧ !(op == 5 && q == .smb && s.boot.option.smbAttest) then s.keyDone op h 10
  else
    match op with
    | 1 => s.loadCmd c
    | 2 => if s.handleHeld h then (s.onHandle h fun x => { x with pinned := true }).keyDone 2 h 0 else s.keyDone 2 h 3
    | 3 => if s.handleHeld h then (s.onHandle h fun x => { x with pinned := false }).keyDone 3 h 0 else s.keyDone 3 h 3
    | 4 => (s.flushKey h).keyDone 4 h 0
    | 5 => if (s.lc = 1 ∨ s.lc = 2) ∧ s.boot.fuses.ownerValid = true then s.openCounter c codes else s.keyDone 5 h 5
    | 6 =>
      if !lcAllows 6 s.lc then s.keyDone 6 h 1
      else
        let s := s.emit (.hostRead 0 (s.pair 0 Reg.KEY_CMD_ADDR_LO Reg.KEY_CMD_ADDR_HI) 200)
        match s.provisionBank buf with
        | some b => s.transition c (b ++ crc32c b) codes
        | none => s.keyDone 6 h 8
    | _ =>
      if !lcAllows op s.lc then s.keyDone op h 1
      else if lcAuthorized op s.lc then s.openCounter c codes else s.transition c [] codes

/-- KEY_LOAD, KEY_PIN, KEY_UNPIN, KEY_FLUSH (17 R444, R445). -/
def execKeyLoad (a : At) (q : Req) (v : Word) (s : State) : Out :=
  onWrite a q 0x280020 v (wordGet v 31 28 == 1) s fun s => s.writeKeyCmd a.die q v [] []
def execKeyPin (a : At) (q : Req) (v : Word) (s : State) : Out :=
  onWrite a q 0x280020 v (wordGet v 31 28 == 2) s fun s => s.writeKeyCmd a.die q v [] []
def execKeyUnpin (a : At) (q : Req) (v : Word) (s : State) : Out :=
  onWrite a q 0x280020 v (wordGet v 31 28 == 3) s fun s => s.writeKeyCmd a.die q v [] []
def execKeyFlush (a : At) (q : Req) (v : Word) (s : State) : Out :=
  onWrite a q 0x280020 v (wordGet v 31 28 == 4) s fun s => s.writeKeyCmd a.die q v [] []
/-- KEY_ATTEST (17 R452). -/
def execKeyAttest (a : At) (q : Req) (v : Word) (codes : List Nat) (s : State) : Out :=
  onWrite a q 0x280020 v (wordGet v 31 28 == 5) s (fun s => s.writeKeyCmd a.die q v [] codes) { codes := codes }
/-- KEY_PROVISION (17 R451). -/
def execKeyProvision (a : At) (q : Req) (v : Word) (buf : List Byte) (codes : List Nat) (s : State) : Out :=
  onWrite a q 0x280020 v (wordGet v 31 28 == 6) s (fun s => s.writeKeyCmd a.die q v buf codes) { codes := codes, buf := buf }
/-- KEY_DEPLOY, KEY_RETURN, KEY_SCRAP (17 R450). -/
def execKeyDeploy (a : At) (q : Req) (v : Word) (codes : List Nat) (s : State) : Out :=
  onWrite a q 0x280020 v (wordGet v 31 28 == 7) s (fun s => s.writeKeyCmd a.die q v [] codes) { codes := codes }
def execKeyReturn (a : At) (q : Req) (v : Word) (codes : List Nat) (s : State) : Out :=
  onWrite a q 0x280020 v (wordGet v 31 28 == 8) s (fun s => s.writeKeyCmd a.die q v [] codes) { codes := codes }
def execKeyScrap (a : At) (q : Req) (v : Word) (codes : List Nat) (s : State) : Out :=
  onWrite a q 0x280020 v (wordGet v 31 28 == 9) s (fun s => s.writeKeyCmd a.die q v [] codes) { codes := codes }

/-! Loads (17 R442 to R444). -/

/-- A blob's clear header breaks Table 17.2, OWNER apart (reason 3), for engines that need a line key, a MACsec key, or either. -/
def blobHeaderBad (handle : Nat) (line mac : Bool) (b : List Byte) : Bool :=
  b.take 4 != [0x4B, 0x42, 0x4C, 0x37] || byteAt b 4 != 2 || (byteAt b 5 != 1 && byteAt b 5 != 2) || byteAt b 7 != 0 ||
  numAt b 8 2 != handle || !(((b.drop 10).take 6).all (· == 0)) || (line && byteAt b 5 != 1) || (mac && byteAt b 5 != 2)

/-- A blob read: the key, or why it is rejected, and whether the rejection counts towards the tamper limit. -/
def State.unwrapBlob (s : State) (handle owner : Nat) (line mac : Bool) (b : List Byte) : Except (Nat × Bool) (List Byte) :=
  if blobHeaderBad handle line mac b then .error (3, true)
  else if byteAt b 6 ≠ owner then .error (2, true)
  else if !s.boot.fuses.ownerValid then .error (4, false)
  else match Config.unwrap s.boot.fuses.wrap (b.drop 16) with
  | some p => if p.length == 48 && p.take 16 == b.take 16 then .ok (p.drop 16) else .error (4, true)
  | none => .error (4, true)

/-- A virtual function's blob in device memory lies inside its BAR2 range (17 R443). -/
def State.blobInBar2 (s : State) (f addr : Nat) : Bool :=
  let t := (s.slot f).carve.bar2
  decide (t ≤ addr) && decide (addr + 72 ≤ t + s.bar2Size f)

/-- What a load finds: the function and the key's USE and bytes, or the reason, the function, and whether it counts as a rejection. -/
def State.fetchKey (s : State) (l : KeyLoad) (dirEntry blob : List Byte) : Except (Nat × Nat × Bool) (Nat × Nat × List Byte) :=
  let line := l.engines.any fun e => decide (e < 8)
  let mac := l.engines.any fun e => decide (8 ≤ e)
  let device := s.flag 0 F.KEY_DIR_CFG_DIR_DEVICE
  let at_ := s.pair 0 Reg.KEY_DIR_LO Reg.KEY_DIR_HI + 16 * l.handle
  let e := if device then s.cellBytes (devCell at_) 16 else if s.busMaster 0 then dirEntry else []
  let owner := byteAt e 8
  let addr := numAt e 0 8
  let b := if bit (byteAt e 9) 1 then s.cellBytes (devCell addr) 72 else if s.busMaster owner then blob else []
  if l.handle = 0 ∨ s.get 0 F.KEY_DIR_CFG_KEY_DIR_COUNT ≤ l.handle then .error (1, l.owner, false)
  else if e.length ≠ 16 then .error (5, l.owner, false)
  else if bit (byteAt e 9) 0 = false then .error (1, l.owner, false)
  else if (line || l.owner != 0) && owner != l.owner then .error (2, l.owner, false)
  else if bit (byteAt e 9) 1 && owner != 0 && !s.blobInBar2 owner addr then .error (2, owner, false)
  else if b.length ≠ 72 then .error (5, owner, false)
  else match s.unwrapBlob l.handle owner line mac b with
  | .ok key => .ok (owner, byteAt b 5, key)
  | .error (n, counts) => .error (n, owner, counts)

/-- The entries whose encryption uses a handle for a function. -/
def State.keyStrands (s : State) (owner handle : Nat) : List (Nat × Entry) :=
  s.entries.filter fun p => p.2.enc && p.2.keyHandle == handle && p.2.owner == owner

/-- Received segments that wait for a key, taken out of every die's wait. -/
def State.takeKeyed (s : State) (owner handle : Nat) : State × List (Nat × Nat × HeldSeg) :=
  let mine := fun (d : Nat) (h : HeldSeg) => (s.findIn d h.slot (hSn h.hdr)).bind fun idx => (s.entry? idx).bind fun e =>
    if e.keyHandle = handle ∧ e.owner = owner then some (d, idx, h) else none
  (List.range s.part.dies).foldl (fun acc d =>
    (acc.1.modDie d fun x => { x with keyWait := x.keyWait.filter fun h => (mine d h).isNone },
     acc.2 ++ (s.die d).keyWait.filterMap (mine d))) (s, [])

/-- The SA command that waits for a handle on each die. -/
def State.saWaiting (s : State) (handle : Nat) : List (Nat × SaWait) :=
  (List.range s.part.dies).filterMap fun d => (s.die d).saWait.bind fun w => if wordGet w.cmd 15 0 = handle then some (d, w) else none

/-- A key is in its slot: what waited for it goes on. -/
def State.keyArrived (s : State) (l : KeyLoad) (owner : Nat) : State :=
  let r := s.takeKeyed owner l.handle
  let s := r.2.foldl (fun s p => s.decryptSeg p.1 p.2.1 p.2.2) r.1
  let s := (s.saWaiting l.handle).foldl (fun s p => s.saInstall p.1 p.2) s
  match s.key.cmd with
  | some c => if c.op = 1 ∧ c.handle = l.handle then s.keyDone 1 l.handle 0 else s
  | none => s

/-- Segments of a strand that wait on transmit are discarded. -/
def State.dropSending (s : State) (idx : Nat) : State :=
  match (s.entry? idx).bind s.queueOf with
  | some key =>
    let gone := (s.queue key).units.filter fun u => u.idx == idx
    let s := s.releaseSegs (s.holdDie key) (gone.flatMap (·.segs))
    (s.modQueue key fun q => { q with units := q.units.filter fun u => u.idx != idx }).afterDequeue key
  | none => s

/-- A load fails (17 R444, R448, R458). -/
def State.keyFailed (s : State) (d : Nat) (l : KeyLoad) (reason owner : Nat) (counts : Bool) : State :=
  let strands := if l.engines.any fun e => decide (e < 8) then s.keyStrands l.owner l.handle else []
  let sid := ((strands.head?).map fun p => p.2.strandId).getD 0
  let s := s.modDie d fun x => { x with keyFail := Table.put x.keyFail l.handle (s.now + ms 10) }
  let s := if counts then { s with key := { s.key with rejects := (s.key.rejects.filter fun t => decide (s.now < t + ms 1000)) ++ [s.now] } }
    else s
  let s := (s.bump d F.KEY_LOAD_FAIL_COUNT).raiseOwned owner d 34 0xB01 2 [(2, l.handle), (1, owner), (1, reason), (4, sid), (1, d)]
  let r := s.takeKeyed l.owner l.handle
  let s := r.2.foldl (fun s p => s.releaseSeg p.1 ⟨p.2.2.hdr, [], p.1, p.2.2.acct, p.1, 0, 0, 0, 255⟩) r.1
  let s := strands.foldl (fun s p => s.dropSending p.1) s
  let s := (s.saWaiting l.handle).foldl (fun s p => s.saDone p.1 2) s
  match s.key.cmd with
  | some c => if c.op = 1 ∧ c.handle = l.handle then s.keyDone 1 l.handle (if reason = 6 then 4 else 3) else s
  | none => s

/-- KEY_LOAD_DONE (17 R444): the directory entry and the blob, unless they lie in device memory, are what the host memory held; none
where a read failed. A FLUSH or a tamper in the same cycle leaves no key (R445, R455). -/
def execKeyLoadDone (a : At) (handle : Nat) (dirEntry blob : List Byte) (s : State) : Out :=
  onIsland a 34 true s fun s =>
    match (s.die a.die).keyLoads.find? fun l => l.handle == handle with
    | none => s
    | some l =>
      let s := s.modDie a.die fun x => { x with keyLoads := x.keyLoads.filter fun y => y != l }
      match s.fetchKey l dirEntry blob with
      | .error (reason, owner, counts) => s.keyFailed a.die l reason owner counts
      | .ok (owner, use_, key) =>
        let d := if owner = 0 then a.die else homeDie owner
        match s.takeSlot d owner with
        | none => s.keyFailed a.die l 6 owner false
        | some (i, evict) =>
          let recent := fun (t : Option Nat) => (t.map fun t => decide (s.now < t + a.cyc)).getD false
          let gone := recent (Table.find? s.key.flushedAt handle) || recent s.key.tamperAt
          let s := s.bump d F.KEY_LOADS_COUNT
          let s := if evict then s.bump d F.KEY_EVICT_COUNT else s
          let cache := fun (t : Table (List Nat)) (e : Nat) => Table.upd t e [] fun m => (handle :: m.filter (· != handle)).take 16
          let slots := fun (t : Table KeySlot) =>
            if gone then Table.del t i else Table.put t i { handle := handle, key := key, use_ := use_, used := s.now, owner := owner }
          let s := s.modDie d fun x => { x with keySlots := slots x.keySlots }
          let s := if gone then s else s.modDie a.die fun x => { x with engines := l.engines.foldl cache x.engines }
          s.keyArrived l owner

/-- KEY_FAIL_HOLDOFF_END (17 R444). -/
def execKeyFailHoldoffEnd (a : At) (h : Nat) (s : State) : Out :=
  onIsland a 34 true s fun s =>
    match Table.find? (s.die a.die).keyFail h with
    | some t => if fallen s t then s.modDie a.die fun x => { x with keyFail := Table.del x.keyFail h } else s
    | none => s

/-! Tamper (17 R455). -/

/-- A cause counts: its TAMPER_EN bit is set, and for the limit the rejections within 1 s have reached it. -/
def State.tamperCounts (s : State) (d cause : Nat) : Bool :=
  bit s.boot.option.tamperEn (cause - 1) && (decide (2 < cause) || d == 0) &&
  (cause != 4 || (s.boot.option.unwrapLimit != 0 &&
    decide (s.boot.option.unwrapLimit ≤ (s.key.rejects.filter fun t => decide (s.now < t + ms 1000)).length)))

/-- KEY_TAMPER (17 R455): 1 TAMPER_N0, 2 TAMPER_N1, 3 glitch, 4 unwrap limit. -/
def execKeyTamper (a : At) (cause : Nat) (s : State) : Out :=
  onIsland a 34 (decide (1 ≤ cause) && decide (cause ≤ 4)) s fun s =>
    let d := a.die
    if !s.tamperCounts d cause then s
    else
      let r := s.destroySession
      let s : State := { r.1 with key := { r.1.key with tamperAt := some r.1.now, rejects := if cause = 4 then [] else r.1.key.rejects } }
      let s := (s.set d F.KEY_TAMPER_LAST_CAUSE cause).bump d F.KEY_TAMPER_COUNT
      let s := s.raise d 34 0xB04 3 [(1, cause), (1, d), (1, min 255 r.2)]
      if s.reachCode 11 = 3 then (List.range s.part.dies).foldl (fun s k => s.fire 11 3 k 34) s else s.fireReach 11 0 0

end Sys2Proof.Machine
end

