-- ==== Sys2Proof/Machine/Power.lean ====
section
/-! DEFINITION. Power states (15): requests, entries to EDDY, STILL and TARN, aborts, the Tarn matcher and the exit from STILL. -/

namespace Sys2Proof.Machine

/-! Requests (15 R401 to R403). -/

/-- A request completes. -/
def State.pwrDone (s : State) (r : PwrReq) (result : Nat) : State :=
  ((s.set 0 F.PWR_STATUS_LAST_RESULT result).wrap 0 F.PWR_STATUS_SEQ).raise 0 38 0x061 0 [(1, r.target), (1, result), (2, r.no % 65536)]

/-- The running request and those that joined it complete. -/
def State.endRunning (s : State) (result : Nat) : State :=
  let joined := s.pwr.joined
  let s := (s.pwr.running.elim s fun r => s.pwrDone r result)
  let s := joined.foldl (fun s r => s.pwrDone r (if result = 0 then 1 else result)) s
  { s with pwr := { s.pwr with running := none, joined := [] } }

/-- The pending slot, as PWR_STATUS shows it; an earlier request in it is superseded. -/
def State.setPending (s : State) (p : Option PwrReq) : State :=
  { s with pwr := { s.pwr with pending := p, pendingAt := s.now } }.set 0 F.PWR_STATUS_PENDING ((p.map fun (x : PwrReq) => x.target).getD 7)
def State.supersede (s : State) : State := s.pwr.pending.elim s fun p => (s.setPending none).pwrDone p 2

/-- A UFP whose HOST domain stays powered is awake (15 R401). -/
def State.usbAwake (s : State) : Bool :=
  (List.range s.part.dies).any fun d =>
    (d == s.primary || !bit (s.get 0 F.PWR_CFG_STILL_OFF) 4) && !bit (s.islands d).off 27 &&
    s.flag d F.USB_UFP_CTL_USB_CONNECT && s.flag d F.USB_UFP_STATUS_VBUS && s.ufpLink d != 3

/-- Why STILL or TARN is refused, 0 where it is not. -/
def State.sleepRefusal (s : State) (target : Nat) (aspm : Bool) : Nat :=
  if s.usbAwake then 6
  else if !aspm then 7
  else if s.pkg.recovery then 9
  else if target = 3 ∧ s.flag 0 F.PWR_CFG_TARN_EN = false then 8 else 0

/-! E2 and its reversal (15 Table 15.5). -/

/-- Plies that are not DISABLED, and downstream USB ports that are powered. -/
def State.upPlies (s : State) : List Nat :=
  (List.range s.part.dies).flatMap fun d => ((s.die d).plies.filter fun p => s.get d F.PLY_LINK_STATE_STATE p.1 != 7).map fun p => 8 * d + p.1
def State.upDfps (s : State) : List Nat :=
  (List.range s.part.dies).flatMap fun d => ((List.range 4).filter fun p => s.flag d F.USB_DFP_CTL_POWER p).map (4 * d + ·)

/-- A ply goes to DISABLED with cause SOFTWARE (04 R112). -/
def State.plyAsleep (s : State) (d k : Nat) : State :=
  let s := if s.plyActive d k then s.endActive d k 17 else s
  (s.laneIdle d k).enterState d k 7

/-- E2: the links of the package go down. -/
def State.takeDown (s : State) : State :=
  let plies := s.upPlies
  let dfps := s.upDfps
  let s : State := { s with pwr := { s.pwr with downed := plies, dfps := dfps } }
  let s := plies.foldl (fun s n => s.plyAsleep (n / 8) (n % 8)) s
  let s := (List.range (4 * s.part.dies)).foldl (fun s n =>
    if s.flag (n / 4) F.ETH_STATUS_LINK (n % 4) then s.ethLink (n / 4) (n % 4) false 0 false else s) s
  let s := (List.range (2 * s.part.dies)).foldl (fun s n =>
    if s.flag (n / 2) F.DSP_HEAD_CTL_ENABLE (n % 2) then s.stopRaster (n / 2) (n % 2) 1 else s) s
  let s := dfps.foldl (fun s n => (s.set (n / 4) F.USB_DFP_CTL_POWER 0 (n % 4)).emit (.usbPower (n / 4) (n % 4) false)) s
  ((s.spillClose 0 5).spillClose 1 5).ethSpillClose 5

/-- What E2 took down comes up again: plies in DETECT with ATTEMPTS 0, heads train, ports have power. -/
def State.bringUp (s : State) : State :=
  let plies := s.pwr.downed
  let dfps := s.pwr.dfps
  let s : State := { s with pwr := { s.pwr with downed := [], dfps := [] } }
  let s := plies.foldl (fun s n =>
    if s.flag (n / 8) F.PLY_LINK_CTL_DISABLE (n % 8) then s
    else (s.set (n / 8) F.PLY_LINK_STATE_ATTEMPTS 0 (n % 8)).enterState (n / 8) (n % 8) 0) s
  let s := (List.range (2 * s.part.dies)).foldl (fun s n => s.train (n / 2) (n % 2)) s
  dfps.foldl (fun s n => (s.set (n / 4) F.USB_DFP_CTL_POWER 1 (n % 4)).emit (.usbPower (n / 4) (n % 4) true)) s

/-- The matcher is armed or disarmed (15 R409). -/
def State.arm (s : State) (on : Bool) : State := s.set 0 F.TRN_ADDR_ARMED (b2n on)

/-- A request's sequence begins (15 R401, R404; EDDY and FLOW are reached at once). -/
def State.startPwr (s : State) (r : PwrReq) (aspm : Bool) : State :=
  let s := if r.target = 1 then s else s.activity
  if r.target = s.get 0 F.PWR_STATUS_CURRENT then s.pwrDone r 0
  else if r.target = 1 then ((s.set 0 F.PWR_STATUS_CURRENT 1).stateDone 1 0 1).pwrDone r 0
  else
    let why := s.sleepRefusal r.target aspm
    if why ≠ 0 then s.pwrDone r why
    else
      let s : State := { s with pwr := { s.pwr with running := some r, flushed := false, abort := none, reversing := false } }
      (((s.arm true).set 0 F.PWR_STATUS_TARGET r.target).set 0 F.PWR_STATUS_STEP 2).takeDown

/-- A request is captured (15 Table 15.4). -/
def State.pwrRequest (s : State) (target : Nat) (aspm : Bool) : State :=
  let r : PwrReq := ⟨target, s.pwr.count + 1⟩
  let s : State := { s with pwr := { s.pwr with count := s.pwr.count + 1 } }
  if 4 ≤ target then (s.activity).pwrDone r 0xA
  else if s.pwrStep = 0 then s.startPwr r aspm
  else if s.pwr.running.any fun x => x.target == target then
    let s := s.supersede
    { s with pwr := { s.pwr with joined := s.pwr.joined ++ [r] } }
  else s.supersede.setPending (some r)

/-- A write of PWR_CMD acts on die 0. -/
def State.writePwrCmd (s : State) (d : Nat) (v : Word) (aspm : Bool) : State :=
  if d = 0 then s.pwrRequest (wordGet v 2 0) aspm else s

/-- PWR_CMD_FLOW, PWR_CMD_EDDY, PWR_CMD_STILL, PWR_CMD_TARN, PWR_CMD_BAD_TARGET (15 R401, R402); `aspm`: the host has ASPM L1 enabled on the
primary port's link. -/
def execPwrCmdFlow (a : At) (q : Req) (v : Word) (s : State) : Out :=
  onWrite a q 0x020000 v (wordGet v 2 0 == 0) s fun s => s.writePwrCmd a.die v false
def execPwrCmdEddy (a : At) (q : Req) (v : Word) (s : State) : Out :=
  onWrite a q 0x020000 v (wordGet v 2 0 == 1) s fun s => s.writePwrCmd a.die v false
def execPwrCmdStill (a : At) (q : Req) (v : Word) (aspm : Bool) (s : State) : Out :=
  onWrite a q 0x020000 v (wordGet v 2 0 == 2) s (fun s => s.writePwrCmd a.die v aspm) { aspm := aspm }
def execPwrCmdTarn (a : At) (q : Req) (v : Word) (aspm : Bool) (s : State) : Out :=
  onWrite a q 0x020000 v (wordGet v 2 0 == 3) s (fun s => s.writePwrCmd a.die v aspm) { aspm := aspm }
def execPwrCmdBadTarget (a : At) (q : Req) (v : Word) (s : State) : Out :=
  onWrite a q 0x020000 v (decide (4 ≤ wordGet v 2 0)) s fun s => s.writePwrCmd a.die v false

/-! Safe points and aborts (15 R403, R405). -/

/-- A safe point: a shallower request stops the entry, a deeper one takes it over where its own preconditions hold. The answer says
whether the entry goes on. -/
def State.safePoint (s : State) (aspm : Bool) : State × Bool :=
  match s.pwr.pending, s.pwr.running with
  | some p, some t =>
    if p.target < t.target then
      let s := (s.endRunning 3).arm false
      ({ s with pwr := { s.pwr with reversing := true } }, false)
    else
      let why := s.sleepRefusal p.target aspm
      let s := s.setPending none
      if why ≠ 0 then (s.pwrDone p why, true)
      else
        let s := s.endRunning 2
        ({ s with pwr := { s.pwr with running := some p } }.set 0 F.PWR_STATUS_TARGET p.target, true)
  | _, _ => (s, true)

/-- A wake at or before the commit step: 1 a Tarn match, 2 a shallower request. -/
def State.abortEntry (s : State) (cause step : Nat) (near : Bool) : State :=
  let s := if near then s.bump 0 F.PWR_NEAR_MISS_COUNT else s
  let s := s.arm false
  { s with pwr := { s.pwr with reversing := true,
                               abort := some ⟨((s.pwr.running.map (·.target)).getD 0), cause, step, s.ts⟩ } }

/-- SLEEP_ENTRY_QUIESCED (15 R404): E2 ends at its safe point, and E3 begins. -/
def execSleepEntryQuiesced (a : At) (aspm : Bool) (s : State) : Out :=
  onIsland a 37 (a.die == 0) s fun s =>
    if s.pwrStep ≠ 2 ∨ s.pwr.reversing then s
    else
      let r := s.safePoint aspm
      if r.2 then r.1.set 0 F.PWR_STATUS_STEP 3 else r.1

/-- SLEEP_ENTRY_REVERSED (15 R403, R405): what was done is undone; the package rests, or the pending request runs. -/
def execSleepEntryReversed (a : At) (aspm : Bool) (s : State) : Out :=
  onIsland a 37 (a.die == 0) s fun s =>
    if !s.pwr.reversing then s
    else
      let s := s.bringUp
      let s := match s.pwr.abort with
        | some x =>
          let s := (s.endRunning 4).bump 0 F.PWR_COUNT_ABORTS
          s.raise 0 38 0x063 1 [(1, x.target), (1, x.cause), (1, x.step), (1, 0), (8, x.ts)]
        | none => s
      let s : State := { s with pwr := { s.pwr with reversing := false, abort := none } }
      let s := (s.set 0 F.PWR_STATUS_STEP 0).set 0 F.PWR_STATUS_TARGET 7
      match s.pwr.pending with
      | some p => (s.setPending none).startPwr p aspm
      | none => s

/-! The commit step, STILL and TARN (15 R397, R404 to R408). -/

/-- Islands that lose their power in STILL on a die (15 Table 15.2). -/
def State.stillOff (s : State) (d : Nat) : List Nat :=
  let m := s.get 0 F.PWR_CFG_STILL_OFF
  (if bit m 0 then List.range 8 else []) ++ (if bit m 1 then [21, 22, 23, 24] else []) ++ (if bit m 2 then [25, 26] else []) ++
  (if bit m 3 then [18, 28] else []) ++ (if bit m 4 && d != s.primary then [17, 27] else []) ++ [33]

/-- An island without power loses its state; when powered again it starts from its reset values and the running image (15 R398). -/
def State.unpower (s : State) (d i : Nat) : State :=
  if bonded d i && !bit (s.islands d).off i then (s.applyBlock d i).replay d (some i) else s

/-- E5: LPDDR in self-refresh, every island stopped, domains off. -/
def State.fallAsleep (s : State) : State :=
  let s := (List.range s.part.dies).foldl (fun s d =>
    s.modDie d fun x => { x with selfRefresh := Table.put (Table.put x.selfRefresh 0 true) 1 true }) s
  let s := (List.range s.part.dies).foldl (fun s d => (s.stillOff d).foldl (fun s i => s.unpower d i) s) s
  let s := (List.range s.part.dies).foldl (fun s d => s.modIslands d fun i => { i with ok := 0, gated := 0 }) s
  let s := (s.set 0 F.PWR_STATUS_STEP 0).set 0 F.PWR_STATUS_TARGET 7
  { s with clock := { s.clock with stopped := true } }

/-- The exit from STILL begins (15 R407). -/
def State.wakeUp (s : State) (cause : Nat) : State :=
  let s : State := { s with pwr := { s.pwr with waited := 0, acked := false, cause := cause }, tarn := { s.tarn with wakeReq := true } }
  ((s.arm false).set 0 F.PWR_STATUS_STEP 7).emit (.wakeReq true)

/-- A match in the matcher is counted (15 Table 15.10). -/
def State.countWake (s : State) (from_ : Nat) : State := (s.wrap 0 F.TRN_STATUS_WAKES).set 0 F.TRN_STATUS_LAST_FROM from_

/-- A wake in TARN: the board restores the rails (15 R408). -/
def State.leaveTarn (s : State) : State :=
  let s : State := { s with tarn := { s.tarn with wakeReq := true, tarnReq := false } }
  ((s.arm false).emit (.tarnReq false)).emit (.wakeReq true)

/-- E5 and E6: STILL or TARN is reached. -/
def State.reachSleep (s : State) (target : Nat) : State :=
  if target = 3 then
    let s : State := { s.fallAsleep with tarn := { s.tarn with asleep := true, tarnReq := true } }
    s.emit (.tarnReq true)
  else
    let s := ((s.set 0 F.PWR_STATUS_CURRENT 2).stateDone 2 0 1).endRunning 0
    s.fallAsleep

/-- What is captured between the commit step and E5: a request (its target), or a Tarn match (4). -/
def State.afterCommit (s : State) (target : Nat) (x : Nat) : State :=
  if x = 4 then
    if target = 3 then ((s.reachSleep 3).countWake 2).leaveTarn else ((s.reachSleep 2).countWake 1).wakeUp 4
  else if 4 < x then s.reachSleep target
  else
    let r : PwrReq := ⟨x, s.pwr.count + 1⟩
    let s : State := { s with pwr := { s.pwr with count := s.pwr.count + 1 } }
    if x = target then State.reachSleep { s with pwr := { s.pwr with joined := s.pwr.joined ++ [r] } } target
    else if x = 3 then State.reachSleep { s with pwr := { s.pwr with late := some r } } target
    else if target = 3 then (s.reachSleep 3).leaveTarn
    else ((s.setPending (some r)).reachSleep 2).wakeUp 4

/-- Every raised event reaches its outlets (15 Table 15.5, E3). -/
def State.writeStaged (s : State) : State :=
  s.evt.raised.foldl (fun s e => s.acceptEvent e) { s with evt := { s.evt with raised := [] } }

/-- Tags of the bridge are open, a DMA descriptor is in progress, or a store runs. -/
def State.undrained (s : State) : Bool :=
  s.hold.running.isSome || (List.range s.part.dies).any fun d => !(s.die d).tags.isEmpty || !(s.die d).dmaJobs.isEmpty

/-- The commit step (15 R405): a wake in its very cycle aborts the entry. -/
def State.commitSleep (s : State) (cyc : Nat) (inCycle : Bool) (after : Option Nat) : State :=
  let t := (s.pwr.running.map (·.target)).getD 2
  if inCycle then
    let s := ((s.countWake 3).emit (.wakeReq true)).emit (.wakeReq false)
    (s.set 0 F.PWR_STATUS_STEP 4).abortEntry 1 4 true
  else if (s.pwr.pending.any fun p => decide (p.target < t)) && decide (s.now < s.pwr.pendingAt + cyc) then
    (s.set 0 F.PWR_STATUS_STEP 4).abortEntry 2 4 true
  else after.elim (s.reachSleep t) fun x => s.afterCommit t x

/-- SLEEP_ENTRY_DRAINED (15 R404, R405): E3 ends once every tag has ended and a journal flush is done; `inCycle`: a Tarn match is captured
in the cycle of the commit step; `after`: what is captured between that step and E5. -/
def execSleepEntryDrained (a : At) (codes : List Nat) (inCycle : Bool) (after : Option Nat) (aspm : Bool) (s : State) : Out :=
  onIsland a 37 (a.die == 0) s fun s =>
    if s.pwrStep ≠ 3 ∨ s.pwr.reversing ∨ s.undrained then s
    else
      let s := s.writeStaged
      let flush := s.flag 0 F.PWR_CFG_FLUSH_ON_SLEEP && !s.pwr.flushed
      let r := if flush then
          State.requestStore { s with pwr := { s.pwr with flushed := true } } { type := 1, what := 0, arg := 3, off := 0, bytes := [], ts := s.ts } codes
        else (s, some false)
      if r.2 ≠ some false then r.1
      else
        let inStep := (r.1.pwr.pending.isSome && decide (s.now < s.pwr.pendingAt + a.cyc))
        let p := if inStep then (r.1, true) else r.1.safePoint aspm
        if p.2 then p.1.commitSleep a.cyc inCycle after else p.1

/-! EDDY (15 R399, R400). -/

/-- EDDY_ACTIVITY (15 R400): 0 a segment, 1 a TLP, 2 an MGT request, 3 USB data. -/
def execEddyActivity (a : At) (kind : Nat) (s : State) : Out :=
  onIsland a 37 (a.die == 0 && decide (kind < 4)) s fun s => s.activity

/-- Islands that are never gated (15 R399). -/
def neverGated : List Nat := [0, 1, 2, 3, 4, 5, 6, 7, 31, 32, 33, 35, 37, 42]

/-- ISLAND_GATE (15 R399): an island idle for EDDY_GATE_NS in EDDY stops its clock. -/
def execIslandGate (a : At) (isl : Nat) (s : State) : Out :=
  onUnit a (bonded a.die isl) s fun s =>
    if s.get 0 F.PWR_STATUS_CURRENT = 1 ∧ s.runs a.die isl = true ∧ !neverGated.contains isl then
      s.modIslands a.die fun i => { i with gated := setBit i.gated isl }
    else s

/-! The Tarn matcher (15 R409 to R411). -/

/-- TARN_MATCH (15 R409): the first byte after a START; bit 0 is not compared. -/
def execTarnMatch (a : At) (byte : Nat) (s : State) : Out :=
  onUnit a (a.die == 0 && decide (byte < 256)) s fun s =>
    let armed := s.flag 0 F.TRN_ADDR_ARMED
    if byte / 2 ≠ s.get 0 F.TRN_ADDR_WAKE_ADDR then s
    else if s.pwrStep = 7 ∨ (s.tarn.asleep ∧ !armed) then s.wrap 0 F.TRN_STATUS_WAKES
    else if !armed then s
    else if s.tarn.asleep then (s.countWake 2).leaveTarn
    else if s.clock.stopped then (s.countWake 1).wakeUp 3
    else
      let step := s.pwrStep
      (((s.countWake 3).emit (.wakeReq true)).emit (.wakeReq false)).abortEntry 1 step false

/-- A write of TRN_ADDR (15 R411; 19 R491). -/
def State.writeTrnAddr (s : State) (d : Nat) (v : Word) : State :=
  let x := wordGet v 6 0
  if d ≠ 0 ∨ x < 8 ∨ 0x78 ≤ x ∨ x = s.get 0 F.PKG_SMB_CFG_TARGET_ADDR then s else s.set 0 F.TRN_ADDR_WAKE_ADDR x

/-- TRN_ADDR_WRITE (15 R411). -/
def execTrnAddrWrite (a : At) (q : Req) (v : Word) (s : State) : Out :=
  onWrite a q 0x060000 v true s fun s => s.writeTrnAddr a.die v

/-- VTARN_POWER_ON (15 R411): the Tarn registers take their reset values; WAKE_ADDR comes from the fuses, or is 0x3C. -/
def execVtarnPowerOn (a : At) (fusedValid : Bool) (fused : Nat) (s : State) : Out :=
  onUnit a (a.die == 0 && decide (fused < 128)) s fun s =>
    let s := (s.setWord 0 Reg.TRN_STATUS 0).setWord 0 Reg.TRN_ADDR 0
    let s := ((s.set 0 F.TRN_ADDR_FUSED_VALID (b2n fusedValid)).set 0 F.TRN_ADDR_FUSED fused).set 0 F.TRN_ADDR_WAKE_ADDR
      (if fusedValid then fused else 0x3C)
    { s with tarn := {} }

/-! The exit from STILL (15 R407). -/

/-- Islands of a die that were kept and lack CLK_OK. -/
def State.lacking (s : State) (d : Nat) : Nat :=
  let x := s.islands d
  (List.range 44).foldl (fun m i => if bonded d i && !bit x.off i && !bit x.held i && !bit x.ok i then setBit m i else m) 0

/-- RCP releases WAKE_REQ_N. -/
def State.acknowledge (s : State) : State :=
  { s with pwr := { s.pwr with acked := true }, tarn := { s.tarn with wakeReq := false } }.emit (.wakeReq false)

/-- The deadline of the acknowledge, in RCP's time since the wake. -/
def State.wakeDeadline (s : State) : Nat := us (s.get 0 F.PWR_WAKE_CFG_WAKE_ACK_US)

/-- WAKE_ACK (15 R407): every kept island has CLK_OK, in time or in the very cycle of the deadline. -/
def execWakeAck (a : At) (s : State) : Out :=
  onUnit a (a.die == 0) s fun s =>
    if s.pwrStep ≠ 7 ∨ s.pwr.acked ∨ ((List.range s.part.dies).any fun d => s.lacking d != 0) = true ∨ s.wakeDeadline + a.cyc ≤ s.pwr.waited then s
    else (if s.wakeDeadline ≤ s.pwr.waited then s.bump 0 F.PWR_NEAR_MISS_COUNT else s).acknowledge

/-- An island whose clock came too late is handled as a faulty one (01 R25). -/
def State.holdLate (s : State) (d i : Nat) : State :=
  let r := if i < 32 then Reg.CLK_ISLAND_FAULT_LO else Reg.CLK_ISLAND_FAULT_HI
  (s.setWord d r (s.word d r ||| BitVec.ofNat 32 (2 ^ (i % 32)))).modIslands d fun x => { x with faultAt := Table.put x.faultAt i s.ts }

/-- PWR_WAKE_SLOW (15 R407): WAKE_ACK_US has passed. -/
def execPwrWakeSlow (a : At) (s : State) : Out :=
  onUnit a (a.die == 0) s fun s =>
    if s.pwrStep ≠ 7 ∨ s.pwr.acked ∨ s.pwr.waited < s.wakeDeadline then s
    else
      let s := (List.range s.part.dies).foldl (fun s d =>
        let m := s.lacking d
        if m = 0 then s
        else
          let s := s.raise 0 38 0x064 2 [(6, m), (1, d)]
          (List.range 44).foldl (fun s i => if bit m i then s.holdLate d i else s) s) s
      s.acknowledge

/-- STILL_EXIT_DONE (15 R406, R407): FLOW; local time resumes untraceable, and the links come up. -/
def stillExitDone (a : At) (aspm : Bool) (s : State) : Out :=
  onUnit a (a.die == 0) s fun s =>
    if s.pwrStep ≠ 7 ∨ s.pwr.acked = false then s
    else
      let s : State := { s with clock := { s.clock with stopped := false, traceable := false } }
      let s := s.set 0 F.TIM_STATUS_TRACEABLE 0
      let s := (List.range s.part.dies).foldl (fun s d => s.modDie d fun x => { x with selfRefresh := [] }) s
      let s := (s.set 0 F.PWR_STATUS_CURRENT 0).set 0 F.PWR_STATUS_STEP 0
      let s := (s.stateDone 0 2 s.pwr.cause).letGo.bringUp
      let s := s.pwr.late.elim s fun r => State.pwrDone { s with pwr := { s.pwr with late := none } } r 5
      match s.pwr.pending with
      | some p => (s.setPending none).startPwr p aspm
      | none => s

end Sys2Proof.Machine
end

