-- ==== Sys2Proof/Machine/Holdup.lean ====
section
/-! DEFINITION. What runs the stores (16 R418, R432 to R437; 17 R450), power failure (16 R435; 18 R461), temperature and the reference
clocks (18 R466, R477). -/

namespace Sys2Proof.Machine

/-! Ends of stores. -/

/-- A store has ended: whoever asked for it goes on. -/
def State.storeEnded (s : State) (codes : List Nat) (x : StoreJob × Nat) : State :=
  if x.1.what = 1 ∨ x.1.what = 2 then s.sknStored x.1 x.2 else s.keyStored x.1 x.2 codes

/-- Once the flush of a power failure has ended, the brownout reach is applied (16 R435, step 5). -/
def State.brownout (s : State) : State :=
  if s.hold.failing.isSome && s.hold.running.isNone && (Table.find? s.hold.waiting 1).isNone then
    State.fireReach { s with hold := { s.hold with failing := none } } 10 0 0
  else s

/-- The next store begins; a transition that begins destroys SESSION. -/
def State.storesGoOn (s : State) (codes : List Nat) : State :=
  let idle := s.hold.running.isNone
  let r := s.nextStores codes 5
  let s := if idle then r.1.lcBegins else r.1
  (r.2.foldl (fun s x => s.storeEnded codes x) s).brownout

/-- STORE_CHUNK_DONE (16 R432 to R437): `codes` are the conversions taken for the next chunk or store. -/
def execStoreChunkDone (a : At) (codes : List Nat) (s : State) : Out :=
  onIsland a 42 (a.die == 0) s fun s =>
    if !s.runs 0 40 then s
    else
      let r := s.chunkDone codes
      let s := (r.2.elim r.1 fun x => r.1.storeEnded codes x)
      if r.1.hold.running.isSome then s else s.storesGoOn codes

/-- Classes of keys that a transition destroys (17 Table 17.7). -/
def lcClasses (op : Nat) : Nat := if op = 8 then 3 else if op = 9 then 7 else 1

/-- The fuses of a transition are programmed and read back (17 R450, R451); a readback that differs leaves the state as it was, the
bank destroyed. -/
def State.lcDone (s : State) (j : StoreJob) (readOk : Bool) : State :=
  let f := s.boot.fuses
  let g := f.after j.arg j.bytes
  let old := f.lcCode
  let good := readOk && (j.arg != 6 || g.bank == j.bytes)
  let kept : Fuses := if j.arg = 6 then { f with bank := List.replicate 180 0xFF } else { g with lc := f.lc }
  let g := if good then g else kept
  let s : State := { s with boot := { s.boot with fuses := g } }
  let s := if good then s.raise 0 34 0xB05 1 [(1, old), (1, g.lcCode), (1, lcClasses j.arg)] else s
  let s := s.endJob j 0
  match s.key.cmd with
  | some c => if c.stage = 2 ∧ c.op = j.arg then s.keyDone c.op c.handle (if good then 0 else 9) else s
  | none => s

/-- LC_CHANGED (17 R450): a life-cycle transition has programmed its fuses; `readOk`: they read back as written. -/
def execLcChanged (a : At) (readOk : Bool) (codes : List Nat) (s : State) : Out :=
  onIsland a 42 (a.die == 0) s fun s =>
    match s.hold.running with
    | some j => if j.what = 5 then (s.lcDone j readOk).storesGoOn codes else s
    | none => s

/-! Requests. -/

/-- A write of RST_FUSE_PROG_CMD (16 R418). -/
def State.writeFuseProg (s : State) (d : Nat) (v : Word) (codes : List Nat) : State :=
  let staged := s.get 0 F.RST_FUSE_PROG_LO_CODES + 2 ^ 30 * s.get 0 F.RST_FUSE_PROG_HI_CODES
  if d ≠ 0 ∨ wordGet v 0 0 = 0 then s
  else if s.boot.fuses.reachValid ∨ 1 < s.lc ∨ badCodes staged ≠ 0 then s.storeDone 4 4 0 0
  else
    let old := (Table.find? s.hold.waiting 4).filter fun j => j.what == 5 && s.hold.running.isSome && s.hold.failing.isNone
    let s := (s.requestStore { type := 4, what := 4, arg := staged, off := 0, bytes := [] } codes).1
    old.elim s fun j => s.keyStored j 2 codes

/-- RST_FUSE_PROG (16 R418). -/
def execRstFuseProg (a : At) (q : Req) (v : Word) (codes : List Nat) (s : State) : Out :=
  onWrite a q 0x010048 v (wordGet v 0 0 == 1) s (fun s => if q = .pf0 then s.writeFuseProg a.die v codes else s)
    { codes := codes }

/-- A write of HLD_CMD (16 R435). -/
def State.writeHldCmd (s : State) (d : Nat) (v : Word) (codes : List Nat) : State :=
  if d ≠ 0 ∨ wordGet v 0 0 = 0 then s
  else (s.requestStore { type := 1, what := 0, arg := 4, off := 0, bytes := [], ts := s.ts } codes).1

/-- HLD_FLUSH (16 R435). -/
def execHldFlush (a : At) (q : Req) (v : Word) (codes : List Nat) (s : State) : Out :=
  onWrite a q 0x07001C v (wordGet v 0 0 == 1) s (fun s => s.writeHldCmd a.die v codes) { codes := codes }

/-! Power failure (16 R435; 18 R461). -/

/-- The islands of die 0 that keep running: RCP, CSR, BOOT, NVM, SNS and JNL. -/
def keptInFailure : List Nat := [37, 38, 39, 40, 42, 43]

/-- Load is shed: every other island stops. -/
def State.shedLoad (s : State) : State :=
  let s := (List.range s.part.dies).foldl (fun s d => s.modIslands d fun i =>
    { i with ok := if d = 0 then keptInFailure.foldl (fun m k => if bit i.ok k then setBit m k else m) 0 else 0, gated := 0 }) s
  ((s.spillClose 0 1).spillClose 1 1).ethSpillClose 1

/-- The journal takes what is on its way, and freezes with PWR_FAIL as its newest copy. -/
def State.freezeJournal (s : State) (cause code : Nat) : State :=
  let s := s.evt.raised.foldl (fun s e => s.journalCopy e) s
  let s := s.raise 0 38 0x039 3 [(1, cause), (3, 0), (4, s.availUj code)]
  let last := s.evt.raised.getLast?
  let s := last.elim s fun e => s.journalCopy e
  { s with evt := { s.evt with frozen := true, raised := s.evt.raised.map fun e => { e with copy := true } } }

/-- A store captured in the cycle that captures the failure is deferred (16 R434); a transition has begun and runs on. -/
def State.deferRecent (s : State) (cyc : Nat) (codes : List Nat) : State :=
  match s.hold.running with
  | some j =>
    if j.what ≠ 5 ∧ j.done = 0 ∧ s.now < j.began + cyc then
      State.storeEnded (s.deferJob j (meanCode codes) j.chunk) codes (j, 2)
    else s
  | none => s

/-- The five steps of R435, as far as they run at once. -/
def State.powerFails (s : State) (cause cyc : Nat) (codes : List Nat) : State :=
  if s.clock.stopped || s.hold.failing.isSome || (s.boot.sources.any fun x => x.s == 10) then s
  else if !s.runs 0 42 then s.fireReach 10 0 0
  else
    let s := (s.freezeJournal cause (meanCode codes)).shedLoad
    let s : State := { s with hold := { s.hold with failing := some cause } }
    let s := s.deferRecent cyc codes
    (s.requestStore { type := 1, what := 0, arg := cause, off := 0, bytes := [], ts := s.ts } codes).1.brownout

/-- PWR_FAIL (16 R435): 1 PWR_FAIL_N, 2 an internal monitor; `codes` are the conversions of HOLDUP_SNS. -/
def execPwrFail (a : At) (cause : Nat) (codes : List Nat) (s : State) : Out :=
  onUnit a (a.die == 0 && (cause == 1 || cause == 2)) s fun s => s.powerFails cause a.cyc codes

/-- SUPPLY_FAULT (18 R461): a rail of Table 18.1 leaves its window, VCORE 0 to VIO33 6. -/
def execSupplyFault (a : At) (rail : Nat) (codes : List Nat) (s : State) : Out :=
  onUnit a (decide (rail < 7)) s fun s =>
    if s.clock.stopped then s
    else
      let s := s.set a.die F.PIN_SUPPLY_FAULT (setBit (s.get a.die F.PIN_SUPPLY_FAULT) rail)
      (s.raise a.die 42 0xC04 3 [(1, a.die), (1, s.get a.die F.PIN_SUPPLY_FAULT)]).powerFails 2 a.cyc codes

/-! Temperature (18 R466). -/

/-- A reading as a two's complement byte; one that no such byte holds is open (log entry 3). -/
def State.tempByte (s : State) (t : Int) : Nat := if -128 ≤ t ∧ t ≤ 127 then unsigned 8 t else s.draw % 256

/-- TEMP_READING (18 R466): the third reading in a row at or above TRIP_C trips the die. -/
def execTempReading (a : At) (t : Int) (s : State) : Out :=
  onIsland a 42 true s fun s =>
    let d := a.die
    let b := s.tempByte t
    let s := s.drawn.set d F.PIN_TEMP_TEMP_C b
    let s := if signed 8 (s.get d F.PIN_TEMP_PEAK_C) < signed 8 b then s.set d F.PIN_TEMP_PEAK_C b else s
    let hot := decide ((s.get d F.PIN_TEMP_TRIP_C : Int) ≤ t)
    let run := if hot then min 4 ((s.die d).tempRun + 1) else 0
    let s := s.modDie d fun x => { x with
      tempRun := run
      tempHigh := some (match x.tempHigh with
        | some u => if u < t then t else u
        | none => t) }
    if run = 3 then
      ((s.bump d F.PIN_TEMP_TRIPS).raise d 42 0xC03 4 [(1, d), (1, b), (1, s.get d F.PIN_TEMP_TRIP_C)]).fireReach 9 d 0
    else s

/-! The reference (18 R477). -/

/-- A die's links drop: plies, Shoreline sides, Ethernet, heads, USB and PCIe. -/
def State.dropLinks (s : State) (d : Nat) : State :=
  let s := (s.activePlies d).foldl (fun s k => s.leaveActive d k 11) s
  let s := if d < 2 then (s.sideChange d 0 false).sideChange d 1 false else s
  let s := (List.range 4).foldl (fun s m => if s.flag d F.ETH_STATUS_LINK m then s.ethLink d m false 0 false else s) s
  let s := (List.range 2).foldl (fun s h => if s.flag d F.DSP_HEAD_CTL_ENABLE h then s.stopRaster d h 1 else s) s
  let s := if s.get d F.USB_UFP_STATUS_SPEED = 0 then s else (s.ufpGone d).ufpEvent d
  let s := (List.range 4).foldl (fun s p =>
    if s.flag d F.USB_DFP_STATUS_CONNECTED p = false then s
    else if s.get d F.USB_DFP_CTL_MODE p = 2 then s.relayGone d p else s.dfpChange d p false 0 0 0) s
  let s := if d = s.primary then s.primaryLink false 0 0 else s
  s.dsLink d false 0 0

/-- The hub has lost its parent (09 R261). -/
def State.loseParent (s : State) : State :=
  match s.tim.parent with
  | some l => s.linkLost l
  | none => s

/-- REF_CLK_FAULT (18 R477): 1 missing edges, 2 out of window; the generators hold over. -/
def execRefClkFault (a : At) (cause : Nat) (s : State) : Out :=
  onIsland a 38 (cause == 1 || cause == 2) s fun s =>
    let d := a.die
    if (Table.find? s.refFault d).isSome then s
    else
      let s : State := { s with refFault := Table.put s.refFault d s.now }
      let s := (s.bump d F.CLK_REF_STATUS_FAULTS).raise d 38 0xC01 3 [(1, d), (1, cause)]
      let s := s.dropLinks d
      if d = 0 then s.loseParent else s

/-- REF_CLK_RESTORED (18 R477): the reference has been back in its window for 1 ms, and the links retrain. -/
def execRefClkRestored (a : At) (s : State) : Out :=
  onIsland a 38 true s fun s =>
    let d := a.die
    match Table.find? s.refFault d with
    | some t =>
      let s : State := { s with refFault := Table.del s.refFault d }
      let s := s.raise d 38 0xC02 1 [(1, d), (3, 0), (4, (s.now - t) / us 1)]
      let s := (List.range 2).foldl (fun s h => s.train d h) s
      if d = s.primary ∧ s.runs d 17 = true then s.emit (.port d true) else s
    | none => s

end Sys2Proof.Machine
end

