-- ==== Sys2Proof/Machine/Promote.lean ====
section
/-! DEFINITION. Promotion of an alternate port to primary (12 R329; 01 R17). -/

namespace Sys2Proof.Machine

/-- The old host's lock ends: a far lock is told to the far port, a semaphore is freed. -/
def State.endLock (s : State) : State :=
  match s.brg.lock with
  | some l =>
    (match l.vdp with
     | some v => if l.broken then s.unlock l else (s.unlock l).forwardTlp v 3 l.fn 0 0 []
     | none => s.unlock l)
  | none => s

/-- Every function loses its configuration state, as at a FUNCTION-level reset; so do the ports of the switch (12 R329). -/
def State.dropConfig (s : State) : State :=
  { s with evt := { s.evt with bme := [], unmasked := [], msixPending := [], msixWords := [] }
           vfn := { s.vfn with hostEn := [] }
           brg := { s.brg with changed := [], disabled := [] } }

/-- The old host's requests are discarded; those of far devices go on. A posted write already accepted is still delivered. -/
def State.dropHostRequests (s : State) : State :=
  let s := (List.range s.part.dies).foldl (fun s d => s.modDie d fun x => { x with
    tags := x.tags.map fun p => if p.2.fn = 255 then p else (p.1, { p.2 with use := 4 })
    aheads := x.aheads.filter fun p => p.2.fn == 255 }) s
  let s := s.modBrg fun b => { b with ends := b.ends.filter fun p => decide (64 * 255 ≤ p.1) }
  { s with access := { s.access with waiting := s.access.waiting.filter fun w => w.write || w.req == .smb || w.req == .shl } }

/-- The steps of a promotion (12 R329); 1 by command, 2 automatic. -/
def State.promote (s : State) (new why : Nat) : State :=
  let old := s.primary
  let s := s.emit (.port old false)
  let s := s.dropConfig
  let s := (List.range (128 * s.part.dies)).foldl (fun s p =>
    if s.flag (p / 128) F.EVT_OUT_STATUS_ENABLED (p % 128) then s.disableOutlet (p / 128) (p % 128) else s) s
  let s := (List.range (64 * s.part.dies)).foldl (fun s n =>
    if s.dmaRuns (n / 64) (n % 64) then s.haltDma (n / 64) (n % 64) 5 else s) s
  let s := s.dropHostRequests.endLock
  let s := (List.range 64).foldl (fun s n => if s.semHolder n < 249 then s.semSet n 0x1FF else s) s
  let s := s.modBrg fun b => { b with downAt := some s.now }
  let s := ((s.set 0 F.BRG_PORT_STATUS_PRIMARY new).set 0 F.BRG_PORT_STATUS_RATE 0).set 0 F.BRG_PORT_STATUS_WIDTH 0
  let s := (s.bump 0 F.BRG_PORT_STATUS_PROMOTIONS).emit (.port new true)
  s.raise 0 19 0x805 1 [(1, old), (1, new), (1, why)]

/-- A die's upstream port is a standby alternate port of this package. -/
def State.standby (s : State) (d : Nat) : Bool :=
  decide (d < s.part.dies) && bit (s.get 0 F.BRG_PORT_STATUS_STANDBY) d && d != s.primary

/-- A write of BRG_PORT_CMD: a die that is not a standby port, or that is the primary die, is ignored. -/
def State.writePortCmd (s : State) (v : Word) : State :=
  if wordGet v 31 31 = 1 ∧ s.standby (wordGet v 2 0) = true then s.promote (wordGet v 2 0) 1 else s

/-- PORT_PROMOTE (12 R329): a write of BRG_PORT_CMD with PROMOTE set; it acts on die 0. -/
def portPromote (a : At) (q : Req) (v : Word) (s : State) : Out :=
  onWrite a q 0x20000C v (wordGet v 31 31 == 1) s fun s => if a.die = 0 then s.writePortCmd v else s

/-- AUTO_PROMOTE (12 R329): the primary port has been out of DL_Active for PROMOTE_AFTER_MS; `perst` has a bit for each die whose
alternate port's PERST_N is deasserted. Decided in die 0's BRG island. -/
def autoPromote (a : At) (perst : Nat) (s : State) : Out :=
  onIsland { a with die := 0 } 19 (perst < 256) s fun s =>
    match s.brg.downAt, (List.range 8).find? fun d => s.standby d && bit perst d with
    | some t, some d =>
      if s.flag 0 F.BRG_PORT_CFG_AUTO_PROMOTE && fallen s (t + ms (s.get 0 F.BRG_PORT_CFG_PROMOTE_AFTER_MS)) then s.promote d 2 else s
    | _, _ => s

end Sys2Proof.Machine
end

