-- ==== Sys2Proof/Machine/Request.lean ====
section
/-! DEFINITION. Management messages and how they leave: on the Shoreline, on an MGT strand, on a hop strand; and the remote requests of
SHL_RRA (09 R271 to R273). -/

namespace Sys2Proof.Machine

/-- A message of Table 9.9: `neighbour` sets DST [15]. -/
def mgtBytes (op status tag src dst : Nat) (neighbour : Bool) (addr count : Nat) (data : List Word) : List Byte :=
  leBytes 1 op ++ leBytes 1 status ++ leBytes 2 tag ++ leBytes 2 (src % 4096) ++ leBytes 2 (dst % 4096 + 32768 * b2n neighbour) ++
    leBytes 4 (addr % 2 ^ 27) ++ leBytes 2 count ++ leBytes 2 0 ++ data.flatMap fun w => leBytes 4 w.toNat

/-- A Shoreline MGT frame: its type, three zero bytes, the message, CRC-32C (09 Table 9.1). -/
def mgtFrame (msg : List Byte) : List Byte :=
  let b := [0x03, 0, 0, 0] ++ msg
  b ++ crc32c b

/-- The port that leads towards a hub, and the address on that port's ring to make for: a gateway sends to its own leaf by port B; a hub
of another column, or of the root ring, is reached over the root ring, from a leaf by its gateway (09 R273). -/
def State.towards (s : State) (dst : Nat) : Nat × Nat :=
  let me := s.hubAddr
  if me % 64 = 0 then (if dst / 64 = me / 64 then (1, dst) else (0, dst / 64 * 64))
  else if dst / 64 = me / 64 then (0, dst) else (0, me / 64 * 64)

/-- The side that is the shorter way to an address on a port's ring, as its enumeration list gives it: 1 downstream, 0 upstream; none where
the address is not on the ring. On a whole ring downstream wins a tie (log entry 30). -/
def State.shorterSide (s : State) (p dst : Nat) : Option Nat :=
  let n := s.ringN p
  match (s.port p).entries.findIdx? fun e => e.1 == dst with
  | none => none
  | some i =>
    let pos := s.ringPos p
    if i = pos then none
    else if s.ringChain p then
      let m := s.downReach p
      let place := fun (k : Nat) => if k ≤ m then k + n else k
      some (b2n (decide (place pos < place i)))
    else
      let d := (i + n - pos) % n
      some (b2n (decide (d ≤ n - d)))

/-- A frame goes on the Shoreline towards its target; without a way there it goes nowhere. -/
def State.mgtForward (s : State) (dst : Nat) (frame : List Byte) : State :=
  let p := s.towards dst
  if p.1 = 1 ∧ s.gateway = false then s
  else
    match s.shorterSide p.1 p.2 with
    | some side => s.shlSend p.1 side frame
    | none => s

/-- A message of this hub leaves on the Shoreline; a hub with an address conflict originates none (09 R250). -/
def State.mgtShoreline (s : State) (dst : Nat) (msg : List Byte) : State :=
  if s.conflict then s else s.mgtForward dst (mgtFrame msg)

/-- A message leaves on the hop strand of a ply that is ACTIVE: SN 0, kind MGT, TC7 (05 R121). -/
def State.mgtHop (s : State) (d k : Nat) (msg : List Byte) : State :=
  if s.plyActive d k then
    let n := ((s.ply? d k).map (·.hopSeq)).getD 0
    let s := s.emit (.segment d k (mkHdr 0 6 true true false false false false n msg.length) msg)
    let s := s.modCredit d k fun c => { c with txc := c.txc.set 7 ((c.txc.getD 7 0 + unitsOf msg.length) % creditMod) }
    s.modPly d k fun p => { p with hopSeq := (n + 1) % 65536, sentAt := s.now }
  else s

/-- A message leaves on an MGT strand of the package. -/
def State.mgtStrand (s : State) (idx : Nat) (msg : List Byte) : State :=
  match s.entry? idx with
  | some e => if e.kind = 6 then s.offerFrame idx msg else s
  | none => s

/-- A write of SHL_RRA_CMD (09 R273, Table 9.13): one request at a time, on die 0; with NEIGHBOUR it goes by the hop strand of SLOT. -/
def State.writeRraCmd (s : State) (d : Nat) (v : Word) : State :=
  let op := wordGet v 31 28
  if d ≠ 0 ∨ s.flag 0 F.SHL_RRA_STATUS_BUSY = true ∨ op = 0 ∨ 2 < op then s
  else
    let neighbour := wordGet v 11 11 == 1
    let dst := if neighbour then 0 else wordGet v 23 12
    let count := wordGet v 8 0
    let addr := s.get 0 F.SHL_RRA_ADDR_ADDRESS
    let tag := (s.shl.tag + 1) % 65536
    let data := if op = 2 then (List.range (min count 256)).map fun i => s.word 0 Reg.SHL_RRA_DATA i else []
    let msg := mgtBytes op 0 tag s.hubAddr dst neighbour addr count data
    let wait := 100000000 * s.get 0 F.SHL_CFG_REMOTE_TIMEOUT_100US
    let s : State := { s with shl := { s.shl with tag := tag, remote := some ⟨tag, op, dst, addr, count, s.now + wait⟩ } }
    let s := s.set 0 F.SHL_RRA_STATUS_BUSY 1
    if neighbour then s.mgtHop 0 (wordGet v 26 24) msg
    else if wordGet v 27 27 = 1 then s.mgtStrand (s.get 0 F.SHL_RRA_STRAND_INDEX) msg
    else s.mgtShoreline dst msg

/-- RRA_READ, RRA_WRITE (09 R273). -/
def execRraRead (a : At) (q : Req) (v : Word) (s : State) : Out :=
  onWrite a q 0x1B0800 v (wordGet v 31 28 == 1) s fun s => s.writeRraCmd a.die v
def execRraWrite (a : At) (q : Req) (v : Word) (s : State) : Out :=
  onWrite a q 0x1B0800 v (wordGet v 31 28 == 2) s fun s => s.writeRraCmd a.die v

end Sys2Proof.Machine
end

