-- ==== Sys2Proof/Machine/Twist.lean ====
section
/-! DEFINITION. The twist boundary (08 R212, R213, R241; 02 R61; 11 R325). -/

namespace Sys2Proof.Machine

/-- The watchdog of a die that has missed WDOG_TWISTS boundaries in a row fires (08 R241). -/
def State.watchdog (s : State) (d : Nat) : State :=
  if s.get d F.SPD_WDOG_WDOG_TWISTS ≤ Table.look s.spd.missed d 0 then
    State.fireReach { s with spd := { s.spd with missed := Table.del s.spd.missed d } } 6 d 31
  else s

/-- Every head reads its budget (11 R325). -/
def State.readBudgets (s : State) : State :=
  (List.range (2 * s.part.dies)).foldl (fun s n => if s.runs (n / 2) (25 + n % 2) then s.readBudget (n / 2) (n % 2) else s) s

/-- SPD_PLACE_DATA0 to DATA3 of an entry (08 Table 8.5): its allotment and ply, its queue's placement, the last move and decision. -/
def State.placeWords (s : State) (e : Entry) : List Nat :=
  let key := s.queueOf e
  let place := match key with
    | some k => s.holdDie k * 2 ^ 29 + s.pondDie k * 2 ^ 26 + s.pondCh k * 2 ^ 25 +
        b2n ((s.die (k / 512)).noPond.contains (k % 512)) * 2 ^ 24
    | none => 0
  [e.allot % 2 ^ 24 * 2 ^ 8 + (if e.outType = 2 then e.ply % 64 else 0x3F), place + e.reason % 256,
   min e.since 255 * 2 ^ 24 + e.target % 2 ^ 24, e.moved % 256 * 2 ^ 24 + e.demand % 2 ^ 24]

/-- The boundary's figures are shown until the next one. -/
def State.showPlaces (s : State) (d : Nat) : State :=
  let l := (s.die d).ledger.filter fun p => p.2.mirrorOf.isNone
  let t : Table (List Nat) := l.map fun p => (p.1, s.placeWords p.2)
  s.modDie d fun x => { x with placed := t }

/-- What happens at a boundary, in the order of Table 8.1: a patch that is due, the Spindle's staged writes and moves, the heads, the
watchdogs. -/
def State.twistFalls (s : State) (missed step : Nat) (codes : List Nat) : State :=
  let s := s.patchDue codes
  if (List.range s.part.dies).any s.spinning then
    let s := (s.twistSpindle missed step fun d h r s => s.orderStore d h r).readBudgets
    let s := (List.range s.part.dies).foldl (fun s d => if s.spinning d then s.showPlaces d else s) s
    (List.range s.part.dies).foldl State.watchdog s
  else { s with spd := { s.spd with fell := s.boundaryNo } }

/-- TWIST_BOUNDARY (08 R212, R213): the boundary that local time has passed last; `missed`: the dies whose staging came too late, at
`step` of Table 8.1; `codes`: the conversions taken for a store that APPLY_STORE asks for. -/
def execTwistBoundary (a : At) (missed step : Nat) (codes : List Nat) (s : State) : Out :=
  onUnit a (decide (missed < 2 ^ s.part.dies) && decide (1 ≤ step) && decide (step ≤ 5)) s fun s =>
    if s.clock.stopped ∨ s.boundaryNo = s.spd.fell then s else s.twistFalls missed step codes

end Sys2Proof.Machine
end

