-- ==== Sys2Proof/Machine/View.lean ====
section
/-! DEFINITION. What a register shows (19): which die's copy acts, fields that reflect the state, and reads with their effects. -/

namespace Sys2Proof.Machine

/-! Which copies act (19 R484; 09 R275; 12 R348; 13 R370; 15 R414; 16 R438; 17 R457). -/

/-- The registers of which only die 0's copy acts. -/
def anchorOnly (off : Nat) : Bool :=
  let within := fun (a b : Nat) => decide (a ≤ off) && decide (off < b)
  (within 0x010000 0x020000 && off != 0x010008 && off != 0x01000C && off != 0x01001C && off != 0x010020) ||
  within 0x020000 0x030000 || within 0x040000 0x050000 || within 0x050010 0x050040 || within 0x060000 0x080000 || off == 0x180008 ||
  (within 0x1A0000 0x1B0000 && off != 0x1A0000 && off != 0x1A0010 && off != 0x1A0014) || within 0x1B0010 0x1B0100 ||
  within 0x1B0800 0x1C0000 || off == 0x200008 || off == 0x20000C || within 0x240000 0x240080 || off == 0x240090 ||
  within 0x280004 0x280040 || within 0x280080 0x280100 || within 0x3F0000 0x400000

/-- A die's copy of a register acts. -/
def State.acts (s : State) (d off : Nat) : Bool :=
  if anchorOnly off then d == 0
  else if 0x200000 ≤ off ∧ off < 0x220000 then d == s.primary
  else if off = 0x1B0000 ∨ off = 0x1B0004 then decide (d < 2)
  else true

/-! Fields that reflect the state. -/

/-- Fields placed in a word: (lowest bit, value). -/
def pack (l : List (Nat × Nat)) : Word := BitVec.ofNat 32 (l.foldl (fun n p => n + p.2 * 2 ^ p.1) 0)

/-- Some fields of a word replaced. -/
def place (w : Word) (l : List (Fld × Nat)) : Word := l.foldl (fun w p => wordSet w p.1.hi p.1.lo p.2) w

/-- Either half of a 64-bit value. -/
def half (v : Nat) (hi : Bool) : Word := BitVec.ofNat 32 (if hi then v / 2 ^ 32 else v)

/-- log2 of the die count. -/
def State.diesLog2 (s : State) : Nat := s.splicePorts

/-- Islands of a die in reset; one that is not bonded out is powered off (01 R22) and not shown. -/
def State.heldMask (s : State) (d : Nat) : Nat :=
  let there := (List.range 44).foldl (fun m i => if bonded d i then setBit m i else m) 0
  (if bit s.pkg.diesReset d then allIslands else (s.islands d).held) &&& there

/-- GLB registers (19 Table 19.6; 01 Table 1.5). -/
def State.viewGlb (s : State) (d off : Nat) (w : Word) : Word :=
  let stepping := s.part.stepLetter * 16 + s.part.stepNumber
  if off = 0x000000 then pack [(29, d), (28, b2n (d == 0)), (27, b2n (d == s.primary)), (24, s.diesLog2), (8, stepping)]
  else if off = 0x000004 then place w [(F.GLB_DIE_STATUS_ISLANDS_OK, popCount 44 (s.islands d).ok)]
  else if off = 0x000018 then place w [(F.GLB_CAP2_CORE_10MHZ, if s.part.gradeX then 100 else 125)]
  else if off = 0x00001C then pack [(16, 64), (0, 64)]
  else if 0x000200 ≤ off ∧ off < 0x00020C then
    let p := (off - 0x200) / 4
    if s.spliceHere d p then place w [(F.GLB_SPLICE_STATUS_PRESENT, 1), (F.GLB_SPLICE_STATUS_FAR_DIE, (s.spliceFar d p).1)]
    else place w [(F.GLB_SPLICE_STATUS_PRESENT, 0), (F.GLB_SPLICE_STATUS_FAR_DIE, 0)]
  else w

/-- RST registers (16 Table 16.10). -/
def State.viewRst (s : State) (d off : Nat) (w : Word) : Word :=
  let reach := s.boot.reach
  if off = 0x010000 then BitVec.ofNat 32 (reach % 2 ^ 30)
  else if off = 0x010004 then pack [(31, b2n s.boot.fuses.reachValid), (30, b2n (s.boot.reachBad != 0)), (0, reach / 2 ^ 30 % 2 ^ 18)]
  else if off = 0x01001C then half (s.heldMask d) false
  else if off = 0x010020 then half (s.heldMask d) true
  else if 0x011000 ≤ off ∧ off < 0x012000 then
    BitVec.ofNat 32 (leNat (s.cellBytes (bootCell (4096 * s.get 0 F.RST_BOOT_PAGE_PAGE + (off - 0x011000))) 4))
  else w

/-- CLK registers (18 Table 18.13; 01 Table 1.4); PPM is a free value while traceable (log entry 3). -/
def State.viewClk (s : State) (d off : Nat) (w : Word) : Word :=
  let faulty := (Table.find? s.refFault d).isSome
  if off = 0x030004 then place w [(F.CLK_REF_STATUS_REF_OK, b2n (decide (5 ≤ s.pkg.bootStep) && !faulty)),
    (F.CLK_REF_STATUS_HOLDOVER, b2n faulty), (F.CLK_REF_STATUS_SOURCE, s.get 0 F.RST_STRAP_CLK)]
  else if off = 0x030008 then (if s.clock.traceable then BitVec.ofNat 32 (s.draw % 2 ^ 16) else 0)
  else if off = 0x030100 then half (s.islands d).ok false
  else if off = 0x030104 then half (s.islands d).ok true
  else w

/-- EVT and HLD registers that show journal records (03 Table 3.2; 16 Table 16.11). -/
def wordAt (b : List Byte) (k : Nat) : Word := BitVec.ofNat 32 (numAt b (4 * k) 4)
def State.viewEvt (s : State) (off : Nat) (w : Word) : Word :=
  if off = 0x050010 then BitVec.ofNat 32 s.evt.newest
  else if 0x050020 ≤ off ∧ off < 0x050040 then
    wordAt (Table.look s.evt.journal (s.get 0 F.EVT_JNL_SEL_SLOT) []) ((off - 0x050020) / 4)
  else w
def State.viewHld (s : State) (off : Nat) (w : Word) : Word :=
  let flush := if s.get 0 F.HLD_NVJ_SEL_FLUSH < 7 then s.flushes[s.get 0 F.HLD_NVJ_SEL_FLUSH]? else none
  let slot := s.get 0 F.HLD_NVJ_SEL_SLOT
  if off = 0x070034 then (match flush with
    | some x => pack [(31, 1), (0, x.2.2)]
    | none => 0)
  else if 0x070040 ≤ off ∧ off < 0x070060 then (match flush with
    | some x => if slot < x.2.2 then wordAt (s.logBytes (x.2.1 + 64 + 32 * slot) 32) ((off - 0x070040) / 4) else 0
    | none => 0)
  else w

/-- PLY registers: a slot without a ply shows none; credit and charges (04 Table 4.16; 05 Table 5.12; 06 Table 6.8). -/
def State.viewPly (s : State) (d off : Nat) (w : Word) : Word :=
  let k := (off - 0x0A0000) / 0x100
  let r := off % 0x100
  if 0x0A0800 ≤ off ∨ (s.ply? d k).isNone = true then w
  else if 0x40 ≤ r ∧ r < 0x60 then BitVec.ofNat 32 (s.avail d k ((r - 0x40) / 4))
  else if 0x60 ≤ r ∧ r < 0x80 then place w [(F.PLY_LINK_ING_CHARGED, s.charged d (acctPly k ((r - 0x60) / 4)))]
  else w

/-- STR registers (05 Table 5.11; 07 Table 7.3). -/
def State.viewStr (s : State) (d off : Nat) (w : Word) : Word :=
  if off = 0x0C0040 then BitVec.ofNat 32 (s.die d).ledger.length
  else if 0x0D0000 ≤ off ∧ off < 0x0E0000 ∧ off % 0x10 = 8 then
    let p := (off - 0x0D0000) / 0x10
    let b := (s.policer d p).fill (s.get d F.STR_POL_CIR_CIR p) (s.get d F.STR_POL_CBS_CBS p) s.now
    BitVec.ofNat 32 (unsigned 32 b.tokens)
  else w

/-- SWC and SCH registers (06 Tables 6.6, 6.7; 07 Table 7.4). -/
def State.viewSwc (s : State) (d off : Nat) (w : Word) : Word :=
  if off = 0x100000 then place w [(F.SWC_STATUS_CT_CAPABLE, b2n (s.part.dies == 8))]
  else if off = 0x100004 then BitVec.ofNat 32 (s.freeUnits d)
  else if off = 0x100008 then BitVec.ofNat 32 (s.sharedFree d)
  else if off = 0x100018 ∧ s.part.dies ≠ 8 then 0x7FFFF
  else w

/-- SCH registers (06 Table 6.10 and 07 Tables 7.4, 7.5); GATE_STATE shows the entry in force at the read. -/
def State.viewSch (s : State) (d off : Nat) (w : Word) : Word :=
  if 0x140000 ≤ off ∧ off < 0x142600 ∧ off % 0x200 = 0x150 then
    let o := (off - 0x140000) / 0x200
    if s.flag d F.SCH_OUT_GCL_CTL_GATE_EN o then
      let x := (s.gcl d o).1.slotAt s.now
      pack [(24, x.2.1), (0, x.1)]
    else pack [(24, 0xFF)]
  else if 0x140000 ≤ off ∧ off < 0x142600 ∧ 0x100 ≤ off % 0x200 ∧ off % 0x200 < 0x140 ∧ off % 0x10 = 0xC then
    BitVec.ofNat 32 (unsigned 32 (s.shaper d ((off - 0x140000) / 0x200) ((off % 0x200 - 0x100) / 0x10)).tokens)
  else if 0x150000 ≤ off ∧ off < 0x152600 then
    let n := (off - 0x150000) / 0x20
    let key := 512 * d + n
    let q := s.queue key
    let r := off % 0x20
    if r = 0x10 then pack [(31, b2n (q.segs.any fun g => g.place != 1 && g.acct != acctShared && g.acct != acctNone)),
      (0, q.inPlace 0 + q.inPlace 2)]
    else if r = 0x14 then pack [(31, b2n (q.inPlace 1 != 0)), (30, b2n (q.inPlace 2 != 0)), (0, q.pages)]
    else if r = 0x18 then pack [(29, s.holdDie key), (26, s.pondDie key), (25, s.pondCh key), (24, b2n (s.mayOverflow key)),
      (0, s.noOverflow key)]
    else w
  else w

/-- SPD registers (08 Table 8.5): the selected entry as of the last boundary, and the store of each head. -/
def State.viewSpd (s : State) (d off : Nat) (w : Word) : Word :=
  if off = 0x180000 then place w [(F.SPD_STATUS_ARBITER, b2n (d == 0))]
  else if 0x180044 ≤ off ∧ off < 0x180054 then
    let idx := s.homeOf (s.get d F.SPD_PLACE_SEL_INDEX)
    BitVec.ofNat 32 ((Table.look (s.die (idx / 8192)).placed (idx % 8192) [0x3F, 0, 0xFF000000, 0]).getD ((off - 0x180044) / 4) 0)
  else if 0x180088 ≤ off ∧ off < 0x180090 then
    let h := (off - 0x180088) / 4
    match s.headChannels d h with
    | c :: _ => pack [(29, c / 2), (28, c % 2), (27, b2n (s.get d F.DSP_HEAD_CTL_STORE h == 2))]
    | [] => 0
  else w

/-- TIM and DSP registers (09 Table 9.11; 11 Table 11.6). -/
def State.viewTim (s : State) (off : Nat) (w : Word) : Word :=
  if off = 0x1A0000 then s.word 0 Reg.TIM_STATUS
  else if off = 0x1A0010 then half s.ts false
  else if off = 0x1A0014 then half s.ts true
  else w
def State.viewDsp (s : State) (d off : Nat) (w : Word) : Word :=
  let h := (off - 0x1C0000) / 0x1000 % 2
  let r := off % 0x1000
  if r = 0x8C then BitVec.ofNat 32 (s.lineNow d h % 2 ^ 16)
  else if r = 0x94 then (match s.tolerance d h with
    | some t => BitVec.ofNat 32 (t / 1000)
    | none => w)
  else w

/-- VFN and KEY registers (13 Tables 13.5, 13.6; 17 Table 17.6). -/
def State.viewVfn (s : State) (d off : Nat) (w : Word) : Word :=
  if off = 0x240088 then s.pool0 d
  else if off = 0x24008C then s.pool1 d
  else if 0x241000 ≤ off ∧ off < 0x2417C0 ∧ off % 0x40 = 0 then
    let f := 31 * d + (off - 0x241000) / 0x40 + 1
    pack [(24, f), (21, d), (18, (s.slot f).st), (17, b2n (Table.look s.vfn.hostEn f false)), (0, min (s.inFlight f) 0x1FFFF)]
  else w
def State.viewKey (s : State) (d off : Nat) (w : Word) : Word :=
  let slots := (s.die d).keySlots
  let f := s.boot.fuses
  if off = 0x280000 then
    pack ((if d = 0 then [(29, f.lcCode), (28, b2n f.ownerValid), (27, b2n f.root)] else []) ++
      [(16, (slots.filter fun p => p.2.pinned || p.2.pins != 0).length), (0, slots.length)])
  else if off = 0x280004 then Config.factoryId
  else if off = 0x280008 then BitVec.ofNat 32 f.ownerId
  else if off = 0x280030 then half s.attCounter false
  else if off = 0x280034 then half s.attCounter true
  else if 0x280100 ≤ off ∧ off < 0x280200 then
    match Table.find? slots ((off - 0x280100) / 4) with
    | some x => pack [(31, 1), (30, b2n (x.pinned || x.pins != 0)), (22, x.owner), (20, x.use_), (0, x.handle)]
    | none => 0
  else w

/-- PKG registers (19 Table 19.5, R493). -/
def State.viewPkg (s : State) (off : Nat) (w : Word) : Word :=
  let asked := 4 * s.get 0 F.PKG_LIVE_ADDR_ADDR
  let mask := Table.look s.skn.live asked 0
  if off = 0x3F0000 then pack [(24, 7), (20, s.diesLog2), (18, b2n s.part.gradeX), (12, s.part.stepLetter), (8, s.part.stepNumber)]
  else if off = 0x3F0004 then s.part.serialLo
  else if off = 0x3F0008 then s.part.serialHi
  else if off = 0x3F000C then pack [(28, s.pkg.bootStep), (27, b2n s.pkg.recovery), (24, s.lc), (21, s.get 0 F.PWR_STATUS_CURRENT),
    (20, b2n s.clock.traceable), (8, s.pkg.diesReset), (0, s.pkg.diesCut)]
  else if off = 0x3F0064 then mask
  else if off = 0x3F0068 then
    match regAt (asked % 0x1000000) with
    | some r =>
      let o := asked % 0x1000000
      if mask = 0 then 0 else pack [(1, b2n ((patchRoute o r ||| shadowRoute o r) != 0)), (0, b2n (registerGrant o r != 0))]
    | none => 0
  else w

/-- What a die's register shows, but for its WO fields, which read 0 (00 R8); a reserved offset and a copy that does not act read 0. -/
def State.view (s : State) (d off : Nat) : Word :=
  match regAt off with
  | none => 0
  | some r =>
    let w := s.reg (barAddr d off)
    let shown :=
      if off < 0x010000 then s.viewGlb d off w
      else if off < 0x020000 then s.viewRst d off w
      else if off < 0x030000 then w
      else if off < 0x040000 then s.viewClk d off w
      else if off < 0x050000 then w
      else if off < 0x060000 then s.viewEvt off w
      else if off < 0x070000 then w
      else if off < 0x080000 then s.viewHld off w
      else if off < 0x0A0000 then w
      else if off < 0x0C0000 then s.viewPly d off w
      else if off < 0x100000 then s.viewStr d off w
      else if off < 0x140000 then s.viewSwc d off w
      else if off < 0x180000 then s.viewSch d off w
      else if off < 0x1A0000 then s.viewSpd d off w
      else if off < 0x1B0000 then s.viewTim off w
      else if off < 0x1C0000 then w
      else if off < 0x200000 then s.viewDsp d off w
      else if off = 0x200010 then s.word 0 Reg.BRG_PORT_STATUS
      else if off < 0x240000 then w
      else if off < 0x260000 then s.viewVfn d off w
      else if off < 0x280000 then w
      else if off < 0x2A0000 then s.viewKey d off w
      else if off < 0x3F0000 then w
      else s.viewPkg off w
    if s.acts d off then shown &&& ~~~ r.mask (· == .wo) else 0

/-! Reads with an effect (01 R34; 12 R344; 19 R486). -/

/-- The RO pairs named _LO and _HI. -/
def loPair (off : Nat) : Bool :=
  [0x010000, 0x01001C, 0x030100, 0x1A0010, 0x1B0044, 0x280030, 0x3F0004].contains off ||
  (decide (0x0A0000 ≤ off) && decide (off < 0x0A0800) && off % 0x100 == 0x20)

/-- A requester's latched HI halves. -/
def State.latches (s : State) (q : Req) : Table Word := Table.look s.access.latches (reqCode q) []
def State.setLatches (s : State) (q : Req) (t : Table Word) : State :=
  { s with access := { s.access with latches := Table.put s.access.latches (reqCode q) t } }

/-- A fence read completes (01 R34, Table 1.6): the writes discarded since the last one, the dies that still held writes of this requester
when it was received, as far as it wrote to them, and the fence reads completed, this one among them (log entry 31). -/
def State.readFence (s : State) (q : Req) (held : Nat) : State × Word :=
  let x := Table.look s.access.fences (reqCode q) {}
  let n := (x.count + 1) % 65536
  let drained := held &&& x.written % 256
  (s.modFence q fun _ => { count := n, discarded := 0, drained := drained, written := 0 },
   pack [(24, x.discarded), (16, drained), (0, n)])

/-- A dword of a die read by a requester. -/
def State.readDword (s : State) (q : Req) (d off : Nat) : State × Word :=
  if 0x203000 ≤ off ∧ off < 0x203100 then (if d = s.primary then s.semRead q ((off - 0x203000) / 4) else (s, 0))
  else if off = 0x3F0040 then (if d = 0 then (s.readFence q s.draw).map State.drawn id else (s, 0))
  else if off = 0x030008 then (s.drawn, s.view d off)
  else if loPair off then (s.setLatches q (Table.put (s.latches q) (barAddr d (off + 4)) (s.view d (off + 4))), s.view d off)
  else
    match Table.find? (s.latches q) (barAddr d off) with
    | some w => (s.setLatches q (Table.del (s.latches q) (barAddr d off)), w)
    | none => (s, s.view d off)

end Sys2Proof.Machine
end

