-- ==== Sys2Proof/Machine/Access.lean ====
section
/-! DEFINITION. Register accesses (19 R483 to R490; 01 R33 to R35): what an address names for a requester, what a write does by access
type, what a read returns, and accesses that wait. -/

namespace Sys2Proof.Machine

/-! What an address names. -/

/-- What a dword of a requester's space is: nothing, a word that only shows, a register of a die, a dword of a virtual function's MSI-X
table or of its pending bits. -/
inductive Spot where
  | none
  | word (w : Word)
  | reg (d off : Nat)
  | msix (dw : Nat)
  | pba (dw : Nat)
  deriving DecidableEq, Repr

/-- A register that the tables define, or nothing. -/
def regSpot (d off : Nat) : Spot := if (regAt off).isSome then .reg d off else .none

/-- Set bits of a 4-bit mask, lowest first. -/
def maskList (m : Nat) : List Nat := (List.range 4).filter fun k => bit m k

/-- BAR0 of a virtual function (13 Table 13.1): resources are numbered from 0 in carve order. -/
def State.vfSpot (s : State) (f off : Nat) : Spot :=
  let x := s.slot f
  let c := x.carve
  let h := homeDie f
  let nth := fun (l : List Nat) (k : Nat) (g : Nat → Spot) => (l[k]?).elim Spot.none g
  if x.st ≠ 1 ∧ x.st ≠ 2 then .none
  else if off = 0 then .reg h (0x241000 + 0x40 * slotNo f)
  else if off = 4 ∨ off = 8 then .word (c.words.getD (off / 4 - 1) 0)
  else if 0x100 ≤ off ∧ off < 0x140 then regSpot h (0x0C0000 + (off - 0x100))
  else if 0x1000 ≤ off ∧ off < 0x1800 then
    nth c.outlets ((off - 0x1000) / 0x40) fun p => regSpot (p / 128) (0x051000 + 0x40 * (p % 128) + off % 0x40)
  else if off = 0x1800 then .reg h 0x050004
  else if 0x2000 ≤ off ∧ off < 0x3000 then nth c.dma ((off - 0x2000) / 0x40) fun ch => regSpot h (0x220000 + 0x40 * ch + off % 0x40)
  else if 0x3000 ≤ off ∧ off < 0x3010 then .reg s.primary (0x204000 + 0x10 * f + (off - 0x3000))
  else if 0x3140 ≤ off ∧ off < 0x3200 then .reg s.primary (0x203000 + (off - 0x3100))
  else if 0x4000 ≤ off ∧ off < 0x6000 then
    nth (maskList c.heads) ((off - 0x4000) / 0x1000) fun k => regSpot h (0x1C0000 + 0x1000 * k + off % 0x1000)
  else if 0x6000 ≤ off ∧ off < 0x8000 then
    nth (maskList c.usb) ((off - 0x6000) / 0x800) fun k => regSpot h (0x261000 + 0x800 * k + off % 0x800)
  else if 0x8000 ≤ off ∧ off < 0x9000 then nth c.keySlots ((off - 0x8000) / 4) fun k => .reg h (0x280100 + 4 * k)
  else if 0xC000 ≤ off ∧ off < 0xC400 then .msix ((off - 0xC000) / 4)
  else if 0xD000 ≤ off ∧ off < 0xD008 then .pba ((off - 0xD000) / 4)
  else if off = 0xFFF0 then .reg 0 0x3F0040
  else .none

/-- What an address names: BAR0 of PF0 (19 R483), or of a virtual function; a virtual function's address from 0x10000 on stands for the
package register that its BAR translates to. -/
def State.spot (s : State) (q : Req) (addr : Nat) : Spot :=
  match q with
  | .vf f => if addr < 0x10000 then s.vfSpot f addr else .reg (addr / 0x1000000) (addr % 0x1000000)
  | _ => .reg (addr / 0x1000000) (addr % 0x1000000)

/-- The die and die offset that an access is decided by; a dword that names no register is decided on the home die. -/
def State.decidedAt (s : State) (q : Req) (addr len : Nat) : Nat × Nat :=
  let home := match q with
    | .vf f => homeDie f
    | _ => addr / 0x1000000
  match s.spot q addr, s.spot q (addr + 4) with
  | .reg d off, _ => (d, off)
  | .none, .reg d off => if len = 2 then (d, off) else (home, addr % 0x1000000)
  | _, _ => (home, addr % 0x1000000)

/-- The access is a fence read: PKG_FENCE, or a virtual function's (01 R34). -/
def isFence (q : Req) (addr : Nat) : Bool :=
  addr == 0x3F0040 || (addr == 0xFFF0 && match q with
    | .vf _ => true
    | _ => false)

/-- A write of the requester, to any die, still waits. -/
def State.writeWaits (s : State) (q : Req) : Bool := s.access.waiting.any fun w => w.write && w.req == q

/-- An access in the requester's own space, decided by Table 19.2; a fence read comes after every earlier write of its requester (01 R34). -/
def State.accessVerdict (s : State) (q : Req) (addr len : Nat) (be write : Bool) : Verdict :=
  let v := match q with
    | .vf f =>
      if addr < 0x10000 then
        let p := s.decidedAt q addr len
        if len = 0 ∨ 2 < len ∨ be = false ∨ addr % 4 ≠ 0 ∨ (len = 2 ∧ addr % 8 ≠ 0) then .shape
        else if s.dieOut p.1 then .dieOut
        else match s.spot q addr, s.spot q (addr + 4) with
          | .none, y =>
            (match y with
             | .reg d off => if len = 2 then s.verdict q d off 1 true write else .denied
             | .none => .denied
             | _ => if len = 2 then .go else .denied)
          | .reg d off, _ => s.verdict q d off 1 true write
          | _, _ => if s.queuedBehind q (homeDie f) then .behind else .go
      else s.verdict q (addr / 0x1000000) (addr % 0x1000000) len be write
    | _ => s.verdict q (addr / 0x1000000) (addr % 0x1000000) len be write
  if v = .go ∧ isFence q addr = true ∧ s.writeWaits q = true then .behind else v

/-! Writes by access type (00 R8; 19 R484, R488). -/

/-- A counter register: CLEAR in bit 31, COUNT below it. -/
def isCounter (r : RegDesc) : Bool :=
  r.base != 0x010034 && r.base != 0x20000C &&
  match r.fields with
  | [c, n] => c.acc == .wo && c.hi == 31 && c.lo == 31 && n.acc == .ro && n.lo == 0
  | _ => false

/-- RW and RWS fields take the value, W1C bits written 1 are cleared, granted SKN fields take it; RO and WO fields take nothing. -/
def State.writePlain (s : State) (d off : Nat) (r : RegDesc) (v : Word) : State :=
  let old := s.reg (barAddr d off)
  let take := r.mask fun x => x == .rw || x == .rws
  let s := s.setReg (barAddr d off) (((old &&& ~~~ take) ||| (v &&& take)) &&& ~~~ (v &&& r.mask (· == .w1c)))
  let p := r.index off
  s.writeSkn d r v p.1 p.2

/-- Registers of GLB to PLY whose write does more than its access types say. -/
def State.writeLow (s : State) (d off : Nat) (q : Req) (r : RegDesc) (v : Word) (w : Around) : State :=
  let i := (r.index off).1
  let b := r.base
  if b = 0x010010 then s.requestReset v
  else if b = 0x010024 then s.forceRelease v
  else if b = 0x010034 then s.writePush d q v
  else if b = 0x010048 then (if q = .pf0 then s.writeFuseProg d v w.codes else s)
  else if b = 0x011000 then
    (if d = 0 then s.setCells (bootCell (4096 * s.get 0 F.RST_BOOT_PAGE_PAGE + (off - 0x011000))) (leBytes 4 v.toNat) else s)
  else if b = 0x020000 then s.writePwrCmd d v w.aspm
  else if b = 0x040038 then s.writeSknCmd d v
  else if b = 0x050004 then s.evtTest d q v
  else if 0x051000 ≤ b ∧ b ≤ 0x05100C then (if s.flag d F.EVT_OUT_STATUS_ENABLED i then s else s.writePlain d off r v)
  else if b = 0x051010 then
    (if wordGet v 31 31 = 1 then s.enableOutlet d i v else (s.writeOutletCfg d i v).disableOutlet d i)
  else if b = 0x051020 then s.writeOutletDoorbell d i v
  else if b = 0x060000 then s.writeTrnAddr d v
  else if b = 0x07001C then s.writeHldCmd d v w.codes
  else if b = 0x08001C then
    (if wordGet v 31 31 = 1 then (List.range 16).foldl (fun s n => s.setWord d Reg.LN_FEC_HIST 0 i n) s else s)
  else if b = 0x0A0004 then s.writePlyCtl d i v
  else if b = 0x0A0804 then s.writeCageCtl d i v
  else s.writePlain d off r v

/-- A command written to STR_CMD (05 Table 5.11); OP 0 and 6 to 15 name none. -/
def State.writeStrCmd (s : State) (d f : Nat) (v : Word) : State :=
  match wordGet v 31 28 with
  | 1 => s.strCreate d f v
  | 2 => s.strActivate d f v
  | 3 => s.strModify d f v
  | 4 => s.strTeardown d f v
  | 5 => s.strRead d f v
  | _ => s

/-- Registers of STR to DSP. -/
def State.writeMid (s : State) (d off cyc : Nat) (q : Req) (r : RegDesc) (v : Word) : State :=
  let p := r.index off
  let b := r.base
  if b = 0x0C0000 then s.writeStrCmd d (reqFn q) v
  else if b = 0x0D0000 ∨ b = 0x0D0004 then s.writePolicer d p.1 (b == 0x0D0004) v
  else if b = 0x100018 then (if s.part.dies = 8 then s.writePlain d off r v else s)
  else if b = 0x104000 then s.writeBranch d p.1 p.2 v
  else if b = 0x14F004 then s.writeHistCtl d v
  else if b = 0x180008 then s.writeFreeze d v
  else if b = 0x1A0020 then s.writeTimSet d v
  else if b = 0x1B0000 then s.writePortStatus d v
  else if b = 0x1B0020 then s.writeShlCmd d v
  else if b = 0x1B0040 then s.writeSnapCtl d v
  else if b = 0x1B0800 then s.writeRraCmd d v
  else if b = 0x1C0000 then s.writeHeadCtl d p.1 v
  else if b = 0x1C002C then s.writeApply d p.1 cyc v
  else if b = 0x1C0054 then s.writeCommit d p.1 cyc v
  else if b = 0x1C0084 then s.writeLead d p.1 v
  else if b = 0x1C0200 then s.writeAux d p.1 v
  else s.writePlain d off r v

/-- Registers of BRG to PKG. -/
def State.writeHigh (s : State) (d off : Nat) (q : Req) (r : RegDesc) (v : Word) (w : Around) : State :=
  let p := r.index off
  let b := r.base
  if b = 0x20000C then s.writePortCmd v
  else if b = 0x200010 then s.set 0 F.BRG_PORT_STATUS_PROMOTIONS (wordGet v 7 0)
  else if b = 0x200014 then (if wordGet v 31 31 = 1 then s.set d F.BRG_TAGS_PEAK 0 else s)
  else if b = 0x203000 then s.writeSem q p.1 v
  else if b = 0x220000 then s.writeDmaCfg d p.1 v
  else if b = 0x220004 ∨ b = 0x220008 then s.writeDmaRing d p.1 (b == 0x220008) v
  else if b = 0x220010 then s.writeDoorbell d p.1 v
  else if b = 0x240000 then s.writeVfnCmd d v
  else if b = 0x241004 then s.writeLogCtl d p.1 v
  else if b = 0x260000 then s.writeUfpCtl d v
  else if b = 0x260100 then
    let on := s.flag d F.USB_DFP_CTL_OVERCURRENT p.1
    let s := s.writePlain d off r v
    (if on && wordGet v 28 28 == 1 then s.overcurrentCleared d p.1 else s)
  else if b = 0x261000 then s.writeFnCtl d p.1 v
  else if b = 0x261004 then s.writeFnStrand d p.1 v
  else if b = 0x261040 ∨ b = 0x261044 then s.writeEp d p.1 p.2 (b == 0x261040) v
  else if b = 0x280020 then s.writeKeyCmd d q v w.buf w.codes
  else if b = 0x280080 then s.setReg (barAddr d off) v
  else if b = 0x2A0020 then s.writeMsecCtl d p.1 v
  else if b = 0x2A4000 then s.writeSaCmd d v
  else if b = 0x3F0010 then
    (if wordGet v 31 31 = 1 then (s.set 0 F.PKG_BAD_ACCESS_COUNT 0).set 0 F.PKG_BAD_ACCESS_LAST_CAUSE 0 else s)
  else s.writePlain d off r v

/-- A dword written to a die: a reserved offset, and a copy that does not act, take nothing (19 R484). -/
def State.writeDword (s : State) (d off cyc : Nat) (q : Req) (v : Word) (w : Around) : State :=
  match regAt off with
  | none => s
  | some r =>
    if !s.acts d off then s
    else if isCounter r then (if wordGet v 31 31 = 1 then s.setReg (barAddr d off) 0 else s)
    else if off < 0x0C0000 then s.writeLow d off q r v w
    else if off < 0x200000 then s.writeMid d off cyc q r v
    else s.writeHigh d off q r v w

/-- The MSI-X table of a virtual function (13 R358): bit 0 of the last dword of an entry masks its vector. -/
def State.msixWord (s : State) (f dw : Nat) : Word :=
  let w := Table.look s.evt.msixWords (1024 * f + dw) 0
  if dw % 4 = 3 then wordSet w 0 0 (b2n (!Table.look s.evt.unmasked (2048 * f + dw / 4) false)) else w
def State.writeMsix (s : State) (f dw : Nat) (v : Word) : State :=
  let s : State := { s with evt := { s.evt with msixWords := Table.put s.evt.msixWords (1024 * f + dw) v } }
  if dw % 4 ≠ 3 then s
  else if wordGet v 0 0 = 0 then s.unmask f (dw / 4)
  else { s with evt := { s.evt with unmasked := Table.put s.evt.unmasked (2048 * f + dw / 4) false } }

/-- Pending bits 32 × `dw` to 32 × `dw` + 31 of a function. -/
def State.pbaWord (s : State) (f dw : Nat) : Word :=
  BitVec.ofNat 32 ((List.range 32).foldl (fun n k => n + b2n (Table.look s.evt.msixPending (2048 * f + 32 * dw + k) false) * 2 ^ k) 0)

/-- A dword written by a requester. -/
def State.writeSpot (s : State) (cyc : Nat) (q : Req) (x : Spot) (v : Word) (w : Around) : State :=
  match x with
  | .none => s.unprovisioned
  | .word _ => s
  | .reg d off => s.writeDword d off cyc q v w
  | .msix dw => s.writeMsix (reqFn q) dw v
  | .pba _ => s

/-- A dword read by a requester; `held` is for a fence read (01 Table 1.6). -/
def State.readSpot (s : State) (q : Req) (x : Spot) (held : Nat) : State × Word :=
  match x with
  | .none => (s, 0)
  | .word w => (s, w)
  | .reg d off => if off = 0x3F0040 ∧ d = 0 then s.readFence q held else s.readDword q d off
  | .msix dw => (s, s.msixWord (reqFn q) dw)
  | .pba dw => (s, s.pbaWord (reqFn q) dw)

/-! An access goes through, is turned away, or waits. -/

/-- A write takes effect, its lower dword first (19 R485). -/
def State.performWrite (s : State) (cyc : Nat) (q : Req) (addr len : Nat) (v0 v1 : Word) (w : Around) : State :=
  let t := s.decidedAt q addr len
  let s := (s.tlpActivity q t.2).ungate t.1 (s.holder t.1 t.2)
  let s := s.modFence q fun x => { x with written := setBit x.written t.1 }
  let s := s.writeSpot cyc q (s.spot q addr) v0 w
  if len = 2 then s.writeSpot cyc q (s.spot q (addr + 4)) v1 w else s

/-- A read returns its dwords. -/
def State.performRead (s : State) (q : Req) (addr len held : Nat) : State × List Word :=
  let t := s.decidedAt q addr len
  let s := (s.tlpActivity q t.2).ungate t.1 (s.holder t.1 t.2)
  let r := s.readSpot q (s.spot q addr) held
  if len = 2 then
    let r2 := r.1.readSpot q (r.1.spot q (addr + 4)) held
    (r2.1, [r.2, r2.2])
  else (r.1, [r.2])

/-- A read completes: to its requester, or to the host under the tag of a locked read. -/
def State.sendBack (s : State) (q : Req) (lock : Option Nat) (c : Completion) : State :=
  match lock, c with
  | none, c => s.emit (.completion q c)
  | some tag, .data ws => s.emit (.answer (reqFn q) tag 0 (ws.flatMap fun w => leBytes 4 w.toNat))
  | some tag, _ => s.emit (.answer (reqFn q) tag 4 [])

/-- A locked read of a privileged channel first acquires its semaphore (12 R344). -/
def State.lockChannel (s : State) (q : Req) (off : Nat) : State :=
  match channelSem off with
  | some n => (s.semSet n (reqCode q)).modBrg fun b => { b with lock := some { fn := reqFn q, vdp := none, sem := n, since := s.now, broken := false } }
  | none => s

/-- A read that goes through. -/
def State.finishRead (s : State) (q : Req) (addr len held : Nat) (lock : Option Nat) : State :=
  let s := if lock.isSome then s.lockChannel q (s.decidedAt q addr len).2 else s
  let r := s.performRead q addr len held
  r.1.sendBack q lock (.data r.2)

/-- A read that the verdict turns away (19 Table 19.2; 01 R35, R47). -/
def State.turnAwayRead (s : State) (q : Req) (addr len : Nat) (lock : Option Nat) (v : Verdict) : State :=
  let ones := Completion.data (List.replicate len 0xFFFFFFFF)
  let zeros := Completion.data (List.replicate len 0)
  match v with
  | .shape => (s.badAccess q addr 1).sendBack q lock .abort
  | .crossBlock => (s.badAccess q addr 2).sendBack q lock .abort
  | .noDie => (s.badAccess q addr 3).sendBack q lock ones
  | .dieOut => s.sendBack q lock ones
  | .denied =>
    (match q with
     | .vf _ => s.sendBack q lock zeros
     | .pf0 => (s.badAccess q addr 5).sendBack q lock zeros
     | _ => (s.badAccess q addr 5).sendBack q lock .denied)
  | _ => s.sendBack q lock zeros

/-- A read arrives. -/
def State.beginRead (s : State) (q : Req) (addr len : Nat) (be : Bool) (held : Nat) (lock : Option Nat) : State :=
  let t := s.decidedAt q addr len
  let x : Waiting := ⟨q, addr, t.1, t.2, false, len, BitVec.ofNat 32 held, 0, {}, false, none, lock⟩
  match s.accessVerdict q addr len be false with
  | .go => s.finishRead q addr len held lock
  | .behind => s.park x
  | .waits => s.park { x with deadline := s.islandWait }
  | .held => s.park { x with sem := true, deadline := s.semWait }
  | v => s.turnAwayRead q addr len lock v

/-- A write arrives. -/
def State.beginWrite (s : State) (cyc : Nat) (q : Req) (addr len : Nat) (be : Bool) (v0 v1 : Word) (w : Around) : State :=
  let t := s.decidedAt q addr len
  match s.accessVerdict q addr len be true with
  | .go => s.performWrite cyc q addr len v0 v1 w
  | v => s.turnAwayWrite q addr t.1 t.2 len v0 v1 w v

/-! Serving what waits. -/

/-- An access that waits is looked at again: it is served in time, is turned away, or waits on. -/
def State.retry (a : At) (s : State) (x : Waiting) : State :=
  let due := (x.deadline.map (inTime a s)).getD true
  let near := x.sem && (x.deadline.map (nearMiss a s)).getD false
  match s.accessVerdict x.req x.addr x.len true x.write with
  | .go =>
    if !due then s.park x
    else
      let s := if near then s.bump s.primary F.BRG_NEAR_MISS_COUNT else s
      if x.write then s.performWrite a.cyc x.req x.addr x.len x.v0 x.v1 x.around
      else s.finishRead x.req x.addr x.len x.v0.toNat x.lock
  | .behind => s.park { x with sem := false, deadline := none }
  | .waits => s.park (if x.sem || x.deadline.isNone then { x with sem := false, deadline := s.islandWait } else x)
  | .held => s.park (if x.sem then x else { x with sem := true, deadline := s.semWait })
  | v =>
    if x.write then s.turnAwayWrite x.req x.addr x.die x.off x.len x.v0 x.v1 x.around v
    else s.turnAwayRead x.req x.addr x.len x.lock v

/-- Every waiting access is looked at again, oldest first. -/
def State.retryAll (a : At) (s : State) : State :=
  s.access.waiting.foldl (fun s x => s.retry a x) { s with access := { s.access with waiting := [] } }

/-- A command left BUSY runs once its island does; one whose command block a reset has cleared is gone. -/
def State.runParked (s : State) (c : Parked) : State :=
  if c.vfn then
    (if s.flag 0 F.VFN_CMD_STATUS_BUSY = false then s
     else if s.runs (homeDie (wordGet c.v 7 0)) 36 then (s.set 0 F.VFN_CMD_STATUS_BUSY 0).writeVfnCmd 0 c.v
     else s.parkCmd c)
  else
    (if s.flag c.die F.STR_CMD_STATUS_BUSY = false then s
     else if s.runs (cmdDie c.fn c.v) 10 then (s.set c.die F.STR_CMD_STATUS_BUSY 0).writeStrCmd c.die c.fn c.v
     else s.parkCmd c)

/-- Every command left BUSY is looked at again. -/
def State.runAllParked (s : State) : State :=
  s.access.parked.foldl (fun s c => s.runParked c) { s with access := { s.access with parked := [] } }

end Sys2Proof.Machine
end

