-- ==== Sys2Proof/Machine/Message.lean ====
section
/-! DEFINITION. Management messages acted on here (09 R271, R272; 19 R491; 14 R392): taken, carried out dword by dword, answered. -/

namespace Sys2Proof.Machine

/-- Fields of a message (09 Table 9.9). -/
def msgOp (b : List Byte) : Nat := byteAt b 0
def msgStatus (b : List Byte) : Nat := byteAt b 1
def msgTag (b : List Byte) : Nat := numAt b 2 2
def msgSrc (b : List Byte) : Nat := numAt b 4 2 % 4096
def msgDst (b : List Byte) : Nat := numAt b 6 2 % 4096
def msgNeighbour (b : List Byte) : Bool := bit (numAt b 6 2) 15
def msgAddr (b : List Byte) : Nat := numAt b 8 4 % 2 ^ 27
def msgCount (b : List Byte) : Nat := numAt b 12 2
def msgData (b : List Byte) : List Word := (List.range ((b.length - 16) / 4)).map fun i => BitVec.ofNat 32 (numAt b (16 + 4 * i) 4)

/-- A Shoreline MGT frame passes its checks: its type, its length, its CRC-32C (09 Table 9.1). -/
def mgtFrameOk (b : List Byte) : Bool :=
  byteAt b 0 == 3 && decide (24 ≤ b.length) && decide (b.length ≤ 1048) && b.drop (b.length - 4) == crc32c (b.take (b.length - 4))

/-- The message in a frame. -/
def mgtOfFrame (b : List Byte) : List Byte := (b.drop 4).take (b.length - 8)

/-! Answers. -/

/-- The MGT strand that an answer to a request takes: from this hub, back along the side that the request came in on where there is one,
else the lowest. -/
def State.answerStrand (s : State) (idx : Nat) : Option Nat :=
  let mine := s.entries.filter fun p => p.2.kind == 6 && p.2.st == 2 && p.2.inType == 3 && p.2.mirrorOf.isNone
  let back := match s.entry? idx with
    | some e => mine.filter fun p => p.2.outType == e.inType && p.2.outIndex == e.inIndex
    | none => []
  ((back ++ mine)[0]?).map (·.1)

/-- A message for the host of MGMT_ACM, framed on bulk IN 2; data for the host is a wake reason (14 R386, R392). -/
def State.toAcm (s : State) (d : Nat) (msg : List Byte) : State :=
  if s.attached d 2 && decide (2 ≤ s.devState d 2) then
    let b := slipFrame msg
    let s := s.modFn d 2 fun f => { f with stage := Table.upd f.stage 2 [] fun l => l ++ transferPackets (s.maxPacket d 2 2) b b.length }
    (s.stageIn d 2 2).wakeReason d 2
  else s

/-- The answer to a message leaves; its SRC is this hub and its DST the requester. A refused one carries no data. -/
def State.respond (s : State) (m : Msg) (status : Nat) : State :=
  let bytes := fun (neighbour : Bool) => mgtBytes (m.op + 2) status m.tag s.hubAddr m.src neighbour m.addr (if status = 0 then m.count else 0)
    (if status = 0 then m.got else [])
  match m.reply with
  | .smb => { s with access := { s.access with response := some (bytes false) } }
  | .via (.shoreline p side) _ =>
    if s.onRing p then s.mgtShoreline m.src (bytes false) else s.emit (.shoreline p side (mgtFrame (bytes true)) false)
  | .via (.hop k) d => s.mgtHop d k (bytes true)
  | .via (.strand idx) _ => (s.answerStrand idx).elim s fun i => s.mgtStrand i (bytes false)
  | .acm d => s.toAcm d (bytes false)

/-! Carrying out. -/

/-- One dword of a message that its verdict does not hold: written, or read. -/
def State.doDword (s : State) (cyc : Nat) (m : Msg) (v : Verdict) : State × Msg :=
  let addr := m.addr + 4 * m.done
  let t := s.decidedAt m.req addr 1
  let next : Msg := { m with done := m.done + 1, deadline := none }
  let w := m.data.getD m.done 0
  if m.op = 2 then
    (if v = .go then s.performWrite cyc m.req addr 1 w 0 m.around else s.turnAwayWrite m.req addr t.1 t.2 1 w 0 m.around v, next)
  else
    match v with
    | .go =>
      let r := s.performRead m.req addr 1 (s.draw % 256)
      (if isFence m.req addr then r.1.drawn else r.1, { next with got := m.got ++ r.2 })
    | .shape | .crossBlock => ((s.badAccess m.req addr 1).drawn, { next with got := m.got ++ [BitVec.ofNat 32 s.draw] })
    | .noDie => (s.badAccess m.req addr 3, { next with got := m.got ++ [0xFFFFFFFF] })
    | .dieOut => (s, { next with got := m.got ++ [0xFFFFFFFF] })
    | _ => (s, { next with got := m.got ++ [0] })

/-- The dwords of a message in ascending order (19 R491), up to one that waits. -/
def State.runMsg (a : At) : Nat → State → Msg → State × Msg
  | 0, s, m => (s, m)
  | n + 1, s, m =>
    match s.accessVerdict m.req (m.addr + 4 * m.done) 1 true (m.op == 2) with
    | .waits => (s, if m.deadline.isNone then { m with deadline := s.islandWait } else m)
    | .behind | .held => (s, { m with deadline := none })
    | v =>
      if (m.deadline.map (inTime a s)).getD true then
        let r := s.doDword a.cyc m v
        State.runMsg a n r.1 r.2
      else (s, m)

/-- A message goes on; when its last dword is done it is answered. -/
def State.advance (a : At) (s : State) (m : Msg) : State :=
  let r := State.runMsg a (m.count - m.done) s m
  if r.2.done = r.2.count then r.1.respond r.2 0
  else { r.1 with access := { r.1.access with msgs := r.1.access.msgs ++ [r.2] } }

/-- Messages being acted on go on, oldest first; one waits behind an unfinished one of its requester. -/
def State.advanceAll (a : At) (s : State) : State :=
  s.access.msgs.foldl (fun s m =>
    if s.access.msgs.any fun x => x.req == m.req then { s with access := { s.access with msgs := s.access.msgs ++ [m] } }
    else s.advance a m) { s with access := { s.access with msgs := [] } }

/-- A dword that its requester may not reach (19 R490; 09 R272); `boot`: only the boot window registers (16 R426). -/
def State.refuses (s : State) (q : Req) (boot : Bool) (addr : Nat) (write : Bool) : Bool :=
  let d := addr / 0x1000000
  let off := addr % 0x1000000
  if boot && write then !(d == 0 && bootRegister off && s.bootAdmits q) else !s.permits q d off write

/-- A request is taken: BAD_COUNT, DENIED with nothing applied, or carried out. -/
def State.takeRequest (a : At) (s : State) (q : Req) (reply : Reply) (boot : Bool) (b : List Byte) (w : Around) : State :=
  let write := msgOp b == 2
  let n := msgCount b
  let m : Msg := { req := q, reply := reply, op := msgOp b, tag := msgTag b, src := msgSrc b, addr := msgAddr b, count := n, data := msgData b, around := w }
  let most := if q = .smb then 59 else 256
  if n = 0 ∨ most < n ∨ (write = true ∧ (msgData b).length < n) then s.respond m 2
  else
    let s := if q = .shl then s.activity else s
    match (List.range n).find? fun i => s.refuses q boot (m.addr + 4 * i) write with
    | some i =>
      let s := s.badAccess q (m.addr + 4 * i) 5
      let s := if q = .shl then s.raise 0 33 0x613 1 [(2, m.src), (1, m.op), (1, 0), (4, m.addr)] else s
      s.respond m 1
    | none => State.advanceAll a { s with access := { s.access with msgs := s.access.msgs ++ [m] } }

/-- Whatever waits is looked at again: accesses, commands left BUSY, messages. -/
def State.serve (a : At) (s : State) : State := State.advanceAll a (State.retryAll a s).runAllParked

end Sys2Proof.Machine
end

