-- ==== Sys2Proof/Machine/Serve.lean ====
section
/-! DEFINITION. Register accesses as commands (19 R485 to R488; 01 R34; 12 R343, R344), the end of a wait, and the commands after which
accesses that waited are served: an island runs again, or a semaphore is free. -/

namespace Sys2Proof.Machine

/-- What waits is served after a command, and the writes of that join the canonical tables. -/
def thenServe (a : At) : Out → Out
  | .next t => .next (t.commit (t.serve a))
  | o => o

/-- A command that is a register access: nothing reaches the registers in STILL and TARN (15 R402). What waited goes first. -/
def onAccess (a : At) (ok : Bool) (s : State) (f : State → State) : Out :=
  if ok = true then
    .next (s.commit (
      let s := elapse a s
      if s.resting then s else (f (s.serve a)).serve a))
  else .refused .noSuchUnit

/-! Register accesses. -/

/-- REGISTER_WRITE (19 R485): `addr` is an offset in the requester's own BAR0; `be`: every byte enable is set. -/
def execRegisterWrite (a : At) (q : Req) (addr len : Nat) (be : Bool) (v0 v1 : Word) (w : Around) (s : State) : Out :=
  onAccess a (addr < 2 ^ 27) s fun s => s.beginWrite a.cyc q addr len be v0 v1 w

/-- A read by a requester; a fence read that comes as a plain read shows free DIES_DRAINED bits of the dies written (log entry 31). -/
def State.readAccess (s : State) (q : Req) (addr len : Nat) (be : Bool) : State :=
  if isFence q addr then s.drawn.beginRead q addr len be (s.draw % 256) none else s.beginRead q addr len be 0 none

/-- REGISTER_READ (19 R485). -/
def execRegisterRead (a : At) (q : Req) (addr len : Nat) (be : Bool) (s : State) : Out :=
  onAccess a (addr < 2 ^ 27) s fun s => s.readAccess q addr len be

/-- LO_LATCH_READ (19 R486): the read of the LO half of an RO pair. -/
def execLoLatchRead (a : At) (q : Req) (off : Nat) (s : State) : Out :=
  onAccess a (loPair off) s fun s => s.beginRead q (barAddr a.die off) 1 true 0 none

/-- SEM_READ (12 R344): a read of BRG_SEM `n`. -/
def execSemRead (a : At) (q : Req) (n : Nat) (s : State) : Out :=
  onAccess a (n < 64) s fun s => s.beginRead q (barAddr a.die (0x203000 + 4 * n)) 1 true 0 none

/-- FENCE_READ (01 R34): `held` has a bit for each die that still held a write of the requester when the read was received. -/
def execFenceRead (a : At) (q : Req) (held : Nat) (s : State) : Out :=
  onAccess a (held < 256) s fun s =>
    let waiting := (s.access.waiting.filter fun w => w.write && w.req == q).foldl (fun m w => setBit m w.die) 0
    s.beginRead q 0x3F0040 1 true (held ||| waiting) none

/-- The counter of a register: the lowest field. -/
def counterTop (r : RegDesc) : Nat := (r.fields.map fun f => if f.lo = 0 then 2 ^ (f.hi + 1) - 1 else 0).foldl max 0

/-- COUNTER_CLEAR (19 R488): CLEAR is applied first, and the `inc` increments of that cycle follow it. -/
def execCounterClear (a : At) (q : Req) (off : Nat) (v : Word) (inc : Nat) (s : State) : Out :=
  onWrite a q off v (((regAt off).map fun r => isCounter r || r.base == 0x3F0010).getD false && wordGet v 31 31 == 1) s fun s =>
    match regAt off with
    | some r =>
      if s.acts a.die off then
        let s := s.writeDword a.die off a.cyc q v {}
        let old := s.reg (barAddr a.die off)
        s.setReg (barAddr a.die off) (wordSet old (if isCounter r then 30 else 27) 0 (min inc (counterTop r)))
      else s
    | none => s

/-- W1C_CLEAR (19 R488): bits written 1 are cleared, but for those that the hardware sets in the same cycle. -/
def execW1cClear (a : At) (q : Req) (off : Nat) (v hwSet : Word) (s : State) : Out :=
  let mask := ((regAt off).map fun r => r.mask (· == .w1c)).getD 0
  onWrite a q off v (v &&& mask != 0) s fun s =>
    if s.acts a.die off then
      let s := s.writeDword a.die off a.cyc q (v &&& ~~~ (hwSet &&& mask)) {}
      s.setReg (barAddr a.die off) (s.reg (barAddr a.die off) ||| (hwSet &&& mask))
    else s

/-- A wait has ended without service: an island's, or a semaphore's (19 R485, row 6; 12 R344). -/
def State.waitEnds (s : State) (x : Waiting) : State :=
  if x.sem then
    if x.write then (s.countDiscard x.req).badAccess x.req x.addr 4
    else
      let s := match x.lock with
        | some _ => s.sendBack x.req x.lock .abort
        | none => s.emit (.completion x.req .abort)
      (s.raiseOwned (reqFn x.req) s.primary 19 0x803 2
        [(1, reqFn x.req), (1, 0xFF), (2, s.draw), (8, x.addr), (2, 0)]).drawn
  else
    let s := s.badAccess x.req x.addr 4
    if x.write then s.countDiscard x.req else s.sendBack x.req x.lock (.data (List.replicate x.len 0xFFFFFFFF))

/-- A message's dword has waited in vain: all ones, or discarded; the message goes on. -/
def State.dwordEnds (s : State) (m : Msg) : State × Msg :=
  let s := s.badAccess m.req (m.addr + 4 * m.done) 4
  let next : Msg := { m with done := m.done + 1, deadline := none }
  if m.op = 2 then (s.countDiscard m.req, next) else (s, { next with got := m.got ++ [0xFFFFFFFF] })

/-- ACCESS_WAIT_TIMEOUT (19 R485, row 6): decided in the CSR island of the target die, or for a semaphore in the primary die's BRG island. -/
def execAccessWaitTimeout (a : At) (s : State) : Out :=
  onUnit a true s fun s =>
    if s.clock.stopped then s
    else
      let past := fun (d : Option Nat) => (d.map (fallen s)).getD false
      let ended := fun (x : Waiting) => past x.deadline && (if x.sem then s.primary == a.die else x.die == a.die)
      let gone := s.access.waiting.filter ended
      let s : State := { s with access := { s.access with waiting := s.access.waiting.filter fun x => !ended x } }
      let s := gone.foldl State.waitEnds s
      let s := s.access.msgs.foldl (fun s m =>
        let r := if past m.deadline && (m.addr + 4 * m.done) / 0x1000000 == a.die then s.dwordEnds m else (s, m)
        { r.1 with access := { r.1.access with msgs := r.1.access.msgs ++ [r.2] } }) { s with access := { s.access with msgs := [] } }
      s.serve a

/-! Locked sequences (12 R343, R344). -/

/-- LOCKED_READ (12 R343, R344): an MRdLk of function `f`. A privileged channel's semaphore is acquired and the channel read; a LOCKABLE
window of kind 1 or 2 locks the far bus; everything else completes with Unsupported Request and is counted. -/
def execLockedRead (a : At) (f : Nat) (tgt : Target) (addr len tag : Nat) (s : State) : Out :=
  onIsland a 19 (f < 249 && 0 < len && len ≤ 4096) s fun s =>
    let p := s.primary
    if a.die ≠ p then s
    else
      let s := s.activity
      let w := s.window? f tgt addr
      let v := s.vdpOf tgt w
      let refuse := (s.bump p F.BRG_UR_LOCK_COUNT).emit (.answer f tag 1 [])
      match tgt with
      | .csr d off =>
        if (channelSem off).isNone then refuse
        else s.beginRead (if f = 0 then .pf0 else .vf f) (barAddr d off) (len / 4) (len % 4 == 0) 0 (some tag)
      | .vdp .. =>
        if s.fenced f w || s.brokenFor f v then s.emit (.answer f tag 4 [])
        else if !s.winFlag w F.BRG_WIN_CFG_LOCKABLE then refuse
        else
          match v with
          | none => s.emit (.answer f tag 1 [])
          | some v =>
            if !s.vdpCarried v then s.emit (.answer f tag 1 [])
            else
              let mine := match s.brg.lock with
                | some l => l.fn == f && l.vdp == some v
                | none => false
              let s := if mine then s
                else (s.endLock.modBrg fun b => { b with lock := some { fn := f, vdp := some v, sem := 0, since := s.now, broken := false } }).set p
                  F.BRG_VDP_STATUS_LOCKED 1 v
              let r := s.takeTag p ⟨f, winNo w, v, addr, len, tag, 0, s.tagDeadline, 2⟩
              (match r.2 with
               | some t => r.1.forwardTlp v 2 f t addr (leBytes 2 len)
               | none => r.1)
      | _ => refuse

/-! Commands after which what waited is served. -/

/-- CLK_OK_ASSERT (01 R24). -/
def execClkOkAssert (a : At) (isl : Nat) (s : State) : Out := thenServe a (clkOkAssert a isl s)
/-- CLK_ISLAND_RESTORED (01 R25). -/
def execClkIslandRestored (a : At) (isl : Nat) (s : State) : Out := thenServe a (clkIslandRestored a isl s)
/-- RESET_RELEASE (16 R423). -/
def execResetRelease (a : At) (src : Nat) (s : State) : Out := thenServe a (resetRelease a src s)
/-- RST_FORCE_RELEASE (16 R423). -/
def execRstForceRelease (a : At) (q : Req) (v : Word) (s : State) : Out := thenServe a (rstForceRelease a q v s)
/-- PCIE_HOT_RESET (16 Table 16.1). -/
def execPcieHotReset (a : At) (s : State) : Out := thenServe a (pcieHotReset a s)
/-- PF0_FLR (16 R419). -/
def execPf0Flr (a : At) (s : State) : Out := thenServe a (pf0Flr a s)
/-- RST_REQ (16 R421). -/
def execRstReq (a : At) (q : Req) (v : Word) (s : State) : Out := thenServe a (rstReq a q v s)
/-- VF_FUNCTION_RESET (13 R361). -/
def execVfFunctionReset (a : At) (f cause : Nat) (s : State) : Out := thenServe a (vfFunctionReset a f cause s)
/-- SKN_LOAD (02 R51; 16 R426). -/
def execSknLoad (a : At) (s : State) : Out := thenServe a (sknLoad a s)
/-- PUSH_IMAGE_LOADED (16 R427). -/
def execPushImageLoaded (a : At) (s : State) : Out := thenServe a (pushImageLoaded a s)
/-- STILL_EXIT_DONE (15 R406, R407). -/
def execStillExitDone (a : At) (aspm : Bool) (s : State) : Out := thenServe a (stillExitDone a aspm s)
/-- SEM_RELEASE (12 R344). -/
def execSemRelease (a : At) (q : Req) (n : Nat) (v : Word) (s : State) : Out := thenServe a (semRelease a q n v s)
/-- SEM_FORCE (12 R344). -/
def execSemForce (a : At) (q : Req) (n : Nat) (v : Word) (s : State) : Out := thenServe a (semForce a q n v s)
/-- UNLOCK_MESSAGE (12 R343). -/
def execUnlockMessage (a : At) (s : State) : Out := thenServe a (unlockMessage a s)
/-- PORT_PROMOTE (12 R329). -/
def execPortPromote (a : At) (q : Req) (v : Word) (s : State) : Out := thenServe a (portPromote a q v s)
/-- AUTO_PROMOTE (12 R329). -/
def execAutoPromote (a : At) (perst : Nat) (s : State) : Out := thenServe a (autoPromote a perst s)

end Sys2Proof.Machine
end

