-- ==== Sys2Proof/Machine/Remote.lean ====
section
/-! DEFINITION. Management messages as commands (09 R268, R271 to R273), the SMB target (19 R491) and USB transactions (14 R380). -/

namespace Sys2Proof.Machine

/-! Scheduled operations (09 R268). -/

/-- Every die latches its snapshot bank; an island that does not run leaves its registers' places as they were. -/
def State.snapshot (s : State) (x : SchedOp) : State :=
  let s := (List.range s.part.dies).foldl (fun s d =>
    (List.range 128).foldl (fun s k =>
      let off := s.get d F.SHL_SNAP_ADDR_OFFSET k
      if off ≠ 0 ∧ (regAt off).isSome ∧ s.holderServes d off = true then s.setWord d Reg.SHL_SNAP_DATA (s.view d off) k else s) s) s
  let s := s.set 0 F.SHL_SNAP_CTL_OVERWRITE (if s.flag 0 F.SHL_SNAP_CTL_VALID then 1 else s.get 0 F.SHL_SNAP_CTL_OVERWRITE)
  let s := (s.set 0 F.SHL_SNAP_CTL_VALID 1).set 0 F.SHL_SNAP_CTL_OP_ID x.opId
  (s.setPair 0 Reg.SHL_SNAP_T_LO Reg.SHL_SNAP_T_HI x.t).raise 0 33 0x60F 0 [(2, x.opId), (2, x.origin), (8, x.t)]

/-- The operation to fire: the earliest, and of one T the snapshot first. -/
def State.dueOp (s : State) : Option SchedOp :=
  s.shl.ops.foldl (fun (best : Option SchedOp) x =>
    if s.ts < x.t then best
    else match best with
      | some y => if x.t < y.t ∨ (x.t = y.t ∧ x.op < y.op) then some x else best
      | none => some x) none

/-- SCHEDULED_OP_FIRE (09 R268): at T. -/
def execScheduledOpFire (a : At) (s : State) : Out :=
  onIsland { a with die := 0 } 33 true s fun s =>
    match s.dueOp with
    | none => s
    | some x =>
      let s : State := { s with shl := { s.shl with ops := s.shl.ops.erase x } }
      if x.op = 5 then s.snapshot x
      else if x.op = 6 ∧ s.flag 0 F.SHL_CFG_RESET_RIPPLE_EN = true then s.fireReach 8 0 33
      else s

/-! Requests and responses (09 R271 to R273). -/

/-- A message that a carrier brings to this hub, or passes on; nothing where the carrier's check fails. -/
def State.carry (s : State) (d : Nat) (via : Via) (msg : List Byte) (f : State → List Byte → Bool → State) : State :=
  match via with
  | .shoreline p _ =>
    let m := mgtOfFrame msg
    let lone := s.get 0 F.RST_STRAP_BOOT == 2 && s.get 0 F.SKN_STATUS_STATE != 2
    if !mgtFrameOk msg then s.bump p F.SHL_FRAME_ERR_COUNT
    else if msgNeighbour m then (if lone && via == .shoreline 0 0 then f s m true else s)
    else if !s.onRing p then s
    else if msgDst m = s.hubAddr then f s m false
    else s.mgtForward (msgDst m) msg
  | .strand idx =>
    (match s.entry? idx with
     | some e => if e.kind = 6 ∧ e.st = 2 ∧ e.outType = 3 ∧ msgNeighbour msg = false ∧ msgDst msg = s.hubAddr then f s msg false else s
     | none => s)
  | .hop k => if s.plyActive d k && msgNeighbour msg then f s msg false else s

/-- A row of a message: its carrier's island and the SHL island run. -/
def onMessage (a : At) (via : Via) (ok : Bool) (s : State) (f : State → State) : Out :=
  onUnit a (ok && match via with
    | .shoreline p side => p == a.die && decide (p < 2) && decide (side < 2)
    | .strand _ => true
    | .hop k => decide (k < 8)) s fun s =>
    let up := match via with
      | .shoreline p side => s.runs p 33 && s.portOn p && s.sideUp p side
      | .strand _ => s.runs 0 33 && s.runs a.die 10
      | .hop _ => s.runs 0 33 && s.runs a.die 8
    if up then f s else s

/-- MGT_REQUEST_RECEIVE (09 R271, R272; 16 R426): acted on as the Shoreline requester and answered, or forwarded. -/
def execMgtRequestReceive (a : At) (via : Via) (msg : List Byte) (w : Around) (s : State) : Out :=
  onMessage a via (msg.length ≤ 2048) s fun s =>
    s.carry a.die via msg fun s m boot =>
      if msgOp m = 1 ∨ msgOp m = 2 then s.takeRequest a .shl (.via via a.die) boot m w else s

/-- The outstanding request is answered: its data and its result. -/
def State.remoteDone (s : State) (r : Remote) (m : List Byte) : State :=
  let s := if r.op = 1 then (msgData m).zipIdx.foldl (fun s (p : Word × Nat) =>
    if p.2 < 256 then s.setWord 0 Reg.SHL_RRA_DATA p.1 p.2 else s) s else s
  let s : State := { s with shl := { s.shl with remote := none } }
  ((s.set 0 F.SHL_RRA_STATUS_BUSY 0).set 0 F.SHL_RRA_STATUS_RESULT (msgStatus m)).wrap 0 F.SHL_RRA_STATUS_SEQ

/-- The die whose MGMT_ACM sent a request with this TAG. -/
def State.acmAsked (s : State) (tag : Nat) : Option Nat :=
  (List.range s.part.dies).find? fun d => (s.die d).usb.acmTags.contains tag

/-- A response: of the outstanding request in time, of a request of MGMT_ACM, or late (09 R273; 14 R392). -/
def State.takeResponse (a : At) (s : State) (m : List Byte) : State :=
  let mine := match s.shl.remote with
    | some r => if r.tag = msgTag m ∧ r.op + 2 = msgOp m ∧ inTime a s r.deadline = true then some r else none
    | none => none
  match mine with
  | some r => (if nearMiss a s r.deadline then s.bump 0 F.SHL_NEAR_MISS_COUNT else s).remoteDone r m
  | none =>
    match s.acmAsked (msgTag m) with
    | some d => (s.modUsb d fun x => { x with acmTags := x.acmTags.erase (msgTag m) }).toAcm d m
    | none => s.bump 0 F.SHL_LATE_COUNT

/-- MGT_RESPONSE_RECEIVE (09 R273). -/
def execMgtResponseReceive (a : At) (via : Via) (msg : List Byte) (s : State) : Out :=
  onMessage a via (msg.length ≤ 2048) s fun s =>
    s.carry a.die via msg fun s m _ => if msgOp m = 3 ∨ msgOp m = 4 then s.takeResponse a m else s

/-- REMOTE_TIMEOUT (09 R273), decided in die 0's SHL island. -/
def execRemoteTimeout (a : At) (s : State) : Out :=
  onIsland { a with die := 0 } 33 true s fun s =>
    match s.shl.remote with
    | some r =>
      if !fallen s r.deadline then s
      else
        let s : State := { s with shl := { s.shl with remote := none } }
        let s := ((s.set 0 F.SHL_RRA_STATUS_BUSY 0).set 0 F.SHL_RRA_STATUS_RESULT 0xFF).wrap 0 F.SHL_RRA_STATUS_SEQ
        s.raise 0 33 0x612 2 [(2, r.dst), (1, r.op), (1, 0), (4, r.addr)]
    | none => s

/-! The SMB target (19 R491). -/

/-- The target answers at an address. -/
def State.smbAnswers (s : State) (addr : Nat) : Bool :=
  decide (s.get 0 F.PWR_STATUS_CURRENT ≤ 1) && !s.sleeping && s.flag 0 F.PKG_SMB_CFG_SMB_EN && s.get 0 F.PKG_SMB_CFG_TARGET_ADDR == addr

/-- A request of the SMB requester is in progress. -/
def State.smbBusy (s : State) : Bool := s.access.msgs.any fun m => m.req == .smb

/-- SMB_BLOCK_WRITE (19 R491): one message of Table 9.9, acted on for this hub whatever its DST. -/
def execSmbBlockWrite (a : At) (addr cmd : Nat) (data : List Byte) (pecOk : Bool) (w : Around) (s : State) : Out :=
  onIsland a 41 (a.die == 0 && addr < 128 && cmd < 256 && data.length < 256) s fun s =>
    if !s.smbAnswers addr then s.emit (.smbAck 0)
    else if cmd ≠ 1 ∨ s.smbBusy = true then s.emit (.smbAck 1)
    else if !pecOk then s.emit (.smbAck 2)
    else
      let s := s.emit (.smbAck 3)
      if data.length < 16 ∨ (msgOp data ≠ 1 ∧ msgOp data ≠ 2) then s
      else State.takeRequest a { s with access := { s.access with response := none } } .smb .smb false data w

/-- SMB_BLOCK_READ (19 R491): the response once; a byte count of 0 while there is none. -/
def execSmbBlockRead (a : At) (addr cmd : Nat) (s : State) : Out :=
  onIsland a 41 (a.die == 0 && addr < 128 && cmd < 256) s fun s =>
    if !s.smbAnswers addr then s.emit (.smbAck 0)
    else if cmd ≠ 2 then s.emit (.smbAck 1)
    else
      let b := s.access.response.getD []
      State.emit { s with access := { s.access with response := none } } (.smbData b)

/-! USB transactions (14 R380, R392). -/

/-- A message that MGMT_ACM has taken: acted on here, or sent on as this hub's own to the hub that DST names. -/
def State.acmMessage (a : At) (s : State) (d : Nat) (m : List Byte) (w : Around) : State :=
  if m.length < 16 ∨ msgNeighbour m = true ∨ (msgOp m ≠ 1 ∧ msgOp m ≠ 2) then s
  else if msgDst m = s.hubAddr then s.takeRequest a .shl (.acm d) false m w
  else
    let s := s.modUsb d fun x => { x with acmTags := msgTag m :: (x.acmTags.filter (· != msgTag m)).take 15 }
    s.mgtShoreline (msgDst m) (m.take 4 ++ leBytes 2 s.hubAddr ++ m.drop 6)

/-- USB_TRANSACTION (14 R380): a transaction of the host to endpoint `e` of function `u`, 4 for the hub. -/
def execUsbTransaction (a : At) (u e kind : Nat) (data : List Byte) (w : Around) (s : State) : Out :=
  onUsb a (u < 5 && e < 16 && kind < 4) s fun s =>
    let s := s.usbTransaction a.die u e kind data
    let msgs := (s.usbFn a.die 2).msgs
    if msgs.isEmpty then s
    else msgs.foldl (fun s m => s.acmMessage a a.die m w) (s.modFn a.die 2 fun f => { f with msgs := [] })

end Sys2Proof.Machine
end

