-- ==== Sys2Proof/Machine/Dispatch.lean ====
section
/-! DEFINITION. The meaning of every command, one arm per constructor. -/

namespace Sys2Proof.Machine

def exec (i : Instr) (s : State) : Host.Outcome State Fault Refusal :=
  match i with
  | .registerWrite a q addr len be v0 v1 w => Sys2Proof.Machine.execRegisterWrite a q addr len be v0 v1 w s
  | .counterClear a q off v inc => Sys2Proof.Machine.execCounterClear a q off v inc s
  | .w1cClear a q off v hwSet => Sys2Proof.Machine.execW1cClear a q off v hwSet s
  | .loLatchRead a q off => Sys2Proof.Machine.execLoLatchRead a q off s
  | .accessWaitTimeout a => Sys2Proof.Machine.execAccessWaitTimeout a s
  | .fenceRead a q held => Sys2Proof.Machine.execFenceRead a q held s
  | .spliceReplay a port => Sys2Proof.Machine.execSpliceReplay a port s
  | .spliceDown a port => Sys2Proof.Machine.execSpliceDown a port s
  | .spliceUp a port => Sys2Proof.Machine.execSpliceUp a port s
  | .clkOkAssert a isl => Sys2Proof.Machine.execClkOkAssert a isl s
  | .clkIslandFault a isl kind => Sys2Proof.Machine.execClkIslandFault a isl kind s
  | .clkIslandRestored a isl => Sys2Proof.Machine.execClkIslandRestored a isl s
  | .sknLoad a => Sys2Proof.Machine.execSknLoad a s
  | .sknApply a q v => Sys2Proof.Machine.execSknApply a q v s
  | .sknApplyStore a q v => Sys2Proof.Machine.execSknApplyStore a q v s
  | .sknCancel a q v => Sys2Proof.Machine.execSknCancel a q v s
  | .sknStore a q v => Sys2Proof.Machine.execSknStore a q v s
  | .sknPatchChecked a readOk bytes => Sys2Proof.Machine.execSknPatchChecked a readOk bytes s
  | .storeChunkDone a codes => Sys2Proof.Machine.execStoreChunkDone a codes s
  | .nvmEraseAhead a => Sys2Proof.Machine.execNvmEraseAhead a s
  | .outletRecordAccept a k => Sys2Proof.Machine.execOutletRecordAccept a k s
  | .outletModTimer a m => Sys2Proof.Machine.execOutletModTimer a m s
  | .outletDoorbell a q m v => Sys2Proof.Machine.execOutletDoorbell a q m v s
  | .outletResumed a m => Sys2Proof.Machine.execOutletResumed a m s
  | .outletEnable a q m v => Sys2Proof.Machine.execOutletEnable a q m v s
  | .outletDisable a q m v => Sys2Proof.Machine.execOutletDisable a q m v s
  | .busMasterEnableSet a f => Sys2Proof.Machine.execBusMasterEnableSet a f s
  | .msixVectorUnmask a f vec => Sys2Proof.Machine.execMsixVectorUnmask a f vec s
  | .evtTest a q v => Sys2Proof.Machine.execEvtTest a q v s
  | .plyDetectDone a k => Sys2Proof.Machine.execPlyDetectDone a k s
  | .detectTimeout a k => Sys2Proof.Machine.execDetectTimeout a k s
  | .quietEnd a k => Sys2Proof.Machine.execQuietEnd a k s
  | .trainTimeout a k => Sys2Proof.Machine.execTrainTimeout a k s
  | .lockTimeout a k => Sys2Proof.Machine.execLockTimeout a k s
  | .alignTimeout a k => Sys2Proof.Machine.execAlignTimeout a k s
  | .exchangeTimeout a k => Sys2Proof.Machine.execExchangeTimeout a k s
  | .liveness a k => Sys2Proof.Machine.execLiveness a k s
  | .signalLost a k lane => Sys2Proof.Machine.execSignalLost a k lane s
  | .rateFrameReceive a k lane w sent => Sys2Proof.Machine.execRateFrameReceive a k lane w sent s
  | .trainingFrameReceive a k lane ctl stat chk inv ready sent => Sys2Proof.Machine.execTrainingFrameReceive a k lane ctl stat chk inv ready sent s
  | .laneBlockLock a k lane => Sys2Proof.Machine.execLaneBlockLock a k lane s
  | .laneHuntFail a k lane examined => Sys2Proof.Machine.execLaneHuntFail a k lane examined s
  | .invalidHeaderBlock a k lane gap => Sys2Proof.Machine.execInvalidHeaderBlock a k lane gap s
  | .fecCodewordDecode a k lane errs => Sys2Proof.Machine.execFecCodewordDecode a k lane errs s
  | .fecWindowEnd a k lane snr => Sys2Proof.Machine.execFecWindowEnd a k lane snr s
  | .alignBlockReceive a k lane b => Sys2Proof.Machine.execAlignBlockReceive a k lane b s
  | .alignLost a k => Sys2Proof.Machine.execAlignLost a k s
  | .exchBlockReceive a k b => Sys2Proof.Machine.execExchBlockReceive a k b s
  | .plyDisable a q k v => Sys2Proof.Machine.execPlyDisable a q k v s
  | .plyEnable a q k v => Sys2Proof.Machine.execPlyEnable a q k v s
  | .plyRetrain a q k v => Sys2Proof.Machine.execPlyRetrain a q k v s
  | .directionSleepEnter a k => Sys2Proof.Machine.execDirectionSleepEnter a k s
  | .directionWake a k => Sys2Proof.Machine.execDirectionWake a k s
  | .refreshBurst a k => Sys2Proof.Machine.execRefreshBurst a k s
  | .sleepBlockReceive a k b => Sys2Proof.Machine.execSleepBlockReceive a k b s
  | .wakeRunReceive a k took => Sys2Proof.Machine.execWakeRunReceive a k took s
  | .plyWakeFail a k unlocked => Sys2Proof.Machine.execPlyWakeFail a k unlocked s
  | .refreshTimeout a k => Sys2Proof.Machine.execRefreshTimeout a k s
  | .moduleInserted a m ident rev sel appRates waitMs => Sys2Proof.Machine.execModuleInserted a m ident rev sel appRates waitMs s
  | .moduleReady a m state => Sys2Proof.Machine.execModuleReady a m state s
  | .modulePoll a m state flags dpOk => Sys2Proof.Machine.execModulePoll a m state flags dpOk s
  | .moduleRemoved a m => Sys2Proof.Machine.execModuleRemoved a m s
  | .moduleReset a q m v => Sys2Proof.Machine.execModuleReset a q m v s
  | .forceLowpwr a q m v => Sys2Proof.Machine.execForceLowpwr a q m v s
  | .segmentReceive a k hdr payload errored plain => Sys2Proof.Machine.execSegmentReceive a k hdr payload errored plain s
  | .idleBlockReceive a k b => Sys2Proof.Machine.execIdleBlockReceive a k b s
  | .creditBlockReceive a k b => Sys2Proof.Machine.execCreditBlockReceive a k b s
  | .creditSend a k => Sys2Proof.Machine.execCreditSend a k s
  | .creditStall a k t => Sys2Proof.Machine.execCreditStall a k t s
  | .lossyDrop a k t => Sys2Proof.Machine.execLossyDrop a k t s
  | .markBlockSend a idx => Sys2Proof.Machine.execMarkBlockSend a idx s
  | .markBlockReceive a k b => Sys2Proof.Machine.execMarkBlockReceive a k b s
  | .strMarkTimeout a k idx => Sys2Proof.Machine.execStrMarkTimeout a k idx s
  | .strCreate a q v => Sys2Proof.Machine.execStrCreate a q v s
  | .strActivate a q v => Sys2Proof.Machine.execStrActivate a q v s
  | .strModify a q v => Sys2Proof.Machine.execStrModify a q v s
  | .strTeardown a q v => Sys2Proof.Machine.execStrTeardown a q v s
  | .strRead a q v => Sys2Proof.Machine.execStrRead a q v s
  | .strDrainDone a idx => Sys2Proof.Machine.execStrDrainDone a idx s
  | .strDrainTimeout a idx => Sys2Proof.Machine.execStrDrainTimeout a idx s
  | .snQuarantineEnd a inType inIndex sn => Sys2Proof.Machine.execSnQuarantineEnd a inType inIndex sn s
  | .localSegmentIngress a idx sop eop payload => Sys2Proof.Machine.execLocalSegmentIngress a idx sop eop payload s
  | .spliceSegmentArrive a port => Sys2Proof.Machine.execSpliceSegmentArrive a port s
  | .switchingUnitComplete a idx => Sys2Proof.Machine.execSwitchingUnitComplete a idx s
  | .mcastCopyResume a idx => Sys2Proof.Machine.execMcastCopyResume a idx s
  | .pondPageRefill a n => Sys2Proof.Machine.execPondPageRefill a n s
  | .chargeRelease a => Sys2Proof.Machine.execChargeRelease a s
  | .queueAgeDrop a n => Sys2Proof.Machine.execQueueAgeDrop a n s
  | .auditSweep a => Sys2Proof.Machine.execAuditSweep a s
  | .mcastBranchWrite a q g b v => Sys2Proof.Machine.execMcastBranchWrite a q g b v s
  | .ctUnderrun a m => Sys2Proof.Machine.execCtUnderrun a m s
  | .schedDecision a o => Sys2Proof.Machine.execSchedDecision a o s
  | .queueSample a => Sys2Proof.Machine.execQueueSample a s
  | .gateEntryChange a o => Sys2Proof.Machine.execGateEntryChange a o s
  | .histClear a q v => Sys2Proof.Machine.execHistClear a q v s
  | .histFreeze a q v => Sys2Proof.Machine.execHistFreeze a q v s
  | .policerRateWrite a q p isCbs v => Sys2Proof.Machine.execPolicerRateWrite a q p isCbs v s
  | .twistWindowClose a late tries => Sys2Proof.Machine.execTwistWindowClose a late tries s
  | .twistBoundary a missed step codes => Sys2Proof.Machine.execTwistBoundary a missed step codes s
  | .spdFreezeWrite a q v => Sys2Proof.Machine.execSpdFreezeWrite a q v s
  | .shlSideUp a port side => Sys2Proof.Machine.execShlSideUp a port side s
  | .shlSideDown a port side => Sys2Proof.Machine.execShlSideDown a port side s
  | .enumStart a port => Sys2Proof.Machine.execEnumStart a port s
  | .enumFrameReceive a port side b => Sys2Proof.Machine.execEnumFrameReceive a port side b s
  | .enumReturnTimeout a port => Sys2Proof.Machine.execEnumReturnTimeout a port s
  | .originTakeover a => Sys2Proof.Machine.execOriginTakeover a s
  | .spillwayOpen a kind port => Sys2Proof.Machine.execSpillwayOpen a kind port s
  | .spillForce a q v => Sys2Proof.Machine.execSpillForce a q v s
  | .tickSend a k => Sys2Proof.Machine.execTickSend a k s
  | .tickReceive a k b => Sys2Proof.Machine.execTickReceive a k b s
  | .timeFrameSend a port side => Sys2Proof.Machine.execTimeFrameSend a port side s
  | .timeFrameReceive a port side b => Sys2Proof.Machine.execTimeFrameReceive a port side b s
  | .parentSilent a => Sys2Proof.Machine.execParentSilent a s
  | .holdoverExpire a => Sys2Proof.Machine.execHoldoverExpire a s
  | .irigFrame a fmt ok bcd ctl ago => Sys2Proof.Machine.execIrigFrame a fmt ok bcd ctl ago s
  | .irigLoss a => Sys2Proof.Machine.execIrigLoss a s
  | .irigFormatHoldEnd a => Sys2Proof.Machine.execIrigFormatHoldEnd a s
  | .ppsInEdge a => Sys2Proof.Machine.execPpsInEdge a s
  | .ppsOutPulse a high => Sys2Proof.Machine.execPpsOutPulse a high s
  | .timSet a q v => Sys2Proof.Machine.execTimSet a q v s
  | .rippleReceive a port side b => Sys2Proof.Machine.execRippleReceive a port side b s
  | .shlBroadcast a q v => Sys2Proof.Machine.execShlBroadcast a q v s
  | .barrierOpen a q v => Sys2Proof.Machine.execBarrierOpen a q v s
  | .barrierArrive a q v => Sys2Proof.Machine.execBarrierArrive a q v s
  | .shlSnapshot a q v => Sys2Proof.Machine.execShlSnapshot a q v s
  | .shlReset a q v => Sys2Proof.Machine.execShlReset a q v s
  | .scheduledOpFire a => Sys2Proof.Machine.execScheduledOpFire a s
  | .barrierDeadline a => Sys2Proof.Machine.execBarrierDeadline a s
  | .arriveHoldExpire a opId => Sys2Proof.Machine.execArriveHoldExpire a opId s
  | .snapAck a q v => Sys2Proof.Machine.execSnapAck a q v s
  | .mgtRequestReceive a via msg w => Sys2Proof.Machine.execMgtRequestReceive a via msg w s
  | .mgtResponseReceive a via msg => Sys2Proof.Machine.execMgtResponseReceive a via msg s
  | .rraRead a q v => Sys2Proof.Machine.execRraRead a q v s
  | .rraWrite a q v => Sys2Proof.Machine.execRraWrite a q v s
  | .remoteTimeout a => Sys2Proof.Machine.execRemoteTimeout a s
  | .timMessageSend a idx => Sys2Proof.Machine.execTimMessageSend a idx s
  | .timMessageReceive a idx msg => Sys2Proof.Machine.execTimMessageReceive a idx msg s
  | .ethFrameReceive a m frame opened icvOk => Sys2Proof.Machine.execEthFrameReceive a m frame opened icvOk s
  | .ethLink a m up speed an => Sys2Proof.Machine.execEthLink a m up speed an s
  | .lreEntryForget a src => Sys2Proof.Machine.execLreEntryForget a src s
  | .lreSupervisionSend a => Sys2Proof.Machine.execLreSupervisionSend a s
  | .ethSaInstall a q v => Sys2Proof.Machine.execEthSaInstall a q v s
  | .ethSaRetire a q v => Sys2Proof.Machine.execEthSaRetire a q v s
  | .msecTxAnSelect a q m v => Sys2Proof.Machine.execMsecTxAnSelect a q m v s
  | .ptpMessageReceive a m frame opened icvOk => Sys2Proof.Machine.execPtpMessageReceive a m frame opened icvOk s
  | .ptpIntervalTimer a m kind => Sys2Proof.Machine.execPtpIntervalTimer a m kind s
  | .ptpAnnounceTimeout a m => Sys2Proof.Machine.execPtpAnnounceTimeout a m s
  | .ptpFollowupExpire a m key => Sys2Proof.Machine.execPtpFollowupExpire a m key s
  | .dspHpdPlug a h vrr rate lanes => Sys2Proof.Machine.execDspHpdPlug a h vrr rate lanes s
  | .dspHpdUnplug a h => Sys2Proof.Machine.execDspHpdUnplug a h s
  | .dspHpdIrq a h linkLost => Sys2Proof.Machine.execDspHpdIrq a h linkLost s
  | .dspLinkTrained a h rate => Sys2Proof.Machine.execDspLinkTrained a h rate s
  | .auxTransaction a q h v => Sys2Proof.Machine.execAuxTransaction a q h v s
  | .auxReply a h kind bytes => Sys2Proof.Machine.execAuxReply a h kind bytes s
  | .auxTimeout a h => Sys2Proof.Machine.execAuxTimeout a h s
  | .timingApply a q h v => Sys2Proof.Machine.execTimingApply a q h v s
  | .darkChangeDone a h rate => Sys2Proof.Machine.execDarkChangeDone a h rate s
  | .dspCommit a q h v => Sys2Proof.Machine.execDspCommit a q h v s
  | .intakePoint a h => Sys2Proof.Machine.execIntakePoint a h s
  | .prefetchPoint a h => Sys2Proof.Machine.execPrefetchPoint a h s
  | .frameStart a h => Sys2Proof.Machine.execFrameStart a h s
  | .reservoirWatermark a h high => Sys2Proof.Machine.execReservoirWatermark a h high s
  | .dspUnderrun a h => Sys2Proof.Machine.execDspUnderrun a h s
  | .sourceFrameSend a h => Sys2Proof.Machine.execSourceFrameSend a h s
  | .dptTileReceive a h frame lost => Sys2Proof.Machine.execDptTileReceive a h frame lost s
  | .dptTokenReceive a h frame lost => Sys2Proof.Machine.execDptTokenReceive a h frame lost s
  | .mirrorTokenComplete a h => Sys2Proof.Machine.execMirrorTokenComplete a h s
  | .dspRefresh a q h v => Sys2Proof.Machine.execDspRefresh a q h v s
  | .prefetchLeadWrite a q h v => Sys2Proof.Machine.execPrefetchLeadWrite a q h v s
  | .memSelfRefreshEnter a c => Sys2Proof.Machine.execMemSelfRefreshEnter a c s
  | .memSelfRefreshExit a c => Sys2Proof.Machine.execMemSelfRefreshExit a c s
  | .brgPostedWrite a f tgt addr bytes => Sys2Proof.Machine.execBrgPostedWrite a f tgt addr bytes s
  | .brgReadRequest a f tgt addr len tag rid atomic => Sys2Proof.Machine.execBrgReadRequest a f tgt addr len tag rid atomic s
  | .brgCompletionReceive a tag status bytes => Sys2Proof.Machine.execBrgCompletionReceive a tag status bytes s
  | .brgCplTimeout a tag => Sys2Proof.Machine.execBrgCplTimeout a tag s
  | .failureNoticeReceive a f tgt ord addr ts cause => Sys2Proof.Machine.execFailureNoticeReceive a f tgt ord addr ts cause s
  | .prefetchDiscard a buf => Sys2Proof.Machine.execPrefetchDiscard a buf s
  | .lockedRead a f tgt addr len tag => Sys2Proof.Machine.execLockedRead a f tgt addr len tag s
  | .unlockMessage a => Sys2Proof.Machine.execUnlockMessage a s
  | .brgLockBroken a => Sys2Proof.Machine.execBrgLockBroken a s
  | .semRead a q n => Sys2Proof.Machine.execSemRead a q n s
  | .semRelease a q n v => Sys2Proof.Machine.execSemRelease a q n v s
  | .semForce a q n v => Sys2Proof.Machine.execSemForce a q n v s
  | .vdpConfigRequest a n type1 write addr tag bytes => Sys2Proof.Machine.execVdpConfigRequest a n type1 write addr tag bytes s
  | .vdpLink a n present active cause speed width => Sys2Proof.Machine.execVdpLink a n present active cause speed width s
  | .portPromote a q v => Sys2Proof.Machine.execPortPromote a q v s
  | .autoPromote a perst => Sys2Proof.Machine.execAutoPromote a perst s
  | .dsPortLink a up speed width => Sys2Proof.Machine.execDsPortLink a up speed width s
  | .dmaDoorbell a q c v => Sys2Proof.Machine.execDmaDoorbell a q c v s
  | .dmaEnable a q c v => Sys2Proof.Machine.execDmaEnable a q c v s
  | .dmaDisable a q c v => Sys2Proof.Machine.execDmaDisable a q c v s
  | .dmaTxDescriptor a c desc bytes readOk => Sys2Proof.Machine.execDmaTxDescriptor a c desc bytes readOk s
  | .dmaRxFrame a c desc frame cut readOk => Sys2Proof.Machine.execDmaRxFrame a c desc frame cut readOk s
  | .vfnCreate a q v => Sys2Proof.Machine.execVfnCreate a q v s
  | .vfnQuiesce a q v => Sys2Proof.Machine.execVfnQuiesce a q v s
  | .vfQuiesced a f => Sys2Proof.Machine.execVfQuiesced a f s
  | .vfnRelease a q v => Sys2Proof.Machine.execVfnRelease a q v s
  | .vfnDestroy a q v => Sys2Proof.Machine.execVfnDestroy a q v s
  | .vfnRead a q v => Sys2Proof.Machine.execVfnRead a q v s
  | .vfFunctionReset a f cause => Sys2Proof.Machine.execVfFunctionReset a f cause s
  | .logSwap a q n v => Sys2Proof.Machine.execLogSwap a q n v s
  | .vfLogSwapped a f => Sys2Proof.Machine.execVfLogSwapped a f s
  | .usbConnect a q v => Sys2Proof.Machine.execUsbConnect a q v s
  | .usbAttach a q u v => Sys2Proof.Machine.execUsbAttach a q u v s
  | .usbDetach a q u v => Sys2Proof.Machine.execUsbDetach a q u v s
  | .usbEpHalt a q u e dirIn v => Sys2Proof.Machine.execUsbEpHalt a q u e dirIn v s
  | .usbTransaction a u e kind data w => Sys2Proof.Machine.execUsbTransaction a u e kind data w s
  | .usbSetupRequest a u setup => Sys2Proof.Machine.execUsbSetupRequest a u setup s
  | .usbStatusStageComplete a u => Sys2Proof.Machine.execUsbStatusStageComplete a u s
  | .usbBusReset a speed => Sys2Proof.Machine.execUsbBusReset a speed s
  | .usbLpmToken a => Sys2Proof.Machine.execUsbLpmToken a s
  | .usbSuspend a => Sys2Proof.Machine.execUsbSuspend a s
  | .usbU1Initiate a => Sys2Proof.Machine.execUsbU1Initiate a s
  | .usbWakeReason a u => Sys2Proof.Machine.execUsbWakeReason a u s
  | .usbRemoteWake a u => Sys2Proof.Machine.execUsbRemoteWake a u s
  | .usbResumeRelease a => Sys2Proof.Machine.execUsbResumeRelease a s
  | .usbHostResume a => Sys2Proof.Machine.execUsbHostResume a s
  | .usbWakeTimeout a => Sys2Proof.Machine.execUsbWakeTimeout a s
  | .usbLfpsTimeout a => Sys2Proof.Machine.execUsbLfpsTimeout a s
  | .usbOvercurrent a p => Sys2Proof.Machine.execUsbOvercurrent a p s
  | .usbStrandMessageReceive a u msg => Sys2Proof.Machine.execUsbStrandMessageReceive a u msg s
  | .relayDeviceAttach a p speed vid pid hid => Sys2Proof.Machine.execRelayDeviceAttach a p speed vid pid hid s
  | .relayDeviceDetach a p => Sys2Proof.Machine.execRelayDeviceDetach a p s
  | .relayPoll a p report => Sys2Proof.Machine.execRelayPoll a p report s
  | .relayTxnTimeout a p => Sys2Proof.Machine.execRelayTxnTimeout a p s
  | .usbFuncReattach a u => Sys2Proof.Machine.execUsbFuncReattach a u s
  | .pwrCmdFlow a q v => Sys2Proof.Machine.execPwrCmdFlow a q v s
  | .pwrCmdEddy a q v => Sys2Proof.Machine.execPwrCmdEddy a q v s
  | .pwrCmdStill a q v aspm => Sys2Proof.Machine.execPwrCmdStill a q v aspm s
  | .pwrCmdTarn a q v aspm => Sys2Proof.Machine.execPwrCmdTarn a q v aspm s
  | .pwrCmdBadTarget a q v => Sys2Proof.Machine.execPwrCmdBadTarget a q v s
  | .sleepEntryQuiesced a aspm => Sys2Proof.Machine.execSleepEntryQuiesced a aspm s
  | .sleepEntryDrained a codes inCycle after aspm => Sys2Proof.Machine.execSleepEntryDrained a codes inCycle after aspm s
  | .sleepEntryReversed a aspm => Sys2Proof.Machine.execSleepEntryReversed a aspm s
  | .eddyActivity a kind => Sys2Proof.Machine.execEddyActivity a kind s
  | .islandGate a isl => Sys2Proof.Machine.execIslandGate a isl s
  | .tarnMatch a byte => Sys2Proof.Machine.execTarnMatch a byte s
  | .wakeAck a => Sys2Proof.Machine.execWakeAck a s
  | .pwrWakeSlow a => Sys2Proof.Machine.execPwrWakeSlow a s
  | .stillExitDone a aspm => Sys2Proof.Machine.execStillExitDone a aspm s
  | .trnAddrWrite a q v => Sys2Proof.Machine.execTrnAddrWrite a q v s
  | .vtarnPowerOn a fusedValid fused => Sys2Proof.Machine.execVtarnPowerOn a fusedValid fused s
  | .powerOnReset a => Sys2Proof.Machine.execPowerOnReset a s
  | .rstNAssert a => Sys2Proof.Machine.execRstNAssert a s
  | .perstNAssert a => Sys2Proof.Machine.execPerstNAssert a s
  | .pcieHotReset a => Sys2Proof.Machine.execPcieHotReset a s
  | .pf0Flr a => Sys2Proof.Machine.execPf0Flr a s
  | .jtagReset a => Sys2Proof.Machine.execJtagReset a s
  | .rstReq a q v => Sys2Proof.Machine.execRstReq a q v s
  | .resetIdleTimeout a src items => Sys2Proof.Machine.execResetIdleTimeout a src items s
  | .resetRelease a src => Sys2Proof.Machine.execResetRelease a src s
  | .rstForceRelease a q v => Sys2Proof.Machine.execRstForceRelease a q v s
  | .bootClocksReady a boots clks => Sys2Proof.Machine.execBootClocksReady a boots clks s
  | .optionBytesRead a => Sys2Proof.Machine.execOptionBytesRead a s
  | .rstFuseProg a q v codes => Sys2Proof.Machine.execRstFuseProg a q v codes s
  | .bootPush a q v => Sys2Proof.Machine.execBootPush a q v s
  | .bootPushFetch a q v => Sys2Proof.Machine.execBootPushFetch a q v s
  | .bootFetchDone a ok bytes => Sys2Proof.Machine.execBootFetchDone a ok bytes s
  | .pwrFail a cause codes => Sys2Proof.Machine.execPwrFail a cause codes s
  | .hldFlush a q v codes => Sys2Proof.Machine.execHldFlush a q v codes s
  | .supplyFault a rail codes => Sys2Proof.Machine.execSupplyFault a rail codes s
  | .keyLoad a q v => Sys2Proof.Machine.execKeyLoad a q v s
  | .keyPin a q v => Sys2Proof.Machine.execKeyPin a q v s
  | .keyUnpin a q v => Sys2Proof.Machine.execKeyUnpin a q v s
  | .keyFlush a q v => Sys2Proof.Machine.execKeyFlush a q v s
  | .keyAttest a q v codes => Sys2Proof.Machine.execKeyAttest a q v codes s
  | .keyProvision a q v buf codes => Sys2Proof.Machine.execKeyProvision a q v buf codes s
  | .keyDeploy a q v codes => Sys2Proof.Machine.execKeyDeploy a q v codes s
  | .keyReturn a q v codes => Sys2Proof.Machine.execKeyReturn a q v codes s
  | .keyScrap a q v codes => Sys2Proof.Machine.execKeyScrap a q v codes s
  | .lcChanged a readOk codes => Sys2Proof.Machine.execLcChanged a readOk codes s
  | .keyLoadDone a handle dirEntry blob => Sys2Proof.Machine.execKeyLoadDone a handle dirEntry blob s
  | .keyFailHoldoffEnd a h => Sys2Proof.Machine.execKeyFailHoldoffEnd a h s
  | .keyTamper a cause => Sys2Proof.Machine.execKeyTamper a cause s
  | .tempReading a t => Sys2Proof.Machine.execTempReading a t s
  | .refClkFault a cause => Sys2Proof.Machine.execRefClkFault a cause s
  | .refClkRestored a => Sys2Proof.Machine.execRefClkRestored a s
  | .smbBlockWrite a addr cmd data pecOk w => Sys2Proof.Machine.execSmbBlockWrite a addr cmd data pecOk w s
  | .smbBlockRead a addr cmd => Sys2Proof.Machine.execSmbBlockRead a addr cmd s
  | .resetIdleAck a src => Sys2Proof.Machine.execResetIdleAck a src s
  | .sknStoreChecked a readOk bytes codes => Sys2Proof.Machine.execSknStoreChecked a readOk bytes codes s
  | .pushImageLoaded a => Sys2Proof.Machine.execPushImageLoaded a s
  | .busMasterEnableClear a f => Sys2Proof.Machine.execBusMasterEnableClear a f s
  | .vdpLinkControl a n kind => Sys2Proof.Machine.execVdpLinkControl a n kind s
  | .primaryLinkDlActive a up rate width => Sys2Proof.Machine.execPrimaryLinkDlActive a up rate width s
  | .usbDfpConnect a p up speed vid pid => Sys2Proof.Machine.execUsbDfpConnect a p up speed vid pid s
  | .usbVbusChange a up => Sys2Proof.Machine.execUsbVbusChange a up s
  | .usbLinkStateRequest a st => Sys2Proof.Machine.execUsbLinkStateRequest a st s
  | .registerRead a q addr len be => Sys2Proof.Machine.execRegisterRead a q addr len be s

end Sys2Proof.Machine
end

