-- ==== Sys2Proof/Machine/Signal.lean ====
section
/-! DEFINITION. What stands on a line lane below the blocks that the commands carry (04 R90 to R100, R105, R108, R114): rates, symbols,
precoding, the scrambler, headers, the order of a codeword pair, and the frames and blocks that a transmitter sends in each bring-up state. -/

namespace Sys2Proof.Machine

/-! Rates (04 R90, Table 4.1). -/

/-- A row of Table 4.1: symbol rate in kBd, bits of a symbol, picoseconds of a codeword pair. -/
structure LaneRate where
  kBd : Nat
  symbolBits : Nat
  pairPs : Nat
  deriving DecidableEq, Repr

/-- The rate of a code; code 3 is reserved. -/
def rateRow (code : Nat) : Option LaneRate :=
  match code with
  | 0 => some ⟨53125000, 2, 102400⟩
  | 1 => some ⟨26562500, 2, 204800⟩
  | 2 => some ⟨25781250, 1, 422000⟩
  | _ => none

/-- Raw kb/s of a lane, and its payload: FEC 514/544, block coding 256/258. -/
def LaneRate.raw (r : LaneRate) : Nat := r.kBd * r.symbolBits
def LaneRate.payload (r : LaneRate) : Nat := r.raw * 514 * 256 / (544 * 258)

/-! Symbols (04 R91, R92, R94). -/

/-- The Gray index of a bit pair, first bit first, and the PAM4 level of an index. -/
def grayIndex : Bool → Bool → Nat
  | false, false => 0
  | false, true => 1
  | true, true => 2
  | true, false => 3
def pamLevel (g : Nat) : Int := 2 * (g : Int) - 3
def nrzLevel (b : Bool) : Int := if b then 1 else -1

/-- Each two consecutive bits form one symbol. -/
def graySymbols : List Bool → List Nat
  | x :: y :: rest => grayIndex x y :: graySymbols rest
  | _ => []

/-- The levels of a stream of bits at a rate code. -/
def levels (code : Nat) (l : List Bool) : List Int := if code = 2 then l.map nrzLevel else (graySymbols l).map pamLevel

/-- The transmitter sends T(n) = (G(n) − T(n−1)) mod 4; `t` is T(n−1). -/
def precode (t : Nat) : List Nat → List Nat
  | [] => []
  | g :: gs => (g + 4 - t % 4) % 4 :: precode ((g + 4 - t % 4) % 4) gs

/-- The receiver recovers G(n) = (T(n) + T(n−1)) mod 4. -/
def unprecode (t : Nat) : List Nat → List Nat
  | [] => []
  | x :: xs => (x + t) % 4 :: unprecode x xs

/-- An inverted pair: every level changes its sign. -/
def invertPair (l : List Int) : List Int := l.map fun x => -x

/-! The scrambler (04 R93). -/

/-- s(n) = d(n) XOR s(n−39) XOR s(n−58); `h` holds the scrambled bits so far, newest first. -/
def scramble (h : List Bool) : List Bool → List Bool
  | [] => []
  | d :: ds => (d ^^ h.getD 38 false ^^ h.getD 57 false) :: scramble ((d ^^ h.getD 38 false ^^ h.getD 57 false) :: h) ds

/-- d(n) = s(n) XOR s(n−39) XOR s(n−58). -/
def descramble (h : List Bool) : List Bool → List Bool
  | [] => []
  | s :: ss => (s ^^ h.getD 38 false ^^ h.getD 57 false) :: descramble (s :: h) ss

/-! Blocks (04 R95, Table 4.3). -/

/-- What a sync header says. -/
inductive Header where
  | data
  | control
  | invalid
  deriving DecidableEq, Repr

/-- The meaning of a header, first bit first. -/
def headerOf (first second : Bool) : Header :=
  match first, second with
  | false, true => .data
  | true, false => .control
  | _, _ => .invalid

/-- The 258 bits of a block in the order they are sent: header, then the payload bytes, least significant bit first. -/
def blockBits (control : Bool) (payload : List Byte) : List Bool := [control, !control] ++ payload.flatMap lsbFirst

/-! FEC (04 R97, R98). -/

/-- Two ways interleaved: A0, B0, A1, B1, … -/
def interleave : List Nat → List Nat → List Nat
  | a :: as, b :: bs => a :: b :: interleave as bs
  | _, _ => []

/-- The bits of a codeword pair of 10-bit symbols: message then parity, each symbol most significant bit first. -/
def pairBits (msgA msgB parA parB : List Nat) : List Bool :=
  (interleave msgA msgB ++ interleave parA parB).flatMap fun x => bitsDown x 10

/-- A codeword is corrected with up to 15 symbol errors. -/
def correctable (errors : Nat) : Bool := decide (errors ≤ 15)

/-! Lanes of a ply (04 R99, R100). -/

/-- The logical lane that carries a block of a ply's stream. -/
def blockLane (i width : Nat) : Nat := i % width

/-- Other blocks between two ALIGN blocks of a lane. -/
def alignEvery (st : Nat) : Nat := if st = 4 then 64 else 16384

/-- An ALIGN block (04 Table 4.5). -/
def alignBlock (lane width flags seq hub ply : Nat) : List Byte :=
  sealBlock ([0x05] ++ leBytes 1 lane ++ leBytes 1 width ++ leBytes 1 flags ++ leBytes 4 (seq % 2 ^ 32) ++ leBytes 2 hub ++ leBytes 1 ply)

/-- The ALIGN block of a logical lane of a ply, with the sequence number that the lane has reached. -/
def State.alignSent (s : State) (d k lane flags seq : Nat) : List Byte :=
  alignBlock lane (s.plyLanes d k).length flags seq s.hubAddr (s.plyId d k)

/-! What a transmitter sends (04 Table 4.6). -/

/-- The column "Transmitter sends" of Table 4.6. -/
inductive TxContent where
  /-- Electrical idle. -/
  | idle
  /-- A common-mode step on each lane every 10 µs. -/
  | steps
  | rateFrames
  | trainingFrames
  /-- Bare IDLE blocks, and with ALIGN blocks. -/
  | bareIdle
  | bareAlign
  /-- FEC-framed IDLE, ALIGN, EXCH, TICK. -/
  | framedExchange
  | everything
  deriving DecidableEq, Repr

/-- What the transmitter of a ply sends; in TRAIN, training frames once a rate has been resolved. A sleeping direction is idle (R113). -/
def State.transmits (s : State) (d k : Nat) : TxContent :=
  match s.plyState d k with
  | 0 => if (s.plyCages d k).isEmpty then .steps else .idle
  | 2 => if s.plyRate d k = 3 then .rateFrames else .trainingFrames
  | 3 => .bareIdle
  | 4 => .bareAlign
  | 5 => .framedExchange
  | 6 => if s.txState d k = 0 then .everything else .idle
  | _ => .idle

/-- A rate frame (04 Table 4.7), bit 63 first. -/
def rateFrame (rates failed : Nat) (ack : Bool) : Nat :=
  let top := 0xE41D * 2 ^ 32 + (rates % 8) * 2 ^ 29 + (failed % 8) * 2 ^ 26 + b2n ack * 2 ^ 25
  top * 2 ^ 16 + crc16Bits (bitsDown top 48)

/-- The rate frame that a lane sends. -/
def State.rateFrameSent (s : State) (d k lane : Nat) (p : Ply) : Nat :=
  rateFrame (s.ownRates d k p) (s.get d F.PLY_LINK_STATE_FAILED k) (s.lane d lane).ack

/-- The levels of a training frame before its pattern (04 Table 4.8): marker, then control, status and check, each bit as 4 symbols. -/
def trainingHead (nrz : Bool) (ctl stat : Nat) : List Int :=
  let top : Int := if nrz then 1 else 3
  let field := fun (v : Nat) => (bitsDown v 16).flatMap fun b => List.replicate 4 (if b then top else -top)
  List.replicate 16 top ++ List.replicate 16 (-top) ++ field ctl ++ field stat ++
  field (crc16Bits (bitsDown ctl 16 ++ bitsDown stat 16))

/-- The status field that a lane sends: RX_READY, and what its taps answer. -/
def State.statusSent (s : State) (d lane : Nat) : Nat :=
  let x := s.lane d lane
  b2n x.ready * 2 ^ 15 + x.postStatus * 2 ^ 4 + x.preStatus

/-- One step of PRBS13, x¹³ + x¹² + x² + x + 1, on the last 13 bits, newest first. -/
def prbs13 (h : List Bool) : Bool := h.getD 0 false ^^ h.getD 1 false ^^ h.getD 11 false ^^ h.getD 12 false

/-- An EXCH block (04 Table 4.9). -/
def State.exchSent (s : State) (d k : Nat) (p : Ply) : List Byte :=
  sealBlock ([0x07, 0x01] ++ leBytes 1 (b2n p.ackSent + 2 * b2n p.calSent) ++ leBytes 1 p.cfg.precode ++ leBytes 1 (s.ownRates d k p) ++
    leBytes 1 (s.plyRate d k) ++ leBytes 1 p.cfg.sleep ++ leBytes 1 (b2n (bit p.cfg.flags 1) + 2) ++ leBytes 1 (b2n (bit p.cfg.flags 0)) ++
    leBytes 1 (s.plyLanes d k).length ++ leBytes 2 s.hubAddr ++ leBytes 2 (s.get 0 F.SHL_ID_BASIN_ID) ++ leBytes 1 p.cfg.id ++
    leBytes 1 p.cfg.braid ++ leBytes 1 d ++ [0] ++ leBytes 4 s.part.serialLo.toNat ++ leBytes 4 s.part.serialHi.toNat)

/-! The wake run (04 R114). -/

/-- Picoseconds that a wake run takes before its ALIGN has been sent: preamble, marker of 64 symbols, 128 IDLE blocks and the ALIGN bare;
the relock of a direction in NAP comes on top. -/
def wakeRunPs (r : LaneRate) (nap : Bool) : Nat :=
  let preamble := if nap then 3000000 else 300000
  preamble + 64 * 1000000000 / r.kBd + 129 * 258 * 1000000000 / r.raw

end Sys2Proof.Machine
end

