-- ==== Sys2Proof/Safety.lean ====
section
/-! DEFINITION. What a well-kept state and a safe step are, when a command is carried out, and how a next state is compared
with the state before it, in the terms that claims use. -/

namespace Sys2Proof.Machine

/-- The tables of registers and bytes are in canonical form, and no command is in progress. -/
abbrev State.Kept (s : State) : Prop :=
  Table.canonical unlistedReg s.regs = true ∧ Table.canonical unlistedCell s.cells = true ∧ s.regLog = [] ∧ s.cellLog = []

/-- A step that goes on, or a command that no unit of the variant can receive. -/
def safeOutcome : Host.Outcome State Fault Refusal → Prop
  | .next s => s.Kept
  | .fault _ => False
  | .refused r => r = .noSuchUnit

/-- A command reaches an island that runs: the die is one of the variant's, and the island's clock is good (01 R24, R25). -/
abbrev State.On (s : State) (a : At) (isl : Nat) : Prop := s.Kept ∧ a.die < s.part.dies ∧ s.runs a.die isl = true

/-- The state in which an island takes a command: the time since the command before has passed, and a gated island runs
again (15 R399). -/
def State.begun (s : State) (a : At) (isl : Nat) : State := (elapse a s).ungate a.die isl

/-- A register write that Table 19.2 lets through, in a package that does not rest (15 R402; 19 R485). -/
abbrev State.Admits (s : State) (a : At) (q : Req) (off : Nat) : Prop :=
  s.Kept ∧ (elapse a s).resting = false ∧ (elapse a s).verdict q a.die off 1 true true = .go

/-- The state in which an admitted write takes effect: time has passed, a power state of EDDY ends (15 R400), and the die joins
those the requester has written (01 R34). -/
def State.admitted (s : State) (a : At) (q : Req) (off : Nat) : State :=
  let u := elapse a s
  ((u.tlpActivity q off).ungate a.die (u.holder a.die off)).modFence q fun x => { x with written := setBit x.written a.die }

/-- No access, no command left BUSY and no message waits. -/
abbrev State.Unwaited (s : State) : Prop := s.access.waiting = [] ∧ s.access.parked = [] ∧ s.access.msgs = []

/-- A command is carried out, and the next state is as `P` says. -/
def Gives (i : Instr) (s : State) (P : State → Prop) : Prop := ∃ t, exec i s = .next t ∧ P t

/-- A command is carried out and leaves `u`, whose writes join the tables that the command began with: a register or a byte reads
as its latest write in `u`, and as before where `u` writes nothing. -/
def Yields (i : Instr) (s u : State) : Prop := exec i s = .next (s.commit u)

/-- A command after which what waits is served (19 R485; 12 R344): it leaves `u`, and the accesses and commands that waited follow. -/
def Serves (a : At) (i : Instr) (s u : State) : Prop :=
  exec i s = .next ((s.commit u).commit ((s.commit u).serve a))

/-- A command that leaves `u`, and what waits is served before its end (19 R485). -/
def Settles (a : At) (i : Instr) (s u : State) : Prop := exec i s = .next (s.commit (u.serve a))

/-- The registers a command may have changed: every BAR0 offset outside a list reads as before. -/
def State.OnlyRegs (l : List Nat) (s t : State) : Prop := ∀ n, n ∉ l → t.reg n = s.reg n

/-- The registers that the end of EDDY writes, which an admitted write may bring about (15 R400). -/
def eddyRegs : List Nat := [barAddr 0 (Reg.PWR_STATUS.off 0 0), barAddr 0 (Reg.PWR_COUNT.off 0 0)]

/-- Every byte of the flash, the boot buffer and the LPDDR reads as before. -/
def State.SameBytes (s t : State) : Prop := ∀ n, t.cell n = s.cell n

/-- The register and byte tables aside, two states are the same. -/
def State.SameRest (s t : State) : Prop :=
  { t with regs := [], regLog := [], cells := [], cellLog := [] } = { s with regs := [], regLog := [], cells := [], cellLog := [] }

/-- The latest event raised, by owner, die, source, code, severity and the fields of its payload (03 Table 3.1). -/
def State.Raised (t : State) (owner die src code sev : Nat) (fields : List (Nat × Nat)) : Prop :=
  ∃ e, t.evt.raised.getLast? = some e ∧ e.owner = owner ∧ e.die = die ∧ e.src = src ∧ e.code = code ∧ e.sev = sev ∧
    e.payload = payload fields ∧ e.ts = t.ts

end Sys2Proof.Machine
end

