-- ==== Sys2Proof/Certificates/Slice0/Obligations.lean ====
section
/-! DEFINITION. The statements for the provers, one definition each. -/

open Sys2Proof Sys2Proof.Machine

/-- For every die, ply slot and state: the end of DETECT, QUIET's end and each of the timers of DETECT, TRAIN, LOCK, ALIGN and
EXCHANGE, in its own state with its deadline fallen (or not yet fallen, for DETECT done), is carried out; DETECT done marks every
lane detected and enters QUIET, QUIET goes to TRAIN or DETECT, and each timer goes to QUIET with the back-off and the cause of its
state. (R102, R103, 04_line_lanes.md) -/
def Obligations.BringUpTimersMoveTheLinkOn : Prop :=
  ∀ (a : At) (k : Nat) (s : State) (p : Ply), s.On a 8 → k < 8 → (s.begun a 8).ply? a.die k = some p →
  let b := s.begun a 8
  let d := a.die
  (b.plyState d k = 0 → b.now < p.deadline + a.cyc → b.heldLow d k = false →
    (∀ m ∈ b.plyCages d k, (b.cage d m).dataPath = true ∧ b.get d F.MOD_CAGE_FLAGS_RX_LOS m = 0) →
    Yields (.plyDetectDone a k) s (((b.plyNear a k p.deadline).setLanes d k F.LN_STATUS_DETECTED 1).enterQuiet d k 0 true)) ∧
  (b.plyState d k = 0 → p.deadline ≤ b.now → b.heldLow d k = false →
    Yields (.detectTimeout a k) s (b.quietBackoff d k 1 0 false false)) ∧
  (b.plyState d k = 1 → p.deadline ≤ b.now →
    Yields (.quietEnd a k) s (b.enterState d k (if p.fromDetect then 2 else 0))) ∧
  (b.plyState d k = 2 → p.deadline ≤ b.now →
    let late := (b.plyLanes d k).foldl (fun m n => if (b.lane d n).trained then m else setBit m n) 0
    let failed := setBit (b.get d F.PLY_LINK_STATE_FAILED k) (b.plyRate d k)
    let u := b.quietBackoff d k 2 late false false
    Yields (.trainTimeout a k) s (if b.plyRate d k = 3 then u else
      (u.set d F.PLY_LINK_STATE_FAILED failed k).raise d k 0x105 1
        [(1, u.plyId d k), (1, b.plyRate d k), (1, failed)])) ∧
  (b.plyState d k = 3 → p.deadline ≤ b.now →
    Yields (.lockTimeout a k) s (b.quietBackoff d k 5 (b.unlocked d k) false false)) ∧
  (b.plyState d k = 4 → p.deadline ≤ b.now →
    let late := (b.plyLanes d k).foldl (fun m n => if b.flag d F.LN_STATUS_FEC_FRAMED n then m else setBit m n) 0
    Yields (.alignTimeout a k) s (b.quietBackoff d k 6 late false false)) ∧
  (b.plyState d k = 5 → p.deadline ≤ b.now →
    Yields (.exchangeTimeout a k) s (b.quietBackoff d k 8 0 false false))

/-- In TRAIN, a valid rate frame on a lane of the ply counts towards four equal frames in a row and resolves the rate once every lane
has resolved; a training frame whose check holds moves the taps, and LOCK is entered once every lane is trained. In LOCK to
EXCHANGE a lane that finds its block boundary is marked locked, and with the last lane LOCK gives way to ALIGN; a lane that finds
none in four passes sends the link to QUIET with cause 4 and event 0x103. A valid ALIGN block in ALIGN is taken, and one later
sets PRECODE_RX where it asks for it below rate 2; a valid EXCH block at the rate in use counts towards three equal ones, and ends
in ACTIVE, in another wait, or in a peer mismatch. (R105, R106, R107, R108, R109, R110, R111, 04_line_lanes.md) -/
def Obligations.TrainingAndExchangeFramesAreTaken : Prop :=
  ∀ (a : At) (k lane : Nat) (s : State) (p : Ply), s.On a 8 → k < 8 → (s.begun a 8).ply? a.die k = some p →
  bit p.cfg.mask lane = true →
  let b := s.begun a 8
  let d := a.die
  (∀ w sent, b.plyState d k = 2 → b.plyRate d k = 3 → b.now < p.deadline + a.cyc → rateFrameOk w = true →
    let u := b.modLane d lane fun x =>
      let run := if x.frameRun != 0 && x.lastFrame == w then x.frameRun + 1 else 1
      { x with lastFrame := w, frameRun := min run 4, ack := x.ack || decide (4 ≤ run), gotAck := x.gotAck || bit w 41,
               resolved := x.resolved || ((x.ack || decide (4 ≤ run)) && (x.gotAck || bit w 41) && decide (8 ≤ sent)) }
    Yields (.rateFrameReceive a k lane w sent) s
      (if ∀ n ∈ u.plyLanes d k, (u.lane d n).resolved = true then u.resolveRate d k p w else u)) ∧
  (∀ ctl stat chk inv ready sent, b.plyState d k = 2 → b.plyRate d k ≠ 3 → b.now < p.deadline + a.cyc →
    chk = crc16Bits (bitsDown (ctl % 2 ^ 16) 16 ++ bitsDown (stat % 2 ^ 16) 16) →
    let u := if inv then b.set d F.LN_STATUS_POLARITY_INV 1 lane else b
    let u := if bits ctl 9 8 = 1 ∨ bits ctl 9 8 = 2 then u.setTaps d lane (bits ctl 9 8) else u
    let post := tapStep 14 (bits ctl 5 4) (u.lane d lane).postStatus (u.get d F.LN_TX_COEF_C_POST lane)
    let pre := tapStep 10 (bits ctl 1 0) (u.lane d lane).preStatus (u.get d F.LN_TX_COEF_C_PRE lane)
    let u := ((u.set d F.LN_TX_COEF_C_POST post.2 lane).set d F.LN_TX_COEF_C_PRE pre.2 lane).modLane d lane fun x =>
      { x with postStatus := post.1, preStatus := pre.1, ready := ready, farReady := x.farReady || bit stat 15,
               trained := x.trained || ((x.farReady || bit stat 15) && ready && decide (16 ≤ sent)) }
    Yields (.trainingFrameReceive a k lane ctl stat chk inv ready sent) s
      (if ∀ n ∈ u.plyLanes d k, (u.lane d n).trained = true then (u.plyNear a k p.deadline).enterState d k 3 else u)) ∧
  (3 ≤ b.plyState d k → b.plyState d k ≤ 5 → b.now < p.deadline + a.cyc →
    let u := ((b.set d F.LN_STATUS_CDR_LOCK 1 lane).set d F.LN_STATUS_BLOCK_LOCK 1 lane).modLane d lane fun x => { x with invalid := [] }
    Yields (.laneBlockLock a k lane) s
      (if b.plyState d k = 3 ∧ u.unlocked d k = 0 then (u.plyNear a k p.deadline).enterState d k 4 else u)) ∧
  (∀ examined, 3 ≤ b.plyState d k → b.plyState d k ≤ 5 → b.flag d F.LN_STATUS_BLOCK_LOCK lane = false →
    Yields (.laneHuntFail a k lane examined) s
      ((b.raise d lane 0x103 2 [(1, b.plyId d k), (1, lane), (1, b.plyRate d k), (1, 0), (4, examined)]).quietBackoff
        d k 4 (2 ^ lane) false false)) ∧
  (∀ blk, b.flag d F.LN_STATUS_BLOCK_LOCK lane = true → b.plyState d k = 4 → blockFit 5 blk = true →
    [1, 2, 4, 8].contains (byteAt blk 2) = true →
    Yields (.alignBlockReceive a k lane blk) s
      ((b.modPly d k fun x => { x with liveAt := b.now }).takeAlign a k lane { p with liveAt := b.now } blk)) ∧
  (∀ blk, b.plyState d k = 5 → blockFit 7 blk = true → byteAt blk 1 ≠ 0 → [1, 2, 4, 8].contains (byteAt blk 9) = true →
    byteAt blk 5 = b.plyRate d k →
    let run := if p.exchRun != 0 && p.lastExch == exchBody blk then p.exchRun + 1 else 1
    let p' : Ply := { p with liveAt := b.now }
    let u := (b.modPly d k fun x => { x with liveAt := b.now }).modPly d k fun x =>
      { x with lastExch := exchBody blk, exchRun := min run 3, ackSent := x.ackSent || decide (3 ≤ run),
               ackGot := x.ackGot || bit (byteAt blk 2) 0, calGot := x.calGot || bit (byteAt blk 2) 1,
               farSerial := numAt blk 18 8 }
    Yields (.exchBlockReceive a k blk) s
      (if 3 ≤ run ∧ u.peerFault d k p' blk ≠ 0 then u.peerMismatch d k p' blk (u.peerFault d k p' blk)
       else u.tryActive a k p.deadline))

/-- On a lane of the ply: a block with an invalid header is discarded and counted, and 16 within 64 end the lock or an awake ACTIVE
link; a decoded codeword counts its corrected symbols in FEC_CORR and the histogram; an uncorrectable one counts in FEC_UNCORR;
the end of a 1 ms window shows the lane's SNR. An ACTIVE link whose receive direction is awake goes to QUIET with cause 14, 12 or
10 when liveness, alignment or the signal is lost, a link under bring-up with cause 10 at once, and a sleeping receive direction
with cause 10 or 15 when its refresh or its wake fails. (R95, R98, R102, R106, R112, R113, R114, 04_line_lanes.md) -/
def Obligations.LaneErrorsAreCountedAndEndTheLink : Prop :=
  ∀ (a : At) (k lane : Nat) (s : State) (p : Ply), s.On a 8 → k < 8 → (s.begun a 8).ply? a.die k = some p →
  bit p.cfg.mask lane = true →
  let b := s.begun a 8
  let d := a.die
  (∀ gap, b.flag d F.LN_STATUS_BLOCK_LOCK lane = true →
    let u := b.bump d F.LN_HDR_ERR_COUNT 1 lane
    let ages := 0 :: (((u.lane d lane).invalid.map (· + gap + 1)).filter (· < 64))
    let u := u.modLane d lane fun x => { x with invalid := ages }
    (ages.length < 16 → Yields (.invalidHeaderBlock a k lane gap) s u) ∧
    (16 ≤ ages.length → u.plyState d k = 6 → u.rxState d k = 0 → Yields (.invalidHeaderBlock a k lane gap) s (u.leaveActive d k 11)) ∧
    (16 ≤ ages.length → u.plyState d k ≠ 6 → Yields (.invalidHeaderBlock a k lane gap) s
      ((u.set d F.LN_STATUS_BLOCK_LOCK 0 lane).modLane d lane fun x => { x with invalid := [] }))) ∧
  (∀ n, b.flag d F.LN_STATUS_FEC_FRAMED lane = true → n ≤ 15 → Yields (.fecCodewordDecode a k lane (some n)) s
    (((b.bump d F.LN_FEC_CORR_COUNT n lane).bump d F.LN_FEC_HIST_COUNT 1 lane n).modLane d lane fun x =>
      { x with corrWindow := x.corrWindow + n, fecRun := 0 })) ∧
  (b.flag d F.LN_STATUS_FEC_FRAMED lane = true →
    let u := (b.bump d F.LN_FEC_UNCORR_COUNT 1 lane).modLane d lane fun x => { x with fecRun := x.fecRun + 1 }
    let due : Bool := p.uncorrAt.all fun t => decide (t + ms 1 ≤ u.now)
    let u := u.modPly d k fun x =>
      { x with uncorr := satAdd 0xFFFFFFFF x.uncorr 1, uncorrNew := if due then 0 else satAdd 0xFFFFFFFF x.uncorrNew 1,
               uncorrAt := if due then some u.now else x.uncorrAt }
    let u : State := if due then
        u.raise d lane 0x10A 2 [(1, u.plyId d k), (1, lane), (2, 0), (4, satAdd 0xFFFFFFFF p.uncorrNew 1)]
      else u
    Yields (.fecCodewordDecode a k lane none) s
      (if u.plyState d k = 6 ∧ 8 ≤ (u.lane d lane).fecRun then u.leaveActive d k 13 else u)) ∧
  (∀ snr,
    let u := b.set d F.LN_STATUS_SNR (min snr 255) lane
    u.get d F.LN_DEGRADE_DEGRADE_THRESH lane = 0 → (u.lane d lane).degraded = false →
    Yields (.fecWindowEnd a k lane snr) s (u.modLane d lane fun y => { y with corrWindow := 0, lowWindows := 0 })) ∧
  (∀ snr,
    let u := b.set d F.LN_STATUS_SNR (min snr 255) lane
    u.get d F.LN_DEGRADE_DEGRADE_THRESH lane ≠ 0 →
    u.get d F.LN_DEGRADE_DEGRADE_THRESH lane < (u.lane d lane).corrWindow →
    Yields (.fecWindowEnd a k lane snr) s
      ((u.modLane d lane fun y => { y with corrWindow := 0, lowWindows := 0, degraded := true }).raise d lane 0x108 2
        [(1, u.plyId d k), (1, lane), (1, min snr 255), (1, 0), (4, (u.lane d lane).corrWindow)])) ∧
  (b.plyState d k = 6 → b.rxState d k = 0 → p.liveAt + us 100 ≤ b.now →
    Yields (.liveness a k) s (b.leaveActive d k 14)) ∧
  (b.plyState d k = 6 → b.rxState d k = 0 → Yields (.alignLost a k) s (b.leaveActive d k 12)) ∧
  (b.plyState d k = 6 → b.rxState d k = 0 → Yields (.signalLost a k lane) s (b.leaveActive d k 10)) ∧
  (2 ≤ b.plyState d k → b.plyState d k ≤ 5 → Yields (.signalLost a k lane) s (b.quietBackoff d k 10 (2 ^ lane) false false)) ∧
  (b.plyState d k = 6 → b.rxState d k = 1 ∨ b.rxState d k = 2 → p.rxRefreshBy ≤ b.now →
    Yields (.refreshTimeout a k) s (b.leaveActive d k 10)) ∧
  (∀ unlocked, b.plyState d k = 6 → b.rxState d k = 1 ∨ b.rxState d k = 2 →
    Yields (.plyWakeFail a k unlocked) s
      ((b.leaveActive d k 15).raise d k 0x10B 2 [(1, b.plyId d k), (1, b.rxState d k), (1, unlocked)]))

/-- An admitted write of PLY_LINKk_CTL takes a configured ply to DISABLED with DISABLE 1, from DISABLED to DETECT with DISABLE 0, and
to QUIET with RETRAIN, with FAILED cleared; an admitted write of MOD_CAGEm_CTL holds or frees the module's low power and resets
it. A module's insertion shows its identity and raises 0x10C, its ready state stages the data path, a poll shows its state and
flags, and its removal clears its status, raises 0x10D and takes its plies down. (R112, R117, R118, 04_line_lanes.md) -/
def Obligations.PlyControlAndModuleWritesTakeEffect : Prop :=
  (∀ (a : At) (q : Req) (k : Nat) (v : Word) (s : State) (p : Ply), s.Admits a q (0x0A0004 + 0x100 * k) → k < 8 →
    let b := s.admitted a q (0x0A0004 + 0x100 * k)
    let d := a.die
    b.ply? d k = some p →
    let u := b.set d F.PLY_LINK_CTL_DISABLE (wordGet v 31 31) k
    let u := if wordGet v 30 30 = 1 then u.set d F.PLY_LINK_STATE_FAILED 0 k else u
    (wordGet v 31 31 = 1 → Yields (.plyDisable a q k v) s
      (((if b.plyState d k = 6 then u.endActive d k 17 else u).laneIdle d k).enterState d k 7)) ∧
    (wordGet v 31 31 = 0 → b.plyState d k = 7 → Yields (.plyEnable a q k v) s ((u.set d F.PLY_LINK_STATE_ATTEMPTS 0 k).enterState d k 0)) ∧
    (wordGet v 31 31 = 0 → wordGet v 30 30 = 1 → b.plyState d k ≠ 7 → Yields (.plyRetrain a q k v) s
      (if b.plyState d k = 6 then u.leaveActive d k 17 else u.quietPlain d k 17))) ∧
  (∀ (a : At) (q : Req) (m : Nat) (v : Word) (s : State), s.Admits a q (0x0A0804 + 0x40 * m) → m < 4 →
    let b := s.admitted a q (0x0A0804 + 0x40 * m)
    let d := a.die
    let u := b.set d F.MOD_CAGE_CTL_FORCE_LOWPWR (wordGet v 31 31) m
    (wordGet v 30 30 = 1 → wordGet v 31 31 = b.get d F.MOD_CAGE_CTL_FORCE_LOWPWR m →
      Yields (.moduleReset a q m v) s (u.emit (.moduleReset d m))) ∧
    (wordGet v 30 30 = 0 → wordGet v 31 31 = 1 → b.get d F.MOD_CAGE_CTL_FORCE_LOWPWR m = 0 →
      let x := (u.emit (.moduleLowPower d m true)).modCage d m fun c => { c with staged := false, dataPath := false }
      Yields (.forceLowpwr a q m v) s ((x.cageSlots d m).foldl (fun s k => s.holdInDetect d k) x))) ∧
  (∀ (a : At) (m : Nat) (s : State), s.On a 41 → m < 4 →
    let b := s.begun a 41
    let d := a.die
    (∀ ident rev sel appRates waitMs,
      let u := ((b.setWord d Reg.MOD_CAGE_STATUS 0 m).set d F.MOD_CAGE_STATUS_PRESENT 1 m).set d F.MOD_CAGE_STATUS_IDENTIFIER ident m
      let u := (u.set d F.MOD_CAGE_STATUS_CMIS_REV rev m).set d F.MOD_CAGE_STATUS_APP_SEL sel m
      let c : Cage := { appRates := appRates % 8, staged := false, dataPath := false, readyBy := u.now + ms (min waitMs 60000) }
      let u := (u.modCage d m fun _ => c).raise d m 0x10C 1 [(1, m), (1, ident), (1, rev), (1, sel)]
      Yields (.moduleInserted a m ident rev sel appRates waitMs) s
        (if u.get d F.MOD_CAGE_CTL_FORCE_LOWPWR m = 1 then u else u.emit (.moduleLowPower d m false))) ∧
    (b.get d F.MOD_CAGE_STATUS_PRESENT m = 1 →
      (∀ state, b.get d F.MOD_CAGE_CTL_FORCE_LOWPWR m ≠ 1 → state = 3 ∨ (b.cage d m).readyBy ≤ b.now →
        Yields (.moduleReady a m state) s
          ((b.set d F.MOD_CAGE_STATUS_MODULE_STATE state m).modCage d m fun c => { c with staged := true })) ∧
      (∀ state flags dpOk, state ≠ 5 → bit flags 7 = false → bit flags 6 = false → bit flags 4 = false →
        let u := b.set d F.MOD_CAGE_STATUS_MODULE_STATE state m
        Yields (.modulePoll a m state flags dpOk) s
          ((u.setWord d Reg.MOD_CAGE_FLAGS (u.word d Reg.MOD_CAGE_FLAGS m ||| BitVec.ofNat 32 (flags &&& 0xFC)) m).modCage d m
            fun c => { c with dataPath := c.staged && dpOk })) ∧
      Yields (.moduleRemoved a m) s
        ((((b.setWord d Reg.MOD_CAGE_STATUS 0 m).modCage d m fun _ => {}).raise d m 0x10D 2 [(1, m)]).cageDown d m)))

/-- In the ACTIVE state of a ply: an idle transmit direction that the Spindle's mode and the exchange allow to sleep commits with a
SLEEP block on every lane, or aborts and counts it when work is queued; a sleeping transmit direction with work, or in mode AWAKE,
sends a wake run and reads ACTIVE, with no other register and no byte changed; at its refresh time it sends a refresh burst; a
valid SLEEP block puts the receive direction to sleep, and a wake run in time wakes it. (R113, R114, R115, 04_line_lanes.md) -/
def Obligations.DirectionsSleepAndWake : Prop :=
  (∀ (a : At) (k : Nat) (s : State) (p : Ply), s.On a 9 → k < 8 → (s.begun a 9).ply? a.die k = some p →
    let b := s.begun a 9
    let d := a.die
    b.plyState d k = 6 →
    (∀ m, b.txState d k = 0 → b.dirMode d k = m → m = 1 ∨ m = 2 → b.sleepAllowed d k m = true →
      p.sentAt + b.idleTime d m ≤ b.now →
      (b.owesWork d k = true → Yields (.directionSleepEnter a k) s (b.bump d F.PLY_LINK_SLEEP_CNT_ABORTS 1 k)) ∧
      (b.owesWork d k = false →
        let u := ((b.onEveryLane d k (b.sleepBlock d k m false)).set d F.PLY_LINK_SLEEP_TX_STATE m k).wrap d F.PLY_LINK_SLEEP_CNT_ENTRIES k
        Yields (.directionSleepEnter a k) s (u.modPly d k fun x => { x with refreshAt := u.now + u.refreshEvery d k m }))) ∧
    (b.txState d k = 1 ∨ b.txState d k = 2 →
      (b.owesWork d k = true ∨ b.dirMode d k = 0 →
        Gives (.directionWake a k) s fun t => t.txState d k = 0 ∧
          t.out = [.wakeRun d k false, .align d k (3 + 4 * s.get d F.LN_STATUS_PRECODE_TX k)] ∧
          s.OnlyRegs [barAddr d (Reg.PLY_LINK_SLEEP.off k 0)] t ∧ s.SameBytes t) ∧
      (p.refreshAt ≤ b.now →
        let u := (b.wakeRun d k true).refreshBlocks d k
        let u := u.onEveryLane d k (u.sleepBlock d k (b.txState d k) true)
        Yields (.refreshBurst a k) s (u.modPly d k fun x => { x with refreshAt := u.now + u.refreshEvery d k (b.txState d k) })))) ∧
  (∀ (a : At) (k : Nat) (s : State) (p : Ply), s.On a 8 → k < 8 → (s.begun a 8).ply? a.die k = some p →
    let b := s.begun a 8
    let d := a.die
    b.plyState d k = 6 →
    (∀ blk, blockFit 6 blk = true → byteAt blk 1 = 1 ∨ byteAt blk 1 = 2 →
      let u := (b.heard a k).set d F.PLY_LINK_SLEEP_RX_STATE (byteAt blk 1) k
      Yields (.sleepBlockReceive a k blk) s (u.modPly d k fun x =>
        { x with rxRefreshBy := b.now + 2 * (if byteAt blk 1 = 1 then us (numAt blk 4 2) else ms 10), resync := false })) ∧
    (∀ took, b.rxState d k = 1 ∨ b.rxState d k = 2 → took < wakeLimit (b.rxState d k) (b.plyRate d k) →
      let u := b.set d F.PLY_LINK_SLEEP_RX_STATE 0 k
      let u := (u.plyLanes d k).foldl (fun s n => s.modLane d n fun x => { x with invalid := [], fecRun := 0 }) u
      Yields (.wakeRunReceive a k took) s (u.modPly d k fun x => { x with liveAt := u.now })))

/-- For every sequence of Gray indices and every index sent before it: the transmitter sends as many indices T as there are Gray
indices G, each below 4, each T(n) plus the one before it equals G(n) modulo 4, and the receiver that adds them so recovers G.
From T(−1) = 0 it sends 3, 2, 0 for 3, 1, 2, as the rule's example says. (R92, 04_line_lanes.md) -/
def Obligations.PrecodingIsUndone : Prop :=
  (∀ (t : Nat) (gs : List Nat), t < 4 → (∀ g ∈ gs, g < 4) →
    (precode t gs).length = gs.length ∧ (∀ x ∈ precode t gs, x < 4) ∧ unprecode t (precode t gs) = gs ∧
    ∀ n, n < gs.length →
      ((precode t gs).getD n 0 + (if n = 0 then t else (precode t gs).getD (n - 1) 0)) % 4 = gs.getD n 0) ∧
  precode 0 [3, 1, 2] = [3, 2, 0]

/-- For every stream of payload bits, every history of the scrambler and every history of the descrambler: what the descrambler makes
of the scrambled stream agrees with the stream from bit 58 on; where both histories agree it agrees from the first bit; and bit n
of the scrambled stream is bit n of the stream with scrambled bits n − 39 and n − 58 added modulo 2, for n from 58 on. (R93,
04_line_lanes.md) -/
def Obligations.DescramblerIsInStepAfter58Bits : Prop :=
  ∀ (tx rx data : List Bool),
    (descramble rx (scramble tx data)).drop 58 = data.drop 58 ∧
    descramble tx (scramble tx data) = data ∧
    ∀ n, 58 ≤ n → n < data.length →
      (scramble tx data).getD n false =
        (data.getD n false ^^ (scramble tx data).getD (n - 39) false ^^ (scramble tx data).getD (n - 58) false)

/-- On an ACTIVE ply: a segment that arrives out of a resync is framed; a valid IDLE block ends a resync; a valid CREDIT block sets
the eight limits and counts the units it shows lost; an awake direction sends CREDIT when it is due; a lossless class without
credit for CREDIT_STALL_US is reported once with event 0x20A; a lossy class whose head has waited LOSSY_WAIT_US drops it and
counts it. On the STR island, a live local strand offers its segment. (R123, R124, R127, R137, R140, R141, R143, R164,
05_plies_strands_segments.md) -/
def Obligations.SegmentsAndCreditBlocksAreTaken : Prop :=
  (∀ (a : At) (k : Nat) (s : State) (p : Ply), s.On a 8 → k < 8 → (s.begun a 8).ply? a.die k = some p →
    let b := s.begun a 8
    let d := a.die
    b.plyState d k = 6 →
    (∀ hdr payload errored plain, p.resync = false →
      Yields (.segmentReceive a k hdr payload errored plain) s (b.frameSeg d k (hdr % 2 ^ 64) payload errored plain)) ∧
    (∀ blk, blockFit 1 blk = true →
      Yields (.idleBlockReceive a k blk) s ((b.heard a k).modPly d k fun x => { x with resync := false })) ∧
    (∀ blk, blockFit 4 blk = true →
      let u := ((b.heard a k).boundary d k).modCredit d k fun c => { c with lim := (List.range 8).map (limitOf blk) }
      let t := byteAt blk 1 % 8
      let sent := numAt blk 22 3 % creditMod
      let lost := (sent + creditMod - (u.credit d k).rcv.getD t 0) % creditMod
      Yields (.creditBlockReceive a k blk) s ((if (bit (byteAt blk 1) 3 && decide (lost < 2 ^ 19)) = true then
          (u.bump d F.STR_CREDIT_LOST_COUNT lost).modCredit d k fun c => { c with rcv := c.rcv.set t sent }
        else u).watchCredit d k))) ∧
  (∀ (a : At) (k : Nat) (s : State), s.On a 9 → k < 8 →
    let b := s.begun a 9
    let d := a.die
    b.plyActive d k = true →
    (b.txState d k = 0 → (b.credit d k).due ≤ b.now →
      let told := (List.range 8).map (b.limitNow d k)
      Yields (.creditSend a k) s ((b.emit (.stream d k (b.creditBlock d k))).modCredit d k fun c =>
        { c with sentClass := (c.sentClass + 1) % 8, due := b.now + ns 250, told := told })) ∧
    (∀ t since, t < 8 → (b.credit d k).emptyAt.getD t none = some since → b.lossless d k t = true →
      bit (b.credit d k).stalled t = false → b.get d F.PLY_LINK_CREDIT_CFG_CREDIT_STALL_US k ≠ 0 →
      since + us (b.get d F.PLY_LINK_CREDIT_CFG_CREDIT_STALL_US k) ≤ b.now →
      Yields (.creditStall a k t) s ((b.modCredit d k fun c => { c with stalled := setBit c.stalled t }).raise d k 0x20A 2
        [(1, b.plyId d k), (1, t), (2, 0), (4, (b.credit d k).lim.getD t 0), (4, (b.credit d k).txc.getD t 0)]))) ∧
  (∀ (a : At) (k t : Nat) (g : Seg) (since : Nat) (s : State), s.On a 9 → k < 8 → t < 8 →
    let b := s.begun a 9
    let d := a.die
    let key := 512 * d + 16 * k
    b.headClass key = some (t, g) → (b.queue key).lack = some since → b.lossless d k t = false →
    since + us (b.get d F.PLY_LINK_CREDIT_CFG_LOSSY_WAIT_US k) ≤ b.now →
    Yields (.lossyDrop a k t) s
      ((((((b.bump d F.STR_LOSSY_DROP_COUNT).releaseSeg (b.holdDie key) g).popSeg key).afterDequeue
        key).watchLack d k).rechain)) ∧
  (∀ (a : At) (idx : Nat) (sop eop : Bool) (payload : List Byte) (s : State) (e : Entry), s.On a 10 → idx < 8192 →
    let b := s.begun a 10
    b.entry? (8192 * a.die + idx) = some e → e.st = 2 ∨ e.st = 3 → e.inType = 3 → 1 ≤ payload.length → payload.length ≤ 2048 →
    Yields (.localSegmentIngress a idx sop eop payload) s (b.offerSeg (8192 * a.die + idx) sop eop payload).1)

/-- A moving strand whose old path has no more of it sends its MARK there and is ACTIVE again; a valid MARK in time for a strand held
on the old ply lets its segments go on and raises 0x208, and a MARK of a strand that holds nothing is kept for it; the 50 us wait
of a held strand expires with 0x209 and the segments go on; a DRAINING strand ends when its queue has emptied or its 10 ms are
over, when what is left is discarded and counted; an SN may be allocated again 1 ms after it was freed. (R145, R146, R147, R152,
05_plies_strands_segments.md) -/
def Obligations.MovesAndDrainsEnd : Prop :=
  (∀ (a : At) (idx k : Nat) (e : Entry) (s : State), s.On a 9 → idx < 65536 → k < 8 →
    let b := s.begun a 9
    b.entry? idx = some e → e.oldPath = some (a.die * 8 + k) → e.st = 3 → b.queuedFor a.die k idx = false → b.plyActive a.die k = true →
    Yields (.markBlockSend a idx) s
      ((b.emit (.stream a.die k (markBlock (!e.sentOn.contains (a.die * 8 + k)) e.nextSn e.oldSeq e.ply ((e.moves + 1) % 256) e.strandId))).modEntry
        idx fun e' => { (e'.setF 14 12 2) with oldPath := none, moves := (e'.moves + 1) % 256, sentOn := e'.sentOn.filter (· != a.die * 8 + k) })) ∧
  (∀ (a : At) (k idx : Nat) (blk : List Byte) (e : Entry) (p : Ply) (s : State), s.On a 8 → k < 8 → (s.begun a 8).ply? a.die k = some p →
    let d := a.die
    let b := s.begun a 8
    b.plyState d k = 6 → blockFit 2 blk = true →
    let u := (b.heard a k).boundary d k
    u.findIn d k (numAt blk 2 2 % 4096) = some idx → u.entry? idx = some e → e.strandId = numAt blk 8 4 →
    (e.held ≠ [] → u.get (e.heldOn / 8) F.PLY_LINK_PEER_CAP_FAR_PLY (e.heldOn % 8) = byteAt blk 6 → u.now < e.heldAt + us 50 →
      let v := u.releaseHeld idx
      Yields (.markBlockReceive a k blk) s (v.raiseStrand idx 0x208 0
        [(4, e.strandId), (1, u.plyId d k), (1, u.plyId (e.heldOn / 8) (e.heldOn % 8)), (1, byteAt blk 7), (1, 0),
         (4, (u.now - e.heldAt) / 1000), (2, e.held.length)])) ∧
    (e.held = [] → e.expired = none →
      Yields (.markBlockReceive a k blk) s (u.modEntry idx fun e => { e with marks := e.marks ++ [byteAt blk 6] }))) ∧
  (∀ (a : At) (k idx : Nat) (e : Entry) (s : State), s.On a 8 → k < 8 → idx < 65536 →
    let b := s.begun a 8
    b.entry? idx = some e → e.held ≠ [] → e.heldOn = 8 * a.die + k → e.heldAt + us 50 ≤ b.now →
    Yields (.strMarkTimeout a k idx) s
      (((b.releaseHeld idx).modEntry idx fun e => { e with expired := some e.fromPly }).raiseStrand idx 0x209 2
        [(4, e.strandId), (1, e.fromPly), (1, b.plyId a.die k), (2, e.held.length)])) ∧
  (∀ (a : At) (idx : Nat) (e : Entry) (s : State), s.On a 10 → idx < 8192 →
    let b := s.begun a 10
    let i := 8192 * a.die + idx
    b.entry? i = some e → e.st = 5 → e.mirrorOf = none →
    (b.strandBusy i = false → Yields (.strDrainDone a idx) s (b.drained i 0)) ∧
    (e.drainBy ≤ b.now →
      let r := b.discardStrand i
      Yields (.strDrainTimeout a idx) s ((r.1.bump a.die F.STR_NO_STRAND_COUNT r.2).drained i r.2))) ∧
  (∀ (a : At) (inType inIndex sn : Nat) (s : State), s.On a 10 →
    let b := s.begun a 10
    Yields (.snQuarantineEnd a inType inIndex sn) s (b.modDie a.die fun x => { x with quarantine := x.quarantine.filter fun q =>
      !(q.inType == inType && q.inIndex == inIndex && q.sn == sn && decide (q.until_ ≤ b.now)) }))

/-- An admitted write of STR_CMD by PF0 with the command set idle and the target die's STR island running: CREATE installs the staged
entry at the index named, ACTIVATE makes a CREATED entry ACTIVE, MODIFY replaces its contract, TEARDOWN makes it DRAINING for 10
ms, and READ stages the entry's words; RESULT reads 0, BUSY 0 and INDEX the entry, which is said in the registers' fields. (R134,
R136, R149, R151, R152, R153, 05_plies_strands_segments.md) -/
def Obligations.StrandCommandsComplete : Prop :=
  ∀ (a : At) (v : Word) (s : State), s.Admits a .pf0 0x0C0000 →
  let b := s.admitted a .pf0 0x0C0000
  let d := a.die
  b.get d F.STR_CMD_STATUS_BUSY = 0 → cmdDie 0 v < b.part.dies → b.runs (cmdDie 0 v) 10 = true →
  let idx := wordGet v 15 0
  let ok := fun (u : State) (i id : Nat) (mirror : Bool) => u.cmdDone d 0 (wordGet v 31 28) .ok i id mirror
  (wordGet v 31 28 = 1 → wordGet v 27 27 = 0 →
    let e := (({ raw := b.staged256 d } : Entry).setF 14 12 1).setF 11 0 0
    b.entryOk 0 e = true → b.entry? idx = none → b.duplicates (idx / 8192) e = false → e.inSn ≠ 0xFFF ∨ e.inType = 3 →
    b.overcommits 0 65536 e 0 = false → (∀ m ∈ b.mirrorDies (idx / 8192) e, (b.freeIndex m).isSome = true) →
    Yields (.strCreate a .pf0 v) s
      ((ok (b.install idx e) idx e.strandId false).raiseStrand idx 0x201 0 [(4, e.strandId), (2, idx), (2, e.inSn)])) ∧
  (∀ e, b.entry? idx = some e → e.mirrorOf = none → idx / 8192 < b.part.dies →
    (wordGet v 31 28 = 2 → e.st = 1 → e.enc = false ∨ b.encAvailable e = true →
      Yields (.strActivate a .pf0 v) s ((ok b idx e.strandId false).activate idx)) ∧
    (wordGet v 31 28 = 3 →
      let n : Entry := { raw := b.staged256 d }
      (e.withContract n).ratesOk = true → 1 ≤ e.st → e.st ≤ 4 → e.isStatic = false →
      b.overcommits 0 idx (e.withContract n) e.guaranteed = false →
      Yields (.strModify a .pf0 v) s ((ok b idx e.strandId false).modEntry idx fun x => { (x.withContract n) with changed := true })) ∧
    (wordGet v 31 28 = 4 → e.st = 1 ∨ e.st = 2 → e.isStatic = false →
      let u := if e.isOpen then (ok b idx e.strandId false).closeFrame idx 2 else ok b idx e.strandId false
      Yields (.strTeardown a .pf0 v) s (u.modEntry idx fun x => { (x.setF 14 12 5) with drainBy := u.now + ms 10 })) ∧
    (wordGet v 31 28 = 5 → Yields (.strRead a .pf0 v) s (ok (b.stageEntry d e.readValue) idx e.strandId false)))

/-- On running islands: a segment that waits on a splice port with room in its transit reserve is taken off it and sent on, or charged
and gathered where it is for this die; the oldest complete unit of a strand is finished; a waiting multicast unit writes its
copies when they fit; a pond page is read back when the queue has share and the pool room; the oldest release frees its charge;
the head of a queue ages out; and the audit counts its sweep, reclaims and reports leaked bobbins, and reports totals that do not
add up. (R162, R164, R166, R167, R168, R172, R175, R179, R180, 06_switch_core_and_buffers.md) -/
def Obligations.SwitchCoreUnitsMoveOn : Prop :=
  (∀ (a : At) (port i : Nat) (c : Crossing) (s : State), port < 3 → s.On a (14 + port) →
    let b := s.begun a (14 + port)
    let d := a.die
    (b.die d).inbound.zipIdx.find? (fun p => p.1.port == port) = some (c, i) →
    b.charged d (acctTransit port) + c.seg.units ≤ 2048 → b.get d F.GLB_SPLICE_STATUS_UP port = 1 →
    let u := b.modDie d fun x => { x with inbound := x.inbound.eraseIdx i }
    (c.dest ≠ d → Yields (.spliceSegmentArrive a port) s (u.sendAcross d c)) ∧
    (c.dest = d → c.unit.done = false → Yields (.spliceSegmentArrive a port) s
      (((u.chargeTo d (acctTransit port) c.seg.units).gatherAt d { c.unit with port := port } c.seg c.first c.last).rechain))) ∧
  (∀ (a : At) (idx i : Nat) (x : SUnit) (s : State), s.On a 11 →
    let b := s.begun a 11
    let d := a.die
    ((b.die d).complete.zipIdx.find? (fun p => p.1.idx == idx) = some (x, i) →
      Yields (.switchingUnitComplete a idx) s
        (((b.modDie d fun y => { y with complete := y.complete.eraseIdx i }).finishUnit d x).rechain)) ∧
    (∀ e, (b.die d).copies.zipIdx.find? (fun p => p.1.idx == idx) = some (x, i) → b.entry? x.idx = some e →
      b.copiesFit (b.copiesOf d x.idx e) (x.segs.foldl (fun n g => n + g.units) 0) = true →
      Yields (.mcastCopyResume a idx) s
        (((b.modDie d fun y => { y with copies := y.copies.eraseIdx i }).writeCopies d x e).rechain))) ∧
  (∀ (a : At) (n : Nat) (s : State), n < 304 → s.On a 11 →
    let b := s.begun a 11
    let key := 512 * a.die + n
    (b.queue key).inPlace 1 ≠ 0 → (b.queue key).inPlace 0 + 64 ≤ b.qshare key → 64 ≤ b.sharedFree (b.holdDie key) →
    let h := b.holdDie key
    let step := fun (acc : (Nat × Bool) × List SUnit) (u : SUnit) =>
      let r := u.segs.foldl (fun (b : (Nat × Bool) × List Seg) g =>
        if g.place = 1 ∧ b.1.2 = false ∧ b.1.1 + g.units ≤ 64 then
          ((b.1.1 + g.units, false), b.2 ++ [{ g with place := 0, acct := acctShared, chargeDie := h, at_ := h }])
        else ((b.1.1, b.1.2 || g.place == 1), b.2 ++ [g])) (acc.1, [])
      (r.1, acc.2 ++ [{ u with segs := r.2 }])
    let r := (b.queue key).units.foldl step ((0, false), [])
    Yields (.pondPageRefill a n) s
      (((((b.modQueue key fun q => { q with units := r.2 }).chargeTo h acctShared r.1.1).countPond key r.1.1).drainPond key).pondSync key).rechain) ∧
  (∀ (a : At) (r : Release) (rest : List Release) (s : State), s.On a 12 →
    let b := s.begun a 12
    (b.die a.die).releases = r :: rest →
    Yields (.chargeRelease a) s ((b.modDie a.die fun x => { x with releases := rest }).freeFrom a.die r.acct r.units)) ∧
  (∀ (a : At) (n : Nat) (s : State), n < 304 → s.On a 13 →
    let b := s.begun a 13
    let key := 512 * a.die + n
    b.aged key = true →
    Yields (.queueAgeDrop a n) s
      (((b.dropHead key).bump (key / 512) F.SWC_AGED_COUNT).raiseLimited (key / 512) 0x307 (key % 512) (ms 1) fun c s =>
        s.raise (key / 512) 11 0x307 2 [(2, queueIndex key), (2, min c 0xFFFF),
          (4, b.get (key / 512) F.SCH_Q_SOJOURN_MAX_SOJOURN (key % 512)),
          (4, (s.now - ((b.queue key).units.head?.map (·.at_)).getD 0) / us 1)])) ∧
  (∀ (a : At) (s : State), s.On a 12 →
    let b := s.begun a 12
    let d := a.die
    let age := b.get d F.SWC_AUDIT_CFG_LEAK_AGE_MS
    let leak := fun (p : Nat × Bobbin) => age != 0 && p.2.refs == 0 && decide (age < b.now / ms 1 - p.2.touch)
    let gone := (b.die d).bobbins.filter leak
    let u := b.modDie d fun x => { x with bobbins := x.bobbins.filter fun p => !leak p }
    let free := 65536 - (u.die d).bobbins.length
    let count := fun (p : Nat → Bool) => ((u.die d).chains.filter fun c => p c.1).foldl (fun n c => n + c.2.length) 0
    let queued := count fun k => decide (k < 2 ^ 16)
    let flight := count fun k => decide (2 ^ 16 ≤ k)
    let v := u.wrap d F.SWC_AUDIT_STATUS_SWEEPS
    let v := if free + queued + flight ≠ 65536 then v.raise d 12 0x302 3 [(4, free), (4, queued), (4, flight)] else v
    b.get d F.SWC_AUDIT_CFG_PERIOD_MS ≠ 0 →
    (gone = [] → Yields (.auditSweep a) s v) ∧
    (∀ n x rest, gone = (n, x) :: rest → Yields (.auditSweep a) s
      ((v.bump d F.SWC_AUDIT_STATUS_LEAKS gone.length).raise d 12 0x301 2
        [(4, n), (2, x.owner), (2, gone.length), (4, b.now / ms 1 - x.touch)])))

/-- A decision at a ready output within a frame sends that frame's next segment, and otherwise drops aged and oversize heads, and
sends the first eligible strict queue's head; a cut-through frame without bytes ends and is counted in CT_UNDERRUN; a sample reads
every queue of the die; a gate boundary shows the entry in force, and at the change time the armed list replaces the running one
with event 0x402. Admitted writes of a multicast branch, of SCH_HIST_CTL and of a policer's rate take effect. (R169, R171, R188,
R194, R199, R200, R202, R204, R208, 07_scheduling_policing_gates.md) -/
def Obligations.SchedulerDecidesSamplesAndGates : Prop :=
  (∀ (a : At) (o q : Nat) (u : SUnit) (g : Seg) (cost : Nat) (s : State), o < 19 → s.On a 13 →
    let b := s.begun a 13
    let d := a.die
    b.outReady d o = true →
    (b.midFrame d o = some q → b.headCost d o q = some (u, g, cost) →
      Yields (.schedDecision a o) s (b.sendHead d o q u g cost)) ∧
    (b.midFrame d o = none →
      let x := (List.range 16).foldl (fun s q => s.ageDrop (512 * d + 16 * o + q)) b
      let x := ((x.dropOversize d o).fetchKeys d o).countGuard d o
      (List.range (x.get d F.SCH_OUT_CFG_NSTRICT o)).find? (fun q => x.eligible d o q) = some q →
      x.transitNext d o (some q == some 0) = false → (x.localTurn d o).headCost d o q = some (u, g, cost) →
      Yields (.schedDecision a o) s ((x.localTurn d o).sendHead d o q u g cost))) ∧
  (∀ (a : At) (m q : Nat) (u : SUnit) (rest : List SUnit) (s : State), m < 4 → s.On a 13 →
    let b := s.begun a 13
    let d := a.die
    let key := 512 * d + 16 * (m + 8) + q
    b.midFrame d (m + 8) = some q → (b.queue key).units = u :: rest → u.segs = [] → u.done = false →
    Table.look (b.die d).busy (m + 8) 0 ≤ b.now →
    Yields (.ctUnderrun a m) s
      ((((b.modQueue key fun x => { x with units := rest }).macSend d m u.idx u.sent true).bump d F.SWC_CT_UNDERRUN_COUNT).raiseLimited
        d 0x30A m (ms 1) fun _ s => s.raise d 11 0x30A 2 [(1, m), (3, 0), (4, ((s.entry? u.idx).map (·.strandId)).getD 0)])) ∧
  (∀ (a : At) (s : State), s.On a 13 →
    let b := s.begun a 13
    Yields (.queueSample a) s
      ((List.range 304).foldl (fun s n => s.sampleQueue a.die n (b.flag a.die F.SCH_HIST_CTL_FREEZE)) b)) ∧
  (∀ (a : At) (o : Nat) (s : State), o < 19 → s.On a 13 →
    let b := s.begun a 13
    let d := a.die
    b.get d F.SCH_OUT_GCL_CTL_GATE_EN o = 1 →
    (Table.find? (b.die d).oldGcl o = none → Yields (.gateEntryChange a o) s (b.showGate d o)) ∧
    (∀ g, Table.find? (b.die d).oldGcl o = some g → g.switchAt ≤ b.now →
      let u := b.modDie d fun x => { x with oldGcl := Table.del x.oldGcl o }
      Yields (.gateEntryChange a o) s (((u.set d F.SCH_OUT_GCL_CTL_CHANGE_ARMED 0 o).raise d o 0x402 1 [(1, o), (1, 0), (2, u.get d F.SCH_OUT_GCL_CTL_GCL_LEN o),
        (8, u.tsAt g.switchAt), (4, u.get d F.SCH_OUT_GCL_CYCLE_CYCLE_NS o)]).showGate d o))) ∧
  (∀ (a : At) (q : Req) (g n : Nat) (v : Word) (s : State), g < 1024 → n < 16 →
    let off := 0x104000 + 0x40 * g + 4 * n
    s.Admits a q off →
    let u := (s.admitted a q off).setWord a.die Reg.SWC_MCG_BR v g n
    Yields (.mcastBranchWrite a q g n v) s
      (if bit v.toNat 31 = true ∧ u.branchOk v.toNat = false then u.set a.die F.SWC_STATUS_BAD_BRANCH 1 else u)) ∧
  (∀ (a : At) (q : Req) (p : Nat) (isCbs : Bool) (v : Word) (s : State), p < 4096 →
    let off := 0x0D0000 + 0x10 * p + 4 * b2n isCbs
    s.Admits a q off →
    let b := s.admitted a q off
    let d := a.die
    let k := (b.policer d p).fill (b.get d F.STR_POL_CIR_CIR p) (b.get d F.STR_POL_CBS_CBS p) b.now
    (isCbs = false → Yields (.policerRateWrite a q p isCbs v) s ((b.putPolicer d p k).writeSkn d Reg.STR_POL_CIR v p)) ∧
    (isCbs = true →
      let u := b.writeSkn d Reg.STR_POL_CBS v p
      Yields (.policerRateWrite a q p isCbs v) s 
        (u.putPolicer d p { k with tokens := if (u.get d F.STR_POL_CBS_CBS p : Int) < k.tokens then u.get d F.STR_POL_CBS_CBS p else k.tokens })))

/-- After an admitted write of SCH_HIST_CTL, FREEZE reads as written, every histogram register of the die reads 0, or as one never
written does, where CLEAR was written, and no register but those, SCH_HIST_CTL and EDDY's end, and no byte, has changed; after an
admitted write of SPD_FREEZE on die 0, HOLD and EXCEPT_FAILOVER read as written and nothing else has changed. The close of a new
window decides the twist on every die whose Spindle spins, and a new boundary makes it fall. (R200, R212, R213, R237, R243,
07_scheduling_policing_gates.md, 08_spindle_placement_policy.md) -/
def Obligations.HistogramAndFreezeWritesReadBack : Prop :=
  (∀ (a : At) (q : Req) (v : Word) (s : State), s.Admits a q 0x14F004 → a.die < 8 →
    (wordGet v 31 31 = 0 → Gives (.histFreeze a q v) s fun t =>
      t.get a.die F.SCH_HIST_CTL_FREEZE = wordGet v 30 30 ∧
      s.OnlyRegs (barAddr a.die (Reg.SCH_HIST_CTL.off 0 0) :: eddyRegs) t ∧ s.SameBytes t ∧ t.out = [] ∧ t.dies = s.dies) ∧
    (wordGet v 31 31 = 1 → Gives (.histClear a q v) s fun t =>
      t.get a.die F.SCH_HIST_CTL_FREEZE = wordGet v 30 30 ∧
      (∀ n, barAddr a.die 0x160000 ≤ n → n < barAddr a.die (0x160000 + 0x80 * 304) → t.reg n = 0 ∨ t.reg n = unlistedReg n) ∧
      (∀ n, (n < barAddr a.die 0x160000 ∨ barAddr a.die (0x160000 + 0x80 * 304) ≤ n) →
        n ∉ barAddr a.die (Reg.SCH_HIST_CTL.off 0 0) :: eddyRegs → t.reg n = s.reg n) ∧ s.SameBytes t)) ∧
  (∀ (a : At) (q : Req) (v : Word) (s : State), s.Admits a q 0x180008 → a.die = 0 →
    Gives (.spdFreezeWrite a q v) s fun t =>
      t.get 0 F.SPD_FREEZE_HOLD = wordGet v 31 31 ∧ t.get 0 F.SPD_FREEZE_EXCEPT_FAILOVER = wordGet v 30 30 ∧
      s.OnlyRegs (barAddr 0 (Reg.SPD_FREEZE.off 0 0) :: eddyRegs) t ∧ s.SameBytes t ∧ t.out = [] ∧ t.dies = s.dies) ∧
  (∀ (a : At) (late : Nat) (tries : List Attempt) (s : State), a.die < s.part.dies → s.clock.stopped = false →
    let b := elapse a s
    b.spd.closed ≠ b.windowNo → b.spinning a.die = true →
    let dies := (List.range b.part.dies).filter b.spinning
    let u := dies.foldl (fun s d => (s.takeSurges d).takeThermal d) b
    let u := dies.foldl (fun s d => (List.range 19).foldl (fun s o => s.watchStrands d o) s) u
    let allots := dies.flatMap fun d => (List.range 19).flatMap fun o => u.decideShares d o
    ∃ moves : List Move, (∀ m ∈ moves, m ∈ u.orders) ∧ (late = 0 → u.spinning 0 = true → moves = u.orders) ∧
      Yields (.twistWindowClose a late tries) s (dies.foldl State.newWindow
        (tries.foldl (fun s t => s.envelope a.die t)
          { u with spd := { u.spd with closed := u.windowNo, allots := allots, moves := moves } }))) ∧
  (∀ (a : At) (missed step : Nat) (codes : List Nat) (s : State), a.die < s.part.dies → s.clock.stopped = false →
    missed < 2 ^ s.part.dies → 1 ≤ step → step ≤ 5 → (elapse a s).boundaryNo ≠ (elapse a s).spd.fell →
    Yields (.twistBoundary a missed step codes) s ((elapse a s).twistFalls missed step codes))

/-- A TICK goes out when it is due in EXCHANGE and on an awake ACTIVE direction whose peer takes it; a valid TICK in ACTIVE records
the neighbour, takes the sample, and steers the hub where its ply is the parent, after a search where there is none. A time frame
goes out every 125 us on a side of the ring that is up, and one with a wrong check is counted. A silent parent is no longer
traceable and another is sought; a holdover over its length becomes CLASS 52. An admitted write of TIM_SET has its effect. A TIM
strand's origin sends every 62.5 ms, and a message at TIM_PARENT's endpoint steers the hub where that strand is the parent. (R255,
R256, R257, R259, R260, R261, R274, 09_time_and_the_basin.md) -/
def Obligations.TimeMessagesAreSentAndTaken : Prop :=
  (∀ (a : At) (k : Nat) (s : State), s.On a 9 → k < 8 →
    let b := s.begun a 9
    let d := a.die
    (b.ply? d k).isSome = true → (b.tlink (plyLink d k)).due ≤ b.now →
    (b.plyState d k = 5 → Yields (.tickSend a k) s (b.sendTick d k (us 1))) ∧
    (b.plyState d k = 6 → b.txState d k = 0 → b.flag d F.PLY_LINK_PEER_CAP_TICK k = true →
      Yields (.tickSend a k) s (b.sendTick d k (ns 62500)))) ∧
  (∀ (a : At) (k : Nat) (blk : List Byte) (s : State) (p : Ply), s.On a 8 → k < 8 → (s.begun a 8).ply? a.die k = some p →
    let d := a.die
    let l := plyLink d k
    (s.begun a 8).plyState d k = 6 → blockFit 3 blk = true → timeFieldsOk blk = true →
    let b := (s.begun a 8).heard a k
    let w := (b.plyLanes d k).length
    let x := b.tlink l
    let corr := fun (i j : Nat) => x.f.getD (tickLane i w) 0 + x.b.getD (tickLane j w) 0
    let u := (b.boundary d k).modLink l fun x => { x with
      heard := true, cls := classOf (byteAt blk 25), hops := byteAt blk 26, gm := (b.boundary d k).get 0 F.TIM_GM_GM }
    let r := u.timeSample l blk corr (signed 16 (b.get d F.PLY_LINK_TCAL_CABLE_ASYM_PS k) * 8 / 1000)
    let v := r.1.set d F.PLY_LINK_TDELAY_DELAY (unsigned 32 (r.1.tlink l).meanDelay) k
    (r.2 = none → Yields (.tickReceive a k blk) s v) ∧
    (∀ offset i j, r.2 = some (offset, i, j) →
      let v := if v.tim.parent.isNone then v.seekParent 3 else v
      Yields (.tickReceive a k blk) s (if v.tim.parent = some l then (v.follow (v.tlink l)).servo offset else v))) ∧
  (∀ (a : At) (port side : Nat) (s : State), a.die < s.part.dies → port < 2 → side < 2 →
    let b := elapse a s
    let l := shlLink port side
    b.runs port 33 = true → b.sideUp port side = true → b.onRing port = true →
    ((b.tlink l).due ≤ b.now →
      let f := sealBlock ((0x02 : Byte) :: b.timeBody l (b.get 0 F.TIM_GM_PRIORITY) (b.get 0 F.TIM_UTC_TAI_UTC) (b.get 0 F.TIM_GM_GM))
      Yields (.timeFrameSend a port side) s ((b.shlSend port side f).departed l (us 125))) ∧
    (∀ blk, blockOk 2 blk = false ∨ timeFieldsOk blk = false →
      Yields (.timeFrameReceive a port side blk) s (b.bump port F.SHL_FRAME_ERR_COUNT)) ∧
    (∀ blk, blockOk 2 blk = true → timeFieldsOk blk = true → side = 1 →
      let u := b.modLink l fun x => { x with
        heard := true, cls := classOf (byteAt blk 25), prio := byteAt blk 13, gm := numAt blk 28 2 % 4096, hops := byteAt blk 26,
        utc := byteAt blk 27 }
      let r := u.timeSample l blk (fun _ _ => 0) 0
      let v := r.1.elect
      ∀ offset i j, v.tim.parent = some l → (v.tlink l).gm = v.get 0 F.TIM_GM_GM → r.2 = some (offset, i, j) →
        Yields (.timeFrameReceive a port side blk) s ((v.follow (v.tlink l)).servo offset))) ∧
  (∀ (a : At) (l : Nat) (s : State), a.die < s.part.dies →
    let b := elapse a s
    b.runs 0 32 = true →
    (b.tim.parent = some l → l < 206 → max b.tim.soughtAt ((b.tlink l).sampleAt.getD 0) + ms 1 ≤ b.now →
      Yields (.parentSilent a) s ((b.modLink l fun x => { x with traceable := false }).seekParent 2).elect) ∧
    (b.tim.parent = none → b.tim.soughtAt + ms 1 ≤ b.now → Yields (.parentSilent a) s b.elect) ∧
    (b.get 0 F.TIM_STATUS_STATE = 3 → b.get 0 F.TIM_STATUS_CLASS = 7 →
      b.tim.lostAt + ms (1000 * b.get 0 F.TIM_CFG_HOLDOVER_S) ≤ b.now →
      Yields (.holdoverExpire a) s (b.set 0 F.TIM_STATUS_CLASS 52).elect)) ∧
  (∀ (a : At) (q : Req) (v : Word) (s : State), s.Admits a q 0x1A0020 →
    Yields (.timSet a q v) s ((s.admitted a q 0x1A0020).writeTimSet a.die v)) ∧
  (∀ (a : At) (idx : Nat) (e : Entry) (s : State), s.On a 32 → idx < 8192 →
    let b := s.begun a 32
    let i := 8192 * a.die + idx
    b.entry? i = some e → e.kind = 5 →
    (e.inType = 3 → e.st = 2 ∨ e.st = 3 → Table.look b.tim.strandDue i 0 ≤ b.now →
      let flags := b2n b.clock.traceable + 2 * b.get 0 F.TIM_UTC_LEAP61 + 4 * b.get 0 F.TIM_UTC_LEAP59
      let m := leBytes 1 1 ++ leBytes 1 flags ++ leBytes 2 (b.get 0 F.TIM_GM_GM) ++ leBytes 8 b.ts ++ leBytes 4 0 ++
        leBytes 1 (b.get 0 F.TIM_STATUS_CLASS) ++ leBytes 1 (b.get 0 F.TIM_STATUS_HOPS) ++
        leBytes 1 (b.get 0 F.TIM_UTC_TAI_UTC) ++ leBytes 1 (b.get 0 F.TIM_GM_PRIORITY) ++ leBytes 12 0
      Yields (.timMessageSend a idx) s
        (State.offerFrame { b with tim := { b.tim with strandDue := Table.put b.tim.strandDue i (b.now + us 62500) } } i m)) ∧
    (∀ msg, e.outType = 3 → msg.length = 32 → byteAt msg 0 = 1 → tsOk (numAt msg 4 8) = true →
      i = b.get 0 F.TIM_PARENT_STRAND_TIM_PARENT → b.flag 0 F.TIM_CFG_TIM_PARENT_EN = true → b.tim.parent = some 200 →
      let flags := byteAt msg 1
      let u := b.modLink 200 fun x => { x with
        heard := true, traceable := bit flags 0, gm := numAt msg 2 2 % 4096, cls := classOf (byteAt msg 16),
        hops := byteAt msg 17, utc := byteAt msg 18, prio := byteAt msg 19, sampleAt := some b.now }
      let v := (u.set 0 F.TIM_UTC_LEAP61 (b2n (bit flags 1))).set 0 F.TIM_UTC_LEAP59 (b2n (bit flags 2))
      Yields (.timMessageReceive a idx msg) s
        ((v.follow (v.tlink 200)).servo ((qOf (numAt msg 4 8) 0 + numAt msg 12 4 : Nat) - (q16 v.now : Int)))))

/-- An IRIG frame that is not valid is shown in SEEN and handled as one; a valid one of a new format holds for 200 ms in state 3; the
loss of IRIG after 1.5 s clears the state and SEEN; the end of a format's hold gives state 2 after three frames in a row and 1
otherwise. A PPS edge more than 10 us off the second is counted and raises 0x607, and one within it that does not lock is only
remembered. The PPS output rises at its second while it is enabled and the time traceable, once a second, and falls WIDTH_MS
later. (R262, R263, R264, R265, 09_time_and_the_basin.md) -/
def Obligations.IrigAndPpsAreTakenAndGiven : Prop :=
  ∀ (a : At) (s : State), a.die < s.part.dies →
  let b := elapse a s
  b.runs 0 32 = true →
  (∀ fmt ok bcd ctl ago, fmt < 8 →
    let u : State := { b with tim := { b.tim with irigAt := b.now } }
    let v := u.set 0 F.TIM_IRIG_STATUS_SEEN fmt
    let want := b.get 0 F.TIM_IRIG_CFG_FORMAT
    (ok = false ∨ (want ≠ 8 ∧ want ≠ fmt) → Yields (.irigFrame a fmt ok bcd ctl ago) s v.irigInvalid) ∧
    (ok = true → want = 8 ∨ want = fmt → b.flag 0 F.TIM_IRIG_CFG_IEEE1344 = false → 4 ≤ fmt → bcd.length = 5 →
      bcd.getD 0 0 ≤ 60 → bcd.getD 1 0 ≤ 59 → bcd.getD 2 0 ≤ 23 → 1 ≤ bcd.getD 3 0 → bcd.getD 3 0 ≤ 365 → bcd.getD 4 0 ≤ 99 →
      b.get 0 F.TIM_IRIG_STATUS_SEEN ≠ 15 → b.get 0 F.TIM_IRIG_STATUS_SEEN ≠ fmt →
      let utc := (daysTo (2000 + bcd.getD 4 0) + bcd.getD 3 0 - 1) * 86400 + bcd.getD 2 0 * 3600 + bcd.getD 1 0 * 60 + bcd.getD 0 0
      let w : State := { v with tim := { v.tim with irigRun := 1, irigSec := utc, irigBad := 0, irigHold := v.now + ms 200 } }
      (w.irigState 3).get 0 F.TIM_IRIG_STATUS_STATE ≠ 2 →
      Yields (.irigFrame a fmt ok bcd ctl ago) s (w.irigState 3))) ∧
  (b.get 0 F.TIM_IRIG_STATUS_STATE ≠ 0 → b.tim.irigAt + ms 1500 ≤ b.now →
    Yields (.irigLoss a) s ((State.irigState { b with tim := { b.tim with irigRun := 0, irigBad := 0 } } 0).set 0 F.TIM_IRIG_STATUS_SEEN 15)) ∧
  (b.get 0 F.TIM_IRIG_STATUS_STATE = 3 → b.tim.irigHold ≤ b.now →
    Yields (.irigFormatHoldEnd a) s (b.irigState (if b.tim.irigRun = 3 then 2 else 1))) ∧
  (let t := b.now - deglitchPs (b.get 0 F.PIN_DEGLITCH_PPS_IN)
   let whole := (t + 1000000000000 / 2) / 1000000000000
   let err : Int := (t : Int) - (whole * 1000000000000 : Nat)
   (b.flag 0 F.TIM_PPS_STATUS_IN_VALID = true → us 10 < err.natAbs →
     Yields (.ppsInEdge a) s ((b.bump 0 F.TIM_PPS_STATUS_OUT_OF_WINDOW).raise 0 32 0x607 2 [(4, unsigned 32 (err / 1000))])) ∧
   (b.flag 0 F.TIM_PPS_STATUS_IN_VALID = false → b.tim.ppsAt = none →
     Yields (.ppsInEdge a) s { b with tim := { b.tim with ppsAt := some t } })) ∧
  (let no := (((b.now : Int) - 1000 * signed 20 (b.get 0 F.TIM_PPS_CFG_OFFSET_NS)) / 1000000000000).toNat
   (b.flag 0 F.TIM_PPS_CFG_OUT_EN = true → b.clock.traceable = true → b.tim.ppsHigh = false → b.tim.ppsNo ≠ some no →
     Yields (.ppsOutPulse a true) s
       (State.emit { b with tim := { b.tim with ppsHigh := true, ppsNo := some no, ppsRose := b.now } } (.ppsOut true))) ∧
   (b.tim.ppsHigh = true → b.tim.ppsRose + ms (b.get 0 F.TIM_PPS_CFG_WIDTH_MS) ≤ b.now →
     Yields (.ppsOutPulse a false) s (State.emit { b with tim := { b.tim with ppsHigh := false } } (.ppsOut false))))

/-- On a port whose island runs: a side that comes up or goes down on a port that is on raises 0x609 and asks for enumeration; the
root hub releases a barrier at its deadline; a held ARRIVE is dropped after its second; the origin starts an enumeration when it
is due, and where it does not return within 1 ms goes on upstream or ends as a chain; a hub at the lowest address of 64 takes over
as the origin after 300 ms; an ENUM frame with a wrong check is counted and a spread ENUM travels on; a Spillway opens with event
0x615; an admitted write of SHL_PORT_STATUS sets SPILL_FORCE and closes the Spillway where it is 1. (R248, R249, R250, R252, R269,
09_time_and_the_basin.md) -/
def Obligations.ShorelineEnumeratesAndOpensSpillways : Prop :=
  (∀ (a : At) (port side : Nat) (s : State), a.die < s.part.dies → port < 2 → side < 2 →
    let b := elapse a s
    b.runs port 33 = true → b.portOn port = true →
    (b.sideUp port side = false →
      let u := (b.set port (if side = 0 then F.SHL_PORT_STATUS_IN_UP else F.SHL_PORT_STATUS_OUT_UP) 1).raise 0 33 0x609 1
        [(1, port), (1, side), (1, 1)]
      Yields (.shlSideUp a port side) s ((u.modLink (shlLink port side) fun _ => { due := u.now }).wantEnum port)) ∧
    (b.sideUp port side = true →
      let u := (b.set port (if side = 0 then F.SHL_PORT_STATUS_IN_UP else F.SHL_PORT_STATUS_OUT_UP) 0).raise 0 33 0x609 1
        [(1, port), (1, side), (1, 0)]
      Yields (.shlSideDown a port side) s ((u.linkLost (shlLink port side)).wantEnum port)) ∧
    (b.isOrigin port = true → b.conflict = false → (b.port port).due ≤ b.now →
      let u := b.enumEndsBarrier port
      let n := ((u.port port).seq + 1) % 65536
      let v := u.modPort port fun x => { x with
        seq := n, due := u.now + ms 100, wait := some (u.now + ms 1), chained := false, down := [] }
      Yields (.enumStart a port) s (v.shlSend port 1 (enumFrame 0 (v.get 0 F.SHL_ID_BASIN_ID) v.hubAddr n [v.ownEntry port] []))) ∧
    (b.sideUp port side = true → b.onRing port = true →
      (∀ blk, enumOk blk = false → Yields (.enumFrameReceive a port side blk) s (b.bump port F.SHL_FRAME_ERR_COUNT)) ∧
      (∀ blk, enumOk blk = true → b.isOrigin port = false → b.hubAddr ≤ numAt blk 4 2 % 4096 → bit (byteAt blk 1) 3 = true →
        Yields (.enumFrameReceive a port side blk) s (b.shlSend port (1 - side) blk)) ∧
      (∀ blk, enumOk blk = true → b.isOrigin port = false → b.hubAddr ≤ numAt blk 4 2 % 4096 → bit (byteAt blk 1) 3 = false →
        bit (byteAt blk 1) 0 = true →
        let u := if (b.port port).doneSeq = some (numAt blk 6 2) then b
          else (b.learnRing port (enumEntries blk) (bit (byteAt blk 1) 1) (numAt blk 2 2) (numAt blk 4 2 % 4096) (numAt blk 6 2)).takeHistory
            (enumHistory blk)
        Yields (.enumFrameReceive a port side blk) s (u.shlSend port (1 - side) blk))) ∧
    (b.pkg.recovery = false → b.pwrStep = 0 → b.flag port F.SHL_PORT_STATUS_SPILL_FORCE = false → (b.port port).open_ = false →
      let u := (b.modPort port fun x => { x with open_ := true }).emit (.spillCtl port true)
      Yields (.spillwayOpen a 0 port) s ((u.raise 0 33 0x615 1 [(1, 0), (1, port), (1, 0), (1, 0)]).wantEnum port))) ∧
  (∀ (a : At) (port t : Nat) (s : State), a.die < s.part.dies → port < 2 →
    let b := elapse a s
    b.runs port 33 = true → (b.port port).wait = some t → t ≤ b.now →
    let u := b.modPort port fun x => { x with wait := none, chained := true }
    Yields (.enumReturnTimeout a port) s (if u.sideUp port 0 = true then
      u.shlSend port 0 (enumFrame 4 (u.get 0 F.SHL_ID_BASIN_ID) u.hubAddr (u.port port).seq [u.ownEntry port] [])
      else u.enumDone port (u.ownEntry port :: (u.port port).down) true)) ∧
  (∀ (a : At) (s : State), a.die < s.part.dies →
    let b := elapse a s
    (b.runs 0 33 = true →
      (∀ x, b.shl.barrier = some x → b.isOrigin 0 = true → x.deadline ≤ b.now →
        Yields (.barrierDeadline a) s (State.release { b with shl := { b.shl with barrier := none } } x.opId 0 1)) ∧
      (∀ opId, Yields (.arriveHoldExpire a opId) s
        { b with shl := { b.shl with held := b.shl.held.filter fun h => !(h.1 == opId && decide (h.2 ≤ b.now)) } }) ∧
      (b.hubAddr % 64 = 0 → b.isOrigin 0 = false → b.conflict = false → b.shl.lowAt + ms 300 ≤ b.now →
        Yields (.originTakeover a) s { b with shl := { b.shl with origin := true, a := { b.shl.a with due := b.now } } })) ∧
    (∀ port, port < 2 → b.pkg.recovery = false → b.pwrStep = 0 → b.runs 0 21 = true → b.runs 0 22 = true → b.runs 0 33 = true →
      b.shl.ethOpen = false →
      Yields (.spillwayOpen a 1 port) s (State.raise { b with shl := { b.shl with ethOpen := true } } 0 33 0x615 1
        [(1, 1), (1, 0), (1, 0), (1, 0)]))) ∧
  (∀ (a : At) (q : Req) (v : Word) (s : State), s.Admits a q 0x1B0000 → a.die < 2 →
    let u := (s.admitted a q 0x1B0000).set a.die F.SHL_PORT_STATUS_SPILL_FORCE (wordGet v 29 29)
    Yields (.spillForce a q v) s (if wordGet v 29 29 = 1 then u.spillClose a.die 6 else u))

/-- A Ripple with a wrong check is counted and passed on while its TTL allows; one of an unknown operation is counted in RIPPLE_ERR; a
hub-local one for this ring is forwarded with its TTL less 1 and acted on. An admitted write of SHL_CMD on die 0 without an
address conflict: BROADCAST sends Ripple 1 and raises 0x60C, BARRIER_OPEN sends Ripple 2 and opens the barrier, BARRIER_ARRIVE of
a participant joins the barrier of its OP_ID or is held for 1 s, SNAPSHOT and RESET schedule operations 5 and 6; with a conflict
the first three end with RESULT 3. SNAP_ACK clears VALID and OVERWRITE. A scheduled operation fires at its time. (R248, R266,
R267, R268, R269, R270, 09_time_and_the_basin.md) -/
def Obligations.RipplesAndShorelineCommandsTakeEffect : Prop :=
  (∀ (a : At) (port side : Nat) (m : List Byte) (s : State), a.die < s.part.dies → port < 2 → side < 2 →
    let b := elapse a s
    let op := byteAt m 0 / 16
    let basin := bit (byteAt m 0) 0
    let failed := bit (byteAt m 0) 1
    let ttl := byteAt m 1
    let origin := numAt m 2 2 % 4096
    let opId := numAt m 4 2
    let arg := (m.drop 6).take 8
    b.runs port 33 = true → b.portOn port = true → b.sideUp port side = true → b.onRing port = true →
    (m.length ≠ 16 ∨ numAt m 14 2 ≠ crc16 (m.take 14) →
      let u := b.bump port F.SHL_FRAME_ERR_COUNT
      Yields (.rippleReceive a port side m) s
        (if 1 < ttl ∧ u.sideUp port (1 - side) = true then u.emit (.shoreline port (1 - side) m true) else u)) ∧
    (m.length = 16 → numAt m 14 2 = crc16 (m.take 14) →
      (op = 0 ∨ 7 ≤ op → Yields (.rippleReceive a port side m) s
        ((b.bump 0 F.SHL_RIPPLE_ERR_COUNT).raiseLimited 0 0x614 port (ms 1000) fun _ s => s.raise 0 33 0x614 2 [(1, port), (1, op)])) ∧
      (1 ≤ op → op < 7 → basin = false →
        let u := if 1 < ttl ∧ op ≠ 3 then b.shlSend port (1 - side) (rippleBytes op basin failed (ttl - 1) origin opId arg) else b
        Yields (.rippleReceive a port side m) s (u.actOn a port side op basin failed origin opId arg)))) ∧
  (∀ (a : At) (q : Req) (v : Word) (s : State), s.Admits a q 0x1B0020 → a.die = 0 →
    let b := s.admitted a q 0x1B0020
    let basin := wordGet v 27 27 == 1
    let opId := wordGet v 15 0
    (wordGet v 31 28 = 1 → Yields (.shlBroadcast a q v) s (if b.conflict = true then b.shlDone 3 else
      ((b.ripple 1 basin false opId (leBytes 8 b.cmdArg)).raise 0 33 0x60C 0 [(2, b.hubAddr), (2, opId), (8, b.cmdArg)]).shlDone 0)) ∧
    (wordGet v 31 28 = 2 →
      let t := b.now + us (b.cmdArg % 2 ^ 32)
      Yields (.barrierOpen a q v) s (if b.conflict = true then b.shlDone 3 else
        ((b.ripple 2 true false opId (leBytes 8 (b.tsAt t))).openBarrier opId t).shlDone 0)) ∧
    (wordGet v 31 28 = 3 →
      (b.conflict = true → Yields (.barrierArrive a q v) s (b.shlDone 3)) ∧
      (b.conflict = false → b.flag 0 F.SHL_CFG_BARRIER_PART = false → Yields (.barrierArrive a q v) s (b.shlDone 4)) ∧
      (b.conflict = false → b.flag 0 F.SHL_CFG_BARRIER_PART = true →
        let hold : State := { b with shl := { b.shl with held := b.shl.held ++ [(opId, b.now + ms 1000)] } }
        (b.shl.barrier = none → Yields (.barrierArrive a q v) s (hold.shlDone 0)) ∧
        (∀ x, b.shl.barrier = some x → Yields (.barrierArrive a q v) s ((if x.opId = opId then
          State.barrierStep { b with shl := { b.shl with barrier := some { x with arrived := true } } } false else hold).shlDone 0)))) ∧
    (wordGet v 31 28 = 4 → Yields (.shlSnapshot a q v) s (b.schedule 5 basin opId)) ∧
    (wordGet v 31 28 = 5 → Yields (.shlReset a q v) s (b.schedule 6 basin opId))) ∧
  (∀ (a : At) (q : Req) (v : Word) (s : State), s.Admits a q 0x1B0040 → a.die = 0 → wordGet v 29 29 = 1 →
    Yields (.snapAck a q v) s (((s.admitted a q 0x1B0040).set 0 F.SHL_SNAP_CTL_VALID 0).set 0 F.SHL_SNAP_CTL_OVERWRITE 0)) ∧
  (∀ (a : At) (x : SchedOp) (s : State), s.On { a with die := 0 } 33 →
    let b := s.begun { a with die := 0 } 33
    b.dueOp = some x →
    let u : State := { b with shl := { b.shl with ops := b.shl.ops.erase x } }
    (x.op = 5 → Yields (.scheduledOpFire a) s (u.snapshot x)) ∧
    (x.op = 6 → Yields (.scheduledOpFire a) s (if u.flag 0 F.SHL_CFG_RESET_RIPPLE_EN = true then u.fireReach 8 0 33 else u)))

/-- An admitted write of SHL_RRA_CMD on die 0 while RRA is not BUSY sends the request with a new TAG, sets BUSY and starts the wait;
its end without a response sets BUSY 0 and RESULT FFH, counts SEQ and raises 0x612. A request that reaches a hub for it is served
as the Shoreline requester's, a response is matched to what was asked, and a frame of a wrong check is counted. On the SMBus an
address that is not the hub's is not acknowledged, a command other than 1 or a busy port is acknowledged only at the address, a
wrong PEC only up to it, and a good message is taken; a Block Read gives the response once. (R271, R272, R273, R490, R491,
09_time_and_the_basin.md, 19_register_map.md) -/
def Obligations.RemoteAccessAndSmbusAnswer : Prop :=
  (∀ (a : At) (q : Req) (v : Word) (s : State), s.Admits a q 0x1B0800 → a.die = 0 →
    let b := s.admitted a q 0x1B0800
    let op := wordGet v 31 28
    b.flag 0 F.SHL_RRA_STATUS_BUSY = false → op = 1 ∨ op = 2 →
    let near := wordGet v 11 11 == 1
    let dst := if near = true then 0 else wordGet v 23 12
    let count := wordGet v 8 0
    let addr := b.get 0 F.SHL_RRA_ADDR_ADDRESS
    let tag := (b.shl.tag + 1) % 65536
    let data := if op = 2 then (List.range (min count 256)).map fun i => b.word 0 Reg.SHL_RRA_DATA i else []
    let msg := mgtBytes op 0 tag b.hubAddr dst near addr count data
    let wait := 100000000 * b.get 0 F.SHL_CFG_REMOTE_TIMEOUT_100US
    let u := State.set { b with shl := { b.shl with tag := tag, remote := some ⟨tag, op, dst, addr, count, b.now + wait⟩ } } 0 F.SHL_RRA_STATUS_BUSY 1
    let t := if near = true then u.mgtHop 0 (wordGet v 26 24) msg
      else if wordGet v 27 27 = 1 then u.mgtStrand (u.get 0 F.SHL_RRA_STRAND_INDEX) msg else u.mgtShoreline dst msg
    (op = 1 → Yields (.rraRead a q v) s t) ∧ (op = 2 → Yields (.rraWrite a q v) s t)) ∧
  (∀ (a : At) (r : Remote) (s : State), s.On { a with die := 0 } 33 →
    let b := s.begun { a with die := 0 } 33
    b.shl.remote = some r → r.deadline ≤ b.now →
    let u : State := { b with shl := { b.shl with remote := none } }
    Yields (.remoteTimeout a) s ((((u.set 0 F.SHL_RRA_STATUS_BUSY 0).set 0 F.SHL_RRA_STATUS_RESULT 0xFF).wrap 0 F.SHL_RRA_STATUS_SEQ).raise
      0 33 0x612 2 [(2, r.dst), (1, r.op), (1, 0), (4, r.addr)])) ∧
  (∀ (a : At) (side : Nat) (msg : List Byte) (w : Around) (s : State), a.die < s.part.dies → a.die < 2 → side < 2 → msg.length ≤ 2048 →
    let b := elapse a s
    let p := a.die
    let m := mgtOfFrame msg
    b.runs p 33 = true → b.portOn p = true → b.sideUp p side = true →
    (mgtFrameOk msg = false →
      Yields (.mgtRequestReceive a (.shoreline p side) msg w) s (b.bump p F.SHL_FRAME_ERR_COUNT) ∧
      Yields (.mgtResponseReceive a (.shoreline p side) msg) s (b.bump p F.SHL_FRAME_ERR_COUNT)) ∧
    (mgtFrameOk msg = true → msgNeighbour m = false → b.onRing p = true → msgDst m ≠ b.hubAddr →
      Yields (.mgtRequestReceive a (.shoreline p side) msg w) s (b.mgtForward (msgDst m) msg) ∧
      Yields (.mgtResponseReceive a (.shoreline p side) msg) s (b.mgtForward (msgDst m) msg)) ∧
    (mgtFrameOk msg = true → msgNeighbour m = false → b.onRing p = true → msgDst m = b.hubAddr →
      (msgOp m = 1 ∨ msgOp m = 2 → Yields (.mgtRequestReceive a (.shoreline p side) msg w) s
        (b.takeRequest a .shl (.via (.shoreline p side) p) false m w)) ∧
      (msgOp m = 3 ∨ msgOp m = 4 → Yields (.mgtResponseReceive a (.shoreline p side) msg) s (b.takeResponse a m)))) ∧
  (∀ (a : At) (addr cmd : Nat) (s : State), s.On a 41 → a.die = 0 → addr < 128 → cmd < 256 →
    let b := s.begun a 41
    (∀ data ok w, data.length < 256 →
      (b.smbAnswers addr = false → Yields (.smbBlockWrite a addr cmd data ok w) s (b.emit (.smbAck 0))) ∧
      (b.smbAnswers addr = true → cmd ≠ 1 ∨ b.smbBusy = true → Yields (.smbBlockWrite a addr cmd data ok w) s (b.emit (.smbAck 1))) ∧
      (b.smbAnswers addr = true → cmd = 1 → b.smbBusy = false →
        (ok = false → Yields (.smbBlockWrite a addr cmd data ok w) s (b.emit (.smbAck 2))) ∧
        (ok = true → 16 ≤ data.length → msgOp data = 1 ∨ msgOp data = 2 →
          let u := b.emit (.smbAck 3)
          Yields (.smbBlockWrite a addr cmd data ok w) s
            (State.takeRequest a { u with access := { u.access with response := none } } .smb .smb false data w)))) ∧
    (b.smbAnswers addr = false → Yields (.smbBlockRead a addr cmd) s (b.emit (.smbAck 0))) ∧
    (b.smbAnswers addr = true → cmd ≠ 2 → Yields (.smbBlockRead a addr cmd) s (b.emit (.smbAck 1))) ∧
    (b.smbAnswers addr = true → cmd = 2 → Yields (.smbBlockRead a addr cmd) s
      (State.emit { b with access := { b.access with response := none } } (.smbData (b.access.response.getD [])))))

/-- A replay on a splice of this die is counted; a splice that goes down drops what crosses it, is counted at both ends, recomputes
the routes and raises 0x012; one that comes up raises 0x013. A running island whose clock leaves its window loses CLK_OK, is
recorded in the fault register and raises 0x010. A waiting record is taken; an outlet signals when its time has run, leaves
overrun with its marker when it has room, and is enabled or disabled by its CFG; a doorbell is taken or raises 0x003; Bus Master
Enable and an unmasked vector let what is pending go; EVT_TEST with a severity of at most 4 raises 0x00F. (R21, R25, R74, R77,
R82, R83, R85, R87, 01_one_part_many_dies.md, 03_outlets_and_events.md) -/
def Obligations.SplicesOutletsAndIslandFaultsMoveOn : Prop :=
  (∀ (a : At) (port : Nat) (s : State), s.On a (14 + port) → s.spliceHere a.die port = true →
    let b := s.begun a (14 + port)
    let d := a.die
    Yields (.spliceReplay a port) s (b.bump d F.GLB_SPLICE_STATUS_REPLAY_COUNT 1 port) ∧
    (b.flag d F.GLB_SPLICE_STATUS_UP port = true →
      let far := b.spliceFar d port
      let r := b.dropCrossing d port
      let u := State.reroute (((r.1.setSplice d port false).bump d F.GLB_SPLICE_STATUS_DOWN_COUNT 1 port).bump far.1
        F.GLB_SPLICE_STATUS_DOWN_COUNT 1 far.2)
      let cut := u.pkg.diesCut != 0
      Yields (.spliceDown a port) s (u.raise d (14 + port) 0x012 (if cut then 4 else 2) [(1, far.1), (1, b2n (!cut)), (2, 0), (4, r.2)])) ∧
    (b.flag d F.GLB_SPLICE_STATUS_UP port = false →
      Yields (.spliceUp a port) s ((((b.setSplice d port true).reroute).resend).raise d (14 + port) 0x013 1 [(1, (b.spliceFar d port).1)]))) ∧
  (∀ (a : At) (isl kind : Nat) (s : State), s.On a isl → isl < 44 → kind < 3 →
    let b := s.begun a isl
    let d := a.die
    let u := (b.setClk d isl false).modIslands d fun i => { i with faultAt := Table.put i.faultAt isl b.ts }
    let r := if isl < 32 then Reg.CLK_ISLAND_FAULT_LO else Reg.CLK_ISLAND_FAULT_HI
    Yields (.clkIslandFault a isl kind) s ((u.setWord d r (u.word d r ||| BitVec.ofNat 32 (2 ^ (isl % 32)))).raise d isl 0x010 3
      [(1, isl), (1, kind)])) ∧
  (∀ (a : At) (s : State), s.On a 35 →
    let b := s.begun a 35
    (∀ k i e, b.acceptIndex a.die k = some i → b.evt.raised[i]? = some e →
      Yields (.outletRecordAccept a k) s (State.acceptEvent { b with evt := { b.evt with raised := b.evt.raised.eraseIdx i } } e)) ∧
    (∀ m, m < 128 →
      let p := a.die * 128 + m
      let o := b.outlet p
      let t := b.get a.die F.EVT_OUT_MOD_TIME_US m
      (b.flag a.die F.EVT_OUT_STATUS_ENABLED m = true → t ≠ 0 → o.pending ≠ 0 → o.due = false → o.firstAt + us t ≤ b.now →
        Yields (.outletModTimer a m) s (b.signal p)) ∧
      (b.flag a.die F.EVT_OUT_STATUS_ENABLED m = true → b.flag a.die F.EVT_OUT_STATUS_OVERRUN m = true → b.busMaster (b.outletOwner p) = true → b.outstanding p + 2 ≤ b.ringSize p →
        let e : Event := ⟨0x002, 1, a.die, m, b.outletOwner p, false, b.ts, payload [(4, o.lostNow), (8, o.lastLostTs)], false, false⟩
        let u := (b.set a.die F.EVT_OUT_STATUS_OVERRUN 0 m).putOutlet p { o with lostNow := 0 }
        Yields (.outletResumed a m) s ((u.journalCopy e).writeAndSignal p e)))) ∧
  (∀ (a : At) (q : Req) (m : Nat) (v : Word) (s : State), m < 128 →
    (s.Admits a q (0x051010 + 0x40 * m) →
      let b := s.admitted a q (0x051010 + 0x40 * m)
      (wordGet v 31 31 = 1 → Yields (.outletEnable a q m v) s (b.enableOutlet a.die m v)) ∧
      (wordGet v 31 31 = 0 → Yields (.outletDisable a q m v) s ((b.writeOutletCfg a.die m v).disableOutlet a.die m))) ∧
    (s.Admits a q (0x051020 + 0x40 * m) →
      let b := s.admitted a q (0x051020 + 0x40 * m)
      let P := b.get a.die F.EVT_OUT_PRODUCER_P m
      let left := (P + 2 ^ 32 - v.toNat) % 2 ^ 32
      Yields (.outletDoorbell a q m v) s (if left ≤ b.outstanding (a.die * 128 + m) then
          (b.set a.die F.EVT_OUT_DOORBELL_C v.toNat m).set a.die F.EVT_OUT_STATUS_OUTSTANDING left m
        else (b.set a.die F.EVT_OUT_STATUS_BAD_DOORBELL 1 m).raise a.die m 0x003 2
          [(2, a.die * 128 + m), (1, b.outletOwner (a.die * 128 + m)), (1, 0), (4, v.toNat), (4, P)]))) ∧
  (∀ (a : At) (f : Nat) (s : State), a.die < s.part.dies → (elapse a s).isFunction f = true →
    let b := elapse a s
    let u : State := { b with evt := { b.evt with bme := Table.put b.evt.bme f true },
                              vfn := { b.vfn with hostEn := Table.put b.vfn.hostEn f true } }
    Yields (.busMasterEnableSet a f) s (if b.busMaster f then u else
      State.sendWaiting ((List.range (u.part.dies * 128)).foldl (fun s p =>
        if s.flag (p / 128) F.EVT_OUT_STATUS_ENABLED (p % 128) && s.outletOwner p == f && (s.outlet p).pending != 0
        then s.signal p else s) u) f) ∧
    (∀ vec, vec < msixSize f → Yields (.msixVectorUnmask a f vec) s (b.unmask f vec))) ∧
  (∀ (a : At) (q : Req) (v : Word) (s : State), s.Admits a q 0x050004 → wordGet v 18 16 ≤ 4 →
    Yields (.evtTest a q v) s ((s.admitted a q 0x050004).raiseFor (reqFn q) false a.die (reqFn q) 0x00F (wordGet v 18 16)
      [(2, wordGet v 15 0)]))

/-- An admitted write of SKN_PATCH_CMD on die 0: APPLY and APPLY_STORE are refused with the code of the first check that fails, or
start to read host memory; CANCEL is refused where no patch waits, and otherwise drops the patch, ending its APPLY_STORE with code
16H before it completes with 16H; STORE is refused while a command is in progress or its length is out of range, or starts to
read. When the bytes are checked, an APPLY whose patch fails ends with the check's code and offset, one that passes leaves the
patch pending; a STORE whose image fails ends so, one beyond the slot or not newer ends with 4 or 10H, and else its store is
requested. (R61, R62, R63, R64, 02_skein_configuration.md) -/
def Obligations.SkeinCommandsAndChecksComplete : Prop :=
  (∀ (a : At) (q : Req) (v : Word) (s : State), s.Admits a q 0x040038 → a.die = 0 →
    let b := s.admitted a q 0x040038
    (wordGet v 2 0 = 1 →
      (∀ code, b.applyRefusal false = some code → Yields (.sknApply a q v) s (b.sknAnswer 1 code 0)) ∧
      (b.applyRefusal false = none → Yields (.sknApply a q v) s (b.readHost 1))) ∧
    (wordGet v 2 0 = 2 →
      (∀ code, b.applyRefusal true = some code → Yields (.sknApplyStore a q v) s (b.sknAnswer 2 code 0)) ∧
      (b.applyRefusal true = none → Yields (.sknApplyStore a q v) s (b.readHost 2))) ∧
    (wordGet v 2 0 = 3 →
      (b.skn.wait = none → Yields (.sknCancel a q v) s (b.sknAnswer 3 0x18 0)) ∧
      (b.skn.wait ≠ none →
        let u := State.set { b with skn := { b.skn with wait := none } } 0 F.SKN_STATUS_PATCH_PENDING 0
        let u := if u.skn.cmd.any fun c => c.op == 2 then u.sknDone 2 0x16 0 else u
        Yields (.sknCancel a q v) s (u.sknAnswer 3 0x16 0))) ∧
    (wordGet v 2 0 = 4 →
      let len := b.get 0 F.SKN_PATCH_LEN_LEN
      (b.skn.cmd ≠ none → Yields (.sknStore a q v) s (b.sknAnswer 4 0x13 0)) ∧
      (b.skn.cmd = none → Yields (.sknStore a q v) s (if len = 0 ∨ 8388608 < len then b.sknAnswer 4 4 0 else b.readHost 4)))) ∧
  (∀ (a : At) (bytes : List Byte) (c : SknCmd) (s : State), s.On a 39 → a.die = 0 →
    let b := s.begun a 39
    b.skn.cmd = some c →
    (c.op = 1 ∨ c.op = 2 → b.skn.wait = none →
      (∀ f, b.checkPatch (bytes.take c.len) = .error f → Yields (.sknPatchChecked a true bytes) s (b.sknDone c.op f.code f.off)) ∧
      (∀ x, b.checkPatch (bytes.take c.len) = .ok x →
        let due := if tsTraceable c.at_ == b.clock.traceable then some (tsPs c.at_) else none
        let img := (bytes.take c.len).take (imgLength (bytes.take c.len))
        let u := State.set { b with skn := { b.skn with wait := some ⟨img, due, c.op == 2⟩ } } 0 F.SKN_STATUS_PATCH_PENDING 1
        Yields (.sknPatchChecked a true bytes) s (if c.op = 1 then u.sknDone 1 0 0 else u))) ∧
    (c.op = 4 → ∀ codes,
      (∀ f, b.blank.takeImage (bytes.take c.len) = .error f → Yields (.sknStoreChecked a true bytes codes) s (b.sknDone 4 f.code f.off)) ∧
      (∀ x, b.blank.takeImage (bytes.take c.len) = .ok x →
        let img := (bytes.take c.len).take (imgLength (bytes.take c.len))
        let slot := b.storeSlot
        Yields (.sknStoreChecked a true bytes codes) s (
          if exceedsSlot img then b.sknDone 4 4 8
          else if b.serials.any fun n => decide (imgSerial img ≤ n) then b.sknDone 4 0x10 16
          else b.sknRequest 4 { type := 2, what := 1, arg := slot, off := slotAt slot, bytes := img ++ markerOf b.storeSeq img } codes))))

/-- In step 4 with every clock good the boot goes on to step 5, ending the wake request; in step 5 the option bytes' valid copy with
the higher COUNTER is used, or the defaults, and 0x037 is raised where a copy is not valid; after step 9, out of the programmed
state and with no push in progress, BOOT_PUSH starts the load of the boot buffer, and BOOT_PUSH with FETCH by PF0 as bus master
reads a length of 8 to 8 MiB from host memory; the fetched bytes land in the boot buffer, or the push fails. In FLOW with no flush
running, the bytes ahead of the journal log's end are erased. (R426, R427, R429, R431, R432, R437,
16_reset_boot_and_safe_stores.md) -/
def Obligations.BootStepsGoOn : Prop :=
  (∀ (a : At) (boots clks : List Nat) (s : State), a.die < s.part.dies → boots.length = 8 → clks.length = 8 →
    let b := elapse a s
    (∀ i ∈ clockIslands, bit (b.islands 0).ok i = true) → b.pkg.bootStep = 4 →
    let u := if b.tarn.wakeReq then State.emit { b with tarn := { b.tarn with wakeReq := false } } (.wakeReq false) else b
    Yields (.bootClocksReady a boots clks) s (State.readReach { u with pkg := { u.pkg with bootStep := 5 } })) ∧
  (∀ (a : At) (s : State), s.On a 40 → a.die = 0 →
    let b := s.begun a 40
    (b.pkg.bootStep = 5 →
      let copyA := b.cellBytes (optionCopyAt 0) 256
      let copyB := b.cellBytes (optionCopyAt 1) 256
      let next := fun (o : Options) => ({ b with boot := { b.boot with option := o }, pkg := { b.pkg with bootStep := 6 } } : State)
      let a0 := optionsOf 0 copyA
      let b0 := optionsOf 1 copyB
      (optionOk copyA = true → optionOk copyB = true →
        Yields (.optionBytesRead a) s (if b0.counter ≤ a0.counter then next a0 else next b0)) ∧
      (optionOk copyA = true → optionOk copyB = false → Yields (.optionBytesRead a) s ((next a0).raise 0 39 0x037 3 [(1, 2)])) ∧
      (optionOk copyA = false → optionOk copyB = true → Yields (.optionBytesRead a) s ((next b0).raise 0 39 0x037 3 [(1, 1)])) ∧
      (optionOk copyA = false → optionOk copyB = false → Yields (.optionBytesRead a) s ((next {}).raise 0 39 0x037 3 [(1, 3)]))) ∧
    (b.get 0 F.PWR_STATUS_CURRENT = 0 → b.hold.running = none →
      let tail := min 135168 (0x100000 - b.flushEnd)
      Yields (.nvmEraseAhead a) s ((b.eraseCells (journalLog + b.flushEnd) tail).eraseCells journalLog (135168 - tail)))) ∧
  (∀ (a : At) (q : Req) (v : Word) (s : State), s.Admits a q 0x010034 → a.die = 0 →
    let b := s.admitted a q 0x010034
    let n := wordGet v 23 0
    9 ≤ b.pkg.bootStep → b.get 0 F.SKN_STATUS_STATE ≠ 2 → b.boot.pushing = none → b.boot.fetching = none →
    (wordGet v 31 31 = 0 → Yields (.bootPush a q v) s { b with boot := { b.boot with pushing := some n } }) ∧
    (wordGet v 31 31 = 1 → q = .pf0 →
      (b.busMaster 0 = false → Yields (.bootPushFetch a q v) s (b.pushFailed ⟨1, 0, 0⟩)) ∧
      (b.busMaster 0 = true → n ≠ 0 → n ≤ 8388608 → n % 8 = 0 → Yields (.bootPushFetch a q v) s
        (State.emit { b with boot := { b.boot with fetching := some n } }
          (.hostRead 0 (b.pair 0 Reg.RST_BOOT_HOST_LO Reg.RST_BOOT_HOST_HI) n))))) ∧
  (∀ (a : At) (n : Nat) (ok : Bool) (bytes : List Byte) (s : State), s.On a 39 → a.die = 0 →
    let b := s.begun a 39
    b.boot.fetching = some n →
    Yields (.bootFetchDone a ok bytes) s (if ok = true ∧ bytes.length = n then
      State.setCells { b with boot := { b.boot with fetching := none, pushing := some n } } (bootCell 0) bytes
      else b.pushFailed ⟨1, 0, 0⟩))

/-- On a port whose link is up: a frame shorter than 64 bytes, longer than MAX_FRAME, with a wrong FCS outside HSR, or a PAUSE frame
is counted and goes no further, any other is received; a PTP message is received as a frame. A link change outside sleep is taken.
Old duplicate entries are forgotten; supervision frames go out for the hub's address and its proxies when due. An admitted SA
command with a good NEXT_PN, key and number installs, one of OP 2 for a held SA retires; TX_AN is as written; the PTP timers of
the port's role send; a silent master is forgotten and the BMCA runs; an old residence is dropped. (R277, R280, R289, R291, R294,
R296, R298, R299, 10_station_ethernet.md) -/
def Obligations.StationPortsTakeTheirCommands : Prop :=
  (∀ (a : At) (m : Nat) (s : State), s.On a (21 + m) → m < 4 →
    let b := s.begun a (21 + m)
    let d := a.die
    (b.flag d F.ETH_STATUS_LINK m = true → ∀ f opened ok,
      (f.length < 64 → Yields (.ethFrameReceive a m f opened ok) s (b.rxError d m F.ETH_RX_RUNT_COUNT 2)) ∧
      (64 ≤ f.length → b.get d F.ETH_CFG_MAX_FRAME m < f.length →
        Yields (.ethFrameReceive a m f opened ok) s (b.rxError d m F.ETH_RX_OVERSIZE_COUNT 3)) ∧
      (64 ≤ f.length → f.length ≤ b.get d F.ETH_CFG_MAX_FRAME m →
        (fcsOk f = false → m = 2 ∨ m = 3 → Yields (.ethFrameReceive a m f opened ok) s (b.rxError d m F.ETH_RX_FCS_ERR_COUNT 1)) ∧
        (fcsOk f = true → isPause f = true → Yields (.ethFrameReceive a m f opened ok) s (b.rxError d m F.ETH_RX_PAUSE_COUNT 5)) ∧
        (fcsOk f = true → isPause f = false → Yields (.ethFrameReceive a m f opened ok) s (b.receiveFrame d m a.cyc f opened ok))) ∧
      (isPtp (if b.flag d F.ETH_MSEC_CTL_EN m then f.take 12 ++ opened else f) = true →
        Yields (.ptpMessageReceive a m f opened ok) s (b.receiveFrame d m a.cyc f opened ok))) ∧
    (∀ up speed an, up = false ∨ b.sleeping = false → Yields (.ethLink a m up speed an) s (b.ethLink d m up speed an)) ∧
    (∀ key,
      let rest := (Table.look (b.die d).residences m []).filter fun y => y.key != key || !fallen b y.until_
      Yields (.ptpFollowupExpire a m key) s (b.modDie d fun x => { x with residences := Table.put x.residences m rest })) ∧
    (b.ptpRole d m = 1 → b.flag d F.ETH_STATUS_LINK m = true → (b.ptpPort d m).heardAt + ms 3000 ≤ b.now →
      Yields (.ptpAnnounceTimeout a m) s
        (b.modPtp d m fun x => { x with foreign := x.foreign.filter fun y => decide (b.now < y.at_ + ms 3000) }).bmca) ∧
    (∀ kind, kind < 3 → b.flag d F.ETH_STATUS_LINK m = true → (b.ptpPort d m).due.getD kind 0 ≤ b.now →
      let n := ((b.ptpPort d m).seqs.getD kind 0 + 1) % 65536
      let dom := b.ptpDomain d m
      let id := b.portId d m
      let t := b.ptpOut d m
      let u := b.modPtp d m fun x => { x with due := x.due.set kind (b.now + ms 1000), seqs := x.seqs.set kind n }
      (kind = 0 → b.ptpRole d m = 1 → b.ptpState d m = 2 →
        let cls := u.get 0 F.TIM_STATUS_CLASS
        let tlv := if u.get d F.ETH_PTP_CFG_PROFILE m = 1 then Config.profileTlvs (u.get 0 F.TIM_GM_GM) else []
        let body := ptpTime t ++ beBytes 2 (u.get 0 F.TIM_UTC_TAI_UTC) ++ beBytes 1 0 ++
          beBytes 1 (u.get 0 F.TIM_GM_PRIORITY) ++ beBytes 1 cls ++ beBytes 1 (accuracyOf cls) ++
          beBytes 2 Config.ptpVariance.toNat ++ beBytes 1 128 ++ beBytes 8 u.basinClock ++
          beBytes 2 (u.get 0 F.TIM_STATUS_HOPS) ++ beBytes 1 0xA0 ++ tlv
        Yields (.ptpIntervalTimer a m kind) s (u.ptpSend d m (ptpMsg 0xB false dom 0 id n 0 body))) ∧
      (kind = 1 → b.ptpRole d m = 1 → b.ptpState d m = 2 → Yields (.ptpIntervalTimer a m kind) s
        (if u.flag d F.ETH_PTP_CFG_ONE_STEP m then u.ptpSend d m (ptpMsg 0 false dom 0 id n 0 (ptpTime t))
         else (u.ptpSend d m (ptpMsg 0 true dom 0 id n 0 (ptpTime 0))).ptpSend d m (ptpMsg 8 false dom 0 id n 0 (ptpTime t)))) ∧
      (kind = 2 → b.ptpRole d m = 1 ∨ b.ptpRole d m = 2 → Yields (.ptpIntervalTimer a m kind) s
        ((u.ptpSend d m (ptpMsg 2 false dom 0 id n 0x7F (ptpTime 0 ++ beBytes 10 0))).modPtp d m fun x =>
          { x with pdSent := some t, pdGot := none })))) ∧
  (∀ (a : At) (s : State), s.On a 21 →
    let b := s.begun a 21
    let d := a.die
    (∀ src, Yields (.lreEntryForget a src) s (b.modLre d fun x => { x with
      dups := x.dups.filter fun e => e.src != src || !fallen b (e.last + ms (b.get d F.ETH_LRE_CFG_ENTRY_FORGET_MS)) })) ∧
    (b.lreMode d ≠ 0 → (b.die d).lre.supDue ≤ b.now →
      let wait := ms (b.get d F.ETH_LRE_SUP_LIFE_CHECK_MS)
      let own := (Config.macAddress (macNo d 0)).toNat
      let proxies := ((List.range 16).map fun i => b.get d F.ETH_LRE_PROXY_LO_ADDR i + 2 ^ 32 * b.get d F.ETH_LRE_PROXY_HI_ADDR i).filter
        (· != 0)
      let u := b.lreSend d (b.supervision d own (b.die d).lre.seq none) false
      let u := proxies.foldl (fun s x => s.lreSend d (s.supervision d x (s.die d).lre.seq (some own)) false) u
      let u := u.modLre d fun x => { x with supDue := u.now + wait }
      (∀ p, p < 2 → (u.die d).lre.downAt.getD p none = none) → Yields (.lreSupervisionSend a) s u)) ∧
  (∀ (a : At) (q : Req) (v : Word) (s : State), s.Admits a q 0x2A4000 →
    let b := s.admitted a q 0x2A4000
    let d := a.die
    let port := wordGet v 29 28
    b.flag d F.ETH_SA_STATUS_BUSY = false → b.flag d F.ETH_MSEC_CTL_EN port = true →
    (wordGet v 31 30 = 1 → b.get d F.ETH_SA_PN_NEXT_PN ≠ 0 → (b.die d).sas.any (saNamed v) = false →
      let w : SaWait := ⟨v, b.get d F.ETH_SA_PN_NEXT_PN, b.pair d Reg.ETH_SA_SCI_LO Reg.ETH_SA_SCI_HI⟩
      let handle := wordGet v 15 0
      ((b.slotOwner? d handle).isSome = true → Yields (.ethSaInstall a q v) s (b.saInstall d w)) ∧
      (b.slotOwner? d handle = none → Yields (.ethSaInstall a q v) s (if b.keyHeldOff d handle then b.saDone d 2
        else ((b.modDie d fun x => { x with saWait := some w }).set d F.ETH_SA_STATUS_BUSY 1).needKey d 0 handle (some (8 + port))))) ∧
    (wordGet v 31 30 = 2 → (b.die d).sas.any (saNamed v) = true →
      wordGet v 27 27 = 1 ∨ wordGet v 24 23 ≠ b.get d F.ETH_MSEC_CTL_TX_AN port →
      let u := (List.find? (saNamed v) (b.die d).sas).elim b fun x => b.pinKey d x.owner x.handle (· - 1)
      Yields (.ethSaRetire a q v) s ((u.modDie d fun x => { x with sas := x.sas.filter fun y => !saNamed v y }).saDone d 0))) ∧
  (∀ (a : At) (q : Req) (m : Nat) (v : Word) (s : State), m < 4 → s.Admits a q (0x2A0020 + 0x400 * m) →
    let b := s.admitted a q (0x2A0020 + 0x400 * m)
    Yields (.msecTxAnSelect a q m v) s
      ((b.writeSkn a.die Reg.ETH_MSEC_CTL (wordSet v 27 26 (b.get a.die F.ETH_MSEC_CTL_TX_AN m)) m).set a.die F.ETH_MSEC_CTL_TX_AN
        (wordGet v 27 26) m))

/-- The chunk of a running store ends and the store goes on, ends, or gives way to the next; a life-cycle transition ends with its
readback; admitted writes of the fuse and hold-up commands request their stores; a power failure freezes the journal, sheds load,
defers and requests the flush, or without the SNS island fires reset source 10; a rail outside its window is recorded with event
0xC04 and is a power failure of cause 2; a temperature reading is shown, keeps the peak, and the third in a row at or above TRIP_C
raises 0xC03 and resets the die; the reference clock's fault and return are counted and raised and links drop and retrain. (R418,
R432, R435, R437, R450, R461, R466, R477, 16_reset_boot_and_safe_stores.md, 18_pins_electrical_emc.md) -/
def Obligations.StoresAndHoldupGoOn : Prop :=
  (∀ (a : At) (codes : List Nat) (s : State), s.On a 42 → a.die = 0 →
    let b := s.begun a 42
    (b.runs 0 40 = true →
      let r := b.chunkDone codes
      let u := r.2.elim r.1 fun x => r.1.storeEnded codes x
      Yields (.storeChunkDone a codes) s (if r.1.hold.running.isSome then u else u.storesGoOn codes)) ∧
    (∀ j ok, b.hold.running = some j → j.what = 5 → Yields (.lcChanged a ok codes) s ((b.lcDone j ok).storesGoOn codes))) ∧
  (∀ (a : At) (v : Word) (codes : List Nat) (s : State), s.Admits a .pf0 0x010048 → a.die = 0 → wordGet v 0 0 = 1 →
    let b := s.admitted a .pf0 0x010048
    let staged := b.get 0 F.RST_FUSE_PROG_LO_CODES + 2 ^ 30 * b.get 0 F.RST_FUSE_PROG_HI_CODES
    (b.boot.fuses.reachValid ∨ 1 < b.lc ∨ badCodes staged ≠ 0 → Yields (.rstFuseProg a .pf0 v codes) s (b.storeDone 4 4 0 0)) ∧
    (b.hold.running = none → ¬ (b.boot.fuses.reachValid ∨ 1 < b.lc ∨ badCodes staged ≠ 0) →
      Yields (.rstFuseProg a .pf0 v codes) s
        (b.requestStore { type := 4, what := 4, arg := staged, off := 0, bytes := [] } codes).1)) ∧
  (∀ (a : At) (q : Req) (v : Word) (codes : List Nat) (s : State), s.Admits a q 0x07001C → a.die = 0 → wordGet v 0 0 = 1 →
    let b := s.admitted a q 0x07001C
    Yields (.hldFlush a q v codes) s
      (b.requestStore { type := 1, what := 0, arg := 4, off := 0, bytes := [], ts := b.ts } codes).1) ∧
  (∀ (a : At) (codes : List Nat) (s : State), a.die < s.part.dies →
    let b := elapse a s
    b.clock.stopped = false →
    (∀ cause, a.die = 0 → cause = 1 ∨ cause = 2 → b.hold.failing = none → (∀ x ∈ b.boot.sources, x.s ≠ 10) →
      (b.runs 0 42 = false → Yields (.pwrFail a cause codes) s (b.fireReach 10 0 0)) ∧
      (b.runs 0 42 = true →
        let u := (b.freezeJournal cause (meanCode codes)).shedLoad
        let u := State.deferRecent { u with hold := { u.hold with failing := some cause } } a.cyc codes
        Yields (.pwrFail a cause codes) s
          (u.requestStore { type := 1, what := 0, arg := cause, off := 0, bytes := [], ts := u.ts } codes).1.brownout)) ∧
    (∀ rail, rail < 7 →
      let u := b.set a.die F.PIN_SUPPLY_FAULT (setBit (b.get a.die F.PIN_SUPPLY_FAULT) rail)
      Yields (.supplyFault a rail codes) s
        ((u.raise a.die 42 0xC04 3 [(1, a.die), (1, u.get a.die F.PIN_SUPPLY_FAULT)]).powerFails 2 a.cyc codes))) ∧
  (∀ (a : At) (t : Int) (s : State), s.On a 42 →
    let b := s.begun a 42
    let d := a.die
    let c := b.tempByte t
    let u := b.drawn.set d F.PIN_TEMP_TEMP_C c
    let u := if signed 8 (u.get d F.PIN_TEMP_PEAK_C) < signed 8 c then u.set d F.PIN_TEMP_PEAK_C c else u
    let hot := decide ((u.get d F.PIN_TEMP_TRIP_C : Int) ≤ t)
    let run := if hot then min 4 ((u.die d).tempRun + 1) else 0
    let u := u.modDie d fun x => { x with
      tempRun := run
      tempHigh := some (match x.tempHigh with
        | some u => if u < t then t else u
        | none => t) }
    Yields (.tempReading a t) s (if run = 3 then
      ((u.bump d F.PIN_TEMP_TRIPS).raise d 42 0xC03 4 [(1, d), (1, c), (1, u.get d F.PIN_TEMP_TRIP_C)]).fireReach 9 d 0 else u)) ∧
  (∀ (a : At) (s : State), s.On a 38 →
    let b := s.begun a 38
    let d := a.die
    (∀ cause, cause = 1 ∨ cause = 2 → Table.find? b.refFault d = none →
      let u : State := { b with refFault := Table.put b.refFault d b.now }
      let u := ((u.bump d F.CLK_REF_STATUS_FAULTS).raise d 38 0xC01 3 [(1, d), (1, cause)]).dropLinks d
      Yields (.refClkFault a cause) s (if d = 0 then u.loseParent else u)) ∧
    (∀ t, Table.find? b.refFault d = some t →
      let u := State.raise { b with refFault := Table.del b.refFault d } d 38 0xC02 1 [(1, d), (3, 0), (4, (b.now - t) / us 1)]
      let u := (List.range 2).foldl (fun s h => s.train d h) u
      Yields (.refClkRestored a) s (if d = u.primary ∧ u.runs d 17 = true then u.emit (.port d true) else u)))

/-- On the head's island: a plug records what the sink can do, raises 0x706 and trains; an unplug clears it and stops the raster; a
pulse raises 0x706 and retrains a lost link; training's end starts or resumes the raster at a rate that carries the timing, or
raises 0x707; an AUX reply in time ends the transaction, or a DEFER within 7 sends again, and its wait's end is result 3; the
intake, prefetch and frame points act in their phases when due; a dark change's end takes the new set; the reservoir's watermarks
stop and resume fetching; an underrun is counted, lengthens LEAD and raises 0x701. A channel enters self-refresh when it is
allowed and tolerated, and leaves it. (R304, R305, R306, R310, R311, R312, R314, R316, R317, 11_display_heads.md) -/
def Obligations.HeadsFollowTheirSinksAndFrames : Prop :=
  (∀ (a : At) (h : Nat) (s : State), s.On a (25 + h) → h < 2 →
    let b := s.begun a (25 + h)
    let d := a.die
    let x := b.head d h
    (b.flag d F.DSP_HEAD_SINK_HPD h = false → ∀ vrr rate lanes,
      let u := (((b.set d F.DSP_HEAD_SINK_HPD 1 h).set d F.DSP_HEAD_SINK_VRR_CAP (b2n vrr) h).set d
        F.DSP_HEAD_SINK_MAX_RATE rate h).set d F.DSP_HEAD_SINK_MAX_LANES lanes h
      let u := u.raiseHead d h 0x706 1 [(1, 1)]
      Yields (.dspHpdPlug a h vrr rate lanes) s
        (State.train (if u.flag d F.DSP_HEAD_CTL_VRR_EN h && !vrr then u.raiseHead d h 0x70D 1 [] else u) d h)) ∧
    (b.flag d F.DSP_HEAD_SINK_HPD h = true →
      (let u := (b.setWord d Reg.DSP_HEAD_SINK 0 h).raiseHead d h 0x706 1 [(1, 0)]
       Yields (.dspHpdUnplug a h) s (u.stopRaster d h (if u.flag d F.DSP_HEAD_CTL_ENABLE h then 1 else 0))) ∧
      (∀ lost, let u := b.raiseHead d h 0x706 1 [(1, 2)]
        Yields (.dspHpdIrq a h lost) s (if lost && u.headState d h != 3 then u.train d h else u))) ∧
    (∀ t, x.run = some t → b.headState d h = 2 →
      (∀ r, r ≤ t.rate → t.fits r = true →
        let u := b.set d F.DSP_HEAD_RUN_LINK_LINK_RATE r h
        Yields (.dspLinkTrained a h (some r)) s (if (u.head d h).phase = 0 then u.startRaster d h else u.setRunning d h)) ∧
      Yields (.dspLinkTrained a h none) s ((b.stopRaster d h 1).raiseHead d h 0x707 3 [(1, t.lowest), (1, t.lanes)])) ∧
    (∀ y, x.aux = some y →
      (b.now < y.deadline + a.cyc → ∀ bytes, bytes.length ≤ 16 →
        let u := if nearMiss a b y.deadline then b.bump d F.DSP_HEAD_NEAR_MISS_COUNT 1 h else b
        Yields (.auxReply a h 0 bytes) s ((u.putAux d h bytes).auxDone d h 0) ∧
        Yields (.auxReply a h 1 bytes) s (u.auxDone d h 1) ∧
        Yields (.auxReply a h 2 bytes) s (if y.defers < 7 then u.auxSend d h y.cmd (y.defers + 1) else u.auxDone d h 2)) ∧
      (y.deadline ≤ b.now → Yields (.auxTimeout a h) s (b.auxDone d h 3))) ∧
    (∀ t, b.pointAt d h = some t → t ≤ b.now →
      (x.phase = 1 → Yields (.intakePoint a h) s (b.intake d h)) ∧
      (x.phase = 2 → Yields (.prefetchPoint a h) s (b.prefetch d h)) ∧
      (x.phase = 3 → Yields (.frameStart a h) s (b.startFrame d h))) ∧
    (∀ old t, x.run = some old → x.next = some t → x.dark = true → x.darkAt + old.linesPs (old.vActive + old.vBlank) ≤ b.now →
      old.rate = t.rate → old.lanes = t.lanes → x.queued = none → ∀ rate,
      let r := b.get d F.DSP_HEAD_RUN_LINK_LINK_RATE h
      let r := if t.rate < r ∨ t.fits r = false then t.lowest else r
      let u := ((b.setRun d h t r 2).setRunning d h).modHead d h fun x => { x with phase := 2, intakeAt := ((b.setRun d h t r 2).setRunning d h).now }
      Yields (.darkChangeDone a h rate) s (if (u.head d h).phase = 2 then (u.take d h).releaseCommits d h else u)) ∧
    (∀ high, x.phase = 1 ∨ x.phase = 3 → x.front.isSome = true → x.fetching = high →
      let u := b.modHead d h fun x => { x with fetching := !high }
      Yields (.reservoirWatermark a h high) s (u.set d F.DSP_HEAD_STATUS_FILL
        (1024 * u.get d (if high then F.DSP_HEAD_RES_CFG_HIGH_WM else F.DSP_HEAD_RES_CFG_LOW_WM) h) h)) ∧
    (x.phase = 1 → x.front.isSome = true →
      let lead := min 16 (b.lead_ d h + 1)
      let u := ((b.bump d F.DSP_HEAD_UNDERRUN_COUNT 1 h).set d F.DSP_HEAD_STATUS_LEAD lead h).set d F.DSP_HEAD_STATUS_FILL 0 h
      Yields (.dspUnderrun a h) s ((u.modHead d h fun x => { x with fetching := false }).raiseHead d h 0x701 2
        [(1, lead), (2, u.lineNow d h), (4, u.get d F.DSP_HEAD_FRAME_FRAME h)]))) ∧
  (∀ (a : At) (c : Nat) (s : State), s.On a (29 + c) → c < 2 →
    let b := s.begun a (29 + c)
    let d := a.die
    (b.flag d F.MEM_CH_SR_SR_EN c = true → b.asleep d c = false → b.tolerant d c = true →
      Yields (.memSelfRefreshEnter a c) s
        ((b.modDie d fun x => { x with selfRefresh := Table.put x.selfRefresh c true }).wrap d F.MEM_CH_SR_COUNT_ENTRIES c)) ∧
    Yields (.memSelfRefreshExit a c) s (b.modDie d fun x => { x with selfRefresh := Table.put x.selfRefresh c false }))

/-- Admitted writes of a head's CTL, LEAD, AUX, APPLY and COMMIT registers have the effect of those registers; a source head that is
enabled sends; a DPT tile that does not fit, or comes to a head that does not store mirrors, is counted as discarded, and one that
fits is written into the fill buffer and recorded; a token that is wrong is discarded, and one of the head's own size, unbroken,
awaits its writes; when they are done the fill buffer becomes ready, the next one begins, and the frame commits. (R306, R310,
R312, R317, R318, R320, R321, 11_display_heads.md) -/
def Obligations.HeadRegistersAndMirrorsTakeEffect : Prop :=
  (∀ (a : At) (q : Req) (h : Nat) (v : Word) (s : State), h < 2 →
    let d := a.die
    (s.Admits a q (0x1C0000 + 0x1000 * h) → Yields (.dspRefresh a q h v) s ((s.admitted a q (0x1C0000 + 0x1000 * h)).writeHeadCtl d h v)) ∧
    (s.Admits a q (0x1C0084 + 0x1000 * h) → Yields (.prefetchLeadWrite a q h v) s ((s.admitted a q (0x1C0084 + 0x1000 * h)).writeLead d h v)) ∧
    (s.Admits a q (0x1C0200 + 0x1000 * h) → Yields (.auxTransaction a q h v) s ((s.admitted a q (0x1C0200 + 0x1000 * h)).writeAux d h v)) ∧
    (s.Admits a q (0x1C002C + 0x1000 * h) → Yields (.timingApply a q h v) s ((s.admitted a q (0x1C002C + 0x1000 * h)).writeApply d h a.cyc v)) ∧
    (s.Admits a q (0x1C0054 + 0x1000 * h) → Yields (.dspCommit a q h v) s ((s.admitted a q (0x1C0054 + 0x1000 * h)).writeCommit d h a.cyc v))) ∧
  (∀ (a : At) (h : Nat) (t : Timing) (s : State), s.On a (25 + h) → h < 2 →
    let b := s.begun a (25 + h)
    let d := a.die
    (b.head d h).run = some t →
    (∀ idx, b.sourceStrand d h = some idx → b.flag d F.DSP_HEAD_CTL_SOURCE h = true → b.flag d F.DSP_HEAD_CTL_ENABLE h = true →
      Yields (.sourceFrameSend a h) s (State.pump d h idx t 100000 (b.startSending d h t))) ∧
    (∀ f, b.get d F.DSP_HEAD_CTL_STORE h ≠ 2 ∨ tileFits t f = false →
      Yields (.dptTileReceive a h f false) s (b.bump d F.DSP_HEAD_TILE_DISCARD_COUNT 1 h)) ∧
    (∀ f, b.get d F.DSP_HEAD_CTL_STORE h = 2 → tileFits t f = true →
      let n := numAt f 8 4
      let tx := numAt f 2 2
      let ty := numAt f 4 2
      let w := byteAt f 6
      let base := b.bufBase d h t (b.head d h).mFill
      let u := (List.range (byteAt f 7)).foldl (fun s y =>
        s.setCells (devCell (base + (64 * ty + y) * t.mStride + 256 * tx)) ((f.drop (16 + 4 * w * y)).take (4 * w))) b
      Yields (.dptTileReceive a h f false) s (u.modHead d h fun x =>
        let x := if x.openFrame.isSome ∧ x.openFrame ≠ some n then x.gapped 1 else x
        let i := ty * t.cols + tx
        { x with openFrame := some n, got := x.got + 1, bytes := x.bytes + f.length,
                 written := if x.written.contains i then x.written else x.written ++ [i] })) ∧
    (∀ f lost, byteAt f 0 ≠ 2 ∨ f.length ≠ 32 ∨ b.get d F.DSP_HEAD_CTL_STORE h ≠ 2 →
      Yields (.dptTokenReceive a h f lost) s (b.bump d F.DSP_HEAD_TILE_DISCARD_COUNT 1 h)) ∧
    (∀ f, byteAt f 0 = 2 → f.length = 32 → b.get d F.DSP_HEAD_CTL_STORE h = 2 →
      (byteAt f 6, numAt f 4 2, numAt f 24 2) = (t.fmt, t.hActive, t.vActive) →
      let u := b.modHead d h fun x => { x with mismatch := none }
      let x := u.head d h
      (x.openFrame = none ∨ x.openFrame = some (numAt f 8 4)) → x.got = numAt f 2 2 → x.gap = 0 →
      Yields (.dptTokenReceive a h f false) s (u.modHead d h fun _ => { x with
        token := some ⟨numAt f 8 4, numAt f 2 2, numAt f 16 8⟩, bytes := x.bytes + 32 })) ∧
    (∀ k, (b.head d h).token = some k →
      let u := (b.catchUp d h a.cyc 3).copyStale d h t
      let x := u.head d h
      let region := x.moveTo.getD (u.get d F.DSP_HEAD_MIRROR_REGION h)
      let others := (List.range 3).map fun i => 3 * region + i
      let next := (others.find? fun b => b != x.mFill && some b != x.mFront).getD (3 * region)
      let all := List.range (t.cols * t.rows)
      let mark := fun (m : Table (List Nat)) (b : Nat) =>
        let l := Table.look m b []
        Table.put m b (l ++ x.written.filter fun i => !l.contains i)
      let stale := (others.filter fun b => b != x.mFill).foldl mark (Table.put x.stale x.mFill [])
      let stale := if next / 3 = x.mFill / 3 then stale else others.foldl (fun m b => Table.put m b all) stale
      let c : Commit := ⟨x.count, k.frame % 65536, u.bufBase d h t x.mFill, t.mStride, none, k.ts⟩
      let v := (u.pointNear d h).modHead d h fun x => { x with
        mReady := some x.mFill, mFill := next, copyFrom := some x.mFill, stale := stale, written := [], openFrame := none, got := 0,
        gap := 0, token := none, lastBytes := x.bytes, bytes := 0, count := x.count + 1 }
      Yields (.mirrorTokenComplete a h) s (v.complete d h c)))

/-- On the BRG island: a fenced function's posted write is dropped and counted, any other takes its ordinal and goes to the VDP that
its target names, or into BAR2; a stale failure notice is counted, and a fresh one is shown, fences a window of FENCE_MODE and
raises 0x801. A read of a fenced function or of a broken lock is answered 4; one whose target no VDP carries is answered 1; one of
a carried VDP without PREFETCH takes a tag and is forwarded, an atomic as its operation; one of BAR2 without PREFETCH is answered
with its bytes. A completion frees its tag and is delivered, or late; a timeout answers 4 and raises 0x803; old read-ahead data is
dropped; a lock held too long is broken with 0x804. (R335, R337, R338, R339, R340, R341, R343, 12_pcie_bridge.md) -/
def Obligations.BridgeForwardsWritesAndReads : Prop :=
  ∀ (a : At) (s : State), s.On a 19 →
  let b := s.begun a 19
  let d := a.die
  let p := b.primary
  (∀ f tgt addr bytes, f < 249 ∨ f = 255 →
    let w := b.window? f tgt addr
    let u := if f = 255 then b else b.activity
    (u.fenced f w = true → f ≠ 255 → Yields (.brgPostedWrite a f tgt addr bytes) s (u.bump p F.BRG_FENCE_DROP_COUNT)) ∧
    (u.fenced f w = false ∨ f = 255 →
      let n := u.ordinal f
      let t := if f = 255 then u else u.set p F.BRG_FN_ORDINAL_NEXT ((n + 1) % 65536) f
      (∀ v pref k, tgt = .vdp k pref → t.vdpOf tgt w = some v → Yields (.brgPostedWrite a f tgt addr bytes) s (t.forwardTlp v 0 f n addr bytes)) ∧
      (∀ off x, tgt = .bar2 off → t.bar2Addr f off w = some x → Yields (.brgPostedWrite a f tgt addr bytes) s (t.setCells (devCell x) bytes)))) ∧
  (∀ f tgt ord addr ts cause, f < 249 →
    (cause = 0 ∨ 5 < cause ∨ tsPs ts + 4000000000000 < tsPs b.ts →
      Yields (.failureNoticeReceive a f tgt ord addr ts cause) s (b.bump p F.BRG_NOTICE_STALE_COUNT)) ∧
    (1 ≤ cause → cause ≤ 5 → tsPs b.ts ≤ tsPs ts + 4000000000000 →
      let c := if tsPs ts + 4000000000000 = tsPs b.ts then b.bump p F.BRG_NEAR_MISS_COUNT else b
      ∀ w, c.window? f tgt addr = some w →
      let u := (c.set p F.BRG_FN_ERR_FAR_WRITE_ERR 1 f).set p F.BRG_FN_ERR_LAST_ORDINAL ord f
      let u := if c.winFlag (some w) F.BRG_WIN_CFG_FENCE_MODE = true then
          u.setPair p Reg.BRG_FN_FENCE_LO Reg.BRG_FN_FENCE_HI (setBit (u.pair p Reg.BRG_FN_FENCE_LO Reg.BRG_FN_FENCE_HI f) w) f else u
      Yields (.failureNoticeReceive a f tgt ord addr ts cause) s (u.raiseOwned f p 19 0x801 2
        [(2, ord), (1, f), (1, cause), (8, addr), (1, winNo (some w)), (1, b2n (u.fenced f (some w)))]))) ∧
  (∀ f tgt addr len tag rid (atomic : Option (Nat × List Byte)), f < 249 ∨ f = 255 → 0 < len → len ≤ 4096 →
    let w := b.window? f tgt addr
    let v := b.vdpOf tgt w
    let u := if f = 255 then b else b.activity
    ((u.fenced f w && f != 255 || u.brokenFor f v) = true →
      Yields (.brgReadRequest a f tgt addr len tag rid atomic) s (u.emit (.answer f tag 4 []))) ∧
    ((u.fenced f w && f != 255 || u.brokenFor f v) = false → (∀ x, atomic = some x → u.atomicBlocked w x = false) →
      (∀ k pref, tgt = .vdp k pref → v = none →
        Yields (.brgReadRequest a f tgt addr len tag rid atomic) s (u.emit (.answer f tag 1 []))) ∧
      (∀ k pref n, tgt = .vdp k pref → v = some n → u.vdpCarried n = false →
        Yields (.brgReadRequest a f tgt addr len tag rid atomic) s (u.emit (.answer f tag 1 []))) ∧
      (∀ k pref n t, tgt = .vdp k pref → v = some n → u.vdpCarried n = true → u.winFlag w F.BRG_WIN_CFG_PREFETCH = false →
        let r := u.takeTag d ⟨f, winNo w, n, addr, len, tag, rid, u.tagDeadline, 0⟩
        r.2 = some t →
        (atomic = none → Yields (.brgReadRequest a f tgt addr len tag rid atomic) s (r.1.forwardTlp n 1 f t addr (leBytes 2 len))) ∧
        (∀ op operand, atomic = some (op, operand) →
          Yields (.brgReadRequest a f tgt addr len tag rid atomic) s (r.1.forwardTlp n (4 + op) f t addr operand))) ∧
      (∀ off x, tgt = .bar2 off → u.bar2Addr f off w = some x → atomic = none → u.winFlag w F.BRG_WIN_CFG_PREFETCH = false →
        Yields (.brgReadRequest a f tgt addr len tag rid atomic) s (u.emit (.answer f tag 0 (u.cellBytes (devCell x) len)))))) ∧
  (∀ tag, tag < 1024 →
    (∀ status bytes, Table.find? (b.die d).tags tag = none →
      Yields (.brgCompletionReceive a tag status bytes) s (b.bump p F.BRG_LATE_CPL_COUNT)) ∧
    (∀ x, Table.find? (b.die d).tags tag = some x →
      (∀ status bytes, x.deadline + a.cyc ≤ b.now →
        Yields (.brgCompletionReceive a tag status bytes) s (b.bump p F.BRG_LATE_CPL_COUNT)) ∧
      (∀ status bytes, b.now < x.deadline + a.cyc → x.use = 0 →
        let u := if nearMiss a b x.deadline then b.bump p F.BRG_NEAR_MISS_COUNT else b
        Yields (.brgCompletionReceive a tag status bytes) s ((u.freeTag d tag).emit (.answer x.fn x.tag status bytes))) ∧
      (x.deadline ≤ b.now → x.use = 0 →
        Yields (.brgCplTimeout a tag) s (((b.freeTag d tag).emit (.answer x.fn x.tag 4 [])).raiseOwned (if x.fn = 255 then 0 else x.fn) d
          19 0x803 2 [(1, x.fn), (1, x.window), (2, tag), (8, x.addr), (2, if x.fn = 255 then x.rid else 0)])))) ∧
  (∀ buf x, buf < 16 → Table.find? (b.die d).aheads buf = some x → x.data.isSome = true → x.at_ + us 2 ≤ b.now →
    Yields (.prefetchDiscard a buf) s (b.dropAhead d buf)) ∧
  (∀ l v, b.brg.lock = some l → l.vdp = some v → l.broken = false → l.since + ms (b.get p F.BRG_LOCK_CFG_LOCK_MAX_MS) ≤ b.now →
    let u := (b.modBrg fun x => { x with lock := some { l with broken := true } }).set p F.BRG_VDP_STATUS_LOCKED 0 v
    Yields (.brgLockBroken a) s ((u.forwardTlp v 3 l.fn 0 0 []).raiseOwned l.fn u.primary 19 0x804 2
      [(1, v), (1, l.fn), (2, 0), (4, (u.now - l.since) / us 1)]))

/-- A configuration request to a VDP that is not valid or not carried is answered 1, another takes a tag and is forwarded; a VDP's
link report sets its status and, where presence or activity changed, is signalled with event 0x806; link control reaches the far
port; the downstream port's and the primary port's links move. Admitted writes of a DMA channel's CFG and doorbell take effect; an
enabled transmit channel with a descriptor posted reads it and sends its buffer, or halts with the fault's cause; a receive
channel halts so, or writes the frame and completes the descriptor. A function that loses Bus Master Enable has its channels halt
with cause 4. (R329, R330, R331, R332, R345, R346, R347, 12_pcie_bridge.md) -/
def Obligations.PortsVirtualPortsAndDmaTakeEffect : Prop :=
  (∀ (a : At) (n : Nat) (s : State), s.On a 19 → n < 32 →
    let b := s.begun a 19
    let d := b.primary
    (∀ type1 write addr tag bytes, n = 0 ∨ b.flag d F.BRG_VDP_CFG_VALID n = false ∨ b.vdpCarried n = false →
      Yields (.vdpConfigRequest a n type1 write addr tag bytes) s (b.emit (.answer 0 tag 1 []))) ∧
    (∀ type1 write addr tag bytes t, n ≠ 0 → b.flag d F.BRG_VDP_CFG_VALID n = true → b.vdpCarried n = true →
      let r := b.takeTag a.die ⟨0, 0xFF, n, addr, 4, tag, 0, b.tagDeadline, 0⟩
      r.2 = some t → Yields (.vdpConfigRequest a n type1 write addr tag bytes) s
        (r.1.forwardTlp n (8 + b2n type1 + 2 * b2n write) 0 t addr bytes)) ∧
    (0 < n →
      (∀ present active cause speed width,
        let here := present && b.vdpCarried n
        let act := here && active && !b.brg.disabled.contains n
        let dp := b.flag d F.BRG_VDP_STATUS_PRESENT n != here
        let da := b.flag d F.BRG_VDP_STATUS_LINK_ACTIVE n != act
        let u := (((b.set d F.BRG_VDP_STATUS_PRESENT (b2n here) n).set d F.BRG_VDP_STATUS_LINK_ACTIVE (b2n act) n).set d
          F.BRG_VDP_STATUS_FAR_SPEED (if act then speed else 0) n).set d F.BRG_VDP_STATUS_FAR_WIDTH (if act then width else 0) n
        let u := if u.vdpCarried n then u else u.failVdp n
        (u.flag d F.BRG_VDP_CFG_VALID n = false ∨ (dp || da) = false → Yields (.vdpLink a n present active cause speed width) s u) ∧
        (u.flag d F.BRG_VDP_CFG_VALID n = true → (dp || da) = true →
          let old := Table.look u.brg.changed n 0
          let old := if dp then setBit old 0 else old
          Yields (.vdpLink a n present active cause speed width) s
            (((u.modBrg fun x => { x with changed := Table.put x.changed n (if da then setBit old 1 else old) }).emit (.vdpMsi n)).raise d
              19 0x806 1 [(1, n), (1, b2n here + 2 * b2n act), (1, cause)]))) ∧
      (∀ kind, kind < 4 → b.flag d F.BRG_VDP_CFG_VALID n = true →
        let off := if kind = 1 then n :: b.brg.disabled.erase n else if kind = 0 then b.brg.disabled.erase n else b.brg.disabled
        Yields (.vdpLinkControl a n kind) s ((b.modBrg fun x => { x with disabled := off }).emit (.vdpOrder n kind))))) ∧
  (∀ (a : At) (up : Bool) (speed width : Nat) (s : State),
    (s.On a 18 → Yields (.dsPortLink a up speed width) s ((s.begun a 18).dsLink a.die up speed width)) ∧
    (s.On a 17 → a.die = (s.begun a 17).primary → (s.begun a 17).brg.downAt = none →
      Yields (.primaryLinkDlActive a up speed width) s ((s.begun a 17).primaryLink up speed width))) ∧
  (∀ (a : At) (q : Req) (c : Nat) (v : Word) (s : State), c < 64 →
    (s.Admits a q (0x220000 + 0x40 * c) →
      let b := s.admitted a q (0x220000 + 0x40 * c)
      (wordGet v 31 31 = 1 → Yields (.dmaEnable a q c v) s (b.writeDmaCfg a.die c v)) ∧
      (wordGet v 31 31 = 0 → Yields (.dmaDisable a q c v) s (b.writeDmaCfg a.die c v))) ∧
    (s.Admits a q (0x220010 + 0x40 * c) →
      let b := s.admitted a q (0x220010 + 0x40 * c)
      Yields (.dmaDoorbell a q c v) s (if b.dmaSize a.die c < (v.toNat + 2 ^ 32 - b.get a.die F.BRG_DMA_CONSUMER_CONSUMER c) % 2 ^ 32 then b
        else b.setWord a.die Reg.BRG_DMA_DOORBELL v c))) ∧
  (∀ (a : At) (c : Nat) (desc : List Byte) (ok : Bool) (s : State), s.On a 20 → c < 64 →
    let b := s.begun a 20
    let d := a.die
    b.dmaRuns d c = true → b.dmaPosted d c = true → b.pwrStep < 3 →
    (b.flag d F.BRG_DMA_CFG_DIR c = false → Table.find? (b.die d).dmaJobs c = none → ∀ bytes,
      (∀ cause, b.dmaFault d c desc ok = some cause → Yields (.dmaTxDescriptor a c desc bytes ok) s (b.haltDma d c cause)) ∧
      (∀ idx, b.dmaFault d c desc ok = none → b.dmaStrand d c = some idx →
        let len := numAt desc 8 3
        let u := (b.emit (.hostRead (b.dmaOwner d c) (b.dmaDesc d c) 32)).emit (.hostRead (b.dmaOwner d c) (numAt desc 0 8) len)
        let j : DmaJob := ⟨u.dptSegs idx (bytes.take len), bit (byteAt desc 11) 0, len, numAt desc 12 4⟩
        Yields (.dmaTxDescriptor a c desc bytes ok) s
          (State.dmaPump d c idx 10000 (u.modDie d fun x => { x with dmaJobs := Table.put x.dmaJobs c j })))) ∧
    (b.flag d F.BRG_DMA_CFG_DIR c = true → ∀ frame cut,
      (∀ cause, b.dmaFault d c desc ok = some cause → Yields (.dmaRxFrame a c desc frame cut ok) s (b.haltDma d c cause)) ∧
      (b.dmaFault d c desc ok = none →
        let len := numAt desc 8 3
        let body := frame.take len
        let u := b.emit (.hostRead (b.dmaOwner d c) (b.dmaDesc d c) 32)
        let u := if body.isEmpty then u else u.hostWrite (u.dmaOwner d c) (numAt desc 0 8) body
        let status := if cut then 2 else if len < frame.length then 1 else 0
        Yields (.dmaRxFrame a c desc frame cut ok) s
          (u.dmaDone d c status (if cut then body.length else frame.length) (numAt desc 12 4) (status != 0 || bit (byteAt desc 11) 0))))) ∧
  (∀ (a : At) (f : Nat) (s : State), a.die < s.part.dies → (elapse a s).isFunction f = true →
    let b := elapse a s
    let u : State := { b with evt := { b.evt with bme := Table.put b.evt.bme f false } }
    Yields (.busMasterEnableClear a f) s ((List.range (64 * u.part.dies)).foldl (fun s n =>
      if s.dmaRuns (n / 64) (n % 64) && s.dmaOwner (n / 64) (n % 64) == f then s.haltDma (n / 64) (n % 64) 4 else s) u))

/-- An admitted write of VFN_CMD on die 0 while it is not BUSY, for a valid function whose home die's VFN island runs: CREATE,
QUIESCE, RELEASE, DESTROY and READ act on its slot; a function that is not valid ends with result 1; while BUSY the write is
ignored and counted. A quiescing slot whose tags have ended becomes QUIESCED with 0x904. LOG_SWAP swaps the dirty log's bitmaps,
and their swap's end writes the old one and raises 0x907. (R353, R356, R362, R363, R364, R368, 13_virtual_functions.md) -/
def Obligations.VirtualFunctionCommandsTakeEffect : Prop :=
  (∀ (a : At) (q : Req) (v : Word) (s : State), s.Admits a q 0x240000 → a.die = 0 →
    let b := s.admitted a q 0x240000
    let f := wordGet v 7 0
    (∀ i, ((i = Instr.vfnCreate a q v ∧ wordGet v 31 28 = 1) ∨ (i = Instr.vfnQuiesce a q v ∧ wordGet v 31 28 = 2) ∨
        (i = Instr.vfnRelease a q v ∧ wordGet v 31 28 = 3) ∨ (i = Instr.vfnDestroy a q v ∧ wordGet v 31 28 = 4) ∨
        (i = Instr.vfnRead a q v ∧ wordGet v 31 28 = 5)) →
      (b.flag 0 F.VFN_CMD_STATUS_BUSY = true → Yields i s (b.bump 0 F.SKN_IGNORED_COUNT)) ∧
      (b.flag 0 F.VFN_CMD_STATUS_BUSY = false → b.validFunc f = false → Yields i s (b.vfnDone (wordGet v 31 28) f 1 0))) ∧
    (b.flag 0 F.VFN_CMD_STATUS_BUSY = false → b.validFunc f = true → b.runs (homeDie f) 36 = true →
      (wordGet v 31 28 = 1 → Yields (.vfnCreate a q v) s (b.createVf f)) ∧
      (wordGet v 31 28 = 2 → Yields (.vfnQuiesce a q v) s (b.quiesceVf f)) ∧
      (wordGet v 31 28 = 3 → Yields (.vfnRelease a q v) s
        (if (b.slot f).st ≠ 4 then b.vfnDone 3 f 2 0 else (b.releaseVf f (wordGet v 27 27 == 1)).vfnDone 3 f 0 0)) ∧
      (wordGet v 31 28 = 4 → Yields (.vfnDestroy a q v) s (b.destroyVf f)) ∧
      (wordGet v 31 28 = 5 → Yields (.vfnRead a q v) s (if (b.slot f).carve.words.isEmpty then b.vfnDone 5 f 2 0
        else ((List.range 7).foldl (fun s i => s.setReg (barAddr 0 (0x240010 + 4 * i)) ((b.slot f).carve.words.getD i 0)) b).vfnDone 5 f 0 0)))) ∧
  (∀ (a : At) (f : Nat) (s : State), s.On { a with die := homeDie f } 36 → 1 ≤ f → f ≤ 31 * s.part.dies →
    let b := s.begun { a with die := homeDie f } 36
    let d := homeDie f
    let x := b.slot f
    (x.st = 3 → b.tagsOf f = [] →
      let u : State := { b with vfn := { b.vfn with busyFor := 0 } }
      Yields (.vfQuiesced a f) s (((u.putSlot f { x with st := 4 }).vfnDone 2 f 0 0).raise d 36 0x904 1
        [(1, f), (3, 0), (4, (u.now - x.quiesceAt) / us 1), (4, x.discarded)])) ∧
    (let i := slotNo f
     b.flag d F.VFN_VF_LOG_CTL_SWAP_PENDING i = true →
      let o := b.flag d F.VFN_VF_LOG_CTL_ACTIVE i
      let base := if o then b.pair d Reg.VFN_VF_LOG_B_LO Reg.VFN_VF_LOG_B_HI i else b.pair d Reg.VFN_VF_LOG_A_LO Reg.VFN_VF_LOG_A_HI i
      let u := b.emits ((bitmapWords x.oldPages).map fun p => .hostWrite 0 (base / 8 * 8 + 8 * p.1) (leBytes 8 p.2))
      let u := (u.set d F.VFN_VF_LOG_CTL_ACTIVE (b2n (!o)) i).set d F.VFN_VF_LOG_CTL_SWAP_PENDING 0 i
      let ts := u.tsAt x.swapAt
      Yields (.vfLogSwapped a f) s ((u.putSlot f { x with oldPages := [] }).raise d 36 0x907 0
        [(1, f), (1, b2n (!o)), (2, 0), (4, x.oldPages.length), (4, ts % 2 ^ 30), (4, ts / 2 ^ 30)]))) ∧
  (∀ (a : At) (q : Req) (n : Nat) (v : Word) (s : State), n < 31 → s.Admits a q (0x241004 + 0x40 * n) → wordGet v 30 30 = 1 →
    Yields (.logSwap a q n v) s ((s.admitted a q (0x241004 + 0x40 * n)).writeLogCtl a.die n v))

/-- Admitted writes of the port's CTL, a function's CTL and an endpoint's HALT have their effect. On the UFP island: a SETUP to the
hub or to an attached, reset function starts its control transfer; the status stage completes it, and SET_ADDRESS sets the
address; a bus reset of a connected port counts, sets the speed and resets the hub and the attached functions; a VBUS change moves
the link; an LPM token on a high- or full-speed link is acknowledged with L1 or turned away; suspend, U1 and the host's U1 to U3
change the link state; a kept detachment ends with the function's return; a transaction is served and its ACM messages are taken.
(R372, R378, R379, R380, R381, R384, R385, R386, 14_usb_ports_and_hub.md) -/
def Obligations.UsbRequestsAndBusStatesTakeEffect : Prop :=
  (∀ (a : At) (q : Req) (v : Word) (s : State),
    (s.Admits a q 0x260000 → Yields (.usbConnect a q v) s ((s.admitted a q 0x260000).writeUfpCtl a.die v)) ∧
    (∀ u, u < 4 → s.Admits a q (0x261000 + 0x800 * u) →
      (wordGet v 31 31 = 1 → Yields (.usbAttach a q u v) s ((s.admitted a q (0x261000 + 0x800 * u)).writeFnCtl a.die u v)) ∧
      (wordGet v 31 31 = 0 → Yields (.usbDetach a q u v) s ((s.admitted a q (0x261000 + 0x800 * u)).writeFnCtl a.die u v))) ∧
    (∀ u e dirIn, u < 4 → e < 5 → wordGet v 28 28 = 1 → s.Admits a q ((epReg dirIn).off u e) →
      Yields (.usbEpHalt a q u e dirIn v) s ((s.admitted a q ((epReg dirIn).off u e)).writeEp a.die u e dirIn v))) ∧
  (∀ (a : At) (s : State), s.On a 27 →
    let b := s.begun a 27
    let d := a.die
    (∀ u setup, setup.length = 8 → u < 5 → u = 4 ∨ (b.attached d u = true ∧ 2 ≤ b.devState d u) →
      let v := if u = 4 then b else (b.setHalted d u 0 true 0).setHalted d u 0 false 0
      let len := numAt setup 6 2
      (128 ≤ byteAt setup 0 →
        (∀ x, v.controlIn d u setup = some x → Yields (.usbSetupRequest a u setup) s
          ((v.modFn d u fun f => { f with ctl := some { setup := setup, data := x.take len, stage := if len = 0 then 2 else 1 } }).emit
            (.usb d u 0 0 []))) ∧
        (v.controlIn d u setup = none → Yields (.usbSetupRequest a u setup) s
          ((v.modFn d u fun f => { f with ctl := some { setup := setup, stall := true } }).emit (.usb d u 0 0 [])))) ∧
      (byteAt setup 0 < 128 →
        (v.controlOutOk d u setup = true → Yields (.usbSetupRequest a u setup) s
          ((v.modFn d u fun f => { f with ctl := some { setup := setup, stage := if len = 0 then 2 else 1 } }).emit (.usb d u 0 0 []))) ∧
        (v.controlOutOk d u setup = false → Yields (.usbSetupRequest a u setup) s
          ((v.modFn d u fun f => { f with ctl := some { setup := setup, stall := true } }).emit (.usb d u 0 0 []))))) ∧
    (∀ u c, u < 5 → (b.usbFn d u).ctl = some c →
      (c.stall = true → Yields (.usbStatusStageComplete a u) s (b.handshake d u 0 5)) ∧
      (c.stall = false → c.stage = 2 →
        let v := b.modFn d u fun f => { f with ctl := none }
        let value := numAt c.setup 2 2
        (128 ≤ byteAt c.setup 0 → Yields (.usbStatusStageComplete a u) s v) ∧
        (byteAt c.setup 0 = 0 → byteAt c.setup 1 = 5 → u < 4 → Yields (.usbStatusStageComplete a u) s
          ((v.set d F.USB_FN_STATE_ADDRESS (value % 128) u).setDev d u (if value % 128 = 0 then 2 else 3))) ∧
        (byteAt c.setup 0 = 0 → byteAt c.setup 1 = 9 → u < 4 → Yields (.usbStatusStageComplete a u) s
          ((((v.set d F.USB_FN_STATE_CONFIG (value % 16) u).setDev d u (if value % 256 = 0 then 3 else 4)).clearHalts d u).modFn d u
            fun f => { f with toggles := [] })) ∧
        (byteAt c.setup 0 < 128 → byteAt c.setup 0 / 32 = 1 → u < 4 → Yields (.usbStatusStageComplete a u) s (v.classSet d u c)))) ∧
    (∀ speed, 1 ≤ speed → speed ≤ 3 → b.flag d F.USB_UFP_CTL_USB_CONNECT = true → b.flag d F.USB_UFP_STATUS_VBUS = true →
      let speed' := if speed = 3 ∧ b.flag d F.USB_UFP_CTL_SS_EN = false then 2 else speed
      let v := ((b.wrap d F.USB_UFP_STATUS_RESETS).set d F.USB_UFP_STATUS_SPEED speed').set d F.USB_UFP_STATUS_LINK 0
      let v := v.modUsb d fun x => { x with wake := none, hubWake := false, hubPending := false, u1 := false, u2 := false,
                                            signals := 0, activeAt := v.now, fns := Table.del x.fns 4 }
      let v := (List.range 4).foldl (fun s u => if s.attached d u then s.resetUsbFn d u 1 2 else s) v
      let v := (List.range 4).foldl (fun s p =>
        if s.get d F.USB_DFP_CTL_MODE p = 1 ∧ s.flag d F.USB_DFP_CTL_POWER p then
          (s.set d F.USB_DFP_CTL_POWER 0 p).emit (.usbPower d p false)
        else s) v
      Yields (.usbBusReset a speed) s (v.ufpEvent d)) ∧
    (b.flag d F.USB_UFP_STATUS_VBUS = false →
      Yields (.usbVbusChange a true) s (((b.set d F.USB_UFP_STATUS_VBUS 1).set d F.USB_UFP_STATUS_LINK 5).ufpEvent d)) ∧
    (b.flag d F.USB_UFP_STATUS_VBUS = true →
      Yields (.usbVbusChange a false) s (((b.set d F.USB_UFP_STATUS_VBUS 0).ufpGone d).ufpEvent d)) ∧
    (b.ufpLink d = 0 → b.ufpSpeed d ≠ 0 → b.ufpSpeed d ≠ 3 →
      let ready := (List.range 4).any fun u => (b.usbFn d u).ins.any fun p => !p.2.isEmpty
      (b.flag d F.USB_UFP_CTL_LPM_EN = true → ready = false → Yields (.usbLpmToken a) s
        (((b.modUsb d fun x => { x with idleAt := b.now }).setLink d 4).emit (.usbLpm d true))) ∧
      (b.flag d F.USB_UFP_CTL_LPM_EN = false ∨ ready = true → Yields (.usbLpmToken a) s (b.emit (.usbLpm d false))) ∧
      Yields (.usbSuspend a) s ((b.modUsb d fun x => { x with idleAt := b.now - ms 3 }).setLink d 3)) ∧
    (b.ufpSpeed d = 3 →
      (b.ufpLink d = 0 → b.get d F.USB_UFP_WAKE_U1_IDLE_US ≠ 0 →
        (b.die d).usb.activeAt + us (b.get d F.USB_UFP_WAKE_U1_IDLE_US) ≤ b.now → Yields (.usbU1Initiate a) s (b.setLink d 1)) ∧
      (∀ st, b.ufpLink d ≠ 5 → st = 3 ∨ (st = 1 ∧ (b.die d).usb.u1 = true) ∨ (st = 2 ∧ (b.die d).usb.u2 = true) →
        Yields (.usbLinkStateRequest a st) s ((b.modUsb d fun x => { x with idleAt := b.now }).setLink d st))) ∧
    (∀ u t, u < 4 → (b.usbFn d u).reattachAt = some t → t ≤ b.now → b.flag d F.USB_FN_CTL_ATTACH u = true →
      (b.die d).usb.keptOff.contains u = false → Yields (.usbFuncReattach a u) s (b.attachFn d u)) ∧
    (∀ u e kind data w, u < 5 → e < 16 → kind < 4 →
      let v := b.usbTransaction d u e kind data
      let msgs := (v.usbFn d 2).msgs
      Yields (.usbTransaction a u e kind data w) s (if msgs.isEmpty then v
        else msgs.foldl (fun s m => s.acmMessage a d m w) (v.modFn d 2 fun f => { f with msgs := [] }))))

/-- A reason to wake is noted; an allowed wake starts to drive; its release, the host's resume within 100 ms of it, and the ends of
the waits of K and of U3 each move the wake on. Over-current takes the power off a downstream port and is told; a LOCAL port's
change is taken; a RELAY port's device comes with its descriptor or a fault, and goes; a poll sends a report; the third error in a
row disables the relay. A strand message of the wrong form is a route error, and a good one for an attached function waits its
turn. (R374, R386, R387, R388, R389, R391, 14_usb_ports_and_hub.md) -/
def Obligations.UsbWakesRelaysAndDownstreamPortsMoveOn : Prop :=
  (∀ (a : At) (s : State), s.On a 27 →
    let b := s.begun a 27
    let d := a.die
    let x := (b.die d).usb
    (∀ u, u < 5 → u = 4 ∨ b.attached d u = true → Yields (.usbWakeReason a u) s (b.wakeReason d u)) ∧
    (∀ u, u < 5 → b.wakeFrom d ≠ 0 → x.wake = none → b.wakeMaySignal d u → (b.wakeFrom d ≠ 1 ∨ x.idleAt + ms 5 ≤ b.now) →
      x.wakeAfter ≤ b.now → x.signals < b.get d F.USB_UFP_WAKE_WAKE_RETRIES →
      let k := b.wakeFrom d
      Yields (.usbRemoteWake a u) s
        ((b.modUsb d fun x => { x with wake := some { u := u, from_ := k, start := b.now, signals := x.signals + 1 },
                                       signals := x.signals + 1 }).emit (.usbDrive d (if k = 3 then 2 else 1)))) ∧
    (∀ w, x.wake = some w →
      (w.released = none → w.from_ ≠ 3 → w.start + (if w.from_ = 2 then us 50 else ms 1) ≤ b.now →
        let v := b.emit (.usbDrive d 0)
        Yields (.usbResumeRelease a) s (if w.overlap then v.wakeMerged d w.u 2
          else v.modUsb d fun x => { x with wake := some { w with released := some v.now } })) ∧
      (∀ t, w.released = some t → w.from_ ≠ 3 → b.wakeFrom d ≠ 0 → b.now < t + ms 100 + a.cyc →
        let v := if nearMiss a b (t + ms 100) then b.bump d F.USB_NEAR_MISS_COUNT else b
        Yields (.usbHostResume a) s
          (((v.setLink d 0).modUsb d fun x => { x with wake := none }).raise d 27 0xA03 0 [(1, w.u), (1, w.from_), (1, w.signals)])) ∧
      (∀ t, w.released = some t → t + ms 100 ≤ b.now → Yields (.usbWakeTimeout a) s (b.wakeRetry d w (ms 5))) ∧
      (w.from_ = 3 → w.start + ms 10 ≤ b.now → Yields (.usbLfpsTimeout a) s (b.wakeRetry d w (ms 100)))) ∧
    (∀ msg,
      (∀ u, u < 2 →
        (usbMessageOk msg = false → Yields (.usbStrandMessageReceive a u msg) s (b.routeError d u (byteAt msg 0))) ∧
        (usbMessageOk msg = true → b.usbHeld d u = false → b.attached d u = true → Yields (.usbStrandMessageReceive a u msg) s
          ((b.modFn d u fun f => { f with waiting := f.waiting ++ [msg] }).takeWaiting d u 64))) ∧
      (∀ u, 8 ≤ u → u < 12 →
        (usbMessageOk msg = false → Yields (.usbStrandMessageReceive a u msg) s (b.routeError d 1 (byteAt msg 0))) ∧
        (usbMessageOk msg = true → byteAt msg 0 = 2 → byteAt msg 1 = b.get d F.USB_DFP_CTL_SLOT (u - 8) →
          b.flag d F.USB_DFP_STATUS_RELAY_UP (u - 8) = true →
          Yields (.usbStrandMessageReceive a u msg) s (b.emit (.usbSetReport d (u - 8) (msg.drop 8))))))) ∧
  (∀ (a : At) (p : Nat) (s : State), s.On a 28 → p < 4 →
    let b := s.begun a 28
    let d := a.die
    (b.flag d F.USB_DFP_CTL_POWER p = true →
      Yields (.usbOvercurrent a p) s
        ((((b.set d F.USB_DFP_CTL_POWER 0 p).set d F.USB_DFP_CTL_OVERCURRENT 1 p).emit (.usbPower d p false)).dfpEvent d p 3 0 0) ∧
      (b.get d F.USB_DFP_CTL_MODE p = 1 → ∀ up speed vid pid, speed < 5 →
        Yields (.usbDfpConnect a p up speed vid pid) s (b.dfpChange d p up speed vid pid)) ∧
      (b.get d F.USB_DFP_CTL_MODE p = 2 → ∀ speed vid pid, 1 ≤ speed → speed < 5 → vid < 65536 → pid < 65536 →
        let v := ((b.set d F.USB_DFP_STATUS_CONNECTED 1 p).set d F.USB_DFP_STATUS_SPEED speed p).dfpEvent d p 1 vid pid
        Yields (.relayDeviceAttach a p speed vid pid none) s (v.relayFault d p 1) ∧
        (∀ interval desc,
          let per := pollPeriod speed interval
          let w := v.modUsb d fun x => { x with relays := Table.put x.relays p { interval := per, pollAt := v.now + per } }
          Yields (.relayDeviceAttach a p speed vid pid (some (interval, desc))) s (if 1024 < desc.length then v.relayFault d p 2
            else (w.set d F.USB_DFP_STATUS_RELAY_UP 1 p).relaySend d p 3 vid pid (leBytes 1 interval ++ desc))))) ∧
    (b.get d F.USB_DFP_CTL_MODE p = 2 → b.flag d F.USB_DFP_STATUS_CONNECTED p = true →
      Yields (.relayDeviceDetach a p) s (b.relayGone d p)) ∧
    (∀ r, b.relay? d p = some r → r.disabled = false →
      (r.pollAt ≤ b.now →
        let v := b.modUsb d fun x => { x with relays := Table.put x.relays p { r with pollAt := b.now + r.interval, errors := 0 } }
        Yields (.relayPoll a p none) s v ∧
        (∀ report, report.length ≤ 64 → Yields (.relayPoll a p (some report)) s (v.relaySend d p 1 0 0 report))) ∧
      (let v := b.bump d F.USB_DFP_STATUS_TXN_ERR 1 p
       let off := decide (2 ≤ r.errors)
       let v := v.modUsb d fun x => { x with relays := Table.put x.relays p { r with errors := r.errors + 1, disabled := off } }
       Yields (.relayTxnTimeout a p) s (if off then v.relayFault d p 3 else v))))

/-- An admitted write of PWR_CMD on die 0 is counted as a request: a target of 4 to 7 completes with result AH, a target of FLOW,
EDDY, STILL or TARN starts at once while no step runs, joins the running entry of its own target, and else replaces the pending
request. In E2 the safe point leads to E3; in E3 without a flush due, with nothing undrained and no request just captured, it
leads to the commit; an entry that was reversed brings the package up, ends its abort with 0x063, and the pending request runs.
Activity ends EDDY, and in EDDY an island that may be gated stops its clock. (R399, R400, R401, R402, R403, R404, R405,
15_power_states_and_tarn.md) -/
def Obligations.PowerCommandsAndSleepEntryMoveOn : Prop :=
  (∀ (a : At) (q : Req) (v : Word) (aspm : Bool) (s : State), s.Admits a q 0x020000 → a.die = 0 →
    let b := s.admitted a q 0x020000
    let t := wordGet v 2 0
    let r : PwrReq := ⟨t, b.pwr.count + 1⟩
    let u : State := { b with pwr := { b.pwr with count := b.pwr.count + 1 } }
    (4 ≤ t → Yields (.pwrCmdBadTarget a q v) s ((u.activity).pwrDone r 0xA)) ∧
    (∀ i, (i = Instr.pwrCmdFlow a q v ∧ t = 0 ∧ aspm = false) ∨ (i = Instr.pwrCmdEddy a q v ∧ t = 1 ∧ aspm = false) ∨
        (i = Instr.pwrCmdStill a q v aspm ∧ t = 2) ∨ (i = Instr.pwrCmdTarn a q v aspm ∧ t = 3) →
      (u.pwrStep = 0 → Yields i s (u.startPwr r aspm)) ∧
      (u.pwrStep ≠ 0 → (u.pwr.running.any fun x => x.target == t) = true →
        let w := u.supersede
        Yields i s { w with pwr := { w.pwr with joined := w.pwr.joined ++ [r] } }) ∧
      (u.pwrStep ≠ 0 → (u.pwr.running.any fun x => x.target == t) = false → Yields i s (u.supersede.setPending (some r))))) ∧
  (∀ (a : At) (aspm : Bool) (s : State), s.On a 37 → a.die = 0 →
    let b := s.begun a 37
    (b.pwrStep = 2 → b.pwr.reversing = false →
      let r := b.safePoint aspm
      Yields (.sleepEntryQuiesced a aspm) s (if r.2 then r.1.set 0 F.PWR_STATUS_STEP 3 else r.1)) ∧
    (b.pwrStep = 3 → b.pwr.reversing = false → b.undrained = false → ∀ codes inCycle after,
      let u := b.writeStaged
      (u.flag 0 F.PWR_CFG_FLUSH_ON_SLEEP && !u.pwr.flushed) = false →
      (u.pwr.pending.isSome && decide (u.now < u.pwr.pendingAt + a.cyc)) = false →
      let p := u.safePoint aspm
      Yields (.sleepEntryDrained a codes inCycle after aspm) s (if p.2 then p.1.commitSleep a.cyc inCycle after else p.1)) ∧
    (b.pwr.reversing = true → ∀ x, (b.bringUp).pwr.abort = some x →
      let u := b.bringUp
      let u := ((u.endRunning 4).bump 0 F.PWR_COUNT_ABORTS).raise 0 38 0x063 1 [(1, x.target), (1, x.cause), (1, x.step), (1, 0), (8, x.ts)]
      let u : State := { u with pwr := { u.pwr with reversing := false, abort := none } }
      let u := (u.set 0 F.PWR_STATUS_STEP 0).set 0 F.PWR_STATUS_TARGET 7
      (u.pwr.pending = none → Yields (.sleepEntryReversed a aspm) s u) ∧
      (∀ p, u.pwr.pending = some p → Yields (.sleepEntryReversed a aspm) s ((u.setPending none).startPwr p aspm))) ∧
    (∀ kind, kind < 4 → Yields (.eddyActivity a kind) s b.activity)) ∧
  (∀ (a : At) (isl : Nat) (s : State), a.die < s.part.dies → bonded a.die isl = true →
    let b := elapse a s
    b.get 0 F.PWR_STATUS_CURRENT = 1 → b.runs a.die isl = true → neverGated.contains isl = false →
    Yields (.islandGate a isl) s (b.modIslands a.die fun i => { i with gated := setBit i.gated isl }))

/-- A byte whose address is WAKE_ADDR: counted alone in E6 or while the package sleeps in TARN unarmed; while armed it counts by where
it finds the package and leaves TARN, wakes STILL with cause 3, or aborts the entry with cause 1. An admitted write of TRN_ADDR on
die 0 sets a legal WAKE_ADDR other than the SMBus target's, and a power-on of VTARN gives the Tarn registers their reset values.
In step 7 a wake is acknowledged when no kept island lacks CLK_OK, in time; after WAKE_ACK_US each die that lacks some raises
0x064 with its late islands held; then FLOW returns, untraceable, with the links up and a late answer given. (R406, R407, R409,
R411, 15_power_states_and_tarn.md) -/
def Obligations.TarnWakesThePackage : Prop :=
  (∀ (a : At) (s : State), a.die < s.part.dies → a.die = 0 →
    let b := elapse a s
    (∀ byte, byte < 256 → byte / 2 = b.get 0 F.TRN_ADDR_WAKE_ADDR →
      (b.pwrStep = 7 → Yields (.tarnMatch a byte) s (b.wrap 0 F.TRN_STATUS_WAKES)) ∧
      (b.pwrStep ≠ 7 → b.flag 0 F.TRN_ADDR_ARMED = false → b.tarn.asleep = true →
        Yields (.tarnMatch a byte) s (b.wrap 0 F.TRN_STATUS_WAKES)) ∧
      (b.pwrStep ≠ 7 → b.flag 0 F.TRN_ADDR_ARMED = true →
        (b.tarn.asleep = true → Yields (.tarnMatch a byte) s (b.countWake 2).leaveTarn) ∧
        (b.tarn.asleep = false → b.clock.stopped = true → Yields (.tarnMatch a byte) s ((b.countWake 1).wakeUp 3)) ∧
        (b.tarn.asleep = false → b.clock.stopped = false → Yields (.tarnMatch a byte) s
          ((((b.countWake 3).emit (.wakeReq true)).emit (.wakeReq false)).abortEntry 1 b.pwrStep false)))) ∧
    (∀ valid fused, fused < 128 →
      let u := (b.setWord 0 Reg.TRN_STATUS 0).setWord 0 Reg.TRN_ADDR 0
      let u := ((u.set 0 F.TRN_ADDR_FUSED_VALID (b2n valid)).set 0 F.TRN_ADDR_FUSED fused).set 0 F.TRN_ADDR_WAKE_ADDR
        (if valid then fused else 0x3C)
      Yields (.vtarnPowerOn a valid fused) s { u with tarn := {} }) ∧
    (b.pwrStep = 7 → b.pwr.acked = false →
      (((List.range b.part.dies).any fun d => b.lacking d != 0) = false → b.pwr.waited < b.wakeDeadline + a.cyc →
        Yields (.wakeAck a) s (if b.wakeDeadline ≤ b.pwr.waited then b.bump 0 F.PWR_NEAR_MISS_COUNT else b).acknowledge) ∧
      (b.wakeDeadline ≤ b.pwr.waited → Yields (.pwrWakeSlow a) s ((List.range b.part.dies).foldl (fun s d =>
        let m := s.lacking d
        if m = 0 then s
        else
          let s := s.raise 0 38 0x064 2 [(6, m), (1, d)]
          (List.range 44).foldl (fun s i => if bit m i then s.holdLate d i else s) s) b).acknowledge)) ∧
    (b.pwrStep = 7 → b.pwr.acked = true → ∀ aspm,
      let u := State.set { b with clock := { b.clock with stopped := false, traceable := false } } 0 F.TIM_STATUS_TRACEABLE 0
      let u := (List.range u.part.dies).foldl (fun s d => s.modDie d fun x => { x with selfRefresh := [] }) u
      let u := (((u.set 0 F.PWR_STATUS_CURRENT 0).set 0 F.PWR_STATUS_STEP 0).stateDone 0 2 u.pwr.cause).letGo.bringUp
      let u := u.pwr.late.elim u fun r => State.pwrDone { u with pwr := { u.pwr with late := none } } r 5
      (u.pwr.pending = none → Serves a (.stillExitDone a aspm) s u) ∧
      (∀ p, u.pwr.pending = some p → Serves a (.stillExitDone a aspm) s ((u.setPending none).startPwr p aspm)))) ∧
  (∀ (a : At) (q : Req) (v : Word) (s : State), s.Admits a q 0x060000 → a.die = 0 →
    let b := s.admitted a q 0x060000
    8 ≤ wordGet v 6 0 → wordGet v 6 0 < 0x78 → wordGet v 6 0 ≠ b.get 0 F.PKG_SMB_CFG_TARGET_ADDR →
    Yields (.trnAddrWrite a q v) s (b.set 0 F.TRN_ADDR_WAKE_ADDR (wordGet v 6 0)))

/-- Power-on clears what the supply kept and fires source 0; RST_N, PERST_N and JTAG fire sources 1, 2 and 13 with their reach outside
TARN; a hot reset at FUNCTION resets every function and else fires source 3; PF0's FLR resets PF0. The handshake of a waiting
source ends with its acknowledgement, in time, or at its deadline with the items counted and told. A source whose condition has
ended is released; admitted writes of RST_FORCE and RST_REQ on die 0 act; an island's CLK_OK or restored clock lets it run; a
function reset acts on its slot; SKN_LOAD and a pushed image load or refuse. After these, what waited is served. (R24, R25, R361,
R416, R419, R421, R422, R423, 16_reset_boot_and_safe_stores.md) -/
def Obligations.ResetsFireHandshakeAndRelease : Prop :=
  (∀ (a : At) (s : State), a.die < s.part.dies →
    let b := elapse a s
    let d := a.die
    (let ram := ((b.cellLog.map (·.1)) ++ (b.cells.map (·.1))).filter fun n => decide (2 ^ 40 ≤ n)
     let u : State := { b with cellLog := ram.map (fun n => (n, (0 : Byte))) ++ b.cellLog, skn := { b.skn with fired := false },
                               boot := { b.boot with sources := [] },
                               tarn := { b.tarn with asleep := false } }
     Yields (.powerOnReset a) s { u.cutTransition.fire 0 0 0 0 with isl := [], pkg := {} }) ∧
    (b.tarn.asleep = false →
      Yields (.rstNAssert a) s (b.fireReach 1 0 0) ∧ Yields (.perstNAssert a) s (b.fireReach 2 b.primary 17) ∧
      Yields (.jtagReset a) s (b.fireReach 13 0 0)) ∧
    (b.runs b.primary 17 = true →
      Serves a (.pcieHotReset a) s (if b.reachCode 3 = 4 then b.resetAllFunctions else b.fireReach 3 b.primary 17) ∧
      Serves a (.pf0Flr a) s b.resetPf0) ∧
    (∀ src x, src < 16 → b.awaiting d src = some x → b.clock.stopped = false →
      (b.now < x.deadline + a.cyc →
        Yields (.resetIdleAck a src) s ((if nearMiss a b x.deadline then b.bump 0 F.RST_NEAR_MISS_COUNT else b).handshakeEnds x)) ∧
      (x.deadline ≤ b.now → ∀ items : List (Nat × Nat), (∀ p ∈ items, p.1 < 44) →
        Yields (.resetIdleTimeout a src items) s ((items.foldl (fun s (p : Nat × Nat) =>
          (s.bump 0 F.RST_FORCED_COUNT).raise 0 38 0x032 2 [(1, p.1), (1, d), (2, 0), (4, p.2)]) b).handshakeEnds x))) ∧
    (∀ src x, src < 16 →
      (b.boot.sources.find? fun x => x.s == src && x.applied && (decide (x.level ≤ 1) || x.die == d)) = some x →
      x.until_.all (fallen b) = true → src ≠ 10 ∨ b.hold.failing = none →
      Serves a (.resetRelease a src) s ((b.releaseSource x).modIslands 0 id)) ∧
    (∀ isl, bonded d isl = true →
      (b.resting = false → bit (b.islands d).ok isl = false → bit (b.islands d).off isl = false →
        Table.find? (b.islands d).faultAt isl = none → Serves a (.clkOkAssert a isl) s (b.setClk d isl true).letGo) ∧
      (∀ ts, Table.find? (b.islands d).faultAt isl = some ts → b.clock.stopped = false → bit (b.islands d).off isl = false →
        Serves a (.clkIslandRestored a isl) s (((b.setClk d isl true).modIslands d fun i =>
          { i with faultAt := Table.del i.faultAt isl }).raise d isl 0x011 1 [(1, isl), (3, 0), (8, ts)])))) ∧
  (∀ (a : At) (q : Req) (v : Word) (s : State), a.die = 0 →
    (s.Admits a q 0x010024 → Serves a (.rstForceRelease a q v) s ((s.admitted a q 0x010024).forceRelease v)) ∧
    (s.Admits a q 0x010010 → Serves a (.rstReq a q v) s ((s.admitted a q 0x010010).requestReset v))) ∧
  (∀ (a : At) (f cause : Nat) (s : State), s.On { a with die := homeDie f } 36 → 1 ≤ f → f ≤ 31 * s.part.dies → 1 ≤ cause → cause ≤ 3 →
    let b := s.begun { a with die := homeDie f } 36
    let u : State := if cause = 1 then b else { b with vfn := { b.vfn with hostEn := Table.del b.vfn.hostEn f } }
    Serves a (.vfFunctionReset a f cause) s (u.resetVf f cause)) ∧
  (∀ (a : At) (s : State), s.On a 39 → a.die = 0 →
    let b := s.begun a 39
    (b.pkg.bootStep = 6 →
      let u := b.hold.torn.foldl (fun s t => s.tellTorn t.1 t.2.1 t.2.2) b
      let u : State := { u with hold := { u.hold with torn := [] }, boot := { u.boot with loaded := u.now } }
      Serves a (.sknLoad a) s (if u.get 0 F.RST_STRAP_BOOT = 0 then u.loadNvm else u.finishBoot)) ∧
    (∀ n, b.boot.pushing = some n →
      (n = 0 ∨ 8388608 < n ∨ n % 8 ≠ 0 → Serves a (.pushImageLoaded a) s (b.pushFailed ⟨4, 0, 8⟩)) ∧
      (n ≠ 0 → n ≤ 8388608 → n % 8 = 0 →
        let img := b.cellBytes (bootCell 0) n
        (∀ f, b.tripReset.takeImage img = .error f → Serves a (.pushImageLoaded a) s (b.pushFailed f)) ∧
        (∀ t, b.tripReset.takeImage img = .ok t →
          let u : State := { t with boot := { t.boot with pushing := none } }
          Serves a (.pushImageLoaded a) s ((((u.adopt img 2 false).tellLoaded).emit (.port 0 false))).finishBoot))))

/-- An admitted write of KEY_CMD on die 0: while a command is in progress it is ignored and counted; a requester other than PF0 ends
with result 10, but for an ATTEST over the SMBus where the option bytes allow it. For PF0: LOAD completes where the key is held,
ends with 3 while its handle is held off, or starts a load; PIN and UNPIN mark a held handle or end with 3; FLUSH drops it; ATTEST
in DEPLOYED or RETURNED with an owner opens the counter, or ends with 5; PROVISION, DEPLOY, RETURN and SCRAP outside their states
end with 1, and in them go on as the state's authorization asks. A load that fails is told with its reason; a hold-off ends; a
tamper destroys, is counted with 0xB04 and fires its reach. (R444, R445, R450, R451, R452, R453, R455, 17_keys_and_attestation.md) -/
def Obligations.KeyCommandsAndLoadsComplete : Prop :=
  (∀ (a : At) (q : Req) (v : Word) (buf : List Byte) (codes : List Nat) (s : State), s.Admits a q 0x280020 → a.die = 0 →
    let b := s.admitted a q 0x280020
    let op := wordGet v 31 28
    let h := wordGet v 15 0
    let c : KeyCmd := ⟨op, h, reqCode q, b.digest, (List.range 16).map fun k => b.word 0 Reg.KEY_ARG k, 0⟩
    (∀ i, (i = Instr.keyLoad a q v ∧ op = 1 ∧ buf = [] ∧ codes = []) ∨ (i = Instr.keyPin a q v ∧ op = 2 ∧ buf = [] ∧ codes = []) ∨
        (i = Instr.keyUnpin a q v ∧ op = 3 ∧ buf = [] ∧ codes = []) ∨ (i = Instr.keyFlush a q v ∧ op = 4 ∧ buf = [] ∧ codes = []) ∨
        (i = Instr.keyAttest a q v codes ∧ op = 5 ∧ buf = []) ∨ (i = Instr.keyProvision a q v buf codes ∧ op = 6) ∨
        (i = Instr.keyDeploy a q v codes ∧ op = 7 ∧ buf = []) ∨ (i = Instr.keyReturn a q v codes ∧ op = 8 ∧ buf = []) ∨
        (i = Instr.keyScrap a q v codes ∧ op = 9 ∧ buf = []) →
      (b.key.cmd.isSome = true → Yields i s (b.bump 0 F.SKN_IGNORED_COUNT)) ∧
      (b.key.cmd = none → q ≠ .pf0 → (op == 5 && q == .smb && b.boot.option.smbAttest) = false → Yields i s (b.keyDone op h 10)) ∧
      (b.key.cmd = none → q = .pf0 →
        (op = 1 → Yields i s (if (b.slotOwner? 0 h).isSome then b.keyDone 1 h 0 else if b.keyHeldOff 0 h then b.keyDone 1 h 3
          else (b.keyBusy c).needKey 0 0 h none)) ∧
        (op = 2 → Yields i s (if b.handleHeld h then (b.onHandle h fun x => { x with pinned := true }).keyDone 2 h 0 else b.keyDone 2 h 3)) ∧
        (op = 3 → Yields i s (if b.handleHeld h then (b.onHandle h fun x => { x with pinned := false }).keyDone 3 h 0 else b.keyDone 3 h 3)) ∧
        (op = 4 → Yields i s ((b.flushKey h).keyDone 4 h 0)) ∧
        (op = 5 → Yields i s (if (b.lc = 1 ∨ b.lc = 2) ∧ b.boot.fuses.ownerValid = true then b.openCounter c codes else b.keyDone 5 h 5)) ∧
        (op = 6 →
          (lcAllows 6 b.lc = false → Yields i s (b.keyDone 6 h 1)) ∧
          (lcAllows 6 b.lc = true →
            let u := b.emit (.hostRead 0 (b.pair 0 Reg.KEY_CMD_ADDR_LO Reg.KEY_CMD_ADDR_HI) 200)
            (u.provisionBank buf = none → Yields i s (u.keyDone 6 h 8)) ∧
            (∀ bank, u.provisionBank buf = some bank → Yields i s (u.transition c (bank ++ crc32c bank) codes)))) ∧
        (7 ≤ op → Yields i s (if lcAllows op b.lc = false then b.keyDone op h 1
          else if lcAuthorized op b.lc then b.openCounter c codes else b.transition c [] codes))))) ∧
  (∀ (a : At) (s : State), s.On a 34 →
    let b := s.begun a 34
    let d := a.die
    (∀ handle dirEntry blob l, (b.die d).keyLoads.find? (fun l => l.handle == handle) = some l →
      let u := b.modDie d fun x => { x with keyLoads := x.keyLoads.filter fun y => y != l }
      (∀ reason owner counts, u.fetchKey l dirEntry blob = .error (reason, owner, counts) →
        Yields (.keyLoadDone a handle dirEntry blob) s (u.keyFailed d l reason owner counts)) ∧
      (∀ owner use_ key, u.fetchKey l dirEntry blob = .ok (owner, use_, key) →
        let e := if owner = 0 then d else homeDie owner
        (u.takeSlot e owner = none → Yields (.keyLoadDone a handle dirEntry blob) s (u.keyFailed d l 6 owner false)) ∧
        (∀ n, u.takeSlot e owner = some (n, false) → Table.find? u.key.flushedAt handle = none → u.key.tamperAt = none →
          let u := u.bump e F.KEY_LOADS_COUNT
          let u := u.modDie e fun x => { x with
            keySlots := Table.put x.keySlots n { handle := handle, key := key, use_ := use_, used := u.now, owner := owner } }
          let cache := fun (t : Table (List Nat)) (e : Nat) => Table.upd t e [] fun m => (handle :: m.filter (· != handle)).take 16
          Yields (.keyLoadDone a handle dirEntry blob) s
            ((u.modDie d fun x => { x with engines := l.engines.foldl cache x.engines }).keyArrived l owner)))) ∧
    (∀ h t, Table.find? (b.die d).keyFail h = some t → t ≤ b.now →
      Yields (.keyFailHoldoffEnd a h) s (b.modDie d fun x => { x with keyFail := Table.del x.keyFail h })) ∧
    (∀ cause, 1 ≤ cause → cause ≤ 4 → b.tamperCounts d cause = true →
      let r := b.destroySession
      let u : State := { r.1 with key := { r.1.key with tamperAt := some r.1.now, rejects := if cause = 4 then [] else r.1.key.rejects } }
      let u := ((u.set d F.KEY_TAMPER_LAST_CAUSE cause).bump d F.KEY_TAMPER_COUNT).raise d 34 0xB04 3 [(1, cause), (1, d), (1, min 255 r.2)]
      Yields (.keyTamper a cause) s
        (if u.reachCode 11 = 3 then (List.range u.part.dies).foldl (fun s k => s.fire 11 3 k 34) u else u.fireReach 11 0 0)))

/-- A register access while the package rests in STILL or TARN reaches nothing. Else what waited is served first, and the first row of
Table 19.2 that applies decides. A write takes effect; is discarded and counted with cause 1, 3 or 5; is discarded with the
fence's count and CROSS_DIE_DISCARD at a die that is out; or waits behind an earlier write, for its island up to 2 us, or for its
semaphore. Row 2 never applies: blocks start at multiples of 64 KiB, so a 2-dword access that row 1 leaves lies in one block. A
read returns its dwords, a Completer Abort, all ones or zeros, with the same counts, or waits. A fence read, the LO half of an RO
pair and a read of BRG_SEM are reads of their own addresses; the free bits of a fence read that comes as a plain read are the
model's own (log entry 31). (R34, R35, R47, R344, R402, R485, R486, R490, 19_register_map.md) -/
def Obligations.RegisterAccessesFollowTable192 : Prop :=
  (∀ (a : At) (q : Req) (addr len : Nat) (be : Bool) (v0 v1 : Word) (w : Around) (s : State), addr < 2 ^ 27 →
    let e := elapse a s
    let b := e.serve a
    let t := b.decidedAt q addr len
    let i := Instr.registerWrite a q addr len be v0 v1 w
    let v := b.accessVerdict q addr len be true
    (e.resting = true → exec i s = .next (s.commit e)) ∧
    (e.resting = false →
      (v = .go → Settles a i s (b.performWrite a.cyc q addr len v0 v1 w)) ∧
      (v = .shape → Settles a i s (b.badAccess q addr 1)) ∧
      v ≠ .crossBlock ∧
      (v = .noDie → Settles a i s (b.badAccess q addr 3)) ∧
      (v = .dieOut → Settles a i s ((b.countDiscard q).raise (if q = .smb ∨ q = .shl then 0 else b.primary) (reqCode q) 0x014 2
        [(1, t.1), (3, 0), (3, t.2), (1, 0)])) ∧
      (v = .silent ∨ v = .islandOff → Settles a i s b) ∧
      (v = .denied →
        (∀ f, q = .vf f → Settles a i s (b.bump 0 F.VFN_UNPROVISIONED_COUNT)) ∧
        (q = .pf0 → Settles a i s (b.badAccess q addr 5)) ∧
        (q = .smb ∨ q = .shl → Settles a i s ((b.badAccess q addr 5).emit (.completion q .denied)))) ∧
      (v = .behind → Settles a i s (b.park ⟨q, addr, t.1, t.2, true, len, v0, v1, w, false, none, none⟩)) ∧
      (v = .waits → Settles a i s (b.park ⟨q, addr, t.1, t.2, true, len, v0, v1, w, false, some (b.now + us 2), none⟩)) ∧
      (v = .held → Settles a i s (b.park ⟨q, addr, t.1, t.2, true, len, v0, v1, w, true, b.semWait, none⟩)))) ∧
  (∀ (a : At) (q : Req) (addr len held : Nat) (be : Bool) (i : Instr) (s : State),
    let e := elapse a s
    let b0 := e.serve a
    let waiting := (b0.access.waiting.filter fun w => w.write && w.req == q).foldl (fun m w => setBit m w.die) 0
    ∀ b : State,
      ((i = Instr.registerRead a q addr len be ∧ addr < 2 ^ 27 ∧
          ((isFence q addr = false ∧ b = b0 ∧ held = 0) ∨ (isFence q addr = true ∧ b = b0.drawn ∧ held = b0.draw % 256))) ∨
        (∃ off, i = Instr.loLatchRead a q off ∧ loPair off = true ∧ addr = barAddr a.die off ∧ len = 1 ∧ be = true ∧ held = 0 ∧ b = b0) ∨
        (∃ n, i = Instr.semRead a q n ∧ n < 64 ∧ addr = barAddr a.die (0x203000 + 4 * n) ∧ len = 1 ∧ be = true ∧ held = 0 ∧ b = b0) ∨
        (∃ h, i = Instr.fenceRead a q h ∧ h < 256 ∧ addr = 0x3F0040 ∧ len = 1 ∧ be = true ∧ held = h ||| waiting ∧ b = b0)) →
    let t := b.decidedAt q addr len
    let v := b.accessVerdict q addr len be false
    let ones := Completion.data (List.replicate len 0xFFFFFFFF)
    let zeros := Completion.data (List.replicate len 0)
    let x : Waiting := ⟨q, addr, t.1, t.2, false, len, BitVec.ofNat 32 held, 0, {}, false, none, none⟩
    (e.resting = true → exec i s = .next (s.commit e)) ∧
    (e.resting = false →
      (v = .go →
        let r := b.performRead q addr len held
        Settles a i s (r.1.emit (.completion q (.data r.2)))) ∧
      (v = .shape → Settles a i s ((b.badAccess q addr 1).emit (.completion q .abort))) ∧
      v ≠ .crossBlock ∧
      (v = .noDie → Settles a i s ((b.badAccess q addr 3).emit (.completion q ones))) ∧
      (v = .dieOut → Settles a i s (b.emit (.completion q ones))) ∧
      (v = .silent ∨ v = .islandOff → Settles a i s (b.emit (.completion q zeros))) ∧
      (v = .denied →
        (∀ f, q = .vf f → Settles a i s (b.emit (.completion q zeros))) ∧
        (q = .pf0 → Settles a i s ((b.badAccess q addr 5).emit (.completion q zeros))) ∧
        (q = .smb ∨ q = .shl → Settles a i s ((b.badAccess q addr 5).emit (.completion q .denied)))) ∧
      (v = .behind → Settles a i s (b.park x)) ∧
      (v = .waits → Settles a i s (b.park { x with deadline := some (b.now + us 2) })) ∧
      (v = .held → Settles a i s (b.park { x with sem := true, deadline := b.semWait }))))

/-- On a die whose clock runs, ACCESS_WAIT_TIMEOUT ends every wait decided there whose deadline has passed: the accesses one after
another, then the dwords of messages, and serves what still waits. A locked read on the primary die's running bridge: of a
privileged channel it is a read with the channel's semaphore; of anything but a window it completes with Unsupported Request and
is counted; of a window that is fenced, or whose bus is broken for the function, with the abort; of one that is not LOCKABLE it is
refused and counted; of one whose bus is absent it is refused; else the bus is locked, by the function that holds it or anew, and
the read goes out under a tag. (R343, R344, R485, 12_pcie_bridge.md, 19_register_map.md) -/
def Obligations.WaitsEndAndLockedReadsAreTaken : Prop :=
  (∀ (a : At) (s : State), a.die < s.part.dies →
    let b := elapse a s
    b.clock.stopped = false →
    let past := fun (d : Option Nat) => (d.map (fallen b)).getD false
    let ended := fun (x : Waiting) => past x.deadline && (if x.sem then b.primary == a.die else x.die == a.die)
    let c : State := { b with access := { b.access with waiting := b.access.waiting.filter fun x => !ended x } }
    let u := (b.access.waiting.filter ended).foldl State.waitEnds c
    (u.access.msgs = [] → Settles a (.accessWaitTimeout a) s u) ∧
    (∀ m, u.access.msgs = [m] → ((m.deadline.map (fallen b)).getD false && (m.addr + 4 * m.done) / 0x1000000 == a.die) = true →
      let r := ({ u with access := { u.access with msgs := [] } } : State).dwordEnds m
      Settles a (.accessWaitTimeout a) s { r.1 with access := { r.1.access with msgs := r.1.access.msgs ++ [r.2] } })) ∧
  (∀ (a : At) (f : Nat) (tgt : Target) (addr len tag : Nat) (s : State), s.On a 19 → f < 249 → 0 < len → len ≤ 4096 →
    let b := s.begun a 19
    a.die = b.primary →
    let p := b.primary
    let u := b.activity
    let i := Instr.lockedRead a f tgt addr len tag
    let refuse := (u.bump p F.BRG_UR_LOCK_COUNT).emit (.answer f tag 1 [])
    (∀ d off, tgt = .csr d off →
      (channelSem off = none → Yields i s refuse) ∧
      ((channelSem off).isSome = true →
        Yields i s (u.beginRead (if f = 0 then .pf0 else .vf f) (barAddr d off) (len / 4) (len % 4 == 0) 0 (some tag)))) ∧
    (∀ n, tgt = .bar2 n ∨ tgt = .peer n → Yields i s refuse) ∧
    (∀ n pref, tgt = .vdp n pref →
      let w := u.window? f tgt addr
      ((u.fenced f w || u.brokenFor f (u.vdpOf tgt w)) = true → Yields i s (u.emit (.answer f tag 4 []))) ∧
      ((u.fenced f w || u.brokenFor f (u.vdpOf tgt w)) = false →
        (u.winFlag w F.BRG_WIN_CFG_LOCKABLE = false → Yields i s refuse) ∧
        (u.winFlag w F.BRG_WIN_CFG_LOCKABLE = true →
          (u.vdpOf tgt w = none → Yields i s (u.emit (.answer f tag 1 []))) ∧
          (∀ v, u.vdpOf tgt w = some v →
            (u.vdpCarried v = false → Yields i s (u.emit (.answer f tag 1 []))) ∧
            (u.vdpCarried v = true →
              let x := u.endLock
              let y := (x.modBrg fun b => { b with lock := some { fn := f, vdp := some v, sem := 0, since := u.now, broken := false } }).set p
                F.BRG_VDP_STATUS_LOCKED 1 v
              let g := fun (y : State) =>
                let r := y.takeTag p ⟨f, winNo w, v, addr, len, tag, 0, y.tagDeadline, 2⟩
                match r.2 with
                | some t => r.1.forwardTlp v 2 f t addr (leBytes 2 len)
                | none => r.1
              (∀ l, u.brg.lock = some l → l.fn = f → l.vdp = some v → Yields i s (g u)) ∧
              ((∀ l, u.brg.lock = some l → ¬ (l.fn = f ∧ l.vdp = some v)) → Yields i s (g y))))))))

/-- An admitted write of RELEASE on the primary die frees the semaphore where its holder writes it, and changes nothing otherwise;
FORCE frees it where PF0 writes it. An Unlock frees the locked channel's semaphore if the function still holds it, or releases the
far bus and tells it unless the lock was broken; without a lock it does nothing. A write of BRG_PORT_CMD with PROMOTE on die 0
promotes the named standby port, and is ignored for any other; so does the automatic promotion, by the lowest standby port whose
reset is off, once the primary port has been down for its time and the option is set. After each, what waited is served. (R329,
R343, R344, 12_pcie_bridge.md) -/
def Obligations.SemaphoresAreFreedAndPortsPromoted : Prop :=
  (∀ (a : At) (q : Req) (n : Nat) (v : Word) (s : State), n < 64 → s.Admits a q (0x203000 + 4 * n) →
    let b := s.admitted a q (0x203000 + 4 * n)
    a.die = b.primary →
    (wordGet v 0 0 = 1 →
      (b.semHolder n = reqCode q → Serves a (.semRelease a q n v) s (b.semSet n 0x1FF)) ∧
      (b.semHolder n ≠ reqCode q → wordGet v 1 1 = 0 ∨ q ≠ .pf0 → Serves a (.semRelease a q n v) s b)) ∧
    (wordGet v 1 1 = 1 →
      (q = .pf0 → Serves a (.semForce a q n v) s (b.semSet n 0x1FF)) ∧
      (q ≠ .pf0 → wordGet v 0 0 = 0 ∨ b.semHolder n ≠ reqCode q → Serves a (.semForce a q n v) s b))) ∧
  (∀ (a : At) (s : State), s.On a 19 →
    let b := s.begun a 19
    (b.brg.lock = none → Serves a (.unlockMessage a) s b) ∧
    (∀ l, b.brg.lock = some l →
      let u := b.modBrg fun x => { x with lock := none }
      (l.vdp = none → Serves a (.unlockMessage a) s (if u.semHolder l.sem = l.fn then u.semSet l.sem 0x1FF else u)) ∧
      (∀ v, l.vdp = some v →
        let w := u.set u.primary F.BRG_VDP_STATUS_LOCKED 0 v
        Serves a (.unlockMessage a) s (if l.broken then w else w.forwardTlp v 3 l.fn 0 0 [])))) ∧
  (∀ (a : At) (q : Req) (v : Word) (s : State), s.Admits a q 0x20000C → a.die = 0 → wordGet v 31 31 = 1 →
    let b := s.admitted a q 0x20000C
    (b.standby (wordGet v 2 0) = true → Serves a (.portPromote a q v) s (b.promote (wordGet v 2 0) 1)) ∧
    (b.standby (wordGet v 2 0) = false → Serves a (.portPromote a q v) s b)) ∧
  (∀ (a : At) (perst : Nat) (s : State), s.On { a with die := 0 } 19 → perst < 256 →
    let b := s.begun { a with die := 0 } 19
    ∀ t d, b.brg.downAt = some t → d < 8 → b.standby d = true → bit perst d = true →
      (∀ e, e < d → ¬ (b.standby e = true ∧ bit perst e = true)) → b.flag 0 F.BRG_PORT_CFG_AUTO_PROMOTE = true →
      fallen b (t + ms (b.get 0 F.BRG_PORT_CFG_PROMOTE_AFTER_MS)) = true → Serves a (.autoPromote a perst) s (b.promote d 2))

/-- For every command c and state s whose queue is c and then the rest: step answers what exec answers for c on s with the rest as its
queue. On an empty queue step answers s itself, which is the model's choice (log entry 2). (R489, 19_register_map.md) -/
def Obligations.StepCarriesOutTheFrontCommand : Prop :=
  (∀ (c : Instr) (rest : List Instr) (s : State), s.pending = c :: rest → step s = exec c { s with pending := rest }) ∧
  (∀ s : State, s.pending = [] → step s = .next s)

/-- The state right after reset has its register and byte tables in canonical form with no command in progress, no command in its
queue, no access, command or message waiting, nothing sent, and no register or byte listed: every register holds its reset value.
(R416, R487, 16_reset_boot_and_safe_stores.md) -/
def Obligations.ResetIsKept : Prop :=
  State.reset.Kept ∧ State.reset.pending = [] ∧ State.reset.Unwaited ∧ State.reset.out = [] ∧
    (∀ n, State.reset.reg n = unlistedReg n) ∧ (∀ n, State.reset.cell n = unlistedCell n)

/-- For every well-kept state, not only those that a run reaches: if a step answers a next state, whichever of the commands it carries
out, that state is well kept: the offsets listed in the register table and the cells listed in the byte table rise strictly, no
entry equals what an unlisted one reads as, and no write of a command is left outside them. (R487, R489, 19_register_map.md) -/
def Obligations.EveryStepKeepsTheTables : Prop :=
  ∀ s t : State, s.Kept → step s = .next t → t.Kept

/-- From every state, a step answers a next state, or refuses its command because the variant has no such die, unit, index or operand;
it never faults. (R22, R485, 01_one_part_many_dies.md, 19_register_map.md) -/
def Obligations.NoStepFaults : Prop :=
  ∀ s : State, (∃ t, step s = .next t) ∨ step s = .refused .noSuchUnit

/-- Whichever command stands at the front: when a step answers a next state, the queue of that state is the rest of the queue, in its
order. (R489, 19_register_map.md) -/
def Obligations.StepTakesOneCommandFromTheQueue : Prop :=
  ∀ (c : Instr) (rest : List Instr) (s t : State), s.pending = c :: rest → step s = .next t → t.pending = rest

/-- While a command is in progress a register reads as last written, every other as before, a field of a register reads the value
written to it modulo its width, and a field apart from it as before; a run of bytes reads back as written and every other byte as
before. After the command each register and byte reads its latest write, else what it held, and the whole table is in canonical
form. (R8, R487, 19_register_map.md) -/
def Obligations.ACommandEndsInItsLatestWrites : Prop :=
  (∀ (s : State) (n m : Nat) (w : Word), (s.setReg n w).reg m = if m = n then w else s.reg m) ∧
  (∀ (s : State) (d v i j : Nat) (f g : Fld), f.lo ≤ f.hi → f.hi < 32 →
    (s.set d f v i j).get d f i j = v % 2 ^ (f.hi + 1 - f.lo) ∧
    (g.reg = f.reg → g.hi < f.lo ∨ f.hi < g.lo → (s.set d f v i j).get d g i j = s.get d g i j)) ∧
  (∀ (s : State) (n m : Nat) (l : List Byte), (s.setCells n l).cell m = if n ≤ m ∧ m < n + l.length then l.getD (m - n) 0 else s.cell m) ∧
  (∀ (s u : State) (n : Nat), s.Kept →
    (s.commit u).reg n = (logFind u.regLog n).getD (s.reg n) ∧ (s.commit u).cell n = (logFind u.cellLog n).getD (s.cell n)) ∧
  (∀ (s u : State), s.Kept → (s.commit u).Kept)

/-- On a die of the variant, a command decided in an island that does not run (the PLYI, PLYO, BUF, SCH, BRG, ETH, DSP, MEM or KEY
island of the command) leaves the state as it was, but for the time that has passed, and sends nothing; every register and byte
reads as before. In STILL local time stands still as well. (R24, R25, R404, R406, 01_one_part_many_dies.md) -/
def Obligations.AStoppedIslandLetsTimePass : Prop :=
  ∀ (a : At) (s : State), s.Kept → a.die < s.part.dies →
    let idle := fun (i : Instr) => Gives i s fun t => t.out = [] ∧ s.OnlyRegs [] t ∧ s.SameBytes t ∧ t.dies = s.dies ∧ t.evt = s.evt ∧
      t.now = (if s.clock.stopped then s.now else s.now + a.dt)
    (s.runs a.die 8 = false → ∀ k, k < 8 → idle (.detectTimeout a k) ∧ idle (.quietEnd a k) ∧ idle (.lockTimeout a k) ∧
      idle (.exchangeTimeout a k) ∧ idle (.liveness a k) ∧ (∀ b, idle (.idleBlockReceive a k b))) ∧
    (s.runs a.die 9 = false → ∀ k, k < 8 → idle (.creditSend a k) ∧ idle (.directionWake a k)) ∧
    (s.runs a.die 12 = false → idle (.chargeRelease a)) ∧
    (s.runs a.die 13 = false → idle (.queueSample a) ∧ ∀ n, n < 304 → idle (.queueAgeDrop a n)) ∧
    (s.runs a.die 19 = false → idle (.brgLockBroken a)) ∧
    (∀ m, m < 4 → s.runs a.die (21 + m) = false → ∀ up speed an, idle (.ethLink a m up speed an)) ∧
    (∀ h, h < 2 → s.runs a.die (25 + h) = false → idle (.intakePoint a h) ∧ idle (.prefetchPoint a h) ∧ idle (.frameStart a h)) ∧
    (∀ c, c < 2 → s.runs a.die (29 + c) = false → idle (.memSelfRefreshExit a c)) ∧
    (s.runs a.die 34 = false → ∀ cause, 1 ≤ cause → cause ≤ 4 → idle (.keyTamper a cause))

/-- In a package that does not rest, where nothing waits and the fence offsets are not named: an access by PF0 of a length other than
1 or 2 dwords, without all byte enables, or misaligned has cause 1; one to a die at or above the die count has cause 3. A read
gets a Completer Abort, and for cause 3 all ones; a write is discarded. COUNT of PKG_BAD_ACCESS rises by 1 up to its top,
LAST_CAUSE is the cause, PKG_BAD_ADDR holds the address and PKG_BAD_REQ reads 0; no other register, no byte and no event changes.
(R485, R490, R494, 19_register_map.md) -/
def Obligations.BadAccessesAreCountedAndRecorded : Prop :=
  ∀ (a : At) (addr len cause : Nat) (be : Bool) (s : State), s.Kept → s.Unwaited → (elapse a s).resting = false → addr < 2 ^ 27 →
    addr ≠ 0x3F0040 →
    let off := addr % 0x1000000
    let shape := len = 0 ∨ 2 < len ∨ be = false ∨ off % 4 ≠ 0 ∨ (len = 2 ∧ off % 8 ≠ 0)
    (cause = 1 ∧ shape) ∨ (cause = 3 ∧ ¬ shape ∧ s.part.dies ≤ addr / 0x1000000) →
    let told := fun (t : State) =>
      t.get 0 F.PKG_BAD_ACCESS_COUNT = min (2 ^ 28 - 1) (s.get 0 F.PKG_BAD_ACCESS_COUNT + 1) ∧
      t.get 0 F.PKG_BAD_ACCESS_LAST_CAUSE = cause ∧ t.get 0 F.PKG_BAD_ADDR_ADDR = addr ∧ t.get 0 F.PKG_BAD_REQ_REQ = 0 ∧
      s.OnlyRegs [barAddr 0 0x3F0010, barAddr 0 0x3F0014, barAddr 0 0x3F0018] t ∧ s.SameBytes t ∧ t.evt = s.evt ∧ t.dies = s.dies
    Gives (.registerRead a .pf0 addr len be) s (fun t => told t ∧
      t.out = [.completion .pf0 (if cause = 3 then .data (List.replicate len 0xFFFFFFFF) else .abort)]) ∧
    (∀ v0 v1 w, Gives (.registerWrite a .pf0 addr len be v0 v1 w) s fun t => told t ∧ t.out = [])

/-- An admitted write of 1 to CLEAR of a counter register, a near-miss counter among them, on a die whose copy acts: the register then
reads the increments of that cycle, up to the counter's top, so with one increment it reads 1; PKG_BAD_ACCESS reads LAST_CAUSE 0
and COUNT likewise; no other register but EDDY's end and no byte has changed. An admitted write to a register with W1C bits has
the write's effect without the bits that the hardware sets in that cycle, and those bits then read 1. (R488) -/
def Obligations.ClearsComeBeforeSameCycleEvents : Prop :=
  (∀ (a : At) (q : Req) (off inc : Nat) (v : Word) (s : State) (r : RegDesc), s.Admits a q off → regAt off = some r →
    (s.admitted a q off).acts a.die off = true → wordGet v 31 31 = 1 →
    (isCounter r = true → Gives (.counterClear a q off v inc) s fun t =>
      t.reg (barAddr a.die off) = wordSet 0 30 0 (min inc (counterTop r)) ∧ (inc = 1 → t.reg (barAddr a.die off) = 1) ∧
      s.OnlyRegs (barAddr a.die off :: eddyRegs) t ∧ s.SameBytes t ∧ t.dies = s.dies) ∧
    (off = 0x3F0010 → a.die = 0 → Gives (.counterClear a q off v inc) s fun t =>
      t.get 0 F.PKG_BAD_ACCESS_COUNT = min inc (2 ^ 28 - 1) ∧ t.get 0 F.PKG_BAD_ACCESS_LAST_CAUSE = 0 ∧
      s.OnlyRegs (barAddr 0 0x3F0010 :: eddyRegs) t ∧ s.SameBytes t ∧ t.dies = s.dies)) ∧
  (∀ (a : At) (q : Req) (off : Nat) (v hwSet : Word) (s : State) (r : RegDesc), s.Admits a q off → regAt off = some r →
    (s.admitted a q off).acts a.die off = true →
    let m := hwSet &&& r.mask (· == .w1c)
    v &&& r.mask (· == .w1c) ≠ 0 →
    let n := barAddr a.die off
    let u := (s.admitted a q off).writeDword a.die off a.cyc q (v &&& ~~~ m) {}
    Yields (.w1cClear a q off v hwSet) s (u.setReg n (u.reg n ||| m)) ∧
    Gives (.w1cClear a q off v hwSet) s fun t => t.reg n &&& m = m)

/-- After an admitted write of D to the doorbell of outlet m on a die, with P its producer count and the outstanding count before the
write: where (P - D) mod 2^32 is not above the outstanding count, the doorbell reads D and the outstanding count is (P - D) mod
2^32, and no event is raised for it; otherwise the doorbell and the outstanding count read as before, BAD_DOORBELL reads 1, and
OUTLET_BAD_DOORBELL is raised to PF0. Either way no register but the outlet's doorbell and status and those of EDDY's end, and no
byte, changes, and nothing is sent. (R74) -/
def Obligations.DoorbellsConsumeOrAreRefused : Prop :=
  ∀ (a : At) (q : Req) (m : Nat) (v : Word) (s : State), s.Admits a q (0x051020 + 0x40 * m) → m < 128 →
    let d := a.die
    let left := (s.get d F.EVT_OUT_PRODUCER_P m + 2 ^ 32 - v.toNat) % 2 ^ 32
    let before := s.get d F.EVT_OUT_STATUS_OUTSTANDING m
    Gives (.outletDoorbell a q m v) s fun t =>
      s.OnlyRegs ([barAddr d (Reg.EVT_OUT_DOORBELL.off m 0), barAddr d (Reg.EVT_OUT_STATUS.off m 0)] ++ eddyRegs) t ∧ s.SameBytes t ∧
      t.out = [] ∧ t.dies = s.dies ∧
      (left ≤ before → t.get d F.EVT_OUT_DOORBELL_C m = v.toNat ∧ t.get d F.EVT_OUT_STATUS_OUTSTANDING m = left ∧
        t.get d F.EVT_OUT_STATUS_BAD_DOORBELL m = s.get d F.EVT_OUT_STATUS_BAD_DOORBELL m ∧ t.evt = (s.admitted a q (0x051020 + 0x40 * m)).evt) ∧
      (before < left → t.get d F.EVT_OUT_DOORBELL_C m = s.get d F.EVT_OUT_DOORBELL_C m ∧ t.get d F.EVT_OUT_STATUS_OUTSTANDING m = before ∧
        t.get d F.EVT_OUT_STATUS_BAD_DOORBELL m = 1 ∧
        ∃ owner, t.Raised 0 d m 0x003 2 [(2, d * 128 + m), (1, owner), (1, 0), (4, v.toNat), (4, s.get d F.EVT_OUT_PRODUCER_P m)])

/-- On a running bridge, for a notice of cause 1 to 5: where its arrival time-stamp is later than the acceptance time-stamp plus 4 s,
BRG_NOTICE_STALE rises by 1 up to its top, and no other register, no byte and no event changes; at exactly 4 s the notice is
honoured: FAR_WRITE_ERR of the function reads 1 and LAST_ORDINAL the ordinal, WRITE_LOST is raised to the function, and
BRG_NEAR_MISS has counted the win. (R338) -/
def Obligations.LateNoticesAreStale : Prop :=
  ∀ (a : At) (f : Nat) (tgt : Target) (ord addr ts cause : Nat) (s : State), s.On a 19 → f < 249 → 1 ≤ cause → cause ≤ 5 →
    let b := s.begun a 19
    let p := s.primary
    (tsPs ts + 4000000000000 < tsPs b.ts → Gives (.failureNoticeReceive a f tgt ord addr ts cause) s fun t =>
      t.get p F.BRG_NOTICE_STALE_COUNT = min (2 ^ 31 - 1) (s.get p F.BRG_NOTICE_STALE_COUNT + 1) ∧
      s.OnlyRegs [barAddr p (Reg.BRG_NOTICE_STALE.off 0 0)] t ∧ s.SameBytes t ∧ t.evt = s.evt ∧ t.out = []) ∧
    (tsPs b.ts = tsPs ts + 4000000000000 → ord < 65536 → Gives (.failureNoticeReceive a f tgt ord addr ts cause) s fun t =>
      t.get p F.BRG_FN_ERR_FAR_WRITE_ERR f = 1 ∧ t.get p F.BRG_FN_ERR_LAST_ORDINAL f = ord ∧
      t.get p F.BRG_NOTICE_STALE_COUNT = s.get p F.BRG_NOTICE_STALE_COUNT ∧
      t.get p F.BRG_NEAR_MISS_COUNT = min 65535 (s.get p F.BRG_NEAR_MISS_COUNT + 1) ∧
      (∃ e, t.evt.raised.getLast? = some e ∧ e.owner = f ∧ e.code = 0x801 ∧ e.src = 19) ∧ s.SameBytes t)

/-- With nothing waiting, PF0's admitted write of GLB_SCRATCH or PKG_SCRATCH reads back, and a write into the boot window stores its
four bytes at the window's page and nothing else; a splice replay raises its count; a store's self-refresh exit and a write of
TRN_ADDR change their one item (an address below 0x08, above 0x77 or equal to the SMB target's is ignored). In each, no other
register but EDDY's end where a write can bring it about, and no other byte, changes, and nothing is sent but what the statement
names. (R8, R21, R316, R411, R427, R494, R495, 19_register_map.md) -/
def Obligations.CommandsChangeOnlyWhatTheyName : Prop :=
  (∀ (a : At) (off : Nat) (v v1 : Word) (w : Around) (s : State), s.Unwaited → s.Admits a .pf0 off → a.die < 8 →
    (off = 0x000020 ∨ (a.die = 0 ∧ (off = 0x3F0020 ∨ off = 0x3F0024 ∨ off = 0x3F0028 ∨ off = 0x3F002C)) →
      Gives (.registerWrite a .pf0 (barAddr a.die off) 1 true v v1 w) s fun t => t.reg (barAddr a.die off) = v ∧
        s.OnlyRegs (barAddr a.die off :: eddyRegs) t ∧ s.SameBytes t ∧ t.out = [] ∧ t.dies = s.dies) ∧
    (a.die = 0 → 0x011000 ≤ off → off < 0x012000 → off % 4 = 0 →
      Gives (.registerWrite a .pf0 (barAddr a.die off) 1 true v v1 w) s fun t =>
        let n := bootCell (4096 * s.get 0 F.RST_BOOT_PAGE_PAGE + (off - 0x011000))
        (∀ k, k < 4 → t.cell (n + k) = (leBytes 4 v.toNat).getD k 0) ∧ (∀ m, m < n ∨ n + 4 ≤ m → t.cell m = s.cell m) ∧
        s.OnlyRegs eddyRegs t ∧ t.out = [] ∧ t.dies = s.dies)) ∧
  (∀ (a : At) (port : Nat) (s : State), port < 3 → s.On a (14 + port) → s.spliceHere a.die port = true →
    Gives (.spliceReplay a port) s fun t =>
      t.get a.die F.GLB_SPLICE_STATUS_REPLAY_COUNT port =
        min F.GLB_SPLICE_STATUS_REPLAY_COUNT.top (s.get a.die F.GLB_SPLICE_STATUS_REPLAY_COUNT port + 1) ∧
      s.OnlyRegs [barAddr a.die (Reg.GLB_SPLICE_STATUS.off port 0)] t ∧ s.SameBytes t ∧ t.out = [] ∧ t.dies = s.dies ∧ t.evt = s.evt) ∧
  (∀ (a : At) (c : Nat) (s : State), c < 2 → s.On a (29 + c) →
    Gives (.memSelfRefreshExit a c) s fun t => (∀ e, t.die e = if e = a.die then
        { s.die e with selfRefresh := Table.put (s.die e).selfRefresh c false } else s.die e) ∧
      s.OnlyRegs [] t ∧ s.SameBytes t ∧ t.out = [] ∧ t.evt = s.evt) ∧
  (∀ (a : At) (q : Req) (v : Word) (s : State), s.Admits a q 0x060000 → a.die = 0 →
    let x := wordGet v 6 0
    Gives (.trnAddrWrite a q v) s fun t =>
      t.get 0 F.TRN_ADDR_WAKE_ADDR = (if x < 8 ∨ 0x78 ≤ x ∨ x = s.get 0 F.PKG_SMB_CFG_TARGET_ADDR then s.get 0 F.TRN_ADDR_WAKE_ADDR else x) ∧
      s.OnlyRegs [barAddr 0 (Reg.TRN_ADDR.off 0 0)] t ∧ s.SameBytes t ∧ t.out = [] ∧ t.dies = s.dies)

/-- With nothing waiting, PF0's admitted read of BRG_SEM n on the primary die, for a semaphore that Table 12.5 grants: where it is
free, the reader holds it afterwards and sees GRANTED 1; where the reader holds it already, it sees GRANTED 1; where another holds
it, the holder stays and GRANTED is 0. A semaphore from 5 to 15 is never granted. No other register changes but EDDY's end, and no
byte. (R344, 12_pcie_bridge.md) -/
def Obligations.SemaphoreReadsAcquire : Prop :=
  ∀ (a : At) (q : Req) (n : Nat) (s : State), s.Kept → s.Unwaited → (elapse a s).resting = false → n < 64 → q = .pf0 →
    a.die = s.primary → a.die < 8 →
    (elapse a s).verdict q a.die (0x203000 + 4 * n) 1 true false = .go →
    let reg := barAddr a.die (Reg.BRG_SEM.off n 0)
    let grant := fun (t : State) (g : Nat) => ∃ w : Word, t.out = [.completion q (.data [w])] ∧ wordGet w 31 31 = g
    Gives (.semRead a q n) s fun t => s.OnlyRegs (reg :: eddyRegs) t ∧ s.SameBytes t ∧
      (semUsable n = true → s.semHolder n = 0x1FF → t.get a.die F.BRG_SEM_HOLDER n = reqCode q ∧ t.get a.die F.BRG_SEM_HELD n = 1 ∧ grant t 1) ∧
      (semUsable n = true → s.semHolder n = reqCode q → t.reg reg = s.reg reg ∧ grant t 1) ∧
      (s.semHolder n ≠ 0x1FF → s.semHolder n ≠ reqCode q → t.reg reg = s.reg reg ∧ grant t 0) ∧
      (semUsable n = false → t.reg reg = s.reg reg ∧ grant t 0)

/-- With nothing waiting, for an RO pair on a die: PF0's read of LO is answered with LO and latches HI as it then is; PF0's read of HI
is answered with a latched value, which is then gone, and without one with the current HI. No register but EDDY's end and no byte
changes. (R486, 19_register_map.md) -/
def Obligations.TheHighHalfIsLatched : Prop :=
  ∀ (a : At) (off : Nat) (s : State), s.Kept → s.Unwaited → (elapse a s).resting = false → loPair off = true → a.die < 8 →
    (∀ i, (i = Instr.loLatchRead a .pf0 off ∨ i = Instr.registerRead a .pf0 (barAddr a.die off) 1 true) →
      (elapse a s).verdict .pf0 a.die off 1 true false = .go →
      Gives i s fun t => s.OnlyRegs eddyRegs t ∧ s.SameBytes t ∧ ∃ lo hi : Word, t.out = [.completion .pf0 (.data [lo])] ∧
        Table.find? (t.latches .pf0) (barAddr a.die (off + 4)) = some hi ∧
        (s.get 0 F.PWR_STATUS_CURRENT ≠ 1 → lo = (elapse a s).view a.die off ∧ hi = (elapse a s).view a.die (off + 4))) ∧
    ((elapse a s).verdict .pf0 a.die (off + 4) 1 true false = .go →
      Gives (.registerRead a .pf0 (barAddr a.die (off + 4)) 1 true) s fun t => s.OnlyRegs eddyRegs t ∧ s.SameBytes t ∧
        Table.find? (t.latches .pf0) (barAddr a.die (off + 4)) = none ∧
        (∀ w, Table.find? (s.latches .pf0) (barAddr a.die (off + 4)) = some w → t.out = [.completion .pf0 (.data [w])]) ∧
        (Table.find? (s.latches .pf0) (barAddr a.die (off + 4)) = none → s.get 0 F.PWR_STATUS_CURRENT ≠ 1 →
          t.out = [.completion .pf0 (.data [(elapse a s).view a.die (off + 4)])]))

/-- After reset PKG_IDENT shows family 7; PKG_STATUS shows BOOT_STEP 1, no RECOVERY, power FLOW, no die in reset or cut;
PKG_BAD_ACCESS, PKG_SCRATCH, GLB_SCRATCH and BRG_TAGS are 0, the SMB target is enabled at 0x3A, and local time, the event outbox
and the promotions are at their starts. The stepping and the variant of the part after reset are the model's own choice (log entry
1). (R415, R416, R427, R487, R494, R495, 19_register_map.md) -/
def Obligations.ResetShowsTheTablesValues : Prop :=
  let s := State.reset
  wordGet (s.view 0 0x3F0000) 31 24 = 0x07 ∧ wordGet (s.view 0 0x3F000C) 31 28 = 1 ∧ wordGet (s.view 0 0x3F000C) 27 27 = 0 ∧
    wordGet (s.view 0 0x3F000C) 23 21 = 0 ∧ wordGet (s.view 0 0x3F000C) 15 0 = 0 ∧
    s.view 0 0x3F0010 = 0 ∧ s.view 0 0x3F0020 = 0 ∧ s.view 0 0x000020 = 0 ∧
    s.get 0 F.PKG_SMB_CFG_SMB_EN = 1 ∧ s.get 0 F.PKG_SMB_CFG_TARGET_ADDR = 0x3A ∧ s.evt.raised = [] ∧ s.get 0 F.BRG_PORT_STATUS_PROMOTIONS = 0

/-- For every state, queue, speed and class: where bit o of SWC_CT_OFF of the holding die is set, no unit of a queue of output o is
cut through. On a part of other than eight dies, with nothing waiting, PF0's admitted read of SWC_CT_OFF (for which no HI half can
be latched) is answered 0x0007_FFFF, and PF0's admitted write to it changes no register but EDDY's end, and no byte. (R170) -/
def Obligations.CutThroughObeysItsMask : Prop :=
  (∀ (s : State) (key speed tc : Nat), bit (s.get (key / 512) F.SWC_CT_OFF_CT_OFF) (key % 512 / 16) = true → s.cutThrough key speed tc = false) ∧
  (∀ (a : At) (s : State), s.Unwaited → s.Kept → s.part.dies ≠ 8 → a.die < 8 →
    ((elapse a s).resting = false → (elapse a s).verdict .pf0 a.die 0x100018 1 true false = .go →
      Table.find? (s.latches .pf0) (barAddr a.die 0x100018) = none →
      Gives (.registerRead a .pf0 (barAddr a.die 0x100018) 1 true) s fun t => t.out = [.completion .pf0 (.data [0x7FFFF])] ∧
        (∀ n, n ∉ eddyRegs → t.reg n = s.reg n) ∧ s.SameBytes t) ∧
    (s.Admits a .pf0 0x100018 → ∀ v v1 w, Gives (.registerWrite a .pf0 (barAddr a.die 0x100018) 1 true v v1 w) s fun t =>
      t.out = [] ∧ s.OnlyRegs eddyRegs t ∧ s.SameBytes t ∧ t.dies = s.dies))

/-- On a running PLYI island, a ply whose DETECT, LOCK or EXCHANGE timer has run out (DETECT unless it is held low): its state reads
QUIET, ATTEMPTS is one more up to 255, LAST_FAIL names the cause, and QUIET lasts 50 us plus min(2^(ATTEMPTS - 1), 256) ms plus a
jitter of 0 to 255 us, whatever the free value of the jitter is. PLY_BRINGUP_TIMEOUT is raised when ATTEMPTS has become a power of
two, never for DETECT; else no event is raised. No byte changes and nothing is sent. (R102, R103, 04_line_lanes.md) -/
def Obligations.BringUpFailuresCountAndBackOff : Prop :=
  ∀ (a : At) (k : Nat) (s : State) (p : Ply), s.On a 8 → k < 8 → a.die < 8 → s.ply? a.die k = some p → p.deadline ≤ (s.begun a 8).now →
    let d := a.die
    let old := s.get d F.PLY_LINK_STATE_ATTEMPTS k
    let n := min 255 (old + 1)
    ∀ i st cause, (i = Instr.detectTimeout a k ∧ st = 0 ∧ cause = 1 ∧ (s.begun a 8).heldLow d k = false) ∨
        (i = Instr.lockTimeout a k ∧ st = 3 ∧ cause = 5) ∨ (i = Instr.exchangeTimeout a k ∧ st = 5 ∧ cause = 8) →
      s.plyState d k = st →
      Gives i s fun t => t.plyState d k = 1 ∧ t.get d F.PLY_LINK_STATE_ATTEMPTS k = n ∧ t.get d F.PLY_LINK_STATE_LAST_FAIL k = cause ∧
        (∃ x j, t.ply? d k = some x ∧ x.fromDetect = false ∧ j ≤ 255 ∧ x.deadline = t.now + us 50 + ms (min (2 ^ (n - 1)) 256) + us j) ∧
        (cause = 1 ∨ old = 255 ∨ n ∉ [1, 2, 4, 8, 16, 32, 64, 128] → t.evt = s.evt) ∧
        (cause ≠ 1 → old ≠ 255 → n ∈ [1, 2, 4, 8, 16, 32, 64, 128] → ∃ e, t.evt.raised = s.evt.raised ++ [e] ∧ e.code = 0x104 ∧ e.die = d ∧ e.src = k ∧ e.owner = 0) ∧
        s.SameBytes t ∧ t.out = []

/-- For an admitted VFN_CMD with OP DESTROY on die 0 of a valid function whose home die's VFN island runs, while no command is BUSY:
in RELEASED and QUIESCED the slot is EMPTY without a carve afterwards, RESULT reads 0 and VF_DESTROYED is the last event raised;
in LIVE, HELD and QUIESCING RESULT reads 3 (BUSY), in EMPTY 2 (BAD_STATE), and the slot and every register but the command's
status, its item and EDDY's end are unchanged. (R353, R364, 13_virtual_functions.md) -/
def Obligations.DestroyEmptiesOrIsRefused : Prop :=
  ∀ (a : At) (q : Req) (v : Word) (s : State), s.Admits a q 0x240000 → a.die = 0 → wordGet v 31 28 = 4 →
    let b := s.admitted a q 0x240000
    let f := wordGet v 7 0
    s.flag 0 F.VFN_CMD_STATUS_BUSY = false → b.validFunc f = true → b.runs (homeDie f) 36 = true →
    ((s.slot f).st = 4 ∨ (s.slot f).st = 5 → Gives (.vfnDestroy a q v) s fun t =>
      (t.slot f).st = 0 ∧ (t.slot f).carve = {} ∧ t.get 0 F.VFN_CMD_STATUS_RESULT = 0 ∧
      ∃ e, t.evt.raised.getLast? = some e ∧ e.code = 0x906 ∧ e.owner = 0) ∧
    (∀ r, ((s.slot f).st = 0 ∧ r = 2) ∨ (1 ≤ (s.slot f).st ∧ (s.slot f).st ≤ 3 ∧ r = 3) → Gives (.vfnDestroy a q v) s fun t =>
      t.slot f = s.slot f ∧ t.get 0 F.VFN_CMD_STATUS_RESULT = r ∧
      s.OnlyRegs ([barAddr 0 (Reg.VFN_CMD_STATUS.off 0 0), barAddr 0 (Reg.VFN_CMD_SHORT.off 0 0)] ++ eddyRegs) t ∧ s.SameBytes t)

/-- On a running RCP island of die 0, an activity in EDDY: CURRENT reads FLOW, EDDY_EXITS is one more modulo 2^16, PWR_STATE_DONE is
raised from EDDY to FLOW with cause 2, and no island is gated any more; in another power state an activity changes no register and
raises nothing. Either way no byte changes, nothing is sent, and no register changes but PWR_STATUS and PWR_COUNT. (R399, R400,
15_power_states_and_tarn.md) -/
def Obligations.EddyEndsWithActivity : Prop :=
  ∀ (a : At) (kind : Nat) (s : State), s.On a 37 → a.die = 0 → kind < 4 →
    Gives (.eddyActivity a kind) s fun t => s.OnlyRegs eddyRegs t ∧ s.SameBytes t ∧ t.out = [] ∧ t.dies = s.dies ∧
      (s.get 0 F.PWR_STATUS_CURRENT = 1 → t.get 0 F.PWR_STATUS_CURRENT = 0 ∧
        t.get 0 F.PWR_COUNT_EDDY_EXITS = (s.get 0 F.PWR_COUNT_EDDY_EXITS + 1) % 2 ^ 16 ∧ (∀ d, d < 8 → (t.islands d).gated = 0) ∧
        t.Raised 0 0 38 0x062 1 [(1, 0), (1, 1), (1, 2), (1, 0), (8, t.ts)]) ∧
      (s.get 0 F.PWR_STATUS_CURRENT ≠ 1 → s.OnlyRegs [] t ∧ t.evt = s.evt)

/-- PF0's admitted KEY_CMD with PIN or UNPIN on die 0 while no command is in progress: BUSY reads 0, SEQ is one more modulo 2^16, and
RESULT is 0 where the handle is held and 3 where it is not, with KEY_CMD_REJECTED raised exactly then. Every register but
KEY_CMD_STATUS and EDDY's end, and every byte, is unchanged, and nothing is sent. (R444, R445, R455, 17_keys_and_attestation.md) -/
def Obligations.KeyPinsShowTheirResult : Prop :=
  ∀ (a : At) (v : Word) (s : State), s.Admits a .pf0 0x280020 → a.die = 0 → s.key.cmd = none →
    let h := wordGet v 15 0
    ∀ i, (i = Instr.keyPin a .pf0 v ∧ wordGet v 31 28 = 2) ∨ (i = Instr.keyUnpin a .pf0 v ∧ wordGet v 31 28 = 3) →
      Gives i s fun t => t.get 0 F.KEY_CMD_STATUS_BUSY = 0 ∧
        t.get 0 F.KEY_CMD_STATUS_SEQ = (s.get 0 F.KEY_CMD_STATUS_SEQ + 1) % 2 ^ 16 ∧
        t.get 0 F.KEY_CMD_STATUS_RESULT = (if s.handleHeld h = true then 0 else 3) ∧
        (s.handleHeld h = true → t.evt = (s.admitted a .pf0 0x280020).evt) ∧
        (s.handleHeld h = false → t.Raised 0 0 34 0xB06 2 [(1, wordGet v 31 28), (1, 3), (2, h)]) ∧
        s.OnlyRegs (barAddr 0 (Reg.KEY_CMD_STATUS.off 0 0) :: eddyRegs) t ∧ s.SameBytes t ∧ t.out = []
end

