-- ==== Sys2Proof/Laws/Fields.lean ====
section
/-! SUPPORT. The laws of bit fields: a field read after it is written, and the fields beside it. -/

namespace Sys2Proof.Machine

theorem testBit_bits (v hi lo k : Nat) :
    (bits v hi lo).testBit k = (decide (k < hi + 1 - lo) && v.testBit (lo + k)) := by
  unfold bits
  rw [Nat.testBit_mod_two_pow, Nat.testBit_div_two_pow, Nat.add_comm k lo]

theorem getLsbD_fieldMask (hi lo k : Nat) (h : lo ≤ hi) :
    (fieldMask hi lo).getLsbD k = (decide (k < 32) && decide (lo ≤ k) && decide (k ≤ hi)) := by
  unfold fieldMask
  rw [BitVec.getLsbD_ofNat, Nat.testBit_mul_two_pow, Nat.testBit_two_pow_sub_one]
  by_cases h1 : k < 32 <;> by_cases h2 : lo ≤ k <;> by_cases h3 : k ≤ hi <;> simp [h1, h2, h3] <;> omega

theorem getLsbD_wordSet (w : Word) (hi lo v k : Nat) (h : lo ≤ hi) (hh : hi < 32) :
    (wordSet w hi lo v).getLsbD k = if lo ≤ k ∧ k ≤ hi then v.testBit (k - lo) else w.getLsbD k := by
  unfold wordSet
  rw [BitVec.getLsbD_or, BitVec.getLsbD_and, BitVec.getLsbD_and, BitVec.getLsbD_not, getLsbD_fieldMask hi lo k h,
    BitVec.getLsbD_ofNat, Nat.testBit_mul_two_pow]
  by_cases h1 : k < 32
  · by_cases h2 : lo ≤ k <;> by_cases h3 : k ≤ hi <;> simp [h1, h2, h3]
  · have : ¬ (lo ≤ k ∧ k ≤ hi) := by omega
    simp [this, h1, BitVec.getLsbD_of_ge w k (by omega)]

/-- A field reads what was written to it, cut to its width. -/
theorem wordGet_wordSet_same (w : Word) (hi lo v : Nat) (h : lo ≤ hi) (hh : hi < 32) :
    wordGet (wordSet w hi lo v) hi lo = v % 2 ^ (hi + 1 - lo) := by
  apply Nat.eq_of_testBit_eq
  intro k
  unfold wordGet
  rw [testBit_bits, Nat.testBit_mod_two_pow, BitVec.testBit_toNat, getLsbD_wordSet w hi lo v _ h hh]
  by_cases hk : k < hi + 1 - lo
  · have : lo ≤ lo + k ∧ lo + k ≤ hi := by omega
    simp [hk, this]
  · simp [hk]

/-- A field keeps its value when another field of the word is written. -/
theorem wordGet_wordSet_other (w : Word) (hi lo v hi' lo' : Nat) (h : lo ≤ hi) (hh : hi < 32) (hd : hi' < lo ∨ hi < lo') :
    wordGet (wordSet w hi lo v) hi' lo' = wordGet w hi' lo' := by
  apply Nat.eq_of_testBit_eq
  intro k
  unfold wordGet
  rw [testBit_bits, testBit_bits, BitVec.testBit_toNat, BitVec.testBit_toNat, getLsbD_wordSet w hi lo v _ h hh]
  by_cases hk : k < hi' + 1 - lo'
  · have : ¬ (lo ≤ lo' + k ∧ lo' + k ≤ hi) := by omega
    simp [hk, this]
  · simp [hk]

theorem wordGet_lt (w : Word) (hi lo : Nat) : wordGet w hi lo < 2 ^ (hi + 1 - lo) :=
  Nat.mod_lt _ (Nat.two_pow_pos _)

/-- The latest write of a log is found first. -/
theorem logFind_cons {α : Type} (k : Nat) (v : α) (t : List (Nat × α)) (n : Nat) :
    logFind ((k, v) :: t) n = if k = n then some v else logFind t n := rfl

/-- A register after a write. -/
theorem State.reg_setReg (s : State) (n : Nat) (w : Word) (m : Nat) :
    (s.setReg n w).reg m = if n = m then w else s.reg m := by
  unfold State.reg State.setReg
  by_cases h : n = m <;> simp [logFind_cons, h]

end Sys2Proof.Machine
end

