-- ==== Sys2Proof/Laws/State.lean ====
section
/-! SUPPORT. What each base operation leaves of every field of the state. -/

namespace Sys2Proof.Machine

@[simp] theorem State.setReg_part (s : State) (n : Nat) (w : Word) : (s.setReg n w).part = s.part := rfl
@[simp] theorem State.setReg_clock (s : State) (n : Nat) (w : Word) : (s.setReg n w).clock = s.clock := rfl
@[simp] theorem State.setReg_regs (s : State) (n : Nat) (w : Word) : (s.setReg n w).regs = s.regs := rfl
@[simp] theorem State.setReg_cells (s : State) (n : Nat) (w : Word) : (s.setReg n w).cells = s.cells := rfl
@[simp] theorem State.setReg_cellLog (s : State) (n : Nat) (w : Word) : (s.setReg n w).cellLog = s.cellLog := rfl
@[simp] theorem State.setReg_out (s : State) (n : Nat) (w : Word) : (s.setReg n w).out = s.out := rfl
@[simp] theorem State.setReg_fresh (s : State) (n : Nat) (w : Word) : (s.setReg n w).fresh = s.fresh := rfl
@[simp] theorem State.setReg_isl (s : State) (n : Nat) (w : Word) : (s.setReg n w).isl = s.isl := rfl
@[simp] theorem State.setReg_pkg (s : State) (n : Nat) (w : Word) : (s.setReg n w).pkg = s.pkg := rfl
@[simp] theorem State.setReg_access (s : State) (n : Nat) (w : Word) : (s.setReg n w).access = s.access := rfl
@[simp] theorem State.setReg_evt (s : State) (n : Nat) (w : Word) : (s.setReg n w).evt = s.evt := rfl
@[simp] theorem State.setReg_dies (s : State) (n : Nat) (w : Word) : (s.setReg n w).dies = s.dies := rfl
@[simp] theorem State.setReg_skn (s : State) (n : Nat) (w : Word) : (s.setReg n w).skn = s.skn := rfl
@[simp] theorem State.setReg_spd (s : State) (n : Nat) (w : Word) : (s.setReg n w).spd = s.spd := rfl
@[simp] theorem State.setReg_tim (s : State) (n : Nat) (w : Word) : (s.setReg n w).tim = s.tim := rfl
@[simp] theorem State.setReg_shl (s : State) (n : Nat) (w : Word) : (s.setReg n w).shl = s.shl := rfl
@[simp] theorem State.setReg_brg (s : State) (n : Nat) (w : Word) : (s.setReg n w).brg = s.brg := rfl
@[simp] theorem State.setReg_vfn (s : State) (n : Nat) (w : Word) : (s.setReg n w).vfn = s.vfn := rfl
@[simp] theorem State.setReg_pwr (s : State) (n : Nat) (w : Word) : (s.setReg n w).pwr = s.pwr := rfl
@[simp] theorem State.setReg_tarn (s : State) (n : Nat) (w : Word) : (s.setReg n w).tarn = s.tarn := rfl
@[simp] theorem State.setReg_boot (s : State) (n : Nat) (w : Word) : (s.setReg n w).boot = s.boot := rfl
@[simp] theorem State.setReg_hold (s : State) (n : Nat) (w : Word) : (s.setReg n w).hold = s.hold := rfl
@[simp] theorem State.setReg_key (s : State) (n : Nat) (w : Word) : (s.setReg n w).key = s.key := rfl
@[simp] theorem State.setReg_refFault (s : State) (n : Nat) (w : Word) : (s.setReg n w).refFault = s.refFault := rfl
@[simp] theorem State.setReg_pending (s : State) (n : Nat) (w : Word) : (s.setReg n w).pending = s.pending := rfl

@[simp] theorem State.setWord_part (s : State) (d : Nat) (r : RegDesc) (w : Word) (i j : Nat) : (s.setWord d r w i j).part = s.part := rfl
@[simp] theorem State.setWord_clock (s : State) (d : Nat) (r : RegDesc) (w : Word) (i j : Nat) : (s.setWord d r w i j).clock = s.clock := rfl
@[simp] theorem State.setWord_regs (s : State) (d : Nat) (r : RegDesc) (w : Word) (i j : Nat) : (s.setWord d r w i j).regs = s.regs := rfl
@[simp] theorem State.setWord_cells (s : State) (d : Nat) (r : RegDesc) (w : Word) (i j : Nat) : (s.setWord d r w i j).cells = s.cells := rfl
@[simp] theorem State.setWord_cellLog (s : State) (d : Nat) (r : RegDesc) (w : Word) (i j : Nat) : (s.setWord d r w i j).cellLog = s.cellLog := rfl
@[simp] theorem State.setWord_out (s : State) (d : Nat) (r : RegDesc) (w : Word) (i j : Nat) : (s.setWord d r w i j).out = s.out := rfl
@[simp] theorem State.setWord_fresh (s : State) (d : Nat) (r : RegDesc) (w : Word) (i j : Nat) : (s.setWord d r w i j).fresh = s.fresh := rfl
@[simp] theorem State.setWord_isl (s : State) (d : Nat) (r : RegDesc) (w : Word) (i j : Nat) : (s.setWord d r w i j).isl = s.isl := rfl
@[simp] theorem State.setWord_pkg (s : State) (d : Nat) (r : RegDesc) (w : Word) (i j : Nat) : (s.setWord d r w i j).pkg = s.pkg := rfl
@[simp] theorem State.setWord_access (s : State) (d : Nat) (r : RegDesc) (w : Word) (i j : Nat) : (s.setWord d r w i j).access = s.access := rfl
@[simp] theorem State.setWord_evt (s : State) (d : Nat) (r : RegDesc) (w : Word) (i j : Nat) : (s.setWord d r w i j).evt = s.evt := rfl
@[simp] theorem State.setWord_dies (s : State) (d : Nat) (r : RegDesc) (w : Word) (i j : Nat) : (s.setWord d r w i j).dies = s.dies := rfl
@[simp] theorem State.setWord_skn (s : State) (d : Nat) (r : RegDesc) (w : Word) (i j : Nat) : (s.setWord d r w i j).skn = s.skn := rfl
@[simp] theorem State.setWord_spd (s : State) (d : Nat) (r : RegDesc) (w : Word) (i j : Nat) : (s.setWord d r w i j).spd = s.spd := rfl
@[simp] theorem State.setWord_tim (s : State) (d : Nat) (r : RegDesc) (w : Word) (i j : Nat) : (s.setWord d r w i j).tim = s.tim := rfl
@[simp] theorem State.setWord_shl (s : State) (d : Nat) (r : RegDesc) (w : Word) (i j : Nat) : (s.setWord d r w i j).shl = s.shl := rfl
@[simp] theorem State.setWord_brg (s : State) (d : Nat) (r : RegDesc) (w : Word) (i j : Nat) : (s.setWord d r w i j).brg = s.brg := rfl
@[simp] theorem State.setWord_vfn (s : State) (d : Nat) (r : RegDesc) (w : Word) (i j : Nat) : (s.setWord d r w i j).vfn = s.vfn := rfl
@[simp] theorem State.setWord_pwr (s : State) (d : Nat) (r : RegDesc) (w : Word) (i j : Nat) : (s.setWord d r w i j).pwr = s.pwr := rfl
@[simp] theorem State.setWord_tarn (s : State) (d : Nat) (r : RegDesc) (w : Word) (i j : Nat) : (s.setWord d r w i j).tarn = s.tarn := rfl
@[simp] theorem State.setWord_boot (s : State) (d : Nat) (r : RegDesc) (w : Word) (i j : Nat) : (s.setWord d r w i j).boot = s.boot := rfl
@[simp] theorem State.setWord_hold (s : State) (d : Nat) (r : RegDesc) (w : Word) (i j : Nat) : (s.setWord d r w i j).hold = s.hold := rfl
@[simp] theorem State.setWord_key (s : State) (d : Nat) (r : RegDesc) (w : Word) (i j : Nat) : (s.setWord d r w i j).key = s.key := rfl
@[simp] theorem State.setWord_refFault (s : State) (d : Nat) (r : RegDesc) (w : Word) (i j : Nat) : (s.setWord d r w i j).refFault = s.refFault := rfl
@[simp] theorem State.setWord_pending (s : State) (d : Nat) (r : RegDesc) (w : Word) (i j : Nat) : (s.setWord d r w i j).pending = s.pending := rfl

@[simp] theorem State.set_part (s : State) (d : Nat) (f : Fld) (v i j : Nat) : (s.set d f v i j).part = s.part := rfl
@[simp] theorem State.set_clock (s : State) (d : Nat) (f : Fld) (v i j : Nat) : (s.set d f v i j).clock = s.clock := rfl
@[simp] theorem State.set_regs (s : State) (d : Nat) (f : Fld) (v i j : Nat) : (s.set d f v i j).regs = s.regs := rfl
@[simp] theorem State.set_cells (s : State) (d : Nat) (f : Fld) (v i j : Nat) : (s.set d f v i j).cells = s.cells := rfl
@[simp] theorem State.set_cellLog (s : State) (d : Nat) (f : Fld) (v i j : Nat) : (s.set d f v i j).cellLog = s.cellLog := rfl
@[simp] theorem State.set_out (s : State) (d : Nat) (f : Fld) (v i j : Nat) : (s.set d f v i j).out = s.out := rfl
@[simp] theorem State.set_fresh (s : State) (d : Nat) (f : Fld) (v i j : Nat) : (s.set d f v i j).fresh = s.fresh := rfl
@[simp] theorem State.set_isl (s : State) (d : Nat) (f : Fld) (v i j : Nat) : (s.set d f v i j).isl = s.isl := rfl
@[simp] theorem State.set_pkg (s : State) (d : Nat) (f : Fld) (v i j : Nat) : (s.set d f v i j).pkg = s.pkg := rfl
@[simp] theorem State.set_access (s : State) (d : Nat) (f : Fld) (v i j : Nat) : (s.set d f v i j).access = s.access := rfl
@[simp] theorem State.set_evt (s : State) (d : Nat) (f : Fld) (v i j : Nat) : (s.set d f v i j).evt = s.evt := rfl
@[simp] theorem State.set_dies (s : State) (d : Nat) (f : Fld) (v i j : Nat) : (s.set d f v i j).dies = s.dies := rfl
@[simp] theorem State.set_skn (s : State) (d : Nat) (f : Fld) (v i j : Nat) : (s.set d f v i j).skn = s.skn := rfl
@[simp] theorem State.set_spd (s : State) (d : Nat) (f : Fld) (v i j : Nat) : (s.set d f v i j).spd = s.spd := rfl
@[simp] theorem State.set_tim (s : State) (d : Nat) (f : Fld) (v i j : Nat) : (s.set d f v i j).tim = s.tim := rfl
@[simp] theorem State.set_shl (s : State) (d : Nat) (f : Fld) (v i j : Nat) : (s.set d f v i j).shl = s.shl := rfl
@[simp] theorem State.set_brg (s : State) (d : Nat) (f : Fld) (v i j : Nat) : (s.set d f v i j).brg = s.brg := rfl
@[simp] theorem State.set_vfn (s : State) (d : Nat) (f : Fld) (v i j : Nat) : (s.set d f v i j).vfn = s.vfn := rfl
@[simp] theorem State.set_pwr (s : State) (d : Nat) (f : Fld) (v i j : Nat) : (s.set d f v i j).pwr = s.pwr := rfl
@[simp] theorem State.set_tarn (s : State) (d : Nat) (f : Fld) (v i j : Nat) : (s.set d f v i j).tarn = s.tarn := rfl
@[simp] theorem State.set_boot (s : State) (d : Nat) (f : Fld) (v i j : Nat) : (s.set d f v i j).boot = s.boot := rfl
@[simp] theorem State.set_hold (s : State) (d : Nat) (f : Fld) (v i j : Nat) : (s.set d f v i j).hold = s.hold := rfl
@[simp] theorem State.set_key (s : State) (d : Nat) (f : Fld) (v i j : Nat) : (s.set d f v i j).key = s.key := rfl
@[simp] theorem State.set_refFault (s : State) (d : Nat) (f : Fld) (v i j : Nat) : (s.set d f v i j).refFault = s.refFault := rfl
@[simp] theorem State.set_pending (s : State) (d : Nat) (f : Fld) (v i j : Nat) : (s.set d f v i j).pending = s.pending := rfl

@[simp] theorem State.bump_part (s : State) (d : Nat) (f : Fld) (k i j : Nat) : (s.bump d f k i j).part = s.part := rfl
@[simp] theorem State.bump_clock (s : State) (d : Nat) (f : Fld) (k i j : Nat) : (s.bump d f k i j).clock = s.clock := rfl
@[simp] theorem State.bump_regs (s : State) (d : Nat) (f : Fld) (k i j : Nat) : (s.bump d f k i j).regs = s.regs := rfl
@[simp] theorem State.bump_cells (s : State) (d : Nat) (f : Fld) (k i j : Nat) : (s.bump d f k i j).cells = s.cells := rfl
@[simp] theorem State.bump_cellLog (s : State) (d : Nat) (f : Fld) (k i j : Nat) : (s.bump d f k i j).cellLog = s.cellLog := rfl
@[simp] theorem State.bump_out (s : State) (d : Nat) (f : Fld) (k i j : Nat) : (s.bump d f k i j).out = s.out := rfl
@[simp] theorem State.bump_fresh (s : State) (d : Nat) (f : Fld) (k i j : Nat) : (s.bump d f k i j).fresh = s.fresh := rfl
@[simp] theorem State.bump_isl (s : State) (d : Nat) (f : Fld) (k i j : Nat) : (s.bump d f k i j).isl = s.isl := rfl
@[simp] theorem State.bump_pkg (s : State) (d : Nat) (f : Fld) (k i j : Nat) : (s.bump d f k i j).pkg = s.pkg := rfl
@[simp] theorem State.bump_access (s : State) (d : Nat) (f : Fld) (k i j : Nat) : (s.bump d f k i j).access = s.access := rfl
@[simp] theorem State.bump_evt (s : State) (d : Nat) (f : Fld) (k i j : Nat) : (s.bump d f k i j).evt = s.evt := rfl
@[simp] theorem State.bump_dies (s : State) (d : Nat) (f : Fld) (k i j : Nat) : (s.bump d f k i j).dies = s.dies := rfl
@[simp] theorem State.bump_skn (s : State) (d : Nat) (f : Fld) (k i j : Nat) : (s.bump d f k i j).skn = s.skn := rfl
@[simp] theorem State.bump_spd (s : State) (d : Nat) (f : Fld) (k i j : Nat) : (s.bump d f k i j).spd = s.spd := rfl
@[simp] theorem State.bump_tim (s : State) (d : Nat) (f : Fld) (k i j : Nat) : (s.bump d f k i j).tim = s.tim := rfl
@[simp] theorem State.bump_shl (s : State) (d : Nat) (f : Fld) (k i j : Nat) : (s.bump d f k i j).shl = s.shl := rfl
@[simp] theorem State.bump_brg (s : State) (d : Nat) (f : Fld) (k i j : Nat) : (s.bump d f k i j).brg = s.brg := rfl
@[simp] theorem State.bump_vfn (s : State) (d : Nat) (f : Fld) (k i j : Nat) : (s.bump d f k i j).vfn = s.vfn := rfl
@[simp] theorem State.bump_pwr (s : State) (d : Nat) (f : Fld) (k i j : Nat) : (s.bump d f k i j).pwr = s.pwr := rfl
@[simp] theorem State.bump_tarn (s : State) (d : Nat) (f : Fld) (k i j : Nat) : (s.bump d f k i j).tarn = s.tarn := rfl
@[simp] theorem State.bump_boot (s : State) (d : Nat) (f : Fld) (k i j : Nat) : (s.bump d f k i j).boot = s.boot := rfl
@[simp] theorem State.bump_hold (s : State) (d : Nat) (f : Fld) (k i j : Nat) : (s.bump d f k i j).hold = s.hold := rfl
@[simp] theorem State.bump_key (s : State) (d : Nat) (f : Fld) (k i j : Nat) : (s.bump d f k i j).key = s.key := rfl
@[simp] theorem State.bump_refFault (s : State) (d : Nat) (f : Fld) (k i j : Nat) : (s.bump d f k i j).refFault = s.refFault := rfl
@[simp] theorem State.bump_pending (s : State) (d : Nat) (f : Fld) (k i j : Nat) : (s.bump d f k i j).pending = s.pending := rfl

@[simp] theorem State.wrap_part (s : State) (d : Nat) (f : Fld) (i j : Nat) : (s.wrap d f i j).part = s.part := rfl
@[simp] theorem State.wrap_clock (s : State) (d : Nat) (f : Fld) (i j : Nat) : (s.wrap d f i j).clock = s.clock := rfl
@[simp] theorem State.wrap_regs (s : State) (d : Nat) (f : Fld) (i j : Nat) : (s.wrap d f i j).regs = s.regs := rfl
@[simp] theorem State.wrap_cells (s : State) (d : Nat) (f : Fld) (i j : Nat) : (s.wrap d f i j).cells = s.cells := rfl
@[simp] theorem State.wrap_cellLog (s : State) (d : Nat) (f : Fld) (i j : Nat) : (s.wrap d f i j).cellLog = s.cellLog := rfl
@[simp] theorem State.wrap_out (s : State) (d : Nat) (f : Fld) (i j : Nat) : (s.wrap d f i j).out = s.out := rfl
@[simp] theorem State.wrap_fresh (s : State) (d : Nat) (f : Fld) (i j : Nat) : (s.wrap d f i j).fresh = s.fresh := rfl
@[simp] theorem State.wrap_isl (s : State) (d : Nat) (f : Fld) (i j : Nat) : (s.wrap d f i j).isl = s.isl := rfl
@[simp] theorem State.wrap_pkg (s : State) (d : Nat) (f : Fld) (i j : Nat) : (s.wrap d f i j).pkg = s.pkg := rfl
@[simp] theorem State.wrap_access (s : State) (d : Nat) (f : Fld) (i j : Nat) : (s.wrap d f i j).access = s.access := rfl
@[simp] theorem State.wrap_evt (s : State) (d : Nat) (f : Fld) (i j : Nat) : (s.wrap d f i j).evt = s.evt := rfl
@[simp] theorem State.wrap_dies (s : State) (d : Nat) (f : Fld) (i j : Nat) : (s.wrap d f i j).dies = s.dies := rfl
@[simp] theorem State.wrap_skn (s : State) (d : Nat) (f : Fld) (i j : Nat) : (s.wrap d f i j).skn = s.skn := rfl
@[simp] theorem State.wrap_spd (s : State) (d : Nat) (f : Fld) (i j : Nat) : (s.wrap d f i j).spd = s.spd := rfl
@[simp] theorem State.wrap_tim (s : State) (d : Nat) (f : Fld) (i j : Nat) : (s.wrap d f i j).tim = s.tim := rfl
@[simp] theorem State.wrap_shl (s : State) (d : Nat) (f : Fld) (i j : Nat) : (s.wrap d f i j).shl = s.shl := rfl
@[simp] theorem State.wrap_brg (s : State) (d : Nat) (f : Fld) (i j : Nat) : (s.wrap d f i j).brg = s.brg := rfl
@[simp] theorem State.wrap_vfn (s : State) (d : Nat) (f : Fld) (i j : Nat) : (s.wrap d f i j).vfn = s.vfn := rfl
@[simp] theorem State.wrap_pwr (s : State) (d : Nat) (f : Fld) (i j : Nat) : (s.wrap d f i j).pwr = s.pwr := rfl
@[simp] theorem State.wrap_tarn (s : State) (d : Nat) (f : Fld) (i j : Nat) : (s.wrap d f i j).tarn = s.tarn := rfl
@[simp] theorem State.wrap_boot (s : State) (d : Nat) (f : Fld) (i j : Nat) : (s.wrap d f i j).boot = s.boot := rfl
@[simp] theorem State.wrap_hold (s : State) (d : Nat) (f : Fld) (i j : Nat) : (s.wrap d f i j).hold = s.hold := rfl
@[simp] theorem State.wrap_key (s : State) (d : Nat) (f : Fld) (i j : Nat) : (s.wrap d f i j).key = s.key := rfl
@[simp] theorem State.wrap_refFault (s : State) (d : Nat) (f : Fld) (i j : Nat) : (s.wrap d f i j).refFault = s.refFault := rfl
@[simp] theorem State.wrap_pending (s : State) (d : Nat) (f : Fld) (i j : Nat) : (s.wrap d f i j).pending = s.pending := rfl

@[simp] theorem State.setPair_part (s : State) (d : Nat) (lo hi : RegDesc) (v i j : Nat) : (s.setPair d lo hi v i j).part = s.part := rfl
@[simp] theorem State.setPair_clock (s : State) (d : Nat) (lo hi : RegDesc) (v i j : Nat) : (s.setPair d lo hi v i j).clock = s.clock := rfl
@[simp] theorem State.setPair_regs (s : State) (d : Nat) (lo hi : RegDesc) (v i j : Nat) : (s.setPair d lo hi v i j).regs = s.regs := rfl
@[simp] theorem State.setPair_cells (s : State) (d : Nat) (lo hi : RegDesc) (v i j : Nat) : (s.setPair d lo hi v i j).cells = s.cells := rfl
@[simp] theorem State.setPair_cellLog (s : State) (d : Nat) (lo hi : RegDesc) (v i j : Nat) : (s.setPair d lo hi v i j).cellLog = s.cellLog := rfl
@[simp] theorem State.setPair_out (s : State) (d : Nat) (lo hi : RegDesc) (v i j : Nat) : (s.setPair d lo hi v i j).out = s.out := rfl
@[simp] theorem State.setPair_fresh (s : State) (d : Nat) (lo hi : RegDesc) (v i j : Nat) : (s.setPair d lo hi v i j).fresh = s.fresh := rfl
@[simp] theorem State.setPair_isl (s : State) (d : Nat) (lo hi : RegDesc) (v i j : Nat) : (s.setPair d lo hi v i j).isl = s.isl := rfl
@[simp] theorem State.setPair_pkg (s : State) (d : Nat) (lo hi : RegDesc) (v i j : Nat) : (s.setPair d lo hi v i j).pkg = s.pkg := rfl
@[simp] theorem State.setPair_access (s : State) (d : Nat) (lo hi : RegDesc) (v i j : Nat) : (s.setPair d lo hi v i j).access = s.access := rfl
@[simp] theorem State.setPair_evt (s : State) (d : Nat) (lo hi : RegDesc) (v i j : Nat) : (s.setPair d lo hi v i j).evt = s.evt := rfl
@[simp] theorem State.setPair_dies (s : State) (d : Nat) (lo hi : RegDesc) (v i j : Nat) : (s.setPair d lo hi v i j).dies = s.dies := rfl
@[simp] theorem State.setPair_skn (s : State) (d : Nat) (lo hi : RegDesc) (v i j : Nat) : (s.setPair d lo hi v i j).skn = s.skn := rfl
@[simp] theorem State.setPair_spd (s : State) (d : Nat) (lo hi : RegDesc) (v i j : Nat) : (s.setPair d lo hi v i j).spd = s.spd := rfl
@[simp] theorem State.setPair_tim (s : State) (d : Nat) (lo hi : RegDesc) (v i j : Nat) : (s.setPair d lo hi v i j).tim = s.tim := rfl
@[simp] theorem State.setPair_shl (s : State) (d : Nat) (lo hi : RegDesc) (v i j : Nat) : (s.setPair d lo hi v i j).shl = s.shl := rfl
@[simp] theorem State.setPair_brg (s : State) (d : Nat) (lo hi : RegDesc) (v i j : Nat) : (s.setPair d lo hi v i j).brg = s.brg := rfl
@[simp] theorem State.setPair_vfn (s : State) (d : Nat) (lo hi : RegDesc) (v i j : Nat) : (s.setPair d lo hi v i j).vfn = s.vfn := rfl
@[simp] theorem State.setPair_pwr (s : State) (d : Nat) (lo hi : RegDesc) (v i j : Nat) : (s.setPair d lo hi v i j).pwr = s.pwr := rfl
@[simp] theorem State.setPair_tarn (s : State) (d : Nat) (lo hi : RegDesc) (v i j : Nat) : (s.setPair d lo hi v i j).tarn = s.tarn := rfl
@[simp] theorem State.setPair_boot (s : State) (d : Nat) (lo hi : RegDesc) (v i j : Nat) : (s.setPair d lo hi v i j).boot = s.boot := rfl
@[simp] theorem State.setPair_hold (s : State) (d : Nat) (lo hi : RegDesc) (v i j : Nat) : (s.setPair d lo hi v i j).hold = s.hold := rfl
@[simp] theorem State.setPair_key (s : State) (d : Nat) (lo hi : RegDesc) (v i j : Nat) : (s.setPair d lo hi v i j).key = s.key := rfl
@[simp] theorem State.setPair_refFault (s : State) (d : Nat) (lo hi : RegDesc) (v i j : Nat) : (s.setPair d lo hi v i j).refFault = s.refFault := rfl
@[simp] theorem State.setPair_pending (s : State) (d : Nat) (lo hi : RegDesc) (v i j : Nat) : (s.setPair d lo hi v i j).pending = s.pending := rfl

@[simp] theorem State.emit_part (s : State) (e : Emit) : (s.emit e).part = s.part := rfl
@[simp] theorem State.emit_clock (s : State) (e : Emit) : (s.emit e).clock = s.clock := rfl
@[simp] theorem State.emit_regs (s : State) (e : Emit) : (s.emit e).regs = s.regs := rfl
@[simp] theorem State.emit_regLog (s : State) (e : Emit) : (s.emit e).regLog = s.regLog := rfl
@[simp] theorem State.emit_cells (s : State) (e : Emit) : (s.emit e).cells = s.cells := rfl
@[simp] theorem State.emit_cellLog (s : State) (e : Emit) : (s.emit e).cellLog = s.cellLog := rfl
@[simp] theorem State.emit_fresh (s : State) (e : Emit) : (s.emit e).fresh = s.fresh := rfl
@[simp] theorem State.emit_isl (s : State) (e : Emit) : (s.emit e).isl = s.isl := rfl
@[simp] theorem State.emit_pkg (s : State) (e : Emit) : (s.emit e).pkg = s.pkg := rfl
@[simp] theorem State.emit_access (s : State) (e : Emit) : (s.emit e).access = s.access := rfl
@[simp] theorem State.emit_evt (s : State) (e : Emit) : (s.emit e).evt = s.evt := rfl
@[simp] theorem State.emit_dies (s : State) (e : Emit) : (s.emit e).dies = s.dies := rfl
@[simp] theorem State.emit_skn (s : State) (e : Emit) : (s.emit e).skn = s.skn := rfl
@[simp] theorem State.emit_spd (s : State) (e : Emit) : (s.emit e).spd = s.spd := rfl
@[simp] theorem State.emit_tim (s : State) (e : Emit) : (s.emit e).tim = s.tim := rfl
@[simp] theorem State.emit_shl (s : State) (e : Emit) : (s.emit e).shl = s.shl := rfl
@[simp] theorem State.emit_brg (s : State) (e : Emit) : (s.emit e).brg = s.brg := rfl
@[simp] theorem State.emit_vfn (s : State) (e : Emit) : (s.emit e).vfn = s.vfn := rfl
@[simp] theorem State.emit_pwr (s : State) (e : Emit) : (s.emit e).pwr = s.pwr := rfl
@[simp] theorem State.emit_tarn (s : State) (e : Emit) : (s.emit e).tarn = s.tarn := rfl
@[simp] theorem State.emit_boot (s : State) (e : Emit) : (s.emit e).boot = s.boot := rfl
@[simp] theorem State.emit_hold (s : State) (e : Emit) : (s.emit e).hold = s.hold := rfl
@[simp] theorem State.emit_key (s : State) (e : Emit) : (s.emit e).key = s.key := rfl
@[simp] theorem State.emit_refFault (s : State) (e : Emit) : (s.emit e).refFault = s.refFault := rfl
@[simp] theorem State.emit_pending (s : State) (e : Emit) : (s.emit e).pending = s.pending := rfl

@[simp] theorem State.emits_part (s : State) (es : List Emit) : (s.emits es).part = s.part := rfl
@[simp] theorem State.emits_clock (s : State) (es : List Emit) : (s.emits es).clock = s.clock := rfl
@[simp] theorem State.emits_regs (s : State) (es : List Emit) : (s.emits es).regs = s.regs := rfl
@[simp] theorem State.emits_regLog (s : State) (es : List Emit) : (s.emits es).regLog = s.regLog := rfl
@[simp] theorem State.emits_cells (s : State) (es : List Emit) : (s.emits es).cells = s.cells := rfl
@[simp] theorem State.emits_cellLog (s : State) (es : List Emit) : (s.emits es).cellLog = s.cellLog := rfl
@[simp] theorem State.emits_fresh (s : State) (es : List Emit) : (s.emits es).fresh = s.fresh := rfl
@[simp] theorem State.emits_isl (s : State) (es : List Emit) : (s.emits es).isl = s.isl := rfl
@[simp] theorem State.emits_pkg (s : State) (es : List Emit) : (s.emits es).pkg = s.pkg := rfl
@[simp] theorem State.emits_access (s : State) (es : List Emit) : (s.emits es).access = s.access := rfl
@[simp] theorem State.emits_evt (s : State) (es : List Emit) : (s.emits es).evt = s.evt := rfl
@[simp] theorem State.emits_dies (s : State) (es : List Emit) : (s.emits es).dies = s.dies := rfl
@[simp] theorem State.emits_skn (s : State) (es : List Emit) : (s.emits es).skn = s.skn := rfl
@[simp] theorem State.emits_spd (s : State) (es : List Emit) : (s.emits es).spd = s.spd := rfl
@[simp] theorem State.emits_tim (s : State) (es : List Emit) : (s.emits es).tim = s.tim := rfl
@[simp] theorem State.emits_shl (s : State) (es : List Emit) : (s.emits es).shl = s.shl := rfl
@[simp] theorem State.emits_brg (s : State) (es : List Emit) : (s.emits es).brg = s.brg := rfl
@[simp] theorem State.emits_vfn (s : State) (es : List Emit) : (s.emits es).vfn = s.vfn := rfl
@[simp] theorem State.emits_pwr (s : State) (es : List Emit) : (s.emits es).pwr = s.pwr := rfl
@[simp] theorem State.emits_tarn (s : State) (es : List Emit) : (s.emits es).tarn = s.tarn := rfl
@[simp] theorem State.emits_boot (s : State) (es : List Emit) : (s.emits es).boot = s.boot := rfl
@[simp] theorem State.emits_hold (s : State) (es : List Emit) : (s.emits es).hold = s.hold := rfl
@[simp] theorem State.emits_key (s : State) (es : List Emit) : (s.emits es).key = s.key := rfl
@[simp] theorem State.emits_refFault (s : State) (es : List Emit) : (s.emits es).refFault = s.refFault := rfl
@[simp] theorem State.emits_pending (s : State) (es : List Emit) : (s.emits es).pending = s.pending := rfl

@[simp] theorem State.drawn_part (s : State) : (s.drawn).part = s.part := rfl
@[simp] theorem State.drawn_clock (s : State) : (s.drawn).clock = s.clock := rfl
@[simp] theorem State.drawn_regs (s : State) : (s.drawn).regs = s.regs := rfl
@[simp] theorem State.drawn_regLog (s : State) : (s.drawn).regLog = s.regLog := rfl
@[simp] theorem State.drawn_cells (s : State) : (s.drawn).cells = s.cells := rfl
@[simp] theorem State.drawn_cellLog (s : State) : (s.drawn).cellLog = s.cellLog := rfl
@[simp] theorem State.drawn_out (s : State) : (s.drawn).out = s.out := rfl
@[simp] theorem State.drawn_isl (s : State) : (s.drawn).isl = s.isl := rfl
@[simp] theorem State.drawn_pkg (s : State) : (s.drawn).pkg = s.pkg := rfl
@[simp] theorem State.drawn_access (s : State) : (s.drawn).access = s.access := rfl
@[simp] theorem State.drawn_evt (s : State) : (s.drawn).evt = s.evt := rfl
@[simp] theorem State.drawn_dies (s : State) : (s.drawn).dies = s.dies := rfl
@[simp] theorem State.drawn_skn (s : State) : (s.drawn).skn = s.skn := rfl
@[simp] theorem State.drawn_spd (s : State) : (s.drawn).spd = s.spd := rfl
@[simp] theorem State.drawn_tim (s : State) : (s.drawn).tim = s.tim := rfl
@[simp] theorem State.drawn_shl (s : State) : (s.drawn).shl = s.shl := rfl
@[simp] theorem State.drawn_brg (s : State) : (s.drawn).brg = s.brg := rfl
@[simp] theorem State.drawn_vfn (s : State) : (s.drawn).vfn = s.vfn := rfl
@[simp] theorem State.drawn_pwr (s : State) : (s.drawn).pwr = s.pwr := rfl
@[simp] theorem State.drawn_tarn (s : State) : (s.drawn).tarn = s.tarn := rfl
@[simp] theorem State.drawn_boot (s : State) : (s.drawn).boot = s.boot := rfl
@[simp] theorem State.drawn_hold (s : State) : (s.drawn).hold = s.hold := rfl
@[simp] theorem State.drawn_key (s : State) : (s.drawn).key = s.key := rfl
@[simp] theorem State.drawn_refFault (s : State) : (s.drawn).refFault = s.refFault := rfl
@[simp] theorem State.drawn_pending (s : State) : (s.drawn).pending = s.pending := rfl

@[simp] theorem State.modIslands_part (s : State) (d : Nat) (f : Islands → Islands) : (s.modIslands d f).part = s.part := rfl
@[simp] theorem State.modIslands_clock (s : State) (d : Nat) (f : Islands → Islands) : (s.modIslands d f).clock = s.clock := rfl
@[simp] theorem State.modIslands_regs (s : State) (d : Nat) (f : Islands → Islands) : (s.modIslands d f).regs = s.regs := rfl
@[simp] theorem State.modIslands_regLog (s : State) (d : Nat) (f : Islands → Islands) : (s.modIslands d f).regLog = s.regLog := rfl
@[simp] theorem State.modIslands_cells (s : State) (d : Nat) (f : Islands → Islands) : (s.modIslands d f).cells = s.cells := rfl
@[simp] theorem State.modIslands_cellLog (s : State) (d : Nat) (f : Islands → Islands) : (s.modIslands d f).cellLog = s.cellLog := rfl
@[simp] theorem State.modIslands_out (s : State) (d : Nat) (f : Islands → Islands) : (s.modIslands d f).out = s.out := rfl
@[simp] theorem State.modIslands_fresh (s : State) (d : Nat) (f : Islands → Islands) : (s.modIslands d f).fresh = s.fresh := rfl
@[simp] theorem State.modIslands_pkg (s : State) (d : Nat) (f : Islands → Islands) : (s.modIslands d f).pkg = s.pkg := rfl
@[simp] theorem State.modIslands_access (s : State) (d : Nat) (f : Islands → Islands) : (s.modIslands d f).access = s.access := rfl
@[simp] theorem State.modIslands_evt (s : State) (d : Nat) (f : Islands → Islands) : (s.modIslands d f).evt = s.evt := rfl
@[simp] theorem State.modIslands_dies (s : State) (d : Nat) (f : Islands → Islands) : (s.modIslands d f).dies = s.dies := rfl
@[simp] theorem State.modIslands_skn (s : State) (d : Nat) (f : Islands → Islands) : (s.modIslands d f).skn = s.skn := rfl
@[simp] theorem State.modIslands_spd (s : State) (d : Nat) (f : Islands → Islands) : (s.modIslands d f).spd = s.spd := rfl
@[simp] theorem State.modIslands_tim (s : State) (d : Nat) (f : Islands → Islands) : (s.modIslands d f).tim = s.tim := rfl
@[simp] theorem State.modIslands_shl (s : State) (d : Nat) (f : Islands → Islands) : (s.modIslands d f).shl = s.shl := rfl
@[simp] theorem State.modIslands_brg (s : State) (d : Nat) (f : Islands → Islands) : (s.modIslands d f).brg = s.brg := rfl
@[simp] theorem State.modIslands_vfn (s : State) (d : Nat) (f : Islands → Islands) : (s.modIslands d f).vfn = s.vfn := rfl
@[simp] theorem State.modIslands_pwr (s : State) (d : Nat) (f : Islands → Islands) : (s.modIslands d f).pwr = s.pwr := rfl
@[simp] theorem State.modIslands_tarn (s : State) (d : Nat) (f : Islands → Islands) : (s.modIslands d f).tarn = s.tarn := rfl
@[simp] theorem State.modIslands_boot (s : State) (d : Nat) (f : Islands → Islands) : (s.modIslands d f).boot = s.boot := rfl
@[simp] theorem State.modIslands_hold (s : State) (d : Nat) (f : Islands → Islands) : (s.modIslands d f).hold = s.hold := rfl
@[simp] theorem State.modIslands_key (s : State) (d : Nat) (f : Islands → Islands) : (s.modIslands d f).key = s.key := rfl
@[simp] theorem State.modIslands_refFault (s : State) (d : Nat) (f : Islands → Islands) : (s.modIslands d f).refFault = s.refFault := rfl
@[simp] theorem State.modIslands_pending (s : State) (d : Nat) (f : Islands → Islands) : (s.modIslands d f).pending = s.pending := rfl

@[simp] theorem State.modFence_part (s : State) (q : Req) (f : Fence → Fence) : (s.modFence q f).part = s.part := rfl
@[simp] theorem State.modFence_clock (s : State) (q : Req) (f : Fence → Fence) : (s.modFence q f).clock = s.clock := rfl
@[simp] theorem State.modFence_regs (s : State) (q : Req) (f : Fence → Fence) : (s.modFence q f).regs = s.regs := rfl
@[simp] theorem State.modFence_regLog (s : State) (q : Req) (f : Fence → Fence) : (s.modFence q f).regLog = s.regLog := rfl
@[simp] theorem State.modFence_cells (s : State) (q : Req) (f : Fence → Fence) : (s.modFence q f).cells = s.cells := rfl
@[simp] theorem State.modFence_cellLog (s : State) (q : Req) (f : Fence → Fence) : (s.modFence q f).cellLog = s.cellLog := rfl
@[simp] theorem State.modFence_out (s : State) (q : Req) (f : Fence → Fence) : (s.modFence q f).out = s.out := rfl
@[simp] theorem State.modFence_fresh (s : State) (q : Req) (f : Fence → Fence) : (s.modFence q f).fresh = s.fresh := rfl
@[simp] theorem State.modFence_isl (s : State) (q : Req) (f : Fence → Fence) : (s.modFence q f).isl = s.isl := rfl
@[simp] theorem State.modFence_pkg (s : State) (q : Req) (f : Fence → Fence) : (s.modFence q f).pkg = s.pkg := rfl
@[simp] theorem State.modFence_evt (s : State) (q : Req) (f : Fence → Fence) : (s.modFence q f).evt = s.evt := rfl
@[simp] theorem State.modFence_dies (s : State) (q : Req) (f : Fence → Fence) : (s.modFence q f).dies = s.dies := rfl
@[simp] theorem State.modFence_skn (s : State) (q : Req) (f : Fence → Fence) : (s.modFence q f).skn = s.skn := rfl
@[simp] theorem State.modFence_spd (s : State) (q : Req) (f : Fence → Fence) : (s.modFence q f).spd = s.spd := rfl
@[simp] theorem State.modFence_tim (s : State) (q : Req) (f : Fence → Fence) : (s.modFence q f).tim = s.tim := rfl
@[simp] theorem State.modFence_shl (s : State) (q : Req) (f : Fence → Fence) : (s.modFence q f).shl = s.shl := rfl
@[simp] theorem State.modFence_brg (s : State) (q : Req) (f : Fence → Fence) : (s.modFence q f).brg = s.brg := rfl
@[simp] theorem State.modFence_vfn (s : State) (q : Req) (f : Fence → Fence) : (s.modFence q f).vfn = s.vfn := rfl
@[simp] theorem State.modFence_pwr (s : State) (q : Req) (f : Fence → Fence) : (s.modFence q f).pwr = s.pwr := rfl
@[simp] theorem State.modFence_tarn (s : State) (q : Req) (f : Fence → Fence) : (s.modFence q f).tarn = s.tarn := rfl
@[simp] theorem State.modFence_boot (s : State) (q : Req) (f : Fence → Fence) : (s.modFence q f).boot = s.boot := rfl
@[simp] theorem State.modFence_hold (s : State) (q : Req) (f : Fence → Fence) : (s.modFence q f).hold = s.hold := rfl
@[simp] theorem State.modFence_key (s : State) (q : Req) (f : Fence → Fence) : (s.modFence q f).key = s.key := rfl
@[simp] theorem State.modFence_refFault (s : State) (q : Req) (f : Fence → Fence) : (s.modFence q f).refFault = s.refFault := rfl
@[simp] theorem State.modFence_pending (s : State) (q : Req) (f : Fence → Fence) : (s.modFence q f).pending = s.pending := rfl

@[simp] theorem State.park_part (s : State) (w : Waiting) : (s.park w).part = s.part := rfl
@[simp] theorem State.park_clock (s : State) (w : Waiting) : (s.park w).clock = s.clock := rfl
@[simp] theorem State.park_regs (s : State) (w : Waiting) : (s.park w).regs = s.regs := rfl
@[simp] theorem State.park_regLog (s : State) (w : Waiting) : (s.park w).regLog = s.regLog := rfl
@[simp] theorem State.park_cells (s : State) (w : Waiting) : (s.park w).cells = s.cells := rfl
@[simp] theorem State.park_cellLog (s : State) (w : Waiting) : (s.park w).cellLog = s.cellLog := rfl
@[simp] theorem State.park_out (s : State) (w : Waiting) : (s.park w).out = s.out := rfl
@[simp] theorem State.park_fresh (s : State) (w : Waiting) : (s.park w).fresh = s.fresh := rfl
@[simp] theorem State.park_isl (s : State) (w : Waiting) : (s.park w).isl = s.isl := rfl
@[simp] theorem State.park_pkg (s : State) (w : Waiting) : (s.park w).pkg = s.pkg := rfl
@[simp] theorem State.park_evt (s : State) (w : Waiting) : (s.park w).evt = s.evt := rfl
@[simp] theorem State.park_dies (s : State) (w : Waiting) : (s.park w).dies = s.dies := rfl
@[simp] theorem State.park_skn (s : State) (w : Waiting) : (s.park w).skn = s.skn := rfl
@[simp] theorem State.park_spd (s : State) (w : Waiting) : (s.park w).spd = s.spd := rfl
@[simp] theorem State.park_tim (s : State) (w : Waiting) : (s.park w).tim = s.tim := rfl
@[simp] theorem State.park_shl (s : State) (w : Waiting) : (s.park w).shl = s.shl := rfl
@[simp] theorem State.park_brg (s : State) (w : Waiting) : (s.park w).brg = s.brg := rfl
@[simp] theorem State.park_vfn (s : State) (w : Waiting) : (s.park w).vfn = s.vfn := rfl
@[simp] theorem State.park_pwr (s : State) (w : Waiting) : (s.park w).pwr = s.pwr := rfl
@[simp] theorem State.park_tarn (s : State) (w : Waiting) : (s.park w).tarn = s.tarn := rfl
@[simp] theorem State.park_boot (s : State) (w : Waiting) : (s.park w).boot = s.boot := rfl
@[simp] theorem State.park_hold (s : State) (w : Waiting) : (s.park w).hold = s.hold := rfl
@[simp] theorem State.park_key (s : State) (w : Waiting) : (s.park w).key = s.key := rfl
@[simp] theorem State.park_refFault (s : State) (w : Waiting) : (s.park w).refFault = s.refFault := rfl
@[simp] theorem State.park_pending (s : State) (w : Waiting) : (s.park w).pending = s.pending := rfl

@[simp] theorem State.parkCmd_part (s : State) (c : Parked) : (s.parkCmd c).part = s.part := rfl
@[simp] theorem State.parkCmd_clock (s : State) (c : Parked) : (s.parkCmd c).clock = s.clock := rfl
@[simp] theorem State.parkCmd_regs (s : State) (c : Parked) : (s.parkCmd c).regs = s.regs := rfl
@[simp] theorem State.parkCmd_regLog (s : State) (c : Parked) : (s.parkCmd c).regLog = s.regLog := rfl
@[simp] theorem State.parkCmd_cells (s : State) (c : Parked) : (s.parkCmd c).cells = s.cells := rfl
@[simp] theorem State.parkCmd_cellLog (s : State) (c : Parked) : (s.parkCmd c).cellLog = s.cellLog := rfl
@[simp] theorem State.parkCmd_out (s : State) (c : Parked) : (s.parkCmd c).out = s.out := rfl
@[simp] theorem State.parkCmd_fresh (s : State) (c : Parked) : (s.parkCmd c).fresh = s.fresh := rfl
@[simp] theorem State.parkCmd_isl (s : State) (c : Parked) : (s.parkCmd c).isl = s.isl := rfl
@[simp] theorem State.parkCmd_pkg (s : State) (c : Parked) : (s.parkCmd c).pkg = s.pkg := rfl
@[simp] theorem State.parkCmd_evt (s : State) (c : Parked) : (s.parkCmd c).evt = s.evt := rfl
@[simp] theorem State.parkCmd_dies (s : State) (c : Parked) : (s.parkCmd c).dies = s.dies := rfl
@[simp] theorem State.parkCmd_skn (s : State) (c : Parked) : (s.parkCmd c).skn = s.skn := rfl
@[simp] theorem State.parkCmd_spd (s : State) (c : Parked) : (s.parkCmd c).spd = s.spd := rfl
@[simp] theorem State.parkCmd_tim (s : State) (c : Parked) : (s.parkCmd c).tim = s.tim := rfl
@[simp] theorem State.parkCmd_shl (s : State) (c : Parked) : (s.parkCmd c).shl = s.shl := rfl
@[simp] theorem State.parkCmd_brg (s : State) (c : Parked) : (s.parkCmd c).brg = s.brg := rfl
@[simp] theorem State.parkCmd_vfn (s : State) (c : Parked) : (s.parkCmd c).vfn = s.vfn := rfl
@[simp] theorem State.parkCmd_pwr (s : State) (c : Parked) : (s.parkCmd c).pwr = s.pwr := rfl
@[simp] theorem State.parkCmd_tarn (s : State) (c : Parked) : (s.parkCmd c).tarn = s.tarn := rfl
@[simp] theorem State.parkCmd_boot (s : State) (c : Parked) : (s.parkCmd c).boot = s.boot := rfl
@[simp] theorem State.parkCmd_hold (s : State) (c : Parked) : (s.parkCmd c).hold = s.hold := rfl
@[simp] theorem State.parkCmd_key (s : State) (c : Parked) : (s.parkCmd c).key = s.key := rfl
@[simp] theorem State.parkCmd_refFault (s : State) (c : Parked) : (s.parkCmd c).refFault = s.refFault := rfl
@[simp] theorem State.parkCmd_pending (s : State) (c : Parked) : (s.parkCmd c).pending = s.pending := rfl

@[simp] theorem State.raiseFor_part (s : State) (o : Nat) (mgr : Bool) (d src code sev : Nat) (l : List (Nat × Nat)) : (s.raiseFor o mgr d src code sev l).part = s.part := rfl
@[simp] theorem State.raiseFor_clock (s : State) (o : Nat) (mgr : Bool) (d src code sev : Nat) (l : List (Nat × Nat)) : (s.raiseFor o mgr d src code sev l).clock = s.clock := rfl
@[simp] theorem State.raiseFor_regs (s : State) (o : Nat) (mgr : Bool) (d src code sev : Nat) (l : List (Nat × Nat)) : (s.raiseFor o mgr d src code sev l).regs = s.regs := rfl
@[simp] theorem State.raiseFor_regLog (s : State) (o : Nat) (mgr : Bool) (d src code sev : Nat) (l : List (Nat × Nat)) : (s.raiseFor o mgr d src code sev l).regLog = s.regLog := rfl
@[simp] theorem State.raiseFor_cells (s : State) (o : Nat) (mgr : Bool) (d src code sev : Nat) (l : List (Nat × Nat)) : (s.raiseFor o mgr d src code sev l).cells = s.cells := rfl
@[simp] theorem State.raiseFor_cellLog (s : State) (o : Nat) (mgr : Bool) (d src code sev : Nat) (l : List (Nat × Nat)) : (s.raiseFor o mgr d src code sev l).cellLog = s.cellLog := rfl
@[simp] theorem State.raiseFor_out (s : State) (o : Nat) (mgr : Bool) (d src code sev : Nat) (l : List (Nat × Nat)) : (s.raiseFor o mgr d src code sev l).out = s.out := rfl
@[simp] theorem State.raiseFor_fresh (s : State) (o : Nat) (mgr : Bool) (d src code sev : Nat) (l : List (Nat × Nat)) : (s.raiseFor o mgr d src code sev l).fresh = s.fresh := rfl
@[simp] theorem State.raiseFor_isl (s : State) (o : Nat) (mgr : Bool) (d src code sev : Nat) (l : List (Nat × Nat)) : (s.raiseFor o mgr d src code sev l).isl = s.isl := rfl
@[simp] theorem State.raiseFor_pkg (s : State) (o : Nat) (mgr : Bool) (d src code sev : Nat) (l : List (Nat × Nat)) : (s.raiseFor o mgr d src code sev l).pkg = s.pkg := rfl
@[simp] theorem State.raiseFor_access (s : State) (o : Nat) (mgr : Bool) (d src code sev : Nat) (l : List (Nat × Nat)) : (s.raiseFor o mgr d src code sev l).access = s.access := rfl
@[simp] theorem State.raiseFor_dies (s : State) (o : Nat) (mgr : Bool) (d src code sev : Nat) (l : List (Nat × Nat)) : (s.raiseFor o mgr d src code sev l).dies = s.dies := rfl
@[simp] theorem State.raiseFor_skn (s : State) (o : Nat) (mgr : Bool) (d src code sev : Nat) (l : List (Nat × Nat)) : (s.raiseFor o mgr d src code sev l).skn = s.skn := rfl
@[simp] theorem State.raiseFor_spd (s : State) (o : Nat) (mgr : Bool) (d src code sev : Nat) (l : List (Nat × Nat)) : (s.raiseFor o mgr d src code sev l).spd = s.spd := rfl
@[simp] theorem State.raiseFor_tim (s : State) (o : Nat) (mgr : Bool) (d src code sev : Nat) (l : List (Nat × Nat)) : (s.raiseFor o mgr d src code sev l).tim = s.tim := rfl
@[simp] theorem State.raiseFor_shl (s : State) (o : Nat) (mgr : Bool) (d src code sev : Nat) (l : List (Nat × Nat)) : (s.raiseFor o mgr d src code sev l).shl = s.shl := rfl
@[simp] theorem State.raiseFor_brg (s : State) (o : Nat) (mgr : Bool) (d src code sev : Nat) (l : List (Nat × Nat)) : (s.raiseFor o mgr d src code sev l).brg = s.brg := rfl
@[simp] theorem State.raiseFor_vfn (s : State) (o : Nat) (mgr : Bool) (d src code sev : Nat) (l : List (Nat × Nat)) : (s.raiseFor o mgr d src code sev l).vfn = s.vfn := rfl
@[simp] theorem State.raiseFor_pwr (s : State) (o : Nat) (mgr : Bool) (d src code sev : Nat) (l : List (Nat × Nat)) : (s.raiseFor o mgr d src code sev l).pwr = s.pwr := rfl
@[simp] theorem State.raiseFor_tarn (s : State) (o : Nat) (mgr : Bool) (d src code sev : Nat) (l : List (Nat × Nat)) : (s.raiseFor o mgr d src code sev l).tarn = s.tarn := rfl
@[simp] theorem State.raiseFor_boot (s : State) (o : Nat) (mgr : Bool) (d src code sev : Nat) (l : List (Nat × Nat)) : (s.raiseFor o mgr d src code sev l).boot = s.boot := rfl
@[simp] theorem State.raiseFor_hold (s : State) (o : Nat) (mgr : Bool) (d src code sev : Nat) (l : List (Nat × Nat)) : (s.raiseFor o mgr d src code sev l).hold = s.hold := rfl
@[simp] theorem State.raiseFor_key (s : State) (o : Nat) (mgr : Bool) (d src code sev : Nat) (l : List (Nat × Nat)) : (s.raiseFor o mgr d src code sev l).key = s.key := rfl
@[simp] theorem State.raiseFor_refFault (s : State) (o : Nat) (mgr : Bool) (d src code sev : Nat) (l : List (Nat × Nat)) : (s.raiseFor o mgr d src code sev l).refFault = s.refFault := rfl
@[simp] theorem State.raiseFor_pending (s : State) (o : Nat) (mgr : Bool) (d src code sev : Nat) (l : List (Nat × Nat)) : (s.raiseFor o mgr d src code sev l).pending = s.pending := rfl

@[simp] theorem State.raise_part (s : State) (d src code sev : Nat) (l : List (Nat × Nat)) : (s.raise d src code sev l).part = s.part := rfl
@[simp] theorem State.raise_clock (s : State) (d src code sev : Nat) (l : List (Nat × Nat)) : (s.raise d src code sev l).clock = s.clock := rfl
@[simp] theorem State.raise_regs (s : State) (d src code sev : Nat) (l : List (Nat × Nat)) : (s.raise d src code sev l).regs = s.regs := rfl
@[simp] theorem State.raise_regLog (s : State) (d src code sev : Nat) (l : List (Nat × Nat)) : (s.raise d src code sev l).regLog = s.regLog := rfl
@[simp] theorem State.raise_cells (s : State) (d src code sev : Nat) (l : List (Nat × Nat)) : (s.raise d src code sev l).cells = s.cells := rfl
@[simp] theorem State.raise_cellLog (s : State) (d src code sev : Nat) (l : List (Nat × Nat)) : (s.raise d src code sev l).cellLog = s.cellLog := rfl
@[simp] theorem State.raise_out (s : State) (d src code sev : Nat) (l : List (Nat × Nat)) : (s.raise d src code sev l).out = s.out := rfl
@[simp] theorem State.raise_fresh (s : State) (d src code sev : Nat) (l : List (Nat × Nat)) : (s.raise d src code sev l).fresh = s.fresh := rfl
@[simp] theorem State.raise_isl (s : State) (d src code sev : Nat) (l : List (Nat × Nat)) : (s.raise d src code sev l).isl = s.isl := rfl
@[simp] theorem State.raise_pkg (s : State) (d src code sev : Nat) (l : List (Nat × Nat)) : (s.raise d src code sev l).pkg = s.pkg := rfl
@[simp] theorem State.raise_access (s : State) (d src code sev : Nat) (l : List (Nat × Nat)) : (s.raise d src code sev l).access = s.access := rfl
@[simp] theorem State.raise_dies (s : State) (d src code sev : Nat) (l : List (Nat × Nat)) : (s.raise d src code sev l).dies = s.dies := rfl
@[simp] theorem State.raise_skn (s : State) (d src code sev : Nat) (l : List (Nat × Nat)) : (s.raise d src code sev l).skn = s.skn := rfl
@[simp] theorem State.raise_spd (s : State) (d src code sev : Nat) (l : List (Nat × Nat)) : (s.raise d src code sev l).spd = s.spd := rfl
@[simp] theorem State.raise_tim (s : State) (d src code sev : Nat) (l : List (Nat × Nat)) : (s.raise d src code sev l).tim = s.tim := rfl
@[simp] theorem State.raise_shl (s : State) (d src code sev : Nat) (l : List (Nat × Nat)) : (s.raise d src code sev l).shl = s.shl := rfl
@[simp] theorem State.raise_brg (s : State) (d src code sev : Nat) (l : List (Nat × Nat)) : (s.raise d src code sev l).brg = s.brg := rfl
@[simp] theorem State.raise_vfn (s : State) (d src code sev : Nat) (l : List (Nat × Nat)) : (s.raise d src code sev l).vfn = s.vfn := rfl
@[simp] theorem State.raise_pwr (s : State) (d src code sev : Nat) (l : List (Nat × Nat)) : (s.raise d src code sev l).pwr = s.pwr := rfl
@[simp] theorem State.raise_tarn (s : State) (d src code sev : Nat) (l : List (Nat × Nat)) : (s.raise d src code sev l).tarn = s.tarn := rfl
@[simp] theorem State.raise_boot (s : State) (d src code sev : Nat) (l : List (Nat × Nat)) : (s.raise d src code sev l).boot = s.boot := rfl
@[simp] theorem State.raise_hold (s : State) (d src code sev : Nat) (l : List (Nat × Nat)) : (s.raise d src code sev l).hold = s.hold := rfl
@[simp] theorem State.raise_key (s : State) (d src code sev : Nat) (l : List (Nat × Nat)) : (s.raise d src code sev l).key = s.key := rfl
@[simp] theorem State.raise_refFault (s : State) (d src code sev : Nat) (l : List (Nat × Nat)) : (s.raise d src code sev l).refFault = s.refFault := rfl
@[simp] theorem State.raise_pending (s : State) (d src code sev : Nat) (l : List (Nat × Nat)) : (s.raise d src code sev l).pending = s.pending := rfl

@[simp] theorem State.raiseOwned_part (s : State) (o d src code sev : Nat) (l : List (Nat × Nat)) : (s.raiseOwned o d src code sev l).part = s.part := rfl
@[simp] theorem State.raiseOwned_clock (s : State) (o d src code sev : Nat) (l : List (Nat × Nat)) : (s.raiseOwned o d src code sev l).clock = s.clock := rfl
@[simp] theorem State.raiseOwned_regs (s : State) (o d src code sev : Nat) (l : List (Nat × Nat)) : (s.raiseOwned o d src code sev l).regs = s.regs := rfl
@[simp] theorem State.raiseOwned_regLog (s : State) (o d src code sev : Nat) (l : List (Nat × Nat)) : (s.raiseOwned o d src code sev l).regLog = s.regLog := rfl
@[simp] theorem State.raiseOwned_cells (s : State) (o d src code sev : Nat) (l : List (Nat × Nat)) : (s.raiseOwned o d src code sev l).cells = s.cells := rfl
@[simp] theorem State.raiseOwned_cellLog (s : State) (o d src code sev : Nat) (l : List (Nat × Nat)) : (s.raiseOwned o d src code sev l).cellLog = s.cellLog := rfl
@[simp] theorem State.raiseOwned_out (s : State) (o d src code sev : Nat) (l : List (Nat × Nat)) : (s.raiseOwned o d src code sev l).out = s.out := rfl
@[simp] theorem State.raiseOwned_fresh (s : State) (o d src code sev : Nat) (l : List (Nat × Nat)) : (s.raiseOwned o d src code sev l).fresh = s.fresh := rfl
@[simp] theorem State.raiseOwned_isl (s : State) (o d src code sev : Nat) (l : List (Nat × Nat)) : (s.raiseOwned o d src code sev l).isl = s.isl := rfl
@[simp] theorem State.raiseOwned_pkg (s : State) (o d src code sev : Nat) (l : List (Nat × Nat)) : (s.raiseOwned o d src code sev l).pkg = s.pkg := rfl
@[simp] theorem State.raiseOwned_access (s : State) (o d src code sev : Nat) (l : List (Nat × Nat)) : (s.raiseOwned o d src code sev l).access = s.access := rfl
@[simp] theorem State.raiseOwned_dies (s : State) (o d src code sev : Nat) (l : List (Nat × Nat)) : (s.raiseOwned o d src code sev l).dies = s.dies := rfl
@[simp] theorem State.raiseOwned_skn (s : State) (o d src code sev : Nat) (l : List (Nat × Nat)) : (s.raiseOwned o d src code sev l).skn = s.skn := rfl
@[simp] theorem State.raiseOwned_spd (s : State) (o d src code sev : Nat) (l : List (Nat × Nat)) : (s.raiseOwned o d src code sev l).spd = s.spd := rfl
@[simp] theorem State.raiseOwned_tim (s : State) (o d src code sev : Nat) (l : List (Nat × Nat)) : (s.raiseOwned o d src code sev l).tim = s.tim := rfl
@[simp] theorem State.raiseOwned_shl (s : State) (o d src code sev : Nat) (l : List (Nat × Nat)) : (s.raiseOwned o d src code sev l).shl = s.shl := rfl
@[simp] theorem State.raiseOwned_brg (s : State) (o d src code sev : Nat) (l : List (Nat × Nat)) : (s.raiseOwned o d src code sev l).brg = s.brg := rfl
@[simp] theorem State.raiseOwned_vfn (s : State) (o d src code sev : Nat) (l : List (Nat × Nat)) : (s.raiseOwned o d src code sev l).vfn = s.vfn := rfl
@[simp] theorem State.raiseOwned_pwr (s : State) (o d src code sev : Nat) (l : List (Nat × Nat)) : (s.raiseOwned o d src code sev l).pwr = s.pwr := rfl
@[simp] theorem State.raiseOwned_tarn (s : State) (o d src code sev : Nat) (l : List (Nat × Nat)) : (s.raiseOwned o d src code sev l).tarn = s.tarn := rfl
@[simp] theorem State.raiseOwned_boot (s : State) (o d src code sev : Nat) (l : List (Nat × Nat)) : (s.raiseOwned o d src code sev l).boot = s.boot := rfl
@[simp] theorem State.raiseOwned_hold (s : State) (o d src code sev : Nat) (l : List (Nat × Nat)) : (s.raiseOwned o d src code sev l).hold = s.hold := rfl
@[simp] theorem State.raiseOwned_key (s : State) (o d src code sev : Nat) (l : List (Nat × Nat)) : (s.raiseOwned o d src code sev l).key = s.key := rfl
@[simp] theorem State.raiseOwned_refFault (s : State) (o d src code sev : Nat) (l : List (Nat × Nat)) : (s.raiseOwned o d src code sev l).refFault = s.refFault := rfl
@[simp] theorem State.raiseOwned_pending (s : State) (o d src code sev : Nat) (l : List (Nat × Nat)) : (s.raiseOwned o d src code sev l).pending = s.pending := rfl

@[simp] theorem State.modDie_part (s : State) (d : Nat) (f : Die → Die) : (s.modDie d f).part = s.part := rfl
@[simp] theorem State.modDie_clock (s : State) (d : Nat) (f : Die → Die) : (s.modDie d f).clock = s.clock := rfl
@[simp] theorem State.modDie_regs (s : State) (d : Nat) (f : Die → Die) : (s.modDie d f).regs = s.regs := rfl
@[simp] theorem State.modDie_regLog (s : State) (d : Nat) (f : Die → Die) : (s.modDie d f).regLog = s.regLog := rfl
@[simp] theorem State.modDie_cells (s : State) (d : Nat) (f : Die → Die) : (s.modDie d f).cells = s.cells := rfl
@[simp] theorem State.modDie_cellLog (s : State) (d : Nat) (f : Die → Die) : (s.modDie d f).cellLog = s.cellLog := rfl
@[simp] theorem State.modDie_out (s : State) (d : Nat) (f : Die → Die) : (s.modDie d f).out = s.out := rfl
@[simp] theorem State.modDie_fresh (s : State) (d : Nat) (f : Die → Die) : (s.modDie d f).fresh = s.fresh := rfl
@[simp] theorem State.modDie_isl (s : State) (d : Nat) (f : Die → Die) : (s.modDie d f).isl = s.isl := rfl
@[simp] theorem State.modDie_pkg (s : State) (d : Nat) (f : Die → Die) : (s.modDie d f).pkg = s.pkg := rfl
@[simp] theorem State.modDie_access (s : State) (d : Nat) (f : Die → Die) : (s.modDie d f).access = s.access := rfl
@[simp] theorem State.modDie_evt (s : State) (d : Nat) (f : Die → Die) : (s.modDie d f).evt = s.evt := rfl
@[simp] theorem State.modDie_skn (s : State) (d : Nat) (f : Die → Die) : (s.modDie d f).skn = s.skn := rfl
@[simp] theorem State.modDie_spd (s : State) (d : Nat) (f : Die → Die) : (s.modDie d f).spd = s.spd := rfl
@[simp] theorem State.modDie_tim (s : State) (d : Nat) (f : Die → Die) : (s.modDie d f).tim = s.tim := rfl
@[simp] theorem State.modDie_shl (s : State) (d : Nat) (f : Die → Die) : (s.modDie d f).shl = s.shl := rfl
@[simp] theorem State.modDie_brg (s : State) (d : Nat) (f : Die → Die) : (s.modDie d f).brg = s.brg := rfl
@[simp] theorem State.modDie_vfn (s : State) (d : Nat) (f : Die → Die) : (s.modDie d f).vfn = s.vfn := rfl
@[simp] theorem State.modDie_pwr (s : State) (d : Nat) (f : Die → Die) : (s.modDie d f).pwr = s.pwr := rfl
@[simp] theorem State.modDie_tarn (s : State) (d : Nat) (f : Die → Die) : (s.modDie d f).tarn = s.tarn := rfl
@[simp] theorem State.modDie_boot (s : State) (d : Nat) (f : Die → Die) : (s.modDie d f).boot = s.boot := rfl
@[simp] theorem State.modDie_hold (s : State) (d : Nat) (f : Die → Die) : (s.modDie d f).hold = s.hold := rfl
@[simp] theorem State.modDie_key (s : State) (d : Nat) (f : Die → Die) : (s.modDie d f).key = s.key := rfl
@[simp] theorem State.modDie_refFault (s : State) (d : Nat) (f : Die → Die) : (s.modDie d f).refFault = s.refFault := rfl
@[simp] theorem State.modDie_pending (s : State) (d : Nat) (f : Die → Die) : (s.modDie d f).pending = s.pending := rfl

@[simp] theorem State.modBrg_part (s : State) (f : Brg → Brg) : (s.modBrg f).part = s.part := rfl
@[simp] theorem State.modBrg_clock (s : State) (f : Brg → Brg) : (s.modBrg f).clock = s.clock := rfl
@[simp] theorem State.modBrg_regs (s : State) (f : Brg → Brg) : (s.modBrg f).regs = s.regs := rfl
@[simp] theorem State.modBrg_regLog (s : State) (f : Brg → Brg) : (s.modBrg f).regLog = s.regLog := rfl
@[simp] theorem State.modBrg_cells (s : State) (f : Brg → Brg) : (s.modBrg f).cells = s.cells := rfl
@[simp] theorem State.modBrg_cellLog (s : State) (f : Brg → Brg) : (s.modBrg f).cellLog = s.cellLog := rfl
@[simp] theorem State.modBrg_out (s : State) (f : Brg → Brg) : (s.modBrg f).out = s.out := rfl
@[simp] theorem State.modBrg_fresh (s : State) (f : Brg → Brg) : (s.modBrg f).fresh = s.fresh := rfl
@[simp] theorem State.modBrg_isl (s : State) (f : Brg → Brg) : (s.modBrg f).isl = s.isl := rfl
@[simp] theorem State.modBrg_pkg (s : State) (f : Brg → Brg) : (s.modBrg f).pkg = s.pkg := rfl
@[simp] theorem State.modBrg_access (s : State) (f : Brg → Brg) : (s.modBrg f).access = s.access := rfl
@[simp] theorem State.modBrg_evt (s : State) (f : Brg → Brg) : (s.modBrg f).evt = s.evt := rfl
@[simp] theorem State.modBrg_dies (s : State) (f : Brg → Brg) : (s.modBrg f).dies = s.dies := rfl
@[simp] theorem State.modBrg_skn (s : State) (f : Brg → Brg) : (s.modBrg f).skn = s.skn := rfl
@[simp] theorem State.modBrg_spd (s : State) (f : Brg → Brg) : (s.modBrg f).spd = s.spd := rfl
@[simp] theorem State.modBrg_tim (s : State) (f : Brg → Brg) : (s.modBrg f).tim = s.tim := rfl
@[simp] theorem State.modBrg_shl (s : State) (f : Brg → Brg) : (s.modBrg f).shl = s.shl := rfl
@[simp] theorem State.modBrg_vfn (s : State) (f : Brg → Brg) : (s.modBrg f).vfn = s.vfn := rfl
@[simp] theorem State.modBrg_pwr (s : State) (f : Brg → Brg) : (s.modBrg f).pwr = s.pwr := rfl
@[simp] theorem State.modBrg_tarn (s : State) (f : Brg → Brg) : (s.modBrg f).tarn = s.tarn := rfl
@[simp] theorem State.modBrg_boot (s : State) (f : Brg → Brg) : (s.modBrg f).boot = s.boot := rfl
@[simp] theorem State.modBrg_hold (s : State) (f : Brg → Brg) : (s.modBrg f).hold = s.hold := rfl
@[simp] theorem State.modBrg_key (s : State) (f : Brg → Brg) : (s.modBrg f).key = s.key := rfl
@[simp] theorem State.modBrg_refFault (s : State) (f : Brg → Brg) : (s.modBrg f).refFault = s.refFault := rfl
@[simp] theorem State.modBrg_pending (s : State) (f : Brg → Brg) : (s.modBrg f).pending = s.pending := rfl

@[simp] theorem State.modPort_part (s : State) (p : Nat) (f : Port → Port) : (s.modPort p f).part = s.part := rfl
@[simp] theorem State.modPort_clock (s : State) (p : Nat) (f : Port → Port) : (s.modPort p f).clock = s.clock := rfl
@[simp] theorem State.modPort_regs (s : State) (p : Nat) (f : Port → Port) : (s.modPort p f).regs = s.regs := rfl
@[simp] theorem State.modPort_regLog (s : State) (p : Nat) (f : Port → Port) : (s.modPort p f).regLog = s.regLog := rfl
@[simp] theorem State.modPort_cells (s : State) (p : Nat) (f : Port → Port) : (s.modPort p f).cells = s.cells := rfl
@[simp] theorem State.modPort_cellLog (s : State) (p : Nat) (f : Port → Port) : (s.modPort p f).cellLog = s.cellLog := rfl
@[simp] theorem State.modPort_out (s : State) (p : Nat) (f : Port → Port) : (s.modPort p f).out = s.out := rfl
@[simp] theorem State.modPort_fresh (s : State) (p : Nat) (f : Port → Port) : (s.modPort p f).fresh = s.fresh := rfl
@[simp] theorem State.modPort_isl (s : State) (p : Nat) (f : Port → Port) : (s.modPort p f).isl = s.isl := rfl
@[simp] theorem State.modPort_pkg (s : State) (p : Nat) (f : Port → Port) : (s.modPort p f).pkg = s.pkg := rfl
@[simp] theorem State.modPort_access (s : State) (p : Nat) (f : Port → Port) : (s.modPort p f).access = s.access := rfl
@[simp] theorem State.modPort_evt (s : State) (p : Nat) (f : Port → Port) : (s.modPort p f).evt = s.evt := rfl
@[simp] theorem State.modPort_dies (s : State) (p : Nat) (f : Port → Port) : (s.modPort p f).dies = s.dies := rfl
@[simp] theorem State.modPort_skn (s : State) (p : Nat) (f : Port → Port) : (s.modPort p f).skn = s.skn := rfl
@[simp] theorem State.modPort_spd (s : State) (p : Nat) (f : Port → Port) : (s.modPort p f).spd = s.spd := rfl
@[simp] theorem State.modPort_tim (s : State) (p : Nat) (f : Port → Port) : (s.modPort p f).tim = s.tim := rfl
@[simp] theorem State.modPort_brg (s : State) (p : Nat) (f : Port → Port) : (s.modPort p f).brg = s.brg := rfl
@[simp] theorem State.modPort_vfn (s : State) (p : Nat) (f : Port → Port) : (s.modPort p f).vfn = s.vfn := rfl
@[simp] theorem State.modPort_pwr (s : State) (p : Nat) (f : Port → Port) : (s.modPort p f).pwr = s.pwr := rfl
@[simp] theorem State.modPort_tarn (s : State) (p : Nat) (f : Port → Port) : (s.modPort p f).tarn = s.tarn := rfl
@[simp] theorem State.modPort_boot (s : State) (p : Nat) (f : Port → Port) : (s.modPort p f).boot = s.boot := rfl
@[simp] theorem State.modPort_hold (s : State) (p : Nat) (f : Port → Port) : (s.modPort p f).hold = s.hold := rfl
@[simp] theorem State.modPort_key (s : State) (p : Nat) (f : Port → Port) : (s.modPort p f).key = s.key := rfl
@[simp] theorem State.modPort_refFault (s : State) (p : Nat) (f : Port → Port) : (s.modPort p f).refFault = s.refFault := rfl
@[simp] theorem State.modPort_pending (s : State) (p : Nat) (f : Port → Port) : (s.modPort p f).pending = s.pending := rfl

@[simp] theorem State.modLink_part (s : State) (l : Nat) (f : TLink → TLink) : (s.modLink l f).part = s.part := rfl
@[simp] theorem State.modLink_clock (s : State) (l : Nat) (f : TLink → TLink) : (s.modLink l f).clock = s.clock := rfl
@[simp] theorem State.modLink_regs (s : State) (l : Nat) (f : TLink → TLink) : (s.modLink l f).regs = s.regs := rfl
@[simp] theorem State.modLink_regLog (s : State) (l : Nat) (f : TLink → TLink) : (s.modLink l f).regLog = s.regLog := rfl
@[simp] theorem State.modLink_cells (s : State) (l : Nat) (f : TLink → TLink) : (s.modLink l f).cells = s.cells := rfl
@[simp] theorem State.modLink_cellLog (s : State) (l : Nat) (f : TLink → TLink) : (s.modLink l f).cellLog = s.cellLog := rfl
@[simp] theorem State.modLink_out (s : State) (l : Nat) (f : TLink → TLink) : (s.modLink l f).out = s.out := rfl
@[simp] theorem State.modLink_fresh (s : State) (l : Nat) (f : TLink → TLink) : (s.modLink l f).fresh = s.fresh := rfl
@[simp] theorem State.modLink_isl (s : State) (l : Nat) (f : TLink → TLink) : (s.modLink l f).isl = s.isl := rfl
@[simp] theorem State.modLink_pkg (s : State) (l : Nat) (f : TLink → TLink) : (s.modLink l f).pkg = s.pkg := rfl
@[simp] theorem State.modLink_access (s : State) (l : Nat) (f : TLink → TLink) : (s.modLink l f).access = s.access := rfl
@[simp] theorem State.modLink_evt (s : State) (l : Nat) (f : TLink → TLink) : (s.modLink l f).evt = s.evt := rfl
@[simp] theorem State.modLink_dies (s : State) (l : Nat) (f : TLink → TLink) : (s.modLink l f).dies = s.dies := rfl
@[simp] theorem State.modLink_skn (s : State) (l : Nat) (f : TLink → TLink) : (s.modLink l f).skn = s.skn := rfl
@[simp] theorem State.modLink_spd (s : State) (l : Nat) (f : TLink → TLink) : (s.modLink l f).spd = s.spd := rfl
@[simp] theorem State.modLink_shl (s : State) (l : Nat) (f : TLink → TLink) : (s.modLink l f).shl = s.shl := rfl
@[simp] theorem State.modLink_brg (s : State) (l : Nat) (f : TLink → TLink) : (s.modLink l f).brg = s.brg := rfl
@[simp] theorem State.modLink_vfn (s : State) (l : Nat) (f : TLink → TLink) : (s.modLink l f).vfn = s.vfn := rfl
@[simp] theorem State.modLink_pwr (s : State) (l : Nat) (f : TLink → TLink) : (s.modLink l f).pwr = s.pwr := rfl
@[simp] theorem State.modLink_tarn (s : State) (l : Nat) (f : TLink → TLink) : (s.modLink l f).tarn = s.tarn := rfl
@[simp] theorem State.modLink_boot (s : State) (l : Nat) (f : TLink → TLink) : (s.modLink l f).boot = s.boot := rfl
@[simp] theorem State.modLink_hold (s : State) (l : Nat) (f : TLink → TLink) : (s.modLink l f).hold = s.hold := rfl
@[simp] theorem State.modLink_key (s : State) (l : Nat) (f : TLink → TLink) : (s.modLink l f).key = s.key := rfl
@[simp] theorem State.modLink_refFault (s : State) (l : Nat) (f : TLink → TLink) : (s.modLink l f).refFault = s.refFault := rfl
@[simp] theorem State.modLink_pending (s : State) (l : Nat) (f : TLink → TLink) : (s.modLink l f).pending = s.pending := rfl

@[simp] theorem State.putSlot_part (s : State) (f : Nat) (x : Slot) : (s.putSlot f x).part = s.part := rfl
@[simp] theorem State.putSlot_clock (s : State) (f : Nat) (x : Slot) : (s.putSlot f x).clock = s.clock := rfl
@[simp] theorem State.putSlot_regs (s : State) (f : Nat) (x : Slot) : (s.putSlot f x).regs = s.regs := rfl
@[simp] theorem State.putSlot_regLog (s : State) (f : Nat) (x : Slot) : (s.putSlot f x).regLog = s.regLog := rfl
@[simp] theorem State.putSlot_cells (s : State) (f : Nat) (x : Slot) : (s.putSlot f x).cells = s.cells := rfl
@[simp] theorem State.putSlot_cellLog (s : State) (f : Nat) (x : Slot) : (s.putSlot f x).cellLog = s.cellLog := rfl
@[simp] theorem State.putSlot_out (s : State) (f : Nat) (x : Slot) : (s.putSlot f x).out = s.out := rfl
@[simp] theorem State.putSlot_fresh (s : State) (f : Nat) (x : Slot) : (s.putSlot f x).fresh = s.fresh := rfl
@[simp] theorem State.putSlot_isl (s : State) (f : Nat) (x : Slot) : (s.putSlot f x).isl = s.isl := rfl
@[simp] theorem State.putSlot_pkg (s : State) (f : Nat) (x : Slot) : (s.putSlot f x).pkg = s.pkg := rfl
@[simp] theorem State.putSlot_access (s : State) (f : Nat) (x : Slot) : (s.putSlot f x).access = s.access := rfl
@[simp] theorem State.putSlot_evt (s : State) (f : Nat) (x : Slot) : (s.putSlot f x).evt = s.evt := rfl
@[simp] theorem State.putSlot_dies (s : State) (f : Nat) (x : Slot) : (s.putSlot f x).dies = s.dies := rfl
@[simp] theorem State.putSlot_skn (s : State) (f : Nat) (x : Slot) : (s.putSlot f x).skn = s.skn := rfl
@[simp] theorem State.putSlot_spd (s : State) (f : Nat) (x : Slot) : (s.putSlot f x).spd = s.spd := rfl
@[simp] theorem State.putSlot_tim (s : State) (f : Nat) (x : Slot) : (s.putSlot f x).tim = s.tim := rfl
@[simp] theorem State.putSlot_shl (s : State) (f : Nat) (x : Slot) : (s.putSlot f x).shl = s.shl := rfl
@[simp] theorem State.putSlot_brg (s : State) (f : Nat) (x : Slot) : (s.putSlot f x).brg = s.brg := rfl
@[simp] theorem State.putSlot_pwr (s : State) (f : Nat) (x : Slot) : (s.putSlot f x).pwr = s.pwr := rfl
@[simp] theorem State.putSlot_tarn (s : State) (f : Nat) (x : Slot) : (s.putSlot f x).tarn = s.tarn := rfl
@[simp] theorem State.putSlot_boot (s : State) (f : Nat) (x : Slot) : (s.putSlot f x).boot = s.boot := rfl
@[simp] theorem State.putSlot_hold (s : State) (f : Nat) (x : Slot) : (s.putSlot f x).hold = s.hold := rfl
@[simp] theorem State.putSlot_key (s : State) (f : Nat) (x : Slot) : (s.putSlot f x).key = s.key := rfl
@[simp] theorem State.putSlot_refFault (s : State) (f : Nat) (x : Slot) : (s.putSlot f x).refFault = s.refFault := rfl
@[simp] theorem State.putSlot_pending (s : State) (f : Nat) (x : Slot) : (s.putSlot f x).pending = s.pending := rfl

@[simp] theorem State.putOutlet_part (s : State) (p : Nat) (o : Outlet) : (s.putOutlet p o).part = s.part := rfl
@[simp] theorem State.putOutlet_clock (s : State) (p : Nat) (o : Outlet) : (s.putOutlet p o).clock = s.clock := rfl
@[simp] theorem State.putOutlet_regs (s : State) (p : Nat) (o : Outlet) : (s.putOutlet p o).regs = s.regs := rfl
@[simp] theorem State.putOutlet_regLog (s : State) (p : Nat) (o : Outlet) : (s.putOutlet p o).regLog = s.regLog := rfl
@[simp] theorem State.putOutlet_cells (s : State) (p : Nat) (o : Outlet) : (s.putOutlet p o).cells = s.cells := rfl
@[simp] theorem State.putOutlet_cellLog (s : State) (p : Nat) (o : Outlet) : (s.putOutlet p o).cellLog = s.cellLog := rfl
@[simp] theorem State.putOutlet_out (s : State) (p : Nat) (o : Outlet) : (s.putOutlet p o).out = s.out := rfl
@[simp] theorem State.putOutlet_fresh (s : State) (p : Nat) (o : Outlet) : (s.putOutlet p o).fresh = s.fresh := rfl
@[simp] theorem State.putOutlet_isl (s : State) (p : Nat) (o : Outlet) : (s.putOutlet p o).isl = s.isl := rfl
@[simp] theorem State.putOutlet_pkg (s : State) (p : Nat) (o : Outlet) : (s.putOutlet p o).pkg = s.pkg := rfl
@[simp] theorem State.putOutlet_access (s : State) (p : Nat) (o : Outlet) : (s.putOutlet p o).access = s.access := rfl
@[simp] theorem State.putOutlet_dies (s : State) (p : Nat) (o : Outlet) : (s.putOutlet p o).dies = s.dies := rfl
@[simp] theorem State.putOutlet_skn (s : State) (p : Nat) (o : Outlet) : (s.putOutlet p o).skn = s.skn := rfl
@[simp] theorem State.putOutlet_spd (s : State) (p : Nat) (o : Outlet) : (s.putOutlet p o).spd = s.spd := rfl
@[simp] theorem State.putOutlet_tim (s : State) (p : Nat) (o : Outlet) : (s.putOutlet p o).tim = s.tim := rfl
@[simp] theorem State.putOutlet_shl (s : State) (p : Nat) (o : Outlet) : (s.putOutlet p o).shl = s.shl := rfl
@[simp] theorem State.putOutlet_brg (s : State) (p : Nat) (o : Outlet) : (s.putOutlet p o).brg = s.brg := rfl
@[simp] theorem State.putOutlet_vfn (s : State) (p : Nat) (o : Outlet) : (s.putOutlet p o).vfn = s.vfn := rfl
@[simp] theorem State.putOutlet_pwr (s : State) (p : Nat) (o : Outlet) : (s.putOutlet p o).pwr = s.pwr := rfl
@[simp] theorem State.putOutlet_tarn (s : State) (p : Nat) (o : Outlet) : (s.putOutlet p o).tarn = s.tarn := rfl
@[simp] theorem State.putOutlet_boot (s : State) (p : Nat) (o : Outlet) : (s.putOutlet p o).boot = s.boot := rfl
@[simp] theorem State.putOutlet_hold (s : State) (p : Nat) (o : Outlet) : (s.putOutlet p o).hold = s.hold := rfl
@[simp] theorem State.putOutlet_key (s : State) (p : Nat) (o : Outlet) : (s.putOutlet p o).key = s.key := rfl
@[simp] theorem State.putOutlet_refFault (s : State) (p : Nat) (o : Outlet) : (s.putOutlet p o).refFault = s.refFault := rfl
@[simp] theorem State.putOutlet_pending (s : State) (p : Nat) (o : Outlet) : (s.putOutlet p o).pending = s.pending := rfl

@[simp] theorem State.setLatches_part (s : State) (q : Req) (t : Table Word) : (s.setLatches q t).part = s.part := rfl
@[simp] theorem State.setLatches_clock (s : State) (q : Req) (t : Table Word) : (s.setLatches q t).clock = s.clock := rfl
@[simp] theorem State.setLatches_regs (s : State) (q : Req) (t : Table Word) : (s.setLatches q t).regs = s.regs := rfl
@[simp] theorem State.setLatches_regLog (s : State) (q : Req) (t : Table Word) : (s.setLatches q t).regLog = s.regLog := rfl
@[simp] theorem State.setLatches_cells (s : State) (q : Req) (t : Table Word) : (s.setLatches q t).cells = s.cells := rfl
@[simp] theorem State.setLatches_cellLog (s : State) (q : Req) (t : Table Word) : (s.setLatches q t).cellLog = s.cellLog := rfl
@[simp] theorem State.setLatches_out (s : State) (q : Req) (t : Table Word) : (s.setLatches q t).out = s.out := rfl
@[simp] theorem State.setLatches_fresh (s : State) (q : Req) (t : Table Word) : (s.setLatches q t).fresh = s.fresh := rfl
@[simp] theorem State.setLatches_isl (s : State) (q : Req) (t : Table Word) : (s.setLatches q t).isl = s.isl := rfl
@[simp] theorem State.setLatches_pkg (s : State) (q : Req) (t : Table Word) : (s.setLatches q t).pkg = s.pkg := rfl
@[simp] theorem State.setLatches_evt (s : State) (q : Req) (t : Table Word) : (s.setLatches q t).evt = s.evt := rfl
@[simp] theorem State.setLatches_dies (s : State) (q : Req) (t : Table Word) : (s.setLatches q t).dies = s.dies := rfl
@[simp] theorem State.setLatches_skn (s : State) (q : Req) (t : Table Word) : (s.setLatches q t).skn = s.skn := rfl
@[simp] theorem State.setLatches_spd (s : State) (q : Req) (t : Table Word) : (s.setLatches q t).spd = s.spd := rfl
@[simp] theorem State.setLatches_tim (s : State) (q : Req) (t : Table Word) : (s.setLatches q t).tim = s.tim := rfl
@[simp] theorem State.setLatches_shl (s : State) (q : Req) (t : Table Word) : (s.setLatches q t).shl = s.shl := rfl
@[simp] theorem State.setLatches_brg (s : State) (q : Req) (t : Table Word) : (s.setLatches q t).brg = s.brg := rfl
@[simp] theorem State.setLatches_vfn (s : State) (q : Req) (t : Table Word) : (s.setLatches q t).vfn = s.vfn := rfl
@[simp] theorem State.setLatches_pwr (s : State) (q : Req) (t : Table Word) : (s.setLatches q t).pwr = s.pwr := rfl
@[simp] theorem State.setLatches_tarn (s : State) (q : Req) (t : Table Word) : (s.setLatches q t).tarn = s.tarn := rfl
@[simp] theorem State.setLatches_boot (s : State) (q : Req) (t : Table Word) : (s.setLatches q t).boot = s.boot := rfl
@[simp] theorem State.setLatches_hold (s : State) (q : Req) (t : Table Word) : (s.setLatches q t).hold = s.hold := rfl
@[simp] theorem State.setLatches_key (s : State) (q : Req) (t : Table Word) : (s.setLatches q t).key = s.key := rfl
@[simp] theorem State.setLatches_refFault (s : State) (q : Req) (t : Table Word) : (s.setLatches q t).refFault = s.refFault := rfl
@[simp] theorem State.setLatches_pending (s : State) (q : Req) (t : Table Word) : (s.setLatches q t).pending = s.pending := rfl

@[simp] theorem State.emit_reg (s : State) (e : Emit) (m : Nat) : (s.emit e).reg m = s.reg m := rfl
@[simp] theorem State.emit_cell (s : State) (e : Emit) (m : Nat) : (s.emit e).cell m = s.cell m := rfl
@[simp] theorem State.emits_reg (s : State) (es : List Emit) (m : Nat) : (s.emits es).reg m = s.reg m := rfl
@[simp] theorem State.emits_cell (s : State) (es : List Emit) (m : Nat) : (s.emits es).cell m = s.cell m := rfl
@[simp] theorem State.drawn_reg (s : State) (m : Nat) : (s.drawn).reg m = s.reg m := rfl
@[simp] theorem State.drawn_cell (s : State) (m : Nat) : (s.drawn).cell m = s.cell m := rfl
@[simp] theorem State.modIslands_reg (s : State) (d : Nat) (f : Islands → Islands) (m : Nat) : (s.modIslands d f).reg m = s.reg m := rfl
@[simp] theorem State.modIslands_cell (s : State) (d : Nat) (f : Islands → Islands) (m : Nat) : (s.modIslands d f).cell m = s.cell m := rfl
@[simp] theorem State.modFence_reg (s : State) (q : Req) (f : Fence → Fence) (m : Nat) : (s.modFence q f).reg m = s.reg m := rfl
@[simp] theorem State.modFence_cell (s : State) (q : Req) (f : Fence → Fence) (m : Nat) : (s.modFence q f).cell m = s.cell m := rfl
@[simp] theorem State.park_reg (s : State) (w : Waiting) (m : Nat) : (s.park w).reg m = s.reg m := rfl
@[simp] theorem State.park_cell (s : State) (w : Waiting) (m : Nat) : (s.park w).cell m = s.cell m := rfl
@[simp] theorem State.parkCmd_reg (s : State) (c : Parked) (m : Nat) : (s.parkCmd c).reg m = s.reg m := rfl
@[simp] theorem State.parkCmd_cell (s : State) (c : Parked) (m : Nat) : (s.parkCmd c).cell m = s.cell m := rfl
@[simp] theorem State.raiseFor_reg (s : State) (o : Nat) (mgr : Bool) (d src code sev : Nat) (l : List (Nat × Nat)) (m : Nat) : (s.raiseFor o mgr d src code sev l).reg m = s.reg m := rfl
@[simp] theorem State.raiseFor_cell (s : State) (o : Nat) (mgr : Bool) (d src code sev : Nat) (l : List (Nat × Nat)) (m : Nat) : (s.raiseFor o mgr d src code sev l).cell m = s.cell m := rfl
@[simp] theorem State.raise_reg (s : State) (d src code sev : Nat) (l : List (Nat × Nat)) (m : Nat) : (s.raise d src code sev l).reg m = s.reg m := rfl
@[simp] theorem State.raise_cell (s : State) (d src code sev : Nat) (l : List (Nat × Nat)) (m : Nat) : (s.raise d src code sev l).cell m = s.cell m := rfl
@[simp] theorem State.raiseOwned_reg (s : State) (o d src code sev : Nat) (l : List (Nat × Nat)) (m : Nat) : (s.raiseOwned o d src code sev l).reg m = s.reg m := rfl
@[simp] theorem State.raiseOwned_cell (s : State) (o d src code sev : Nat) (l : List (Nat × Nat)) (m : Nat) : (s.raiseOwned o d src code sev l).cell m = s.cell m := rfl
@[simp] theorem State.modDie_reg (s : State) (d : Nat) (f : Die → Die) (m : Nat) : (s.modDie d f).reg m = s.reg m := rfl
@[simp] theorem State.modDie_cell (s : State) (d : Nat) (f : Die → Die) (m : Nat) : (s.modDie d f).cell m = s.cell m := rfl
@[simp] theorem State.modBrg_reg (s : State) (f : Brg → Brg) (m : Nat) : (s.modBrg f).reg m = s.reg m := rfl
@[simp] theorem State.modBrg_cell (s : State) (f : Brg → Brg) (m : Nat) : (s.modBrg f).cell m = s.cell m := rfl
@[simp] theorem State.modPort_reg (s : State) (p : Nat) (f : Port → Port) (m : Nat) : (s.modPort p f).reg m = s.reg m := rfl
@[simp] theorem State.modPort_cell (s : State) (p : Nat) (f : Port → Port) (m : Nat) : (s.modPort p f).cell m = s.cell m := rfl
@[simp] theorem State.modLink_reg (s : State) (l : Nat) (f : TLink → TLink) (m : Nat) : (s.modLink l f).reg m = s.reg m := rfl
@[simp] theorem State.modLink_cell (s : State) (l : Nat) (f : TLink → TLink) (m : Nat) : (s.modLink l f).cell m = s.cell m := rfl
@[simp] theorem State.putSlot_reg (s : State) (f : Nat) (x : Slot) (m : Nat) : (s.putSlot f x).reg m = s.reg m := rfl
@[simp] theorem State.putSlot_cell (s : State) (f : Nat) (x : Slot) (m : Nat) : (s.putSlot f x).cell m = s.cell m := rfl
@[simp] theorem State.putOutlet_reg (s : State) (p : Nat) (o : Outlet) (m : Nat) : (s.putOutlet p o).reg m = s.reg m := rfl
@[simp] theorem State.putOutlet_cell (s : State) (p : Nat) (o : Outlet) (m : Nat) : (s.putOutlet p o).cell m = s.cell m := rfl
@[simp] theorem State.setLatches_reg (s : State) (q : Req) (t : Table Word) (m : Nat) : (s.setLatches q t).reg m = s.reg m := rfl
@[simp] theorem State.setLatches_cell (s : State) (q : Req) (t : Table Word) (m : Nat) : (s.setLatches q t).cell m = s.cell m := rfl

end Sys2Proof.Machine
end

