-- ==== Sys2Proof/Laws/Table.lean ====
section
/-! SUPPORT. The laws of sparse tables: a write keeps the canonical form, a read after a write. -/

namespace Sys2Proof.Machine

/-- Every key of a table is above a bound. -/
def Table.above {α : Type} (n : Nat) (t : Table α) : Prop := ∀ p ∈ t, n < p.1

theorem Table.rising_cons {α : Type} (k : Nat) (v : α) (t : Table α) :
    Table.rising ((k, v) :: t) = true ↔ Table.above k t ∧ Table.rising t = true := by
  induction t generalizing k v with
  | nil => simp [Table.rising, Table.above]
  | cons p t ih =>
    obtain ⟨k', v'⟩ := p
    constructor
    · intro h
      simp only [Table.rising, Bool.and_eq_true, decide_eq_true_eq] at h
      refine ⟨?_, h.2⟩
      intro q hq
      rcases List.mem_cons.mp hq with rfl | hq
      · exact h.1
      · exact Nat.lt_trans h.1 (((ih k' v').mp h.2).1 q hq)
    · rintro ⟨ha, hr⟩
      simp only [Table.rising, Bool.and_eq_true, decide_eq_true_eq]
      exact ⟨ha (k', v') (by simp), hr⟩

theorem Table.mem_put {α : Type} {t : Table α} {key : Nat} {v : α} {p : Nat × α} (h : p ∈ Table.put t key v) :
    p = (key, v) ∨ p ∈ t := by
  induction t with
  | nil => simpa [Table.put] using h
  | cons q t ih =>
    obtain ⟨k, w⟩ := q
    simp only [Table.put] at h
    split at h
    · simpa using h
    · split at h
      · rcases List.mem_cons.mp h with rfl | h
        · exact .inl rfl
        · exact .inr (List.mem_cons_of_mem _ h)
      · rcases List.mem_cons.mp h with rfl | h
        · exact .inr (by simp)
        · rcases ih h with h | h
          · exact .inl h
          · exact .inr (List.mem_cons_of_mem _ h)

theorem Table.mem_del {α : Type} {t : Table α} {key : Nat} {p : Nat × α} (h : p ∈ Table.del t key) : p ∈ t := by
  induction t with
  | nil => simp [Table.del] at h
  | cons q t ih =>
    obtain ⟨k, w⟩ := q
    simp only [Table.del] at h
    split at h
    · exact List.mem_cons_of_mem _ h
    · rcases List.mem_cons.mp h with rfl | h
      · simp
      · exact List.mem_cons_of_mem _ (ih h)

theorem Table.rising_put {α : Type} {t : Table α} (key : Nat) (v : α) (h : Table.rising t = true) :
    Table.rising (Table.put t key v) = true := by
  induction t with
  | nil => rfl
  | cons q t ih =>
    obtain ⟨k, w⟩ := q
    have hc := (Table.rising_cons k w t).mp h
    simp only [Table.put]
    split
    next hlt =>
      rw [Table.rising_cons]
      refine ⟨fun p hp => ?_, h⟩
      rcases List.mem_cons.mp hp with rfl | hp
      · exact hlt
      · exact Nat.lt_trans hlt (hc.1 p hp)
    next hlt =>
      split
      next heq => subst heq; exact (Table.rising_cons k v t).mpr hc
      next hne =>
        rw [Table.rising_cons]
        refine ⟨fun p hp => ?_, ih hc.2⟩
        rcases Table.mem_put hp with rfl | hp
        · show k < key; omega
        · exact hc.1 p hp

theorem Table.rising_del {α : Type} {t : Table α} (key : Nat) (h : Table.rising t = true) :
    Table.rising (Table.del t key) = true := by
  induction t with
  | nil => rfl
  | cons q t ih =>
    obtain ⟨k, w⟩ := q
    have hc := (Table.rising_cons k w t).mp h
    simp only [Table.del]
    split
    · exact hc.2
    · rw [Table.rising_cons]
      exact ⟨fun p hp => hc.1 p (Table.mem_del hp), ih hc.2⟩

theorem Table.canonical_iff {α : Type} [DecidableEq α] (u : Nat → α) (t : Table α) :
    Table.canonical u t = true ↔ Table.rising t = true ∧ ∀ p ∈ t, p.2 ≠ u p.1 := by
  simp [Table.canonical]

/-- A write keeps the canonical form. -/
theorem Table.canonical_write {α : Type} [DecidableEq α] {u : Nat → α} {t : Table α} (key : Nat) (v : α)
    (h : Table.canonical u t = true) : Table.canonical u (Table.write u t key v) = true := by
  rw [Table.canonical_iff] at *
  unfold Table.write
  split
  · exact ⟨Table.rising_del key h.1, fun p hp => h.2 p (Table.mem_del hp)⟩
  next hv =>
    refine ⟨Table.rising_put key v h.1, fun p hp => ?_⟩
    rcases Table.mem_put hp with rfl | hp
    · exact hv
    · exact h.2 p hp

/-- A log of writes keeps the canonical form. -/
theorem canonical_applyLog {α : Type} [DecidableEq α] {u : Nat → α} (log : List (Nat × α)) {t : Table α}
    (h : Table.canonical u t = true) : Table.canonical u (applyLog u log t) = true := by
  induction log with
  | nil => exact h
  | cons p log ih => exact Table.canonical_write p.1 p.2 ih

/-! Reads. -/

theorem Table.find_none_of_above {α : Type} {t : Table α} {k : Nat} (h : Table.above k t) : Table.find? t k = none := by
  induction t with
  | nil => rfl
  | cons q t ih =>
    obtain ⟨k', w⟩ := q
    have hk : k < k' := h (k', w) (by simp)
    simp only [Table.find?]
    rw [if_neg (by omega)]
    exact ih fun p hp => h p (List.mem_cons_of_mem _ hp)

/-- The value put at a key is found there, and every other key as before. -/
theorem Table.find_put {α : Type} (t : Table α) (key key' : Nat) (v : α) :
    Table.find? (Table.put t key v) key' = if key' = key then some v else Table.find? t key' := by
  induction t with
  | nil => simp [Table.put, Table.find?, eq_comm]
  | cons q t ih =>
    obtain ⟨k, w⟩ := q
    simp only [Table.put]
    split
    next hlt => simp [Table.find?, eq_comm]
    next hlt =>
      split
      next heq => subst heq; by_cases h' : key' = k <;> simp [Table.find?, h', eq_comm]
      next hne =>
        simp only [Table.find?, ih]
        by_cases h1 : k = key'
        · subst h1; simp [hne]
        · simp [h1]

theorem Table.look_put {α : Type} (t : Table α) (key key' : Nat) (v d : α) :
    Table.look (Table.put t key v) key' d = if key' = key then v else Table.look t key' d := by
  unfold Table.look
  rw [Table.find_put]
  split <;> rfl

theorem Table.look_upd {α : Type} (t : Table α) (key key' : Nat) (d : α) (f : α → α) :
    Table.look (Table.upd t key d f) key' d = if key' = key then f (Table.look t key d) else Table.look t key' d := by
  unfold Table.upd
  rw [Table.look_put]

theorem Table.find_del {α : Type} (t : Table α) (key key' : Nat) (h : Table.rising t = true) :
    Table.find? (Table.del t key) key' = if key' = key then none else Table.find? t key' := by
  induction t with
  | nil => simp [Table.del, Table.find?]
  | cons q t ih =>
    obtain ⟨k, w⟩ := q
    have hc := (Table.rising_cons k w t).mp h
    simp only [Table.del]
    split
    next heq =>
      subst heq
      by_cases h' : key' = k
      · subst h'; simp [Table.find_none_of_above hc.1]
      · simp [Table.find?, h', Ne.symm h']
    next hne =>
      simp only [Table.find?, ih hc.2]
      by_cases h1 : k = key'
      · subst h1; simp [hne]
      · simp [h1]

/-- A read after a write: the written value at its key, and every other key as before. -/
theorem Table.read_write {α : Type} [DecidableEq α] (u : Nat → α) (t : Table α) (key key' : Nat) (v : α)
    (h : Table.rising t = true) :
    Table.read u (Table.write u t key v) key' = if key' = key then v else Table.read u t key' := by
  unfold Table.read Table.write
  split
  next hv =>
    rw [Table.find_del t key key' h]
    by_cases h' : key' = key
    · subst h'; simp [hv]
    · simp [h']
  next hv =>
    rw [Table.find_put t key key' v]
    by_cases h' : key' = key <;> simp [h']

theorem rising_applyLog {α : Type} [DecidableEq α] {u : Nat → α} (log : List (Nat × α)) {t : Table α}
    (h : Table.rising t = true) : Table.rising (applyLog u log t) = true := by
  induction log with
  | nil => exact h
  | cons p log ih =>
    show Table.rising (Table.write u _ p.1 p.2) = true
    unfold Table.write
    split
    · exact Table.rising_del _ ih
    · exact Table.rising_put _ _ ih

/-- A read after a log of writes: the latest entry of the log, else what the table held. -/
theorem read_applyLog {α : Type} [DecidableEq α] (u : Nat → α) (log : List (Nat × α)) (t : Table α) (key : Nat)
    (h : Table.rising t = true) :
    Table.read u (applyLog u log t) key = (logFind log key).getD (Table.read u t key) := by
  induction log with
  | nil => rfl
  | cons p log ih =>
    show Table.read u (Table.write u (applyLog u log t) p.1 p.2) key = _
    rw [Table.read_write u _ _ _ _ (rising_applyLog log h), ih]
    obtain ⟨k, v⟩ := p
    by_cases h' : key = k
    · subst h'; simp [logFind]
    · simp [logFind, h', Ne.symm h']

end Sys2Proof.Machine
end

