-- ==== Sys2Proof/Laws/Shapes.lean ====
section
/-! SUPPORT. What the shapes of a meaning answer, and how the next state reads. -/

namespace Sys2Proof.Machine

/-! The end of a command. -/

theorem rising_of_canonical {α : Type} [DecidableEq α] {u : Nat → α} {t : Table α} (h : Table.canonical u t = true) :
    Table.rising t = true := ((Table.canonical_iff u t).mp h).1

/-- A register after a command: the latest write, else what it held. -/
theorem State.reg_commit {s u : State} (h : s.Kept) (n : Nat) :
    (s.commit u).reg n = (logFind u.regLog n).getD (s.reg n) := by
  have : (s.commit u).reg n = Table.read unlistedReg (applyLog unlistedReg u.regLog s.regs) n := rfl
  rw [this, read_applyLog _ _ _ _ (rising_of_canonical h.1)]
  simp [State.reg, h.2.2.1, logFind]

/-- A byte after a command. -/
theorem State.cell_commit {s u : State} (h : s.Kept) (n : Nat) :
    (s.commit u).cell n = (logFind u.cellLog n).getD (s.cell n) := by
  have : (s.commit u).cell n = Table.read unlistedCell (applyLog unlistedCell u.cellLog s.cells) n := rfl
  rw [this, read_applyLog _ _ _ _ (rising_of_canonical h.2.1)]
  simp [State.cell, h.2.2.2, logFind]

/-- A state that has not touched the tables it began with reads the same after the command. -/
theorem State.reg_commit_eq {s u : State} (h : s.Kept) (hu : u.regs = s.regs) (n : Nat) : (s.commit u).reg n = u.reg n := by
  rw [State.reg_commit h]
  simp [State.reg, hu, h.2.2.1, logFind]

theorem State.get_commit {s u : State} (h : s.Kept) (hu : u.regs = s.regs) (d : Nat) (f : Fld) (i j : Nat) :
    (s.commit u).get d f i j = u.get d f i j := by
  unfold State.get State.word
  rw [State.reg_commit_eq h hu]

/-- The end of a command keeps the canonical form. -/
theorem State.kept_commit {s : State} (h : s.Kept) (u : State) : (s.commit u).Kept :=
  ⟨canonical_applyLog _ h.1, canonical_applyLog _ h.2.1, rfl, rfl⟩

/-! Time. -/

theorem State.reg_elapse {s : State} (h : s.regLog = []) (a : At) (n : Nat) : (elapse a s).reg n = s.reg n := by
  simp [State.reg, elapse, h, logFind]

theorem State.get_elapse {s : State} (h : s.regLog = []) (a : At) (d : Nat) (f : Fld) (i j : Nat) :
    (elapse a s).get d f i j = s.get d f i j := by
  unfold State.get State.word
  rw [State.reg_elapse h]

theorem State.runs_elapse (s : State) (a : At) (d isl : Nat) : (elapse a s).runs d isl = s.runs d isl := by
  unfold State.runs State.serves State.islands elapse
  cases h : s.clock.stopped <;> simp [h]

/-! What a command's beginning leaves. -/

@[simp] theorem State.ungate_reg (s : State) (d isl n : Nat) : (s.ungate d isl).reg n = s.reg n := by
  unfold State.ungate; split <;> rfl

@[simp] theorem State.ungate_regs (s : State) (d isl : Nat) : (s.ungate d isl).regs = s.regs := by
  unfold State.ungate; split <;> rfl

theorem State.begun_eq (s : State) (a : At) (isl : Nat) : ∃ i, s.begun a isl = { elapse a s with isl := i } := by
  unfold State.begun State.ungate
  split
  · exact ⟨_, rfl⟩
  · exact ⟨_, rfl⟩

/-- Until a command writes them, the registers read as before it. -/
theorem State.reg_begun {s : State} (h : s.Kept) (a : At) (isl n : Nat) : (s.begun a isl).reg n = s.reg n := by
  rw [State.begun, State.ungate_reg, State.reg_elapse h.2.2.1]

theorem State.get_begun {s : State} (h : s.Kept) (a : At) (isl d : Nat) (f : Fld) (i j : Nat) :
    (s.begun a isl).get d f i j = s.get d f i j := by
  unfold State.get State.word
  rw [State.reg_begun h]

@[simp] theorem State.begun_regs (s : State) (a : At) (isl : Nat) : (s.begun a isl).regs = s.regs := by
  obtain ⟨i, h⟩ := s.begun_eq a isl; rw [h]; rfl
@[simp] theorem State.begun_regLog (s : State) (a : At) (isl : Nat) : (s.begun a isl).regLog = [] := by
  obtain ⟨i, h⟩ := s.begun_eq a isl; rw [h]; rfl
@[simp] theorem State.begun_cellLog (s : State) (a : At) (isl : Nat) : (s.begun a isl).cellLog = [] := by
  obtain ⟨i, h⟩ := s.begun_eq a isl; rw [h]; rfl
@[simp] theorem State.begun_out (s : State) (a : At) (isl : Nat) : (s.begun a isl).out = [] := by
  obtain ⟨i, h⟩ := s.begun_eq a isl; rw [h]; rfl
@[simp] theorem State.begun_dies (s : State) (a : At) (isl : Nat) : (s.begun a isl).dies = s.dies := by
  obtain ⟨i, h⟩ := s.begun_eq a isl; rw [h]; rfl
@[simp] theorem State.begun_evt (s : State) (a : At) (isl : Nat) : (s.begun a isl).evt = s.evt := by
  obtain ⟨i, h⟩ := s.begun_eq a isl; rw [h]; rfl

/-! An admitted write. -/

theorem State.activity_eq (s : State) : ∃ i l e, s.activity = { s with isl := i, regLog := l, evt := e } ∧
    ∀ n, n ∉ eddyRegs → logFind l n = logFind s.regLog n := by
  unfold State.activity
  split
  · refine ⟨_, _, _, rfl, fun n hn => ?_⟩
    simp only [eddyRegs, List.mem_cons, List.not_mem_nil, or_false, not_or] at hn
    have h1 : barAddr 0 (Reg.PWR_COUNT.off 0 0) ≠ n := fun e => hn.2 e.symm
    have h2 : barAddr 0 (Reg.PWR_STATUS.off 0 0) ≠ n := fun e => hn.1 e.symm
    simp [State.wrap, State.set, State.setWord, State.setReg, logFind, F.PWR_COUNT_EDDY_EXITS, h1, h2]
  · exact ⟨s.isl, s.regLog, s.evt, rfl, fun _ _ => rfl⟩

theorem State.admitted_eq {s : State} (_h : s.Kept) (a : At) (q : Req) (off : Nat) :
    ∃ i l e x, s.admitted a q off = { elapse a s with isl := i, regLog := l, evt := e, access := x } ∧
      ∀ n, n ∉ eddyRegs → logFind l n = none := by
  have hu : ∀ (u : State) (d isl : Nat), ∃ i, u.ungate d isl = { u with isl := i } := by
    intro u d isl
    unfold State.ungate
    split
    · exact ⟨_, rfl⟩
    · exact ⟨_, rfl⟩
  have ht : ∃ i l e, (elapse a s).tlpActivity q off = { elapse a s with isl := i, regLog := l, evt := e } ∧
      ∀ n, n ∉ eddyRegs → logFind l n = none := by
    unfold State.tlpActivity
    split
    · exact ⟨_, _, _, rfl, fun _ _ => rfl⟩
    · obtain ⟨i, l, e, h1, h2⟩ := (elapse a s).activity_eq
      exact ⟨i, l, e, h1, h2⟩
  obtain ⟨i, l, e, h1, h2⟩ := ht
  obtain ⟨i', h3⟩ := hu ((elapse a s).tlpActivity q off) a.die ((elapse a s).holder a.die off)
  refine ⟨i', l, e, (s.admitted a q off).access, ?_, h2⟩
  simp only [State.admitted]
  rw [h3, h1]
  rfl

/-- Until the write takes effect, every register but those of EDDY's end reads as before it. -/
theorem State.reg_admitted {s : State} (h : s.Kept) (a : At) (q : Req) (off : Nat) {n : Nat} (hn : n ∉ eddyRegs) :
    (s.admitted a q off).reg n = s.reg n := by
  obtain ⟨i, l, e, x, h1, h2⟩ := s.admitted_eq h a q off
  rw [h1]
  simp only [State.reg]
  rw [h2 n hn, h.2.2.1]
  rfl

theorem State.admitted_regs {s : State} (h : s.Kept) (a : At) (q : Req) (off : Nat) : (s.admitted a q off).regs = s.regs := by
  obtain ⟨i, l, e, x, h1, _⟩ := s.admitted_eq h a q off; rw [h1]; rfl
theorem State.admitted_cellLog {s : State} (h : s.Kept) (a : At) (q : Req) (off : Nat) : (s.admitted a q off).cellLog = [] := by
  obtain ⟨i, l, e, x, h1, _⟩ := s.admitted_eq h a q off; rw [h1]; rfl
theorem State.admitted_out {s : State} (h : s.Kept) (a : At) (q : Req) (off : Nat) : (s.admitted a q off).out = [] := by
  obtain ⟨i, l, e, x, h1, _⟩ := s.admitted_eq h a q off; rw [h1]; rfl

/-! The shapes. -/

theorem onIsland_on {a : At} {isl : Nat} {ok : Bool} {s : State} {f : State → State} (h : s.On a isl) (hok : ok = true) :
    onIsland a isl ok s f = .next (s.commit (f (s.begun a isl))) := by
  obtain ⟨_, hd, hr⟩ := h
  simp [onIsland, onUnit, hd, hok, State.runs_elapse, hr, State.begun]

theorem onWrite_admits {a : At} {q : Req} {off : Nat} {v : Word} {ok : Bool} {s : State} {f : State → State} {w : Around}
    (h : s.Admits a q off) (hok : ok = true) :
    onWrite a q off v ok s f w = .next (s.commit (f (s.admitted a q off))) := by
  obtain ⟨_, hr, hv⟩ := h
  simp only [onWrite, hok, if_true, hr, hv, State.admitted, Bool.false_eq_true, if_false]

end Sys2Proof.Machine
end

