-- ==== Sys2Proof/Laws/Dies.lean ====
section
/-! SUPPORT. Reads of a die's own state after it is changed. -/

namespace Sys2Proof.Machine

theorem State.die_modDie (s : State) (d : Nat) (f : Die → Die) (e : Nat) :
    (s.modDie d f).die e = if e = d then f (s.die d) else s.die e := by
  unfold State.die State.modDie
  exact Table.look_put _ _ _ _ _

/-- A die's own state is read from the table of dies alone. -/
theorem State.die_congr {s u : State} (h : u.dies = s.dies) (d : Nat) : u.die d = s.die d := by
  unfold State.die; rw [h]

theorem State.ply_congr {s u : State} (h : u.dies = s.dies) (d k : Nat) : u.ply? d k = s.ply? d k := by
  unfold State.ply?; rw [State.die_congr h]

theorem State.lane_congr {s u : State} (h : u.dies = s.dies) (d n : Nat) : u.lane d n = s.lane d n := by
  unfold State.lane; rw [State.die_congr h]

theorem State.plyLanes_congr {s u : State} (h : u.dies = s.dies) (d k : Nat) : u.plyLanes d k = s.plyLanes d k := by
  unfold State.plyLanes; rw [State.ply_congr h]

@[simp] theorem State.modPly_regs (s : State) (d k : Nat) (f : Ply → Ply) : (s.modPly d k f).regs = s.regs := by
  unfold State.modPly; split <;> rfl
@[simp] theorem State.modPly_regLog (s : State) (d k : Nat) (f : Ply → Ply) : (s.modPly d k f).regLog = s.regLog := by
  unfold State.modPly; split <;> rfl
@[simp] theorem State.modPly_reg (s : State) (d k : Nat) (f : Ply → Ply) (n : Nat) : (s.modPly d k f).reg n = s.reg n := by
  unfold State.modPly; split <;> rfl
@[simp] theorem State.modPly_cellLog (s : State) (d k : Nat) (f : Ply → Ply) : (s.modPly d k f).cellLog = s.cellLog := by
  unfold State.modPly; split <;> rfl
@[simp] theorem State.modPly_clock (s : State) (d k : Nat) (f : Ply → Ply) : (s.modPly d k f).clock = s.clock := by
  unfold State.modPly; split <;> rfl
@[simp] theorem State.modPly_evt (s : State) (d k : Nat) (f : Ply → Ply) : (s.modPly d k f).evt = s.evt := by
  unfold State.modPly; split <;> rfl
@[simp] theorem State.modPly_out (s : State) (d k : Nat) (f : Ply → Ply) : (s.modPly d k f).out = s.out := by
  unfold State.modPly; split <;> rfl
@[simp] theorem State.modPly_fresh (s : State) (d k : Nat) (f : Ply → Ply) : (s.modPly d k f).fresh = s.fresh := by
  unfold State.modPly; split <;> rfl

theorem State.ply_modPly (s : State) (d k : Nat) (f : Ply → Ply) (e j : Nat) :
    (s.modPly d k f).ply? e j = if e = d ∧ j = k then (s.ply? d k).map f else s.ply? e j := by
  unfold State.modPly
  split
  next p hp =>
    unfold State.ply? at *
    rw [State.die_modDie]
    by_cases h1 : e = d
    · subst h1
      simp only [if_true, Table.find_put, true_and]
      by_cases h2 : j = k
      · subst h2; simp [hp]
      · simp [h2]
    · simp [h1]
  next hp =>
    by_cases h1 : e = d ∧ j = k
    · obtain ⟨rfl, rfl⟩ := h1; simp [hp]
    · simp [h1]

theorem State.lane_modLane (s : State) (d n : Nat) (f : Lane → Lane) (e m : Nat) :
    (s.modLane d n f).lane e m = if e = d ∧ m = n then f (s.lane d n) else s.lane e m := by
  unfold State.lane State.modLane
  rw [State.die_modDie]
  by_cases h1 : e = d
  · subst h1; simp [Table.look_upd]
  · simp [h1]

/-- A state in which the liveness timer does not run: what a valid control block does to it (04 R112). -/
theorem State.heard_early {s : State} {a : At} {k : Nat} (h : s.plyState a.die k ≠ 6) :
    s.heard a k = s.modPly a.die k fun p => { p with liveAt := s.now } := by
  simp [State.heard, State.plyActive, h]

theorem State.plyNear_dies (s : State) (a : At) (k deadline : Nat) : (s.plyNear a k deadline).dies = s.dies := by
  unfold State.plyNear
  split <;> rfl

/-- A valid control block changes nothing of a ply but its liveness time. -/
theorem State.heard_ply {s : State} {a : At} {k : Nat} {p : Ply} (h : s.ply? a.die k = some p) :
    ∃ t, (s.heard a k).ply? a.die k = some { p with liveAt := t } := by
  unfold State.heard
  dsimp only
  split
  · exact ⟨p.liveAt, h⟩
  · have e : ∀ c : Bool, ∀ n, (if c = true then s.plyNear a k n else s).ply? a.die k = some p := by
      intro c n
      split
      · rw [State.ply_congr (State.plyNear_dies _ _ _ _), h]
      · exact h
    refine ⟨s.now, ?_⟩
    rw [State.ply_modPly, if_pos ⟨rfl, rfl⟩, e]
    rfl

/-- A control block that R96 lets through is taken, the ply having heard it. -/
theorem State.takeBlock_ok {s : State} {a : At} {k type : Nat} {b : List Byte} {ok : Bool} {p : Ply} (hp : s.ply? a.die k = some p)
    (h : (blockFit type b && ok && blockAllowed (s.plyState a.die k) type) = true) (f : State → Ply → State) :
    ∃ t, s.takeBlock a k type b ok f = f (s.heard a k) { p with liveAt := t } := by
  obtain ⟨t, ht⟩ := State.heard_ply hp
  exact ⟨t, by simp only [State.takeBlock, hp, h, ht, Bool.not_true, Bool.false_eq_true, if_false]⟩

/-! Folds that leave a reading alone. -/

theorem foldl_keeps {α β : Type} (g : State → β) (f : State → α → State) (l : List α) (s : State)
    (h : ∀ s, ∀ x ∈ l, g (f s x) = g s) : g (l.foldl f s) = g s := by
  induction l generalizing s with
  | nil => rfl
  | cons x l ih =>
    rw [List.foldl_cons, ih _ fun s y hy => h s y (List.mem_cons_of_mem _ hy)]
    exact h s x (by simp)

end Sys2Proof.Machine
end

