-- ==== Sys2Proof/WellFormed.lean ====
section
/-! DEFINITION. Well-formed commands: every index within the largest variant (00 Table 0.6), every value within its operand's range, and
a command register's write carries the bits of its own command. -/

namespace Sys2Proof

open Sys2Proof.Machine

/-- A die number that some variant has (00 R4). -/
def At.ok (a : At) : Bool := a.die < 8

/-- A requester of Table 19.4. -/
def reqOk : Req → Bool
  | .vf f => 1 ≤ f && f ≤ 248
  | _ => true

/-- A carrier of a management message (09 R271). -/
def viaOk : Via → Bool
  | .shoreline p side => p < 2 && side < 2
  | .strand idx => idx < 65536
  | .hop k => k < 8

/-- A command is well-formed. -/
def Instr.wf : Instr → Bool
  | .registerWrite a q addr _ _ _ _ _ => a.ok && reqOk q && addr < 2 ^ 27
  | .counterClear a q off v _ => a.ok && reqOk q && off < 2 ^ 24 && off % 4 == 0 && wordGet v 31 31 == 1
  | .w1cClear a q off _ _ => a.ok && reqOk q && off < 2 ^ 24 && off % 4 == 0
  | .loLatchRead a q off => a.ok && reqOk q && off < 2 ^ 24 && off % 4 == 0
  | .accessWaitTimeout a => a.ok
  | .fenceRead a q held => a.ok && reqOk q && held < 256
  | .spliceReplay a port => a.ok && port < 3
  | .spliceDown a port => a.ok && port < 3
  | .spliceUp a port => a.ok && port < 3
  | .clkOkAssert a isl => a.ok && isl < 44
  | .clkIslandFault a isl kind => a.ok && isl < 44 && kind < 3
  | .clkIslandRestored a isl => a.ok && isl < 44
  | .sknLoad a => a.ok && a.die == 0
  | .sknApply a q v => a.ok && reqOk q && wordGet v 2 0 == 1
  | .sknApplyStore a q v => a.ok && reqOk q && wordGet v 2 0 == 2
  | .sknCancel a q v => a.ok && reqOk q && wordGet v 2 0 == 3
  | .sknStore a q v => a.ok && reqOk q && wordGet v 2 0 == 4
  | .sknPatchChecked a _ _ => a.ok && a.die == 0
  | .storeChunkDone a _ => a.ok && a.die == 0
  | .nvmEraseAhead a => a.ok && a.die == 0
  | .outletRecordAccept a _ => a.ok
  | .outletModTimer a m => a.ok && m < 128
  | .outletDoorbell a q m _ => a.ok && reqOk q && m < 128
  | .outletResumed a m => a.ok && m < 128
  | .outletEnable a q m v => a.ok && reqOk q && m < 128 && wordGet v 31 31 == 1
  | .outletDisable a q m v => a.ok && reqOk q && m < 128 && wordGet v 31 31 == 0
  | .busMasterEnableSet a f => a.ok && f < 249
  | .msixVectorUnmask a f vec => a.ok && f < 249 && vec < 2048
  | .evtTest a q _ => a.ok && reqOk q
  | .plyDetectDone a k => a.ok && k < 8
  | .detectTimeout a k => a.ok && k < 8
  | .quietEnd a k => a.ok && k < 8
  | .trainTimeout a k => a.ok && k < 8
  | .lockTimeout a k => a.ok && k < 8
  | .alignTimeout a k => a.ok && k < 8
  | .exchangeTimeout a k => a.ok && k < 8
  | .liveness a k => a.ok && k < 8
  | .signalLost a k lane => a.ok && k < 8 && lane < 8
  | .rateFrameReceive a k lane _ _ => a.ok && k < 8 && lane < 8
  | .trainingFrameReceive a k lane _ _ _ _ _ _ => a.ok && k < 8 && lane < 8
  | .laneBlockLock a k lane => a.ok && k < 8 && lane < 8
  | .laneHuntFail a k lane _ => a.ok && k < 8 && lane < 8
  | .invalidHeaderBlock a k lane _ => a.ok && k < 8 && lane < 8
  | .fecCodewordDecode a k lane _ => a.ok && k < 8 && lane < 8
  | .fecWindowEnd a k lane _ => a.ok && k < 8 && lane < 8
  | .alignBlockReceive a k lane _ => a.ok && k < 8 && lane < 8
  | .alignLost a k => a.ok && k < 8
  | .exchBlockReceive a k _ => a.ok && k < 8
  | .plyDisable a q k _ => a.ok && reqOk q && k < 8
  | .plyEnable a q k _ => a.ok && reqOk q && k < 8
  | .plyRetrain a q k _ => a.ok && reqOk q && k < 8
  | .directionSleepEnter a k => a.ok && k < 8
  | .directionWake a k => a.ok && k < 8
  | .refreshBurst a k => a.ok && k < 8
  | .sleepBlockReceive a k _ => a.ok && k < 8
  | .wakeRunReceive a k _ => a.ok && k < 8
  | .plyWakeFail a k _ => a.ok && k < 8
  | .refreshTimeout a k => a.ok && k < 8
  | .moduleInserted a m _ _ _ _ _ => a.ok && m < 4
  | .moduleReady a m _ => a.ok && m < 4
  | .modulePoll a m _ _ _ => a.ok && m < 4
  | .moduleRemoved a m => a.ok && m < 4
  | .moduleReset a q m _ => a.ok && reqOk q && m < 4
  | .forceLowpwr a q m _ => a.ok && reqOk q && m < 4
  | .segmentReceive a k _ _ _ _ => a.ok && k < 8
  | .idleBlockReceive a k _ => a.ok && k < 8
  | .creditBlockReceive a k _ => a.ok && k < 8
  | .creditSend a k => a.ok && k < 8
  | .creditStall a k t => a.ok && k < 8 && t < 8
  | .lossyDrop a k t => a.ok && k < 8 && t < 8
  | .markBlockSend a idx => a.ok && idx < 65536
  | .markBlockReceive a k _ => a.ok && k < 8
  | .strMarkTimeout a k idx => a.ok && k < 8 && idx < 65536
  | .strCreate a q v => a.ok && reqOk q && wordGet v 31 28 == 1
  | .strActivate a q v => a.ok && reqOk q && wordGet v 31 28 == 2
  | .strModify a q v => a.ok && reqOk q && wordGet v 31 28 == 3
  | .strTeardown a q v => a.ok && reqOk q && wordGet v 31 28 == 4
  | .strRead a q v => a.ok && reqOk q && wordGet v 31 28 == 5
  | .strDrainDone a idx => a.ok && idx < 8192
  | .strDrainTimeout a idx => a.ok && idx < 8192
  | .snQuarantineEnd a _ _ _ => a.ok
  | .localSegmentIngress a idx _ _ _ => a.ok && idx < 8192
  | .spliceSegmentArrive a port => a.ok && port < 3
  | .switchingUnitComplete a idx => a.ok && idx < 65536
  | .mcastCopyResume a idx => a.ok && idx < 65536
  | .pondPageRefill a n => a.ok && n < 304
  | .chargeRelease a => a.ok
  | .queueAgeDrop a n => a.ok && n < 304
  | .auditSweep a => a.ok
  | .mcastBranchWrite a q g b _ => a.ok && reqOk q && g < 1024 && b < 16
  | .ctUnderrun a m => a.ok && m < 4
  | .schedDecision a o => a.ok && o < 19
  | .queueSample a => a.ok
  | .gateEntryChange a o => a.ok && o < 19
  | .histClear a q _ => a.ok && reqOk q
  | .histFreeze a q _ => a.ok && reqOk q
  | .policerRateWrite a q p _ _ => a.ok && reqOk q && p < 4096
  | .twistWindowClose a _ _ => a.ok
  | .twistBoundary a missed step _ => a.ok && missed < 256 && 1 ≤ step && step ≤ 5
  | .spdFreezeWrite a q _ => a.ok && reqOk q
  | .shlSideUp a port side => a.ok && port < 2 && side < 2
  | .shlSideDown a port side => a.ok && port < 2 && side < 2
  | .enumStart a port => a.ok && port < 2
  | .enumFrameReceive a port side _ => a.ok && port < 2 && side < 2
  | .enumReturnTimeout a port => a.ok && port < 2
  | .originTakeover a => a.ok
  | .spillwayOpen a kind port => a.ok && kind < 2 && port < 2
  | .spillForce a q _ => a.ok && reqOk q
  | .tickSend a k => a.ok && k < 8
  | .tickReceive a k _ => a.ok && k < 8
  | .timeFrameSend a port side => a.ok && port < 2 && side < 2
  | .timeFrameReceive a port side _ => a.ok && port < 2 && side < 2
  | .parentSilent a => a.ok
  | .holdoverExpire a => a.ok
  | .irigFrame a fmt _ _ _ _ => a.ok && fmt < 8
  | .irigLoss a => a.ok
  | .irigFormatHoldEnd a => a.ok
  | .ppsInEdge a => a.ok
  | .ppsOutPulse a _ => a.ok
  | .timSet a q _ => a.ok && reqOk q
  | .rippleReceive a port side _ => a.ok && port < 2 && side < 2
  | .shlBroadcast a q v => a.ok && reqOk q && wordGet v 31 28 == 1
  | .barrierOpen a q v => a.ok && reqOk q && wordGet v 31 28 == 2
  | .barrierArrive a q v => a.ok && reqOk q && wordGet v 31 28 == 3
  | .shlSnapshot a q v => a.ok && reqOk q && wordGet v 31 28 == 4
  | .shlReset a q v => a.ok && reqOk q && wordGet v 31 28 == 5
  | .scheduledOpFire a => a.ok
  | .barrierDeadline a => a.ok
  | .arriveHoldExpire a _ => a.ok
  | .snapAck a q _ => a.ok && reqOk q
  | .mgtRequestReceive a via msg _ => a.ok && viaOk via && msg.length ≤ 2048
  | .mgtResponseReceive a via msg => a.ok && viaOk via && msg.length ≤ 2048
  | .rraRead a q v => a.ok && reqOk q && wordGet v 31 28 == 1
  | .rraWrite a q v => a.ok && reqOk q && wordGet v 31 28 == 2
  | .remoteTimeout a => a.ok
  | .timMessageSend a idx => a.ok && idx < 8192
  | .timMessageReceive a idx _ => a.ok && idx < 8192
  | .ethFrameReceive a m _ _ _ => a.ok && m < 4
  | .ethLink a m _ _ _ => a.ok && m < 4
  | .lreEntryForget a _ => a.ok
  | .lreSupervisionSend a => a.ok
  | .ethSaInstall a q v => a.ok && reqOk q && wordGet v 31 30 == 1
  | .ethSaRetire a q v => a.ok && reqOk q && wordGet v 31 30 == 2
  | .msecTxAnSelect a q m _ => a.ok && reqOk q && m < 4
  | .ptpMessageReceive a m _ _ _ => a.ok && m < 4
  | .ptpIntervalTimer a m kind => a.ok && m < 4 && kind < 3
  | .ptpAnnounceTimeout a m => a.ok && m < 4
  | .ptpFollowupExpire a m _ => a.ok && m < 4
  | .dspHpdPlug a h _ _ _ => a.ok && h < 2
  | .dspHpdUnplug a h => a.ok && h < 2
  | .dspHpdIrq a h _ => a.ok && h < 2
  | .dspLinkTrained a h _ => a.ok && h < 2
  | .auxTransaction a q h _ => a.ok && reqOk q && h < 2
  | .auxReply a h kind bytes => a.ok && h < 2 && kind < 3 && bytes.length ≤ 16
  | .auxTimeout a h => a.ok && h < 2
  | .timingApply a q h _ => a.ok && reqOk q && h < 2
  | .darkChangeDone a h _ => a.ok && h < 2
  | .dspCommit a q h _ => a.ok && reqOk q && h < 2
  | .intakePoint a h => a.ok && h < 2
  | .prefetchPoint a h => a.ok && h < 2
  | .frameStart a h => a.ok && h < 2
  | .reservoirWatermark a h _ => a.ok && h < 2
  | .dspUnderrun a h => a.ok && h < 2
  | .sourceFrameSend a h => a.ok && h < 2
  | .dptTileReceive a h _ _ => a.ok && h < 2
  | .dptTokenReceive a h _ _ => a.ok && h < 2
  | .mirrorTokenComplete a h => a.ok && h < 2
  | .dspRefresh a q h _ => a.ok && reqOk q && h < 2
  | .prefetchLeadWrite a q h _ => a.ok && reqOk q && h < 2
  | .memSelfRefreshEnter a c => a.ok && c < 2
  | .memSelfRefreshExit a c => a.ok && c < 2
  | .brgPostedWrite a f _ _ _ => a.ok && (f < 249 || f == 255)
  | .brgReadRequest a f _ _ len _ _ _ => a.ok && (f < 249 || f == 255) && 0 < len && len ≤ 4096
  | .brgCompletionReceive a tag _ _ => a.ok && tag < 1024
  | .brgCplTimeout a tag => a.ok && tag < 1024
  | .failureNoticeReceive a f _ _ _ _ _ => a.ok && f < 249
  | .prefetchDiscard a buf => a.ok && buf < 16
  | .lockedRead a f _ _ len _ => a.ok && f < 249 && 0 < len && len ≤ 4096
  | .unlockMessage a => a.ok
  | .brgLockBroken a => a.ok
  | .semRead a q n => a.ok && reqOk q && n < 64
  | .semRelease a q n v => a.ok && reqOk q && n < 64 && wordGet v 0 0 == 1
  | .semForce a q n v => a.ok && reqOk q && n < 64 && wordGet v 1 1 == 1
  | .vdpConfigRequest a n _ _ _ _ _ => a.ok && n < 32
  | .vdpLink a n _ _ _ _ _ => a.ok && 0 < n && n < 32
  | .portPromote a q v => a.ok && reqOk q && wordGet v 31 31 == 1
  | .autoPromote a perst => a.ok && perst < 256
  | .dsPortLink a _ _ _ => a.ok
  | .dmaDoorbell a q c _ => a.ok && reqOk q && c < 64
  | .dmaEnable a q c v => a.ok && reqOk q && c < 64 && wordGet v 31 31 == 1
  | .dmaDisable a q c v => a.ok && reqOk q && c < 64 && wordGet v 31 31 == 0
  | .dmaTxDescriptor a c _ _ _ => a.ok && c < 64
  | .dmaRxFrame a c _ _ _ _ => a.ok && c < 64
  | .vfnCreate a q v => a.ok && reqOk q && wordGet v 31 28 == 1
  | .vfnQuiesce a q v => a.ok && reqOk q && wordGet v 31 28 == 2
  | .vfQuiesced a f => a.ok && 1 ≤ f && f < 249
  | .vfnRelease a q v => a.ok && reqOk q && wordGet v 31 28 == 3
  | .vfnDestroy a q v => a.ok && reqOk q && wordGet v 31 28 == 4
  | .vfnRead a q v => a.ok && reqOk q && wordGet v 31 28 == 5
  | .vfFunctionReset a f cause => a.ok && 1 ≤ f && f < 249 && 1 ≤ cause && cause ≤ 3
  | .logSwap a q n v => a.ok && reqOk q && n < 31 && wordGet v 30 30 == 1
  | .vfLogSwapped a f => a.ok && 1 ≤ f && f < 249
  | .usbConnect a q _ => a.ok && reqOk q
  | .usbAttach a q u v => a.ok && reqOk q && u < 4 && wordGet v 31 31 == 1
  | .usbDetach a q u v => a.ok && reqOk q && u < 4 && wordGet v 31 31 == 0
  | .usbEpHalt a q u e _ v => a.ok && reqOk q && u < 4 && e < 5 && wordGet v 28 28 == 1
  | .usbTransaction a u e kind _ _ => a.ok && u < 5 && e < 16 && kind < 4
  | .usbSetupRequest a u setup => a.ok && u < 5 && setup.length == 8
  | .usbStatusStageComplete a u => a.ok && u < 5
  | .usbBusReset a speed => a.ok && 1 ≤ speed && speed ≤ 3
  | .usbLpmToken a => a.ok
  | .usbSuspend a => a.ok
  | .usbU1Initiate a => a.ok
  | .usbWakeReason a u => a.ok && u < 5
  | .usbRemoteWake a u => a.ok && u < 5
  | .usbResumeRelease a => a.ok
  | .usbHostResume a => a.ok
  | .usbWakeTimeout a => a.ok
  | .usbLfpsTimeout a => a.ok
  | .usbOvercurrent a p => a.ok && p < 4
  | .usbStrandMessageReceive a u _ => a.ok && (u < 2 || (8 ≤ u && u < 12))
  | .relayDeviceAttach a p speed vid pid _ => a.ok && p < 4 && 1 ≤ speed && speed < 5 && vid < 65536 && pid < 65536
  | .relayDeviceDetach a p => a.ok && p < 4
  | .relayPoll a p report => a.ok && p < 4 && (report.map (·.length)).getD 0 ≤ 64
  | .relayTxnTimeout a p => a.ok && p < 4
  | .usbFuncReattach a u => a.ok && u < 4
  | .pwrCmdFlow a q v => a.ok && reqOk q && wordGet v 2 0 == 0
  | .pwrCmdEddy a q v => a.ok && reqOk q && wordGet v 2 0 == 1
  | .pwrCmdStill a q v _ => a.ok && reqOk q && wordGet v 2 0 == 2
  | .pwrCmdTarn a q v _ => a.ok && reqOk q && wordGet v 2 0 == 3
  | .pwrCmdBadTarget a q v => a.ok && reqOk q && decide (4 ≤ wordGet v 2 0)
  | .sleepEntryQuiesced a _ => a.ok && a.die == 0
  | .sleepEntryDrained a _ _ _ _ => a.ok && a.die == 0
  | .sleepEntryReversed a _ => a.ok && a.die == 0
  | .eddyActivity a kind => a.ok && a.die == 0 && decide (kind < 4)
  | .islandGate a isl => a.ok && isl < 44
  | .tarnMatch a byte => a.ok && a.die == 0 && decide (byte < 256)
  | .wakeAck a => a.ok && a.die == 0
  | .pwrWakeSlow a => a.ok && a.die == 0
  | .stillExitDone a _ => a.ok && a.die == 0
  | .trnAddrWrite a q _ => a.ok && reqOk q
  | .vtarnPowerOn a _ fused => a.ok && a.die == 0 && decide (fused < 128)
  | .powerOnReset a => a.ok
  | .rstNAssert a => a.ok
  | .perstNAssert a => a.ok
  | .pcieHotReset a => a.ok
  | .pf0Flr a => a.ok
  | .jtagReset a => a.ok
  | .rstReq a q _ => a.ok && reqOk q
  | .resetIdleTimeout a src items => a.ok && src < 16 && items.all fun p => decide (p.1 < 44)
  | .resetRelease a src => a.ok && src < 16
  | .rstForceRelease a q _ => a.ok && reqOk q
  | .bootClocksReady a boots clks => a.ok && boots.length == 8 && clks.length == 8
  | .optionBytesRead a => a.ok && a.die == 0
  | .rstFuseProg a q v _ => a.ok && reqOk q && wordGet v 0 0 == 1
  | .bootPush a q v => a.ok && reqOk q && wordGet v 31 31 == 0
  | .bootPushFetch a q v => a.ok && reqOk q && wordGet v 31 31 == 1
  | .bootFetchDone a _ _ => a.ok && a.die == 0
  | .pwrFail a cause _ => a.ok && a.die == 0 && (cause == 1 || cause == 2)
  | .hldFlush a q v _ => a.ok && reqOk q && wordGet v 0 0 == 1
  | .supplyFault a rail _ => a.ok && decide (rail < 7)
  | .keyLoad a q v => a.ok && reqOk q && wordGet v 31 28 == 1
  | .keyPin a q v => a.ok && reqOk q && wordGet v 31 28 == 2
  | .keyUnpin a q v => a.ok && reqOk q && wordGet v 31 28 == 3
  | .keyFlush a q v => a.ok && reqOk q && wordGet v 31 28 == 4
  | .keyAttest a q v _ => a.ok && reqOk q && wordGet v 31 28 == 5
  | .keyProvision a q v _ _ => a.ok && reqOk q && wordGet v 31 28 == 6
  | .keyDeploy a q v _ => a.ok && reqOk q && wordGet v 31 28 == 7
  | .keyReturn a q v _ => a.ok && reqOk q && wordGet v 31 28 == 8
  | .keyScrap a q v _ => a.ok && reqOk q && wordGet v 31 28 == 9
  | .lcChanged a _ _ => a.ok && a.die == 0
  | .keyLoadDone a _ _ _ => a.ok
  | .keyFailHoldoffEnd a _ => a.ok
  | .keyTamper a cause => a.ok && decide (1 ≤ cause) && decide (cause ≤ 4)
  | .tempReading a _ => a.ok
  | .refClkFault a cause => a.ok && (cause == 1 || cause == 2)
  | .refClkRestored a => a.ok
  | .smbBlockWrite a addr cmd data _ _ => a.ok && a.die == 0 && addr < 128 && cmd < 256 && data.length < 256
  | .smbBlockRead a addr cmd => a.ok && a.die == 0 && addr < 128 && cmd < 256
  | .resetIdleAck a src => a.ok && src < 16
  | .sknStoreChecked a _ _ _ => a.ok && a.die == 0
  | .pushImageLoaded a => a.ok && a.die == 0
  | .busMasterEnableClear a f => a.ok && f < 249
  | .vdpLinkControl a n kind => a.ok && 0 < n && n < 32 && kind < 4
  | .primaryLinkDlActive a _ _ _ => a.ok
  | .usbDfpConnect a p _ speed _ _ => a.ok && p < 4 && speed < 5
  | .usbVbusChange a _ => a.ok
  | .usbLinkStateRequest a st => a.ok && 1 ≤ st && st ≤ 3
  | .registerRead a q addr _ _ => a.ok && reqOk q && addr < 2 ^ 27

/-- When and where a command arrives. -/
def Instr.arrival : Instr → At
  | .registerWrite a _ _ _ _ _ _ _ => a
  | .counterClear a _ _ _ _ => a
  | .w1cClear a _ _ _ _ => a
  | .loLatchRead a _ _ => a
  | .accessWaitTimeout a => a
  | .fenceRead a _ _ => a
  | .spliceReplay a _ => a
  | .spliceDown a _ => a
  | .spliceUp a _ => a
  | .clkOkAssert a _ => a
  | .clkIslandFault a _ _ => a
  | .clkIslandRestored a _ => a
  | .sknLoad a => a
  | .sknApply a _ _ => a
  | .sknApplyStore a _ _ => a
  | .sknCancel a _ _ => a
  | .sknStore a _ _ => a
  | .sknPatchChecked a _ _ => a
  | .storeChunkDone a _ => a
  | .nvmEraseAhead a => a
  | .outletRecordAccept a _ => a
  | .outletModTimer a _ => a
  | .outletDoorbell a _ _ _ => a
  | .outletResumed a _ => a
  | .outletEnable a _ _ _ => a
  | .outletDisable a _ _ _ => a
  | .busMasterEnableSet a _ => a
  | .msixVectorUnmask a _ _ => a
  | .evtTest a _ _ => a
  | .plyDetectDone a _ => a
  | .detectTimeout a _ => a
  | .quietEnd a _ => a
  | .trainTimeout a _ => a
  | .lockTimeout a _ => a
  | .alignTimeout a _ => a
  | .exchangeTimeout a _ => a
  | .liveness a _ => a
  | .signalLost a _ _ => a
  | .rateFrameReceive a _ _ _ _ => a
  | .trainingFrameReceive a _ _ _ _ _ _ _ _ => a
  | .laneBlockLock a _ _ => a
  | .laneHuntFail a _ _ _ => a
  | .invalidHeaderBlock a _ _ _ => a
  | .fecCodewordDecode a _ _ _ => a
  | .fecWindowEnd a _ _ _ => a
  | .alignBlockReceive a _ _ _ => a
  | .alignLost a _ => a
  | .exchBlockReceive a _ _ => a
  | .plyDisable a _ _ _ => a
  | .plyEnable a _ _ _ => a
  | .plyRetrain a _ _ _ => a
  | .directionSleepEnter a _ => a
  | .directionWake a _ => a
  | .refreshBurst a _ => a
  | .sleepBlockReceive a _ _ => a
  | .wakeRunReceive a _ _ => a
  | .plyWakeFail a _ _ => a
  | .refreshTimeout a _ => a
  | .moduleInserted a _ _ _ _ _ _ => a
  | .moduleReady a _ _ => a
  | .modulePoll a _ _ _ _ => a
  | .moduleRemoved a _ => a
  | .moduleReset a _ _ _ => a
  | .forceLowpwr a _ _ _ => a
  | .segmentReceive a _ _ _ _ _ => a
  | .idleBlockReceive a _ _ => a
  | .creditBlockReceive a _ _ => a
  | .creditSend a _ => a
  | .creditStall a _ _ => a
  | .lossyDrop a _ _ => a
  | .markBlockSend a _ => a
  | .markBlockReceive a _ _ => a
  | .strMarkTimeout a _ _ => a
  | .strCreate a _ _ => a
  | .strActivate a _ _ => a
  | .strModify a _ _ => a
  | .strTeardown a _ _ => a
  | .strRead a _ _ => a
  | .strDrainDone a _ => a
  | .strDrainTimeout a _ => a
  | .snQuarantineEnd a _ _ _ => a
  | .localSegmentIngress a _ _ _ _ => a
  | .spliceSegmentArrive a _ => a
  | .switchingUnitComplete a _ => a
  | .mcastCopyResume a _ => a
  | .pondPageRefill a _ => a
  | .chargeRelease a => a
  | .queueAgeDrop a _ => a
  | .auditSweep a => a
  | .mcastBranchWrite a _ _ _ _ => a
  | .ctUnderrun a _ => a
  | .schedDecision a _ => a
  | .queueSample a => a
  | .gateEntryChange a _ => a
  | .histClear a _ _ => a
  | .histFreeze a _ _ => a
  | .policerRateWrite a _ _ _ _ => a
  | .twistWindowClose a _ _ => a
  | .twistBoundary a _ _ _ => a
  | .spdFreezeWrite a _ _ => a
  | .shlSideUp a _ _ => a
  | .shlSideDown a _ _ => a
  | .enumStart a _ => a
  | .enumFrameReceive a _ _ _ => a
  | .enumReturnTimeout a _ => a
  | .originTakeover a => a
  | .spillwayOpen a _ _ => a
  | .spillForce a _ _ => a
  | .tickSend a _ => a
  | .tickReceive a _ _ => a
  | .timeFrameSend a _ _ => a
  | .timeFrameReceive a _ _ _ => a
  | .parentSilent a => a
  | .holdoverExpire a => a
  | .irigFrame a _ _ _ _ _ => a
  | .irigLoss a => a
  | .irigFormatHoldEnd a => a
  | .ppsInEdge a => a
  | .ppsOutPulse a _ => a
  | .timSet a _ _ => a
  | .rippleReceive a _ _ _ => a
  | .shlBroadcast a _ _ => a
  | .barrierOpen a _ _ => a
  | .barrierArrive a _ _ => a
  | .shlSnapshot a _ _ => a
  | .shlReset a _ _ => a
  | .scheduledOpFire a => a
  | .barrierDeadline a => a
  | .arriveHoldExpire a _ => a
  | .snapAck a _ _ => a
  | .mgtRequestReceive a _ _ _ => a
  | .mgtResponseReceive a _ _ => a
  | .rraRead a _ _ => a
  | .rraWrite a _ _ => a
  | .remoteTimeout a => a
  | .timMessageSend a _ => a
  | .timMessageReceive a _ _ => a
  | .ethFrameReceive a _ _ _ _ => a
  | .ethLink a _ _ _ _ => a
  | .lreEntryForget a _ => a
  | .lreSupervisionSend a => a
  | .ethSaInstall a _ _ => a
  | .ethSaRetire a _ _ => a
  | .msecTxAnSelect a _ _ _ => a
  | .ptpMessageReceive a _ _ _ _ => a
  | .ptpIntervalTimer a _ _ => a
  | .ptpAnnounceTimeout a _ => a
  | .ptpFollowupExpire a _ _ => a
  | .dspHpdPlug a _ _ _ _ => a
  | .dspHpdUnplug a _ => a
  | .dspHpdIrq a _ _ => a
  | .dspLinkTrained a _ _ => a
  | .auxTransaction a _ _ _ => a
  | .auxReply a _ _ _ => a
  | .auxTimeout a _ => a
  | .timingApply a _ _ _ => a
  | .darkChangeDone a _ _ => a
  | .dspCommit a _ _ _ => a
  | .intakePoint a _ => a
  | .prefetchPoint a _ => a
  | .frameStart a _ => a
  | .reservoirWatermark a _ _ => a
  | .dspUnderrun a _ => a
  | .sourceFrameSend a _ => a
  | .dptTileReceive a _ _ _ => a
  | .dptTokenReceive a _ _ _ => a
  | .mirrorTokenComplete a _ => a
  | .dspRefresh a _ _ _ => a
  | .prefetchLeadWrite a _ _ _ => a
  | .memSelfRefreshEnter a _ => a
  | .memSelfRefreshExit a _ => a
  | .brgPostedWrite a _ _ _ _ => a
  | .brgReadRequest a _ _ _ _ _ _ _ => a
  | .brgCompletionReceive a _ _ _ => a
  | .brgCplTimeout a _ => a
  | .failureNoticeReceive a _ _ _ _ _ _ => a
  | .prefetchDiscard a _ => a
  | .lockedRead a _ _ _ _ _ => a
  | .unlockMessage a => a
  | .brgLockBroken a => a
  | .semRead a _ _ => a
  | .semRelease a _ _ _ => a
  | .semForce a _ _ _ => a
  | .vdpConfigRequest a _ _ _ _ _ _ => a
  | .vdpLink a _ _ _ _ _ _ => a
  | .portPromote a _ _ => a
  | .autoPromote a _ => a
  | .dsPortLink a _ _ _ => a
  | .dmaDoorbell a _ _ _ => a
  | .dmaEnable a _ _ _ => a
  | .dmaDisable a _ _ _ => a
  | .dmaTxDescriptor a _ _ _ _ => a
  | .dmaRxFrame a _ _ _ _ _ => a
  | .vfnCreate a _ _ => a
  | .vfnQuiesce a _ _ => a
  | .vfQuiesced a _ => a
  | .vfnRelease a _ _ => a
  | .vfnDestroy a _ _ => a
  | .vfnRead a _ _ => a
  | .vfFunctionReset a _ _ => a
  | .logSwap a _ _ _ => a
  | .vfLogSwapped a _ => a
  | .usbConnect a _ _ => a
  | .usbAttach a _ _ _ => a
  | .usbDetach a _ _ _ => a
  | .usbEpHalt a _ _ _ _ _ => a
  | .usbTransaction a _ _ _ _ _ => a
  | .usbSetupRequest a _ _ => a
  | .usbStatusStageComplete a _ => a
  | .usbBusReset a _ => a
  | .usbLpmToken a => a
  | .usbSuspend a => a
  | .usbU1Initiate a => a
  | .usbWakeReason a _ => a
  | .usbRemoteWake a _ => a
  | .usbResumeRelease a => a
  | .usbHostResume a => a
  | .usbWakeTimeout a => a
  | .usbLfpsTimeout a => a
  | .usbOvercurrent a _ => a
  | .usbStrandMessageReceive a _ _ => a
  | .relayDeviceAttach a _ _ _ _ _ => a
  | .relayDeviceDetach a _ => a
  | .relayPoll a _ _ => a
  | .relayTxnTimeout a _ => a
  | .usbFuncReattach a _ => a
  | .pwrCmdFlow a _ _ => a
  | .pwrCmdEddy a _ _ => a
  | .pwrCmdStill a _ _ _ => a
  | .pwrCmdTarn a _ _ _ => a
  | .pwrCmdBadTarget a _ _ => a
  | .sleepEntryQuiesced a _ => a
  | .sleepEntryDrained a _ _ _ _ => a
  | .sleepEntryReversed a _ => a
  | .eddyActivity a _ => a
  | .islandGate a _ => a
  | .tarnMatch a _ => a
  | .wakeAck a => a
  | .pwrWakeSlow a => a
  | .stillExitDone a _ => a
  | .trnAddrWrite a _ _ => a
  | .vtarnPowerOn a _ _ => a
  | .powerOnReset a => a
  | .rstNAssert a => a
  | .perstNAssert a => a
  | .pcieHotReset a => a
  | .pf0Flr a => a
  | .jtagReset a => a
  | .rstReq a _ _ => a
  | .resetIdleTimeout a _ _ => a
  | .resetRelease a _ => a
  | .rstForceRelease a _ _ => a
  | .bootClocksReady a _ _ => a
  | .optionBytesRead a => a
  | .rstFuseProg a _ _ _ => a
  | .bootPush a _ _ => a
  | .bootPushFetch a _ _ => a
  | .bootFetchDone a _ _ => a
  | .pwrFail a _ _ => a
  | .hldFlush a _ _ _ => a
  | .supplyFault a _ _ => a
  | .keyLoad a _ _ => a
  | .keyPin a _ _ => a
  | .keyUnpin a _ _ => a
  | .keyFlush a _ _ => a
  | .keyAttest a _ _ _ => a
  | .keyProvision a _ _ _ _ => a
  | .keyDeploy a _ _ _ => a
  | .keyReturn a _ _ _ => a
  | .keyScrap a _ _ _ => a
  | .lcChanged a _ _ => a
  | .keyLoadDone a _ _ _ => a
  | .keyFailHoldoffEnd a _ => a
  | .keyTamper a _ => a
  | .tempReading a _ => a
  | .refClkFault a _ => a
  | .refClkRestored a => a
  | .smbBlockWrite a _ _ _ _ _ => a
  | .smbBlockRead a _ _ => a
  | .resetIdleAck a _ => a
  | .sknStoreChecked a _ _ _ => a
  | .pushImageLoaded a => a
  | .busMasterEnableClear a _ => a
  | .vdpLinkControl a _ _ => a
  | .primaryLinkDlActive a _ _ _ => a
  | .usbDfpConnect a _ _ _ _ _ => a
  | .usbVbusChange a _ => a
  | .usbLinkStateRequest a _ => a
  | .registerRead a _ _ _ _ => a

end Sys2Proof
end

