-- ==== Sys2Proof/Tests/Slice0.lean ====
section
/-! SUPPORT. Smoke tests of well-formedness, small tests of single steps, and witnesses: for the hypotheses of the obligations, concrete
states and operands that meet them together. -/

namespace Sys2Proof.Tests

set_option maxRecDepth 100000

open Sys2Proof Sys2Proof.Machine

/-- A die whose islands all run. -/
def up : Islands := { ok := allIslands, held := 0 }

/-- A VX7-2 whose islands run and whose image is applied. -/
def live : State :=
  let s : State := { State.reset with isl := [(0, up), (1, up)] }
  s.commit (s.set 0 F.SKN_STATUS_STATE 2)

/-- That package after some changes. -/
def after (f : State → State) : State := live.commit (f live)

/-- A command of die 0 and of die 1, at once and in a cycle of 1 ns. -/
def at0 : At := ⟨0, 0, 1000⟩
def at1 : At := ⟨1, 0, 1000⟩

/-- A state at a given local time. -/
def clocked (t : Nat) (s : State) : State := { s with clock := { s.clock with ps := t } }

/-- A switching unit of an entry, nothing more. -/
def unit0 : SUnit := { idx := 0 }

theorem live_kept : live.Kept := by decide


/-! Well-formed commands: for every check, a command that differs from a well-formed one in what the check refuses. -/

theorem smoke_1 : ∀ i ∈ ([
    (.registerWrite at0 .pf0 0 0 true 0 0 {}, .registerWrite ⟨8, 0, 0⟩ .pf0 0 0 true 0 0 {}),
    (.registerWrite at0 .pf0 0 0 true 0 0 {}, .registerWrite at0 (.vf 249) 0 0 true 0 0 {}),
    (.registerWrite at0 .pf0 0 0 true 0 0 {}, .registerWrite at0 (.vf 0) 0 0 true 0 0 {}),
    (.registerWrite at0 .pf0 0 0 true 0 0 {}, .registerWrite at0 .pf0 134217728 0 true 0 0 {}),
    (.counterClear at0 .pf0 0 0x80000000 0, .counterClear at0 .pf0 16777216 0x80000000 0),
    (.counterClear at0 .pf0 0 0x80000000 0, .counterClear at0 .pf0 2 0x80000000 0),
    (.counterClear at0 .pf0 0 0x80000000 0, .counterClear at0 .pf0 0 0x0 0),
    (.fenceRead at0 .pf0 0, .fenceRead at0 .pf0 256),
    (.spliceReplay at0 0, .spliceReplay at0 3),
    (.clkOkAssert at0 0, .clkOkAssert at0 44),
    (.clkIslandFault at0 0 0, .clkIslandFault at0 0 3),
    (.sknLoad at0, .sknLoad at1),
    (.sknApply at0 .pf0 0x1, .sknApply at0 .pf0 0x0),
    (.sknApplyStore at0 .pf0 0x2, .sknApplyStore at0 .pf0 0x3),
    (.sknCancel at0 .pf0 0x3, .sknCancel at0 .pf0 0x2),
    (.sknStore at0 .pf0 0x4, .sknStore at0 .pf0 0x5),
    (.outletModTimer at0 0, .outletModTimer at0 128),
    (.outletDisable at0 .pf0 0 0x0, .outletDisable at0 .pf0 0 0x80000000),
    (.busMasterEnableSet at0 0, .busMasterEnableSet at0 249),
    (.msixVectorUnmask at0 0 0, .msixVectorUnmask at0 0 2048),
    (.plyDetectDone at0 0, .plyDetectDone at0 8),
    (.signalLost at0 0 0, .signalLost at0 0 8),
    (.moduleInserted at0 0 0 0 0 0 0, .moduleInserted at0 4 0 0 0 0 0),
    (.creditStall at0 0 0, .creditStall at0 0 8)] : List (Instr × Instr)), i.1.wf = true ∧ i.2.wf = false := by decide

theorem smoke_2 : ∀ i ∈ ([
    (.markBlockSend at0 0, .markBlockSend at0 65536),
    (.strCreate at0 .pf0 0x10000000, .strCreate at0 .pf0 0x0),
    (.strActivate at0 .pf0 0x20000000, .strActivate at0 .pf0 0x30000000),
    (.strModify at0 .pf0 0x30000000, .strModify at0 .pf0 0x20000000),
    (.strTeardown at0 .pf0 0x40000000, .strTeardown at0 .pf0 0x50000000),
    (.strRead at0 .pf0 0x50000000, .strRead at0 .pf0 0x40000000),
    (.strDrainDone at0 0, .strDrainDone at0 8192),
    (.pondPageRefill at0 0, .pondPageRefill at0 304),
    (.mcastBranchWrite at0 .pf0 0 0 0, .mcastBranchWrite at0 .pf0 1024 0 0),
    (.mcastBranchWrite at0 .pf0 0 0 0, .mcastBranchWrite at0 .pf0 0 16 0),
    (.schedDecision at0 0, .schedDecision at0 19),
    (.policerRateWrite at0 .pf0 0 true 0, .policerRateWrite at0 .pf0 4096 true 0),
    (.twistBoundary at0 0 1 [], .twistBoundary at0 256 1 []),
    (.twistBoundary at0 0 1 [], .twistBoundary at0 0 0 []),
    (.twistBoundary at0 0 1 [], .twistBoundary at0 0 6 []),
    (.shlSideUp at0 0 0, .shlSideUp at0 2 0),
    (.shlSideUp at0 0 0, .shlSideUp at0 0 2),
    (.spillwayOpen at0 0 0, .spillwayOpen at0 2 0),
    (.irigFrame at0 0 true [] [] 0, .irigFrame at0 8 true [] [] 0),
    (.mgtRequestReceive at0 (.hop 0) [] {}, .mgtRequestReceive at0 (.shoreline 2 0) [] {}),
    (.mgtRequestReceive at0 (.hop 0) [] {}, .mgtRequestReceive at0 (.shoreline 0 2) [] {}),
    (.mgtRequestReceive at0 (.hop 0) [] {}, .mgtRequestReceive at0 (.strand 65536) [] {}),
    (.mgtRequestReceive at0 (.hop 0) [] {}, .mgtRequestReceive at0 (.hop 8) [] {}),
    (.mgtRequestReceive at0 (.hop 0) [] {}, .mgtRequestReceive at0 (.hop 0) (List.replicate 2049 0) {})] : List (Instr × Instr)), i.1.wf = true ∧ i.2.wf = false := by decide

theorem smoke_3 : ∀ i ∈ ([
    (.ethSaInstall at0 .pf0 0x40000000, .ethSaInstall at0 .pf0 0x0),
    (.ethSaRetire at0 .pf0 0x80000000, .ethSaRetire at0 .pf0 0xc0000000),
    (.dspHpdPlug at0 0 true 0 0, .dspHpdPlug at0 2 true 0 0),
    (.auxReply at0 0 0 [], .auxReply at0 0 0 (List.replicate 17 0)),
    (.memSelfRefreshEnter at0 0, .memSelfRefreshEnter at0 2),
    (.brgPostedWrite at0 0 (.bar2 0) 0 [], .brgPostedWrite at0 250 (.bar2 0) 0 []),
    (.brgReadRequest at0 0 (.bar2 0) 0 1 0 0 none, .brgReadRequest at0 0 (.bar2 0) 0 0 0 0 none),
    (.brgReadRequest at0 0 (.bar2 0) 0 1 0 0 none, .brgReadRequest at0 0 (.bar2 0) 0 4097 0 0 none),
    (.brgCompletionReceive at0 0 0 [], .brgCompletionReceive at0 1024 0 []),
    (.prefetchDiscard at0 0, .prefetchDiscard at0 16),
    (.semRead at0 .pf0 0, .semRead at0 .pf0 64),
    (.semRelease at0 .pf0 0 0x1, .semRelease at0 .pf0 0 0x0),
    (.semForce at0 .pf0 0 0x2, .semForce at0 .pf0 0 0x0),
    (.vdpConfigRequest at0 0 true true 0 0 [], .vdpConfigRequest at0 32 true true 0 0 []),
    (.vdpLink at0 1 true true 0 0 0, .vdpLink at0 0 true true 0 0 0),
    (.autoPromote at0 0, .autoPromote at0 256),
    (.dmaDoorbell at0 .pf0 0 0, .dmaDoorbell at0 .pf0 64 0),
    (.vfQuiesced at0 1, .vfQuiesced at0 0),
    (.vfFunctionReset at0 1 1, .vfFunctionReset at0 1 0),
    (.vfFunctionReset at0 1 1, .vfFunctionReset at0 1 4),
    (.logSwap at0 .pf0 0 0x40000000, .logSwap at0 .pf0 31 0x40000000),
    (.logSwap at0 .pf0 0 0x40000000, .logSwap at0 .pf0 0 0x0),
    (.usbAttach at0 .pf0 0 0x80000000, .usbAttach at0 .pf0 4 0x80000000),
    (.usbEpHalt at0 .pf0 0 0 true 0x10000000, .usbEpHalt at0 .pf0 0 5 true 0x10000000)] : List (Instr × Instr)), i.1.wf = true ∧ i.2.wf = false := by decide

theorem smoke_4 : ∀ i ∈ ([
    (.usbEpHalt at0 .pf0 0 0 true 0x10000000, .usbEpHalt at0 .pf0 0 0 true 0x0),
    (.usbTransaction at0 0 0 0 [] {}, .usbTransaction at0 5 0 0 [] {}),
    (.usbTransaction at0 0 0 0 [] {}, .usbTransaction at0 0 16 0 [] {}),
    (.usbTransaction at0 0 0 0 [] {}, .usbTransaction at0 0 0 4 [] {}),
    (.usbSetupRequest at0 0 (List.replicate 8 0), .usbSetupRequest at0 0 []),
    (.usbBusReset at0 1, .usbBusReset at0 0),
    (.usbBusReset at0 1, .usbBusReset at0 4),
    (.usbOvercurrent at0 0, .usbOvercurrent at0 4),
    (.usbStrandMessageReceive at0 0 [], .usbStrandMessageReceive at0 2 []),
    (.usbStrandMessageReceive at0 0 [], .usbStrandMessageReceive at0 12 []),
    (.relayDeviceAttach at0 0 1 0 0 none, .relayDeviceAttach at0 0 5 0 0 none),
    (.relayDeviceAttach at0 0 1 0 0 none, .relayDeviceAttach at0 0 1 65536 0 none),
    (.relayDeviceAttach at0 0 1 0 0 none, .relayDeviceAttach at0 0 1 0 65536 none),
    (.relayPoll at0 0 none, .relayPoll at0 0 (some (List.replicate 65 0))),
    (.pwrCmdFlow at0 .pf0 0x0, .pwrCmdFlow at0 .pf0 0x1),
    (.pwrCmdBadTarget at0 .pf0 4, .pwrCmdBadTarget at0 .pf0 3),
    (.eddyActivity at0 0, .eddyActivity at0 4),
    (.tarnMatch at0 0, .tarnMatch at0 256),
    (.vtarnPowerOn at0 true 0, .vtarnPowerOn at0 true 128),
    (.resetIdleTimeout at0 0 [], .resetIdleTimeout at0 16 []),
    (.resetIdleTimeout at0 0 [], .resetIdleTimeout at0 0 [(44, 0)]),
    (.bootClocksReady at0 (List.replicate 8 0) (List.replicate 8 0), .bootClocksReady at0 [] (List.replicate 8 0)),
    (.bootClocksReady at0 (List.replicate 8 0) (List.replicate 8 0), .bootClocksReady at0 (List.replicate 8 0) []),
    (.pwrFail at0 1 [], .pwrFail at0 3 [])] : List (Instr × Instr)), i.1.wf = true ∧ i.2.wf = false := by decide

theorem smoke_5 : ∀ i ∈ ([
    (.supplyFault at0 0 [], .supplyFault at0 7 []),
    (.keyProvision at0 .pf0 0x60000000 [] [], .keyProvision at0 .pf0 0x70000000 [] []),
    (.keyDeploy at0 .pf0 0x70000000 [], .keyDeploy at0 .pf0 0x60000000 []),
    (.keyReturn at0 .pf0 0x80000000 [], .keyReturn at0 .pf0 0x90000000 []),
    (.keyScrap at0 .pf0 0x90000000 [], .keyScrap at0 .pf0 0x80000000 []),
    (.keyTamper at0 1, .keyTamper at0 0),
    (.keyTamper at0 1, .keyTamper at0 5),
    (.smbBlockWrite at0 0 0 [] true {}, .smbBlockWrite at0 128 0 [] true {}),
    (.smbBlockWrite at0 0 0 [] true {}, .smbBlockWrite at0 0 256 [] true {}),
    (.smbBlockWrite at0 0 0 [] true {}, .smbBlockWrite at0 0 0 (List.replicate 256 0) true {}),
    (.usbLinkStateRequest at0 1, .usbLinkStateRequest at0 0),
    (.usbLinkStateRequest at0 1, .usbLinkStateRequest at0 4)] : List (Instr × Instr)), i.1.wf = true ∧ i.2.wf = false := by decide


/-! Single steps, with the results that the manual's tables and rules give. -/

/-- What a command carried out leaves. -/
def leaves (i : Instr) (s : State) (p : State → Bool) : Bool :=
  match exec i s with
  | .next t => p t
  | _ => false

/-- The CRC-16 over "123456789" (04 R96), and the published CRC-32C over the same bytes (02 Table 2.2). -/
theorem test_crc16 : crc16 [0x31, 0x32, 0x33, 0x34, 0x35, 0x36, 0x37, 0x38, 0x39] = 0x29B1 := by decide
theorem test_crc32c : crc32c [0x31, 0x32, 0x33, 0x34, 0x35, 0x36, 0x37, 0x38, 0x39] = [0x83, 0x92, 0x06, 0xE3] := by decide

/-- A VX7-2 has no die 2 (00 Table 0.6). -/
theorem test_no_die : exec (.spliceReplay ⟨2, 0, 0⟩ 0) live = .refused .noSuchUnit := rfl

/-- GLB_SCRATCH keeps what is written (19 Table 19.6). -/
theorem test_scratch : leaves (.registerWrite at0 .pf0 0x000020 1 true 0xDEADBEEF 0 {}) live (fun t => t.reg 0x000020 == 0xDEADBEEF) = true := by
  decide

/-- PKG_IDENT of a VX7-2 stepping B1: family 7 (19 Table 19.5). -/
theorem test_ident : leaves (.registerRead at0 .pf0 0x3F0000 1 true) live (fun t => match t.out with
    | [.completion .pf0 (.data [w])] => wordGet w 31 24 == 7
    | _ => false) = true := by decide

/-- A misaligned read gets a Completer Abort and cause 1 (19 Table 19.2). -/
theorem test_misaligned : leaves (.registerRead at0 .pf0 0x000022 1 true) live (fun t =>
    t.out == [.completion .pf0 .abort] && t.get 0 F.PKG_BAD_ACCESS_LAST_CAUSE == 1 && t.get 0 F.PKG_BAD_ACCESS_COUNT == 1) = true := by
  decide

/-- A read of a free semaphore is granted (12 R344). -/
theorem test_semaphore : leaves (.semRead at0 .pf0 16) live (fun t => t.semHolder 16 == 0) = true := by decide

/-- A consumer beyond the producer sets BAD_DOORBELL (03 R74). -/
theorem test_doorbell : leaves (.outletDoorbell at0 .pf0 0 9) live (fun t => t.flag 0 F.EVT_OUT_STATUS_BAD_DOORBELL 0) = true := by decide

/-- KEY_CMD PIN of a handle that no slot holds ends with result 3 (17 Table 17.6). -/
theorem test_pin : leaves (.keyPin at0 .pf0 0x20000005) live (fun t => t.get 0 F.KEY_CMD_STATUS_RESULT == 3) = true := by decide

/-- DESTROY of an EMPTY slot ends with BAD_STATE (13 R353). -/
theorem test_destroy : leaves (.vfnDestroy at0 .pf0 0x40000001) (after fun s => (s.set 0 F.VFN_PF_SRIOV_VF_FIRST 1 0).set 0 F.VFN_PF_SRIOV_TOTAL_VFS 62 0) (fun t => t.get 0 F.VFN_CMD_STATUS_RESULT == 2) = true := by decide

/-- An increment in the cycle of a clear comes after it (19 R488). -/
theorem test_clear : leaves (.counterClear at0 .pf0 0x200104 0x80000000 1) live (fun t => t.reg 0x200104 == 1) = true := by decide

/-- An empty queue idles (log entry 2). -/
theorem test_idle : step State.reset = .next State.reset := rfl

/-- Words of the table give no bits, so none spells a command. -/
theorem test_no_word : decodeTableWord 32 0 = none ∧ live.withFetchWord 32 0 = live := ⟨rfl, rfl⟩


/-! Lanes (chapter 4). -/

/-- A ply of slot 7 on lane 7. -/
def ply7 : Ply := { cfg := ⟨5, 0x80, 0, 7, 0, 3, 0, 9, 9⟩ }

/-- Die 1 with a ply in slot 7, its link state and rate. -/
def link (st rate : Nat) (p : Ply) (f : State → State := id) : State := after fun s =>
  f (((s.modDie 1 fun x => { x with plies := [(7, p)] }).set 1 F.PLY_LINK_STATE_STATE st 7).set 1 F.PLY_LINK_STATE_RATE rate 7)

/-- The hypotheses that the lane and ply statements share. -/
abbrev PlyUp (s : State) (p : Ply) : Prop := s.On at1 8 ∧ 7 < 8 ∧ (s.begun at1 8).ply? 1 7 = some p ∧ bit p.cfg.mask 7 = true

theorem witness_BringUpTimers_detect :
    let s := link 0 3 ply7
    let b := s.begun at1 8
    PlyUp s ply7 ∧ b.plyState 1 7 = 0 ∧ b.now < ply7.deadline + at1.cyc ∧ ply7.deadline ≤ b.now ∧ b.heldLow 1 7 = false ∧
      (∀ m ∈ b.plyCages 1 7, (b.cage 1 m).dataPath = true ∧ b.get 1 F.MOD_CAGE_FLAGS_RX_LOS m = 0) := by decide

theorem witness_BringUpTimers_others : ∀ st ∈ [1, 2, 3, 4, 5],
    let s := link st 3 ply7
    let b := s.begun at1 8
    PlyUp s ply7 ∧ b.plyState 1 7 = st ∧ ply7.deadline ≤ b.now := by decide

theorem witness_TrainingAndExchange_rate :
    let s := link 2 3 ply7
    let b := s.begun at1 8
    let w := 0xE41D00000000 * 65536 + crc16Bits (bitsDown 0xE41D00000000 48)
    PlyUp s ply7 ∧ b.plyState 1 7 = 2 ∧ b.plyRate 1 7 = 3 ∧ b.now < ply7.deadline + at1.cyc ∧ rateFrameOk w = true := by decide

theorem witness_TrainingAndExchange_taps :
    let s := link 2 0 ply7
    let b := s.begun at1 8
    PlyUp s ply7 ∧ b.plyState 1 7 = 2 ∧ b.plyRate 1 7 ≠ 3 ∧ b.now < ply7.deadline + at1.cyc ∧
      crc16Bits (bitsDown (0x100 % 2 ^ 16) 16 ++ bitsDown (0x8000 % 2 ^ 16) 16) =
        crc16Bits (bitsDown (0x100 % 2 ^ 16) 16 ++ bitsDown (0x8000 % 2 ^ 16) 16) := by decide

theorem witness_TrainingAndExchange_lock : ∀ st ∈ [3, 5],
    let s := link st 0 ply7
    let b := s.begun at1 8
    PlyUp s ply7 ∧ 3 ≤ b.plyState 1 7 ∧ b.plyState 1 7 ≤ 5 ∧ b.now < ply7.deadline + at1.cyc ∧
      b.flag 1 F.LN_STATUS_BLOCK_LOCK 7 = false := by decide

theorem witness_TrainingAndExchange_align :
    let s := link 4 0 ply7 fun s => s.set 1 F.LN_STATUS_BLOCK_LOCK 1 7
    let b := s.begun at1 8
    let blk := sealBlock [5, 0, 8]
    PlyUp s ply7 ∧ b.flag 1 F.LN_STATUS_BLOCK_LOCK 7 = true ∧ b.plyState 1 7 = 4 ∧ blockFit 5 blk = true ∧
      [1, 2, 4, 8].contains (byteAt blk 2) = true := by decide

theorem witness_TrainingAndExchange_exchange :
    let s := link 5 2 ply7
    let b := s.begun at1 8
    let blk := sealBlock [7, 1, 0, 0, 0, 2, 0, 0, 0, 1]
    PlyUp s ply7 ∧ b.plyState 1 7 = 5 ∧ blockFit 7 blk = true ∧ byteAt blk 1 ≠ 0 ∧
      [1, 2, 4, 8].contains (byteAt blk 9) = true ∧ byteAt blk 5 = b.plyRate 1 7 := by decide

/-- Invalid headers of a locked lane: the first, the sixteenth in ACTIVE and the sixteenth before it. -/
theorem witness_LaneErrors_headers : ∀ c ∈ [(6, 0), (6, 15), (5, 15)],
    let s := link c.1 0 ply7 fun s => ((s.set 1 F.LN_STATUS_BLOCK_LOCK 1 7).set 1 F.PLY_LINK_SLEEP_RX_STATE 0 7).modLane 1 7 fun x =>
      { x with invalid := List.replicate c.2 0 }
    let b := s.begun at1 8
    let u := b.bump 1 F.LN_HDR_ERR_COUNT 1 7
    let ages := 0 :: (((u.lane 1 7).invalid.map (· + 0 + 1)).filter (· < 64))
    let u := u.modLane 1 7 fun x => { x with invalid := ages }
    PlyUp s ply7 ∧ b.flag 1 F.LN_STATUS_BLOCK_LOCK 7 = true ∧ (16 ≤ ages.length ↔ c.2 = 15) ∧ u.plyState 1 7 = c.1 ∧
      u.rxState 1 7 = 0 := by decide

theorem witness_LaneErrors_codewords :
    let s := link 6 0 ply7 fun s => s.set 1 F.LN_STATUS_FEC_FRAMED 1 7
    let b := s.begun at1 8
    PlyUp s ply7 ∧ b.flag 1 F.LN_STATUS_FEC_FRAMED 7 = true ∧ 15 ≤ 15 := by decide

theorem witness_LaneErrors_windows : ∀ c ∈ [(0, 0), (1, 2)],
    let s := link 6 0 ply7 fun s => (s.set 1 F.LN_DEGRADE_DEGRADE_THRESH c.1 7).modLane 1 7 fun x => { x with corrWindow := c.2 }
    let b := s.begun at1 8
    let u := b.set 1 F.LN_STATUS_SNR (min 300 255) 7
    PlyUp s ply7 ∧ u.get 1 F.LN_DEGRADE_DEGRADE_THRESH 7 = c.1 ∧ (u.lane 1 7).degraded = false ∧ (u.lane 1 7).corrWindow = c.2 := by decide

theorem witness_LaneErrors_active : ∀ rx ∈ [0, 1, 2],
    let s := link 6 0 ply7 fun s => clocked (us 100) (s.set 1 F.PLY_LINK_SLEEP_RX_STATE rx 7)
    let b := s.begun at1 8
    PlyUp s ply7 ∧ b.plyState 1 7 = 6 ∧ b.rxState 1 7 = rx ∧ ply7.liveAt + us 100 ≤ b.now ∧ ply7.rxRefreshBy ≤ b.now := by decide

theorem witness_LaneErrors_signal : ∀ st ∈ [2, 5],
    let b := (link st 0 ply7).begun at1 8
    PlyUp (link st 0 ply7) ply7 ∧ 2 ≤ b.plyState 1 7 ∧ b.plyState 1 7 ≤ 5 := by decide

theorem witness_PlyControl_writes : ∀ c ∈ [(6, 0x80000000), (7, 0), (0, 0x40000000)],
    let s := link c.1 0 ply7
    let b := s.admitted at1 .pf0 (0x0A0004 + 0x100 * 7)
    let v : Word := BitVec.ofNat 32 c.2
    s.Admits at1 .pf0 (0x0A0004 + 0x100 * 7) ∧ b.ply? 1 7 = some ply7 ∧ b.plyState 1 7 = c.1 ∧
      (wordGet v 31 31 = 1 ∨ wordGet v 31 31 = 0 ∧ b.plyState 1 7 = 7 ∨
        wordGet v 31 31 = 0 ∧ wordGet v 30 30 = 1 ∧ b.plyState 1 7 ≠ 7) := by decide

theorem witness_PlyControl_cage :
    let b := live.admitted at1 .pf0 (0x0A0804 + 0x40 * 3)
    live.Admits at1 .pf0 (0x0A0804 + 0x40 * 3) ∧ 3 < 4 ∧ b.get 1 F.MOD_CAGE_CTL_FORCE_LOWPWR 3 = 0 ∧
      wordGet 0x40000000#32 30 30 = 1 ∧ wordGet 0x40000000#32 31 31 = 0 ∧
      wordGet 0x80000000#32 30 30 = 0 ∧ wordGet 0x80000000#32 31 31 = 1 := by decide

theorem witness_PlyControl_module :
    let s := after fun s => s.set 1 F.MOD_CAGE_STATUS_PRESENT 1 3
    let b := s.begun at1 41
    s.On at1 41 ∧ b.get 1 F.MOD_CAGE_STATUS_PRESENT 3 = 1 ∧ b.get 1 F.MOD_CAGE_CTL_FORCE_LOWPWR 3 ≠ 1 ∧
      (b.cage 1 3).readyBy ≤ b.now ∧ bit 0x2F 7 = false ∧ bit 0x2F 6 = false ∧ bit 0x2F 4 = false := by decide

/-- That ply once its CREDITs say all there is. -/
def told7 : Ply := { ply7 with credit := { told := List.replicate 8 0 } }

/-- An idle direction in mode DOZE or NAP, with nothing queued and with a unit queued. -/
theorem witness_Directions_sleep : ∀ m ∈ [1, 2], ∀ w ∈ [false, true],
    let s := link 6 0 told7 fun s =>
      let s := ((s.set 1 F.PLY_LINK_SLEEP_TX_STATE 0 7).set 1 F.SPD_DIR_MODE_MODE m 7).set 1 F.PLY_LINK_PEER_CAP_DOZE 1 7
      let s := clocked (ms 1000) (s.set 1 F.PLY_LINK_PEER_CAP_NAP 1 7)
      if w then s.modQueue (512 + 16 * 7 + 15) fun x => { x with units := [unit0] } else s
    let b := s.begun at1 9
    s.On at1 9 ∧ b.ply? 1 7 = some told7 ∧ b.plyState 1 7 = 6 ∧ b.txState 1 7 = 0 ∧ b.dirMode 1 7 = m ∧
      b.sleepAllowed 1 7 m = true ∧ told7.sentAt + b.idleTime 1 m ≤ b.now ∧ b.owesWork 1 7 = w := by decide

theorem witness_Directions_wake : ∀ st ∈ [1, 2],
    let s := link 6 0 ply7 fun s => (s.set 1 F.PLY_LINK_SLEEP_TX_STATE st 7).set 1 F.SPD_DIR_MODE_MODE 0 7
    let b := s.begun at1 9
    s.On at1 9 ∧ b.ply? 1 7 = some ply7 ∧ b.plyState 1 7 = 6 ∧ b.txState 1 7 = st ∧ b.dirMode 1 7 = 0 ∧ ply7.refreshAt ≤ b.now := by decide

theorem witness_Directions_receive : ∀ st ∈ [1, 2],
    let s := link 6 0 ply7 fun s => s.set 1 F.PLY_LINK_SLEEP_RX_STATE st 7
    let b := s.begun at1 8
    PlyUp s ply7 ∧ b.plyState 1 7 = 6 ∧ b.rxState 1 7 = st ∧ wakeLimit (b.rxState 1 7) (b.plyRate 1 7) - 1 < wakeLimit st (b.plyRate 1 7) ∧
      blockFit 6 (sealBlock [6, BitVec.ofNat 8 st]) = true ∧ byteAt (sealBlock [6, BitVec.ofNat 8 st]) 1 = st := by decide

/-- The bits 0, 0, 1, 1, 0, 1, 1, 0 as levels (04 Table 4.2): −3, +1, −1, +3. -/
theorem test_levels : levels 0 [false, false, true, true, false, true, true, false] = [-3, 1, -1, 3] := by decide

/-- The NRZ bits 0, 1. -/
theorem test_levels_nrz : levels 2 [false, true] = [-1, 1] := by decide

/-- The rates of Table 4.1, rounded to 0.1 Gb/s. -/
theorem test_payload_rates : [0, 1, 2].map (fun c => ((rateRow c).map fun r => (r.payload + 50000) / 100000)) = [some 996, some 498, some 242] := by
  decide

/-- The wake runs of 04 R114 in ns: 614.4 at code 0, 928.9 at code 1, 1,593.4 at code 2; 4.29 µs from NAP at code 2, less the relock. -/
theorem test_wake_runs : [0, 1, 2].map (fun c => ((rateRow c).map fun r => (wakeRunPs r false + 50) / 100)) = [some 6144, some 9289, some 15934] ∧
    (rateRow 2).map (fun r => (wakeRunPs r true + 5000) / 10000) = some 429 := by decide

/-- A data block of bytes 0x01, 0x80: header 01, then bit 0 of each byte first (04 R95). -/
theorem test_block_bits : blockBits false [0x01, 0x80] =
    [false, true, true, false, false, false, false, false, false, false, false, false, false, false, false, false, false, true] := by decide

/-- A codeword pair's symbols: A0, B0, A1, B1 (04 R97). -/
theorem test_interleave : interleave [1, 2] [3, 4] = [1, 3, 2, 4] := by decide

/-- A rate frame that a lane sends passes the receiver's check (04 Table 4.7); ACK is bit 41. -/
theorem test_rate_frame : rateFrameOk (rateFrame 7 1 true) = true ∧ bit (rateFrame 7 1 true) 41 = true ∧ bits (rateFrame 7 1 true) 47 45 = 7 := by
  decide

/-- The EXCH block of ply 5 passes the receiver's check, and shows the ply in byte 14 (04 Table 4.9). -/
theorem test_exch_block : blockFit 7 (live.exchSent 1 7 ply7) = true ∧ byteAt (live.exchSent 1 7 ply7) 14 = 5 := by decide

/-- An ALIGN block passes the receiver's check (04 Table 4.5). -/
theorem test_align_block : blockFit 5 (alignBlock 1 2 3 4 0x123 5) = true ∧ numAt (alignBlock 1 2 3 4 0x123 5) 8 2 = 0x123 := by decide

/-- What meets the hypotheses of PrecodingIsUndone. -/
theorem witness_Precoding : (0 : Nat) < 4 ∧ ∀ g ∈ [3, 1, 2], g < 4 := by decide


/-! Strands (chapter 5). -/

/-- An entry with the fields listed, each by its high bit, low bit and value. -/
def entryOf (l : List (Nat × Nat × Nat)) : Entry := l.foldl (fun e x => e.setF x.1 x.2.1 x.2.2) { raw := 0 }

/-- An entry of kind 7 from DMA input 0 to DMA output 0, in a state. -/
def dmaStrand (st : Nat) : Entry :=
  entryOf [(255, 224, 77), (223, 220, 7), (219, 217, 4), (64, 62, 3), (61, 56, 1), (43, 41, 3), (40, 35, 1), (14, 12, st)]

/-- An entry in the Strand Ledger of die 1, at a local index. -/
def ledger (i : Nat) (e : Entry) (s : State) : State := s.modDie 1 fun x => { x with ledger := [(i, e)] }

/-- An entry in the staging words of die 1. -/
def stage (e : Entry) (s : State) : State :=
  (List.range 8).foldl (fun s k => s.setWord 1 Reg.STR_CMD_ENTRY (BitVec.ofNat 32 (e.raw.toNat / 2 ^ (32 * k))) k) s

theorem witness_SegmentsAndCredit_receive :
    let s := link 6 0 ply7
    let b := s.begun at1 8
    PlyUp s ply7 ∧ b.plyState 1 7 = 6 ∧ ply7.resync = false ∧ blockFit 1 (sealBlock [1]) = true ∧ blockFit 4 (sealBlock [4, 15]) = true := by
  decide

theorem witness_SegmentsAndCredit_send :
    let p : Ply := { ply7 with credit := { emptyAt := List.replicate 8 (some 0) } }
    let s := link 6 0 p fun s => clocked (ms 1000) (s.set 1 F.PLY_LINK_SLEEP_TX_STATE 0 7)
    let b := s.begun at1 9
    s.On at1 9 ∧ b.plyActive 1 7 = true ∧ b.txState 1 7 = 0 ∧ (b.credit 1 7).due ≤ b.now ∧
      (b.credit 1 7).emptyAt.getD 7 none = some 0 ∧ b.lossless 1 7 7 = true ∧ bit (b.credit 1 7).stalled 7 = false ∧
      b.get 1 F.PLY_LINK_CREDIT_CFG_CREDIT_STALL_US 7 ≠ 0 ∧ 0 + us (b.get 1 F.PLY_LINK_CREDIT_CFG_CREDIT_STALL_US 7) ≤ b.now := by decide

/-- A segment of no bytes, charged to no account. -/
def seg0 : Seg := { hdr := 0, payload := [], chargeDie := 1, acct := 1023, at_ := 1 }

theorem witness_SegmentsAndCredit_lossy :
    let s := link 6 0 ply7 fun s =>
      let s := clocked (ms 1000) ((s.set 1 F.PLY_LINK_CREDIT_CFG_LOSSY_TC1 1 7).set 1 F.PLY_LINK_CREDIT_CFG_LOSSY_WAIT_US 1000 7)
      let s := ledger 0 (entryOf [(216, 214, 1)]) s
      s.modQueue (512 * 1 + 16 * 7) fun x => { x with units := [{ idx := 8192, segs := [seg0] }], lack := some 0 }
    let b := s.begun at1 9
    s.On at1 9 ∧ 7 < 8 ∧ 1 < 8 ∧ b.headClass (512 * 1 + 16 * 7) = some (1, seg0) ∧ (b.queue (512 * 1 + 16 * 7)).lack = some 0 ∧
      b.lossless 1 7 1 = false ∧ 0 + us (b.get 1 F.PLY_LINK_CREDIT_CFG_LOSSY_WAIT_US 7) ≤ b.now := by decide

theorem witness_SegmentsAndCredit_offer : ∀ st ∈ [2, 3],
    let s := after (ledger 8191 (dmaStrand st))
    let b := s.begun at1 10
    s.On at1 10 ∧ 8191 < 8192 ∧ b.entry? (8192 * 1 + 8191) = some (dmaStrand st) ∧ (dmaStrand st).st = st ∧ (dmaStrand st).inType = 3 := by
  decide

theorem witness_Moves_mark :
    let e : Entry := { dmaStrand 3 with oldPath := some (1 * 8 + 7) }
    let s := link 6 0 ply7 (ledger 8191 e)
    let b := s.begun at1 9
    s.On at1 9 ∧ 16383 < 65536 ∧ b.entry? 16383 = some e ∧ e.oldPath = some (1 * 8 + 7) ∧ e.st = 3 ∧ b.queuedFor 1 7 16383 = false ∧
      b.plyActive 1 7 = true := by decide

/-- A strand that comes in on the ply of slot 7 with SN 5, holding nothing or a segment that came on slot 6. -/
def inbound (holds : Bool) : Entry :=
  { entryOf [(255, 224, 77), (64, 62, 1), (61, 56, 5), (55, 44, 5), (14, 12, 2)] with
    held := if holds then [⟨6, 0, [], none, 1023, 0⟩] else [], heldOn := 14 }

theorem witness_Moves_taken : ∀ h ∈ [false, true],
    let s := link 6 0 ply7 fun s => ledger 8191 (inbound h) (s.set 1 F.PLY_LINK_PEER_CAP_FAR_PLY 9 6)
    let b := s.begun at1 8
    let u := (b.heard at1 7).boundary 1 7
    let blk := markBlock true 5 0 9 1 77
    PlyUp s ply7 ∧ b.plyState 1 7 = 6 ∧ blockFit 2 blk = true ∧ u.findIn 1 7 (numAt blk 2 2 % 4096) = some 16383 ∧
      u.entry? 16383 = some (inbound h) ∧ (inbound h).strandId = numAt blk 8 4 ∧ ((inbound h).held ≠ [] ↔ h = true) ∧
      u.get 1 F.PLY_LINK_PEER_CAP_FAR_PLY 6 = byteAt blk 6 ∧ u.now < (inbound h).heldAt + us 50 ∧ (inbound h).expired = none := by decide

theorem witness_Moves_timeout :
    let s := link 6 0 ply7 fun s => ledger 8191 (inbound true) (clocked (us 50) s)
    let b := s.begun at1 8
    s.On at1 8 ∧ b.entry? 16383 = some (inbound true) ∧ (inbound true).held ≠ [] ∧ (inbound true).heldOn = 8 * 1 + 6 ∧
      (inbound true).heldAt + us 50 ≤ b.now := by decide

theorem witness_Moves_drains :
    let s := after (ledger 8191 (dmaStrand 5))
    let b := s.begun at1 10
    s.On at1 10 ∧ b.entry? (8192 * 1 + 8191) = some (dmaStrand 5) ∧ (dmaStrand 5).st = 5 ∧ (dmaStrand 5).mirrorOf = none ∧
      b.strandBusy (8192 * 1 + 8191) = false ∧ (dmaStrand 5).drainBy ≤ b.now := by decide

/-- A write of STR_CMD on die 1 for the last index of die 1, PF0's, with OP `op`. -/
def strOp (op : Nat) : Word := BitVec.ofNat 32 (op * 2 ^ 28 + 16383)

theorem witness_StrandCommands_create :
    let s := after (stage (dmaStrand 0))
    let b := s.admitted at1 .pf0 0x0C0000
    let e := (({ raw := b.staged256 1 } : Entry).setF 14 12 1).setF 11 0 0
    s.Admits at1 .pf0 0x0C0000 ∧ b.get 1 F.STR_CMD_STATUS_BUSY = 0 ∧ cmdDie 0 (strOp 1) < b.part.dies ∧
      b.runs (cmdDie 0 (strOp 1)) 10 = true ∧ wordGet (strOp 1) 31 28 = 1 ∧ wordGet (strOp 1) 27 27 = 0 ∧ b.entryOk 0 e = true ∧
      b.entry? (wordGet (strOp 1) 15 0) = none ∧ b.duplicates 1 e = false ∧ e.inType = 3 ∧ b.overcommits 0 65536 e 0 = false ∧
      (∀ m ∈ b.mirrorDies 1 e, (b.freeIndex m).isSome = true) := by decide

theorem witness_StrandCommands_others : ∀ st ∈ [1, 2],
    let s := after fun s => stage (dmaStrand 0) (ledger 8191 (dmaStrand st) s)
    let b := s.admitted at1 .pf0 0x0C0000
    let e := dmaStrand st
    let n : Entry := { raw := b.staged256 1 }
    s.Admits at1 .pf0 0x0C0000 ∧ b.get 1 F.STR_CMD_STATUS_BUSY = 0 ∧ cmdDie 0 (strOp 2) < b.part.dies ∧
      b.runs (cmdDie 0 (strOp 2)) 10 = true ∧ b.entry? 16383 = some e ∧ e.mirrorOf = none ∧ wordGet (strOp 2) 15 0 = 16383 ∧ e.st = st ∧
      e.enc = false ∧ (e.withContract n).ratesOk = true ∧ e.isStatic = false ∧
      b.overcommits 0 16383 (e.withContract n) e.guaranteed = false ∧
      (∀ op ∈ [2, 3, 4, 5], wordGet (strOp op) 31 28 = op ∧ wordGet (strOp op) 15 0 = 16383) := by decide


/-! The switch core, the scheduler and the Spindle (chapters 6 to 8). -/

/-- A unit crossing port 2 towards a die. -/
def crossing (dest : Nat) : Crossing := ⟨2, unit0, seg0, true, true, dest⟩

theorem witness_SwitchCore_crossing : ∀ dest ∈ [0, 1],
    let s := after fun s => (s.modDie 1 fun x => { x with inbound := [crossing dest] }).set 1 F.GLB_SPLICE_STATUS_UP 1 2
    let b := s.begun at1 16
    2 < 3 ∧ s.On at1 (14 + 2) ∧ (b.die 1).inbound.zipIdx.find? (fun p => p.1.port == 2) = some (crossing dest, 0) ∧
      b.charged 1 (acctTransit 2) + (crossing dest).seg.units ≤ 2048 ∧ b.get 1 F.GLB_SPLICE_STATUS_UP 2 = 1 ∧
      (crossing dest).unit.done = false := by decide

theorem witness_SwitchCore_units :
    let e := entryOf [(112, 112, 1), (14, 12, 2)]
    let u : SUnit := { unit0 with idx := 16383, segs := [seg0] }
    let s := after fun s => ledger 8191 e (s.modDie 1 fun x => { x with complete := [u], copies := [u] })
    let b := s.begun at1 11
    s.On at1 11 ∧ (b.die 1).complete.zipIdx.find? (fun p => p.1.idx == 16383) = some (u, 0) ∧
      (b.die 1).copies.zipIdx.find? (fun p => p.1.idx == 16383) = some (u, 0) ∧ b.entry? u.idx = some e ∧
      b.copiesFit (b.copiesOf 1 u.idx e) (u.segs.foldl (fun n g => n + g.units) 0) = true := by decide

theorem witness_SwitchCore_refill :
    let key := 512 * 1 + 303
    let s := after fun s =>
      ((s.modQueue key fun q => { q with units := [{ unit0 with segs := [{ seg0 with place := 1, payload := [1] }] }] }).set 1
        F.SCH_Q_SHARE_QSHARE 64 303)
    let b := s.begun at1 11
    303 < 304 ∧ s.On at1 11 ∧ (b.queue key).inPlace 1 ≠ 0 ∧ (b.queue key).inPlace 0 + 64 ≤ b.qshare key ∧
      64 ≤ b.sharedFree (b.holdDie key) := by decide

theorem witness_SwitchCore_release :
    let s := after fun s => s.modDie 1 fun x => { x with releases := [⟨0, 1⟩, ⟨16, 2⟩] }
    s.On at1 12 ∧ ((s.begun at1 12).die 1).releases = ⟨0, 1⟩ :: [⟨16, 2⟩] := by decide

theorem witness_SwitchCore_age :
    let key := 512 * 1 + 303
    let s := after fun s => clocked (us 2) ((s.modQueue key fun q => { q with units := [unit0] }).set 1 F.SCH_Q_SOJOURN_MAX_SOJOURN 1 303)
    303 < 304 ∧ s.On at1 13 ∧ (s.begun at1 13).aged key = true := by decide

/-- The audit with nothing to reclaim and with a leaked bobbin. -/
theorem witness_SwitchCore_audit : ∀ l ∈ [[], [(65535, Bobbin.mk 7 0 0)]],
    let s := after fun s => clocked (ms 60000) ((s.modDie 1 fun x => { x with bobbins := l }).set 1 F.SWC_AUDIT_CFG_PERIOD_MS 1)
    let b := s.begun at1 12
    let age := b.get 1 F.SWC_AUDIT_CFG_LEAK_AGE_MS
    s.On at1 12 ∧ b.get 1 F.SWC_AUDIT_CFG_PERIOD_MS ≠ 0 ∧
      (b.die 1).bobbins.filter (fun p => age != 0 && p.2.refs == 0 && decide (age < b.now / ms 1 - p.2.touch)) = l := by decide

/-- An output whose MAC 3 has a frame in progress: with a segment, and with no byte left. -/
theorem witness_Scheduler_frame : ∀ segs ∈ [[seg0], []],
    let u : SUnit := { unit0 with cut := true, started := true, segs := segs }
    let s := after fun s => (s.modQueue (512 * 1 + 16 * 11 + 15) fun q => { q with units := [u] }).set 1 F.ETH_STATUS_LINK 1 3
    let b := s.begun at1 13
    11 < 19 ∧ s.On at1 13 ∧ b.outReady 1 11 = true ∧ b.midFrame 1 11 = some 15 ∧ (b.queue (512 * 1 + 16 * (3 + 8) + 15)).units = [u] ∧
      (segs ≠ [] → ∃ cost, b.headCost 1 11 15 = some (u, seg0, cost)) ∧ u.done = false ∧
      Table.look (b.die 1).busy (3 + 8) 0 ≤ b.now := by
  intro segs h
  simp only [List.mem_cons, List.mem_nil_iff, or_false] at h
  obtain rfl | rfl := h
  · exact ⟨by decide, by decide, by decide, by decide, by decide, fun _ => ⟨_, rfl⟩, rfl, by decide⟩
  · exact ⟨by decide, by decide, by decide, by decide, by decide, fun h => absurd rfl h, rfl, by decide⟩

/-- A strict queue of the output of DMA whose head is eligible. -/
theorem witness_Scheduler_strict :
    let u : SUnit := { unit0 with done := true, segs := [seg0] }
    let s := after fun s => (s.modQueue (512 * 1 + 16 * 18) fun q => { q with units := [u] }).set 1 F.SCH_OUT_CFG_NSTRICT 1 18
    let b := s.begun at1 13
    let x := (List.range 16).foldl (fun s q => s.ageDrop (512 * 1 + 16 * 18 + q)) b
    let x := ((x.dropOversize 1 18).fetchKeys 1 18).countGuard 1 18
    18 < 19 ∧ s.On at1 13 ∧ b.outReady 1 18 = true ∧ b.midFrame 1 18 = none ∧
      (List.range (x.get 1 F.SCH_OUT_CFG_NSTRICT 18)).find? (fun q => x.eligible 1 18 q) = some 0 ∧
      x.transitNext 1 18 (some 0 == some 0) = false ∧ ((x.localTurn 1 18).headCost 1 18 0).isSome = true := by decide

theorem witness_Scheduler_gate : ∀ old ∈ [[], [(18, OldGcl.mk [(0xFFFF, 1)] 1 0 0)]],
    let s := after fun s => (s.modDie 1 fun x => { x with oldGcl := old }).set 1 F.SCH_OUT_GCL_CTL_GATE_EN 1 18
    let b := s.begun at1 13
    18 < 19 ∧ s.On at1 13 ∧ b.get 1 F.SCH_OUT_GCL_CTL_GATE_EN 18 = 1 ∧ Table.find? (b.die 1).oldGcl 18 = Table.find? old 18 ∧
      (∀ g, Table.find? old 18 = some g → g.switchAt ≤ b.now) := by
  intro old h
  simp only [List.mem_cons, List.mem_nil_iff, or_false] at h
  obtain rfl | rfl := h
  · exact ⟨by decide, by decide, by decide, by decide, fun g h => nomatch h⟩
  · exact ⟨by decide, by decide, by decide, by decide, fun g h => by cases h; decide⟩

theorem witness_Scheduler_writes :
    live.Admits at1 .pf0 (0x104000 + 0x40 * 1023 + 4 * 15) ∧ live.Admits at1 .pf0 (0x0D0000 + 0x10 * 4095 + 4 * b2n false) ∧
      live.Admits at1 .pf0 (0x0D0000 + 0x10 * 4095 + 4 * b2n true) := by decide

theorem witness_HistogramAndFreeze :
    live.Admits at1 .pf0 0x14F004 ∧ wordGet 0x80000000#32 31 31 = 1 ∧ wordGet 0x40000000#32 31 31 = 0 ∧ live.Admits at0 .pf0 0x180008 := by
  decide

theorem witness_HistogramAndFreeze_twist :
    let s := after fun s => clocked (us 250) (s.set 1 F.SPD_STATUS_STATE 1)
    let b := elapse at1 s
    at1.die < s.part.dies ∧ s.clock.stopped = false ∧ b.spd.closed ≠ b.windowNo ∧ b.spinning 1 = true ∧ 3 < 2 ^ s.part.dies ∧
      b.boundaryNo ≠ b.spd.fell := by decide


/-! Time and the Basin (chapter 9). -/

/-- A timing message numbered 1 that echoes number 0, of a type; its two flags of valid times set, CLASS 6, HOPS 1, address 5. -/
def timing (type : Byte) : List Byte :=
  sealBlock ([type, 3, 1, 0] ++ List.replicate 21 0 ++ (if type = 3 then [6, 1] else [6, 1, 37, 5, 0]))

/-- A link that has sent and received number 0 at time 0. -/
def heardLink : TLink := { sent := [(0, 0)], arrivals := [(0, 0)] }

theorem witness_TimeMessages_send : ∀ st ∈ [5, 6],
    let s := link st 0 ply7 fun s => (s.set 1 F.PLY_LINK_SLEEP_TX_STATE 0 7).set 1 F.PLY_LINK_PEER_CAP_TICK 1 7
    let b := s.begun at1 9
    s.On at1 9 ∧ (b.ply? 1 7).isSome = true ∧ (b.tlink (plyLink 1 7)).due ≤ b.now ∧ b.plyState 1 7 = st ∧ b.txState 1 7 = 0 ∧
      b.flag 1 F.PLY_LINK_PEER_CAP_TICK 7 = true := by decide

/-- A TICK that gives no sample, and one that does. -/
theorem witness_TimeMessages_tick : ∀ x ∈ [({} : TLink), heardLink],
    let s := link 6 0 ply7 fun s => s.modLink 31 fun _ => x
    let b := (s.begun at1 8).heard at1 7
    let blk := timing 3
    let w := (b.plyLanes 1 7).length
    let y := b.tlink 31
    let corr := fun (i j : Nat) => y.f.getD (tickLane i w) 0 + y.b.getD (tickLane j w) 0
    let u := (b.boundary 1 7).modLink 31 fun x => { x with
      heard := true, cls := classOf (byteAt blk 25), hops := byteAt blk 26, gm := (b.boundary 1 7).get 0 F.TIM_GM_GM }
    let r := u.timeSample 31 blk corr (signed 16 (b.get 1 F.PLY_LINK_TCAL_CABLE_ASYM_PS 7) * 8 / 1000)
    PlyUp s ply7 ∧ plyLink 1 7 = 31 ∧ (s.begun at1 8).plyState 1 7 = 6 ∧ blockFit 3 blk = true ∧ timeFieldsOk blk = true ∧
      r.2 = (if x = heardLink then some (0, 0, 0) else none) := by decide

theorem witness_TimeMessages_frame :
    let s := after fun s => { (((s.set 1 F.SHL_PORT_STATUS_OUT_UP 1).set 0 F.TIM_GM_GM 5).modLink 3 fun _ => heardLink) with
      shl := { s.shl with b := { s.shl.b with open_ := true } }, tim := { (s.modLink 3 fun _ => heardLink).tim with parent := some 3 } }
    let b := elapse at1 s
    let blk := timing 2
    let bad : List Byte := []
    let u := b.modLink 3 fun x => { x with
      heard := true, cls := classOf (byteAt blk 25), prio := byteAt blk 13, gm := numAt blk 28 2 % 4096, hops := byteAt blk 26,
      utc := byteAt blk 27 }
    let r := u.timeSample 3 blk (fun _ _ => 0) 0
    let v := r.1.elect
    shlLink 1 1 = 3 ∧ b.runs 1 33 = true ∧ b.sideUp 1 1 = true ∧ b.onRing 1 = true ∧ (b.tlink 3).due ≤ b.now ∧ blockOk 2 bad = false ∧
      blockOk 2 blk = true ∧ timeFieldsOk blk = true ∧ v.tim.parent = some 3 ∧ (v.tlink 3).gm = v.get 0 F.TIM_GM_GM ∧
      r.2 = some (0, 0, 0) := by decide

/-- Some of the timebase's state changed. -/
def timed (f : Tim → Tim) (s : State) : State := { s with tim := f s.tim }

theorem witness_TimeMessages_silent :
    let s := after fun s => clocked (ms 1) (timed (fun x => { x with parent := some 205 }) s)
    let b := elapse at1 s
    at1.die < s.part.dies ∧ b.runs 0 32 = true ∧ b.tim.parent = some 205 ∧ 205 < 206 ∧
      max b.tim.soughtAt ((b.tlink 205).sampleAt.getD 0) + ms 1 ≤ b.now := by decide

theorem witness_TimeMessages_holdover :
    let s := after fun s => clocked (ms 2000000) (((s.set 0 F.TIM_STATUS_STATE 3).set 0 F.TIM_STATUS_CLASS 7).set 0 F.TIM_CFG_HOLDOVER_S 1000)
    let b := elapse at1 s
    b.runs 0 32 = true ∧ b.tim.parent = none ∧ b.tim.soughtAt + ms 1 ≤ b.now ∧ b.get 0 F.TIM_STATUS_STATE = 3 ∧
      b.get 0 F.TIM_STATUS_CLASS = 7 ∧ b.tim.lostAt + ms (1000 * b.get 0 F.TIM_CFG_HOLDOVER_S) ≤ b.now := by decide

theorem witness_TimeMessages_set : live.Admits at0 .pf0 0x1A0020 := by decide

/-- A TIM strand of the last index: its origin, and the endpoint that is the hub's parent. -/
theorem witness_TimeMessages_strand :
    let e := entryOf [(223, 220, 5), (64, 62, 3), (43, 41, 3), (14, 12, 2)]
    let s := after fun s => timed (fun x => { x with parent := some 200 })
      (((s.set 0 F.TIM_PARENT_STRAND_TIM_PARENT 8191).set 0 F.TIM_CFG_TIM_PARENT_EN 1).modDie 0 fun x => { x with ledger := [(8191, e)] })
    let b := s.begun at0 32
    let msg : List Byte := [1] ++ List.replicate 31 0
    s.On at0 32 ∧ b.entry? (8192 * 0 + 8191) = some e ∧ e.kind = 5 ∧ e.inType = 3 ∧ e.st = 2 ∧ Table.look b.tim.strandDue 8191 0 ≤ b.now ∧
      e.outType = 3 ∧ msg.length = 32 ∧ byteAt msg 0 = 1 ∧ tsOk (numAt msg 4 8) = true ∧
      8191 = b.get 0 F.TIM_PARENT_STRAND_TIM_PARENT ∧ b.flag 0 F.TIM_CFG_TIM_PARENT_EN = true ∧ b.tim.parent = some 200 := by decide

theorem witness_Irig_frames :
    let s := after fun s => ((s.set 0 F.TIM_IRIG_CFG_FORMAT 7).set 0 F.TIM_IRIG_CFG_IEEE1344 0).set 0 F.TIM_IRIG_STATUS_SEEN 3
    let b := elapse at1 s
    let bcd := [60, 59, 23, 365, 99]
    let v := State.set { b with tim := { b.tim with irigAt := b.now } } 0 F.TIM_IRIG_STATUS_SEEN 7
    let utc := (daysTo (2000 + bcd.getD 4 0) + bcd.getD 3 0 - 1) * 86400 + bcd.getD 2 0 * 3600 + bcd.getD 1 0 * 60 + bcd.getD 0 0
    let w : State := { v with tim := { v.tim with irigRun := 1, irigSec := utc, irigBad := 0, irigHold := v.now + ms 200 } }
    b.runs 0 32 = true ∧ 7 < 8 ∧ b.get 0 F.TIM_IRIG_CFG_FORMAT = 7 ∧ b.flag 0 F.TIM_IRIG_CFG_IEEE1344 = false ∧ bcd.length = 5 ∧
      b.get 0 F.TIM_IRIG_STATUS_SEEN ≠ 15 ∧ b.get 0 F.TIM_IRIG_STATUS_SEEN ≠ 7 ∧ (w.irigState 3).get 0 F.TIM_IRIG_STATUS_STATE ≠ 2 := by
  decide

theorem witness_Irig_ends :
    let s := after fun s => clocked (ms 1500) (s.set 0 F.TIM_IRIG_STATUS_STATE 3)
    let b := elapse at1 s
    b.runs 0 32 = true ∧ b.get 0 F.TIM_IRIG_STATUS_STATE = 3 ∧ b.tim.irigAt + ms 1500 ≤ b.now ∧ b.tim.irigHold ≤ b.now := by decide

/-- An edge 20 us late, while the input is valid and before it has locked. -/
theorem witness_Pps_edge : ∀ v ∈ [0, 1],
    let s := after fun s => clocked (ms 1000 + us 20) (s.set 0 F.TIM_PPS_STATUS_IN_VALID v)
    let b := elapse at1 s
    let t := b.now - deglitchPs (b.get 0 F.PIN_DEGLITCH_PPS_IN)
    let whole := (t + 1000000000000 / 2) / 1000000000000
    b.runs 0 32 = true ∧ (b.flag 0 F.TIM_PPS_STATUS_IN_VALID = true ↔ v = 1) ∧ us 10 < ((t : Int) - (whole * 1000000000000 : Nat)).natAbs ∧
      b.tim.ppsAt = none := by decide

theorem witness_Pps_pulse : ∀ h ∈ [false, true],
    let s := after fun s => { timed (fun x => { x with ppsHigh := h }) (s.set 0 F.TIM_PPS_CFG_OUT_EN 1) with
      clock := { ps := ms 2000, traceable := true } }
    let b := elapse at1 s
    b.runs 0 32 = true ∧ b.flag 0 F.TIM_PPS_CFG_OUT_EN = true ∧ b.clock.traceable = true ∧ b.tim.ppsHigh = h ∧
      b.tim.ppsNo ≠ some (((b.now : Int) - 1000 * signed 20 (b.get 0 F.TIM_PPS_CFG_OFFSET_NS)) / 1000000000000).toNat ∧
      b.tim.ppsRose + ms (b.get 0 F.TIM_PPS_CFG_WIDTH_MS) ≤ b.now := by decide

/-! The Shoreline (chapter 9). -/

/-- A gateway of address 64 with port B open, and its OUT side up or down. -/
def gateway (out : Nat) (f : State → State := id) : State := after fun s =>
  let s := ((s.set 1 F.SHL_PORT_STATUS_OUT_UP out).set 0 F.SHL_CFG_GATEWAY_EN 1).set 0 F.SHL_ID_HUB_ADDR 64
  f { s with shl := { s.shl with b := { s.shl.b with open_ := true } } }

theorem witness_Shoreline_sides : ∀ out ∈ [0, 1],
    let b := elapse at1 (gateway out)
    b.runs 1 33 = true ∧ b.portOn 1 = true ∧ (b.sideUp 1 1 = true ↔ out = 1) ∧ b.isOrigin 1 = true ∧ b.conflict = false ∧
      (b.port 1).due ≤ b.now ∧ b.onRing 1 = true := by decide

/-- ENUM frames at a hub that is no origin: a bad one, one that only travels and one that is complete. -/
theorem witness_Shoreline_enum :
    let s := after fun s => { (s.set 0 F.SHL_PORT_STATUS_OUT_UP 1).set 0 F.SHL_ID_HUB_ADDR 5 with
      shl := { s.shl with a := { s.shl.a with open_ := true } } }
    let b := elapse at1 s
    let bad : List Byte := []
    let spread := enumFrame 8 0 5 1 [(5, true, 1)] []
    let whole := enumFrame 1 0 5 1 [(5, true, 1)] []
    b.runs 0 33 = true ∧ b.portOn 0 = true ∧ b.sideUp 0 1 = true ∧ b.onRing 0 = true ∧ enumOk bad = false ∧ enumOk spread = true ∧
      enumOk whole = true ∧ b.isOrigin 0 = false ∧ b.hubAddr ≤ numAt spread 4 2 % 4096 ∧ bit (byteAt spread 1) 3 = true ∧
      b.hubAddr ≤ numAt whole 4 2 % 4096 ∧ bit (byteAt whole 1) 3 = false ∧ bit (byteAt whole 1) 0 = true := by decide

theorem witness_Shoreline_spillway :
    let b := elapse at1 (after fun s => s.set 0 F.SHL_CFG_GATEWAY_EN 1)
    b.runs 1 33 = true ∧ b.portOn 1 = true ∧ b.pkg.recovery = false ∧ b.pwrStep = 0 ∧
      b.flag 1 F.SHL_PORT_STATUS_SPILL_FORCE = false ∧ (b.port 1).open_ = false ∧ b.runs 0 21 = true ∧ b.runs 0 22 = true ∧
      b.runs 0 33 = true ∧ b.shl.ethOpen = false := by decide

/-- An enumeration that has not come back; a barrier at the root hub; a takeover by a hub of another ring's lowest address. -/
theorem witness_Shoreline_waits :
    let w := elapse at1 (after fun s => { s with shl := { s.shl with b := { s.shl.b with wait := some 0 } } })
    let x : Barrier := ⟨7, 0, false, [], false⟩
    let r := elapse at1 (after fun s => { s.set 0 F.SHL_ID_HUB_ADDR 0 with shl := { s.shl with barrier := some x } })
    let t := elapse at1 (after fun s => clocked (ms 300) (s.set 0 F.SHL_ID_HUB_ADDR 64))
    w.runs 1 33 = true ∧ (w.port 1).wait = some 0 ∧ 0 ≤ w.now ∧ r.runs 0 33 = true ∧ r.shl.barrier = some x ∧ r.isOrigin 0 = true ∧
      x.deadline ≤ r.now ∧ t.runs 0 33 = true ∧ t.hubAddr % 64 = 0 ∧ t.isOrigin 0 = false ∧ t.conflict = false ∧
      t.shl.lowAt + ms 300 ≤ t.now := by decide

theorem witness_Shoreline_force : live.Admits at1 .pf0 0x1B0000 := by decide

theorem witness_Ripples_received :
    let b := elapse at1 (gateway 1)
    let bad : List Byte := []
    let unknown := rippleBytes 7 false false 2 5 1 []
    let known := rippleBytes 6 false false 2 5 1 []
    b.runs 1 33 = true ∧ b.portOn 1 = true ∧ b.sideUp 1 1 = true ∧ b.onRing 1 = true ∧ bad.length ≠ 16 ∧ unknown.length = 16 ∧
      numAt unknown 14 2 = crc16 (unknown.take 14) ∧ byteAt unknown 0 / 16 = 7 ∧ known.length = 16 ∧
      numAt known 14 2 = crc16 (known.take 14) ∧ byteAt known 0 / 16 = 6 ∧ bit (byteAt known 0) 0 = false := by decide

/-- SHL_CMD: each OP; BARRIER_ARRIVE with a conflict, of no participant, and of one without and with a barrier. -/
theorem witness_Ripples_command : ∀ c ∈ [(1, 0), (0, 0), (0, 1)], ∀ bar ∈ [none, some (⟨7, 0, false, [], false⟩ : Barrier)],
    let s := after fun s => { (s.set 0 F.SHL_ID_CONFLICT c.1).set 0 F.SHL_CFG_BARRIER_PART c.2 with shl := { s.shl with barrier := bar } }
    let b := s.admitted at0 .pf0 0x1B0020
    s.Admits at0 .pf0 0x1B0020 ∧ (b.conflict = true ↔ c.1 = 1) ∧ (b.flag 0 F.SHL_CFG_BARRIER_PART = true ↔ c.2 = 1) ∧ b.shl.barrier = bar ∧
      (∀ op ∈ [1, 2, 3, 4, 5], wordGet (BitVec.ofNat 32 (op * 2 ^ 28)) 31 28 = op) := by decide

theorem witness_Ripples_ack : live.Admits at0 .pf0 0x1B0040 ∧ wordGet 0x20000000#32 29 29 = 1 := by decide

theorem witness_Ripples_due : ∀ op ∈ [5, 6],
    let x : SchedOp := ⟨op, false, 0, 1, 0⟩
    let s := after fun s => { s with shl := { s.shl with ops := [x] } }
    s.On { at1 with die := 0 } 33 ∧ (s.begun { at1 with die := 0 } 33).dueOp = some x := by decide

theorem witness_Remote_send :
    let b := live.admitted at0 .pf0 0x1B0800
    live.Admits at0 .pf0 0x1B0800 ∧ b.flag 0 F.SHL_RRA_STATUS_BUSY = false ∧ wordGet 0x10000001#32 31 28 = 1 ∧
      wordGet 0x20000100#32 31 28 = 2 := by decide

theorem witness_Remote_timeout :
    let r : Remote := ⟨1, 1, 5, 0, 1, 0⟩
    let s := after fun s => { s with shl := { s.shl with remote := some r } }
    let b := s.begun { at1 with die := 0 } 33
    s.On { at1 with die := 0 } 33 ∧ b.shl.remote = some r ∧ r.deadline ≤ b.now := by decide

/-- MGT frames at hub 64: a bad one, one for hub 9, and each OP for this hub. -/
theorem witness_Remote_frames :
    let b := elapse at1 (gateway 1)
    let bad : List Byte := []
    let f := fun op dst => mgtFrame (mgtBytes op 0 1 9 dst false 0 1 [])
    at1.die < 2 ∧ b.runs 1 33 = true ∧ b.portOn 1 = true ∧ b.sideUp 1 1 = true ∧ b.onRing 1 = true ∧ mgtFrameOk bad = false ∧
      mgtFrameOk (f 1 9) = true ∧ msgNeighbour (mgtOfFrame (f 1 9)) = false ∧ msgDst (mgtOfFrame (f 1 9)) ≠ b.hubAddr ∧
      (∀ op ∈ [1, 2, 3, 4], mgtFrameOk (f op 64) = true ∧ msgNeighbour (mgtOfFrame (f op 64)) = false ∧
        msgDst (mgtOfFrame (f op 64)) = b.hubAddr ∧ msgOp (mgtOfFrame (f op 64)) = op ∧ (f op 64).length ≤ 2048) := by decide

/-- The SMBus: an address that is not the hub's, and the hub's idle and busy. -/
theorem witness_Smbus : ∀ busy ∈ [false, true],
    let m : Msg := ⟨.smb, .smb, 1, 0, 0, 0, 1, [], [], 0, none, {}⟩
    let s := after fun s => { (s.set 0 F.PKG_SMB_CFG_SMB_EN 1).set 0 F.PKG_SMB_CFG_TARGET_ADDR 127 with
      access := { s.access with msgs := if busy then [m] else [] } }
    let b := s.begun at0 41
    s.On at0 41 ∧ b.smbAnswers 126 = false ∧ b.smbAnswers 127 = true ∧ b.smbBusy = busy ∧
      (∀ op ∈ [1, 2], msgOp (mgtBytes op 0 1 9 0 false 0 1 []) = op ∧ 16 ≤ (mgtBytes op 0 1 9 0 false 0 1 []).length) := by decide


/-! Splices, island faults and outlets (chapters 1 and 3). -/

theorem witness_Splices : ∀ v ∈ [0, 1],
    let s := after fun s => s.set 1 F.GLB_SPLICE_STATUS_UP v 0
    s.On at1 (14 + 0) ∧ s.spliceHere 1 0 = true ∧ ((s.begun at1 14).flag 1 F.GLB_SPLICE_STATUS_UP 0 = true ↔ v = 1) := by decide

theorem witness_Splices_fault : live.On at1 41 ∧ 41 < 44 ∧ 2 < 3 := by decide

/-- An event of die 1, of PF0. -/
def event1 : Event := ⟨0x00F, 1, 1, 0, 0, false, 0, [], false, false⟩

theorem witness_Outlets_accept :
    let s := after fun s => { s with evt := { s.evt with raised := [event1] } }
    let b := s.begun at1 35
    s.On at1 35 ∧ b.acceptIndex 1 0 = some 0 ∧ b.evt.raised[0]? = some event1 := by decide

theorem witness_Outlets_timer :
    let s := after fun s =>
      let s := clocked (us 1) ((s.set 1 F.EVT_OUT_STATUS_ENABLED 1 127).set 1 F.EVT_OUT_MOD_TIME_US 1 127)
      s.putOutlet 255 { pending := 1 }
    let b := s.begun at1 35
    s.On at1 35 ∧ 127 < 128 ∧ b.flag 1 F.EVT_OUT_STATUS_ENABLED 127 = true ∧ b.get 1 F.EVT_OUT_MOD_TIME_US 127 ≠ 0 ∧
      (b.outlet (1 * 128 + 127)).pending ≠ 0 ∧ (b.outlet (1 * 128 + 127)).due = false ∧
      (b.outlet (1 * 128 + 127)).firstAt + us (b.get 1 F.EVT_OUT_MOD_TIME_US 127) ≤ b.now := by decide

theorem witness_Outlets_resumed :
    let s := after fun s => { (s.set 1 F.EVT_OUT_STATUS_ENABLED 1 127).set 1 F.EVT_OUT_STATUS_OVERRUN 1 127 with evt := { s.evt with bme := [(0, true)] } }
    let b := s.begun at1 35
    s.On at1 35 ∧ b.flag 1 F.EVT_OUT_STATUS_ENABLED 127 = true ∧ b.flag 1 F.EVT_OUT_STATUS_OVERRUN 127 = true ∧ b.busMaster (b.outletOwner (1 * 128 + 127)) = true ∧
      b.outstanding (1 * 128 + 127) + 2 ≤ b.ringSize (1 * 128 + 127) := by decide

theorem witness_Outlets_writes :
    live.Admits at1 .pf0 (0x051010 + 0x40 * 127) ∧ live.Admits at1 .pf0 (0x051020 + 0x40 * 127) ∧ wordGet 0x80000000#32 31 31 = 1 ∧
      live.Admits at1 .pf0 0x050004 ∧ wordGet 0x00040000#32 18 16 ≤ 4 ∧ (elapse at1 live).isFunction 62 = true ∧ 0 < msixSize 62 := by decide


/-! Images (chapter 2). The published verification and digest are opaque in the model (Config), so a witness of an image that passes its
checks supposes what they answer: each key accepts, each digest is zeros, and the factory key's identifier is 5. -/

/-- Keys that accept, and digests of zeros. -/
structure Accepts : Prop where
  key : ∀ k d g, Config.ecdsaOk k d g = true
  digest : ∀ l, Config.sha384 l = List.replicate 48 0
  id : Config.factoryId = 5

/-- A section of an image (02 Table 2.2). -/
def sect (type size count : Nat) (payload : List Byte) : List Byte :=
  leBytes 2 type ++ leBytes 2 0 ++ leBytes 4 payload.length ++ crc32c payload ++ leBytes 2 size ++ leBytes 2 count ++ payload

/-- An image of a kind with its sections and a signature of zeros (02 Table 2.1). -/
def image (kind n : Nat) (sections : List Byte) : List Byte :=
  let h := [0x53, 0x4B, 0x4E, 0x37] ++ leBytes 2 1 ++ leBytes 2 128 ++ leBytes 4 (224 + sections.length) ++ leBytes 1 2 ++ leBytes 1 kind ++
    leBytes 2 n ++ leBytes 4 9 ++ List.replicate 60 0 ++ leBytes 4 5 ++ List.replicate 40 0
  h ++ crc32c h ++ sections ++ List.replicate 96 0

/-- A patch whose only section is an empty note. -/
def patch0 : List Byte := image 1 1 (sect 0x16 0 0 [])

/-- Its section. -/
def note0 : List Section := [⟨0x16, 128, [], 0, 0⟩]

/-- A full image with one record of each required section. -/
def image0 : List Byte := image 0 6 (
  sect 1 96 1 ([0, 0, 1] ++ List.replicate 93 0) ++
  sect 3 16 1 ([5, 1, 0x80, 0xFF, 7, 0, 3, 0] ++ List.replicate 8 0) ++
  sect 5 8 1 (leBytes 4 0x140000 ++ leBytes 4 0x10000808) ++
  sect 9 8 1 (leBytes 4 0x2C0180 ++ leBytes 4 0x07D08000) ++
  sect 0x10 8 1 (leBytes 4 0x070000 ++ leBytes 4 1) ++
  sect 0x14 0 0 (List.replicate 8 0 ++ leBytes 4 8 ++ List.replicate 156 0))

/-- What a check found wrong. -/
def flawOf {α : Type} : Except Flaw α → Option Flaw
  | .error f => some f
  | .ok _ => none

theorem error_of {α : Type} {r : Except Flaw α} {f : Flaw} (h : flawOf r = some f) : r = .error f := by
  cases r <;> simp_all [flawOf]

theorem ok_of {α : Type} {r : Except Flaw α} {x : α} (h : r.toOption = some x) : r = .ok x := by
  cases r <;> simp_all [Except.toOption]

theorem no_image (s : State) : s.takeImage [] = .error ⟨1, 0, 0⟩ := by
  unfold State.takeImage
  rw [show headerFlaw s.part.dies 0 [] = some ⟨1, 0, 0⟩ from rfl]

theorem no_patch (s : State) : s.checkPatch [] = .error ⟨1, 0, 0⟩ := by
  unfold State.checkPatch
  rw [show headerFlaw s.part.dies 1 [] = some ⟨1, 0, 0⟩ from rfl]

theorem some_of {α : Type} {o : Option α} (x : α) (h : o.isSome = true) : o = some (o.getD x) := by
  cases o <;> simp_all

theorem rangeFlaw_nil (s : State) : s.rangeFlaw [] = none := by
  simp [State.rangeFlaw, lastSetting]

theorem patch_passes (c : Accepts) (s : State) (hd : s.part.dies = 2)
    (hs : s.boot.fuses.skeinKey = some (Config.factoryId.toNat, Config.factoryKey)) (hb : List.replicate 48 0 = s.digest) :
    s.checkPatch patch0 = .ok note0 := by
  have sig : signedOk s.boot.fuses patch0 = true := by
    simp only [signedOk, hs, c.key, c.id]
    decide
  unfold State.checkPatch
  rw [hd, show headerFlaw 2 1 patch0 = none by decide, sig, show imgBase patch0 = List.replicate 48 0 by decide, ← hb,
    show imageSections patch0 = .ok note0 from ok_of (by decide)]
  simp only [show (note0.find? fun x => notInPatch.contains x.type) = none by decide, show registerRecords note0 = [] by decide,
    show strandRecords note0 = [] by decide, Bool.not_true, Bool.false_eq_true, if_false, ne_eq, not_true_eq_false, List.find?_nil,
    Option.map_none, lowestFlaw, List.foldl_cons, List.foldl_nil, rangeFlaw_nil, Option.or_none]

/-- The sections of the full image. -/
def sections0 : List Section := (takeSections image0 6 128 none).toOption.getD []

theorem firmware_passes (c : Accepts) : ((sectionOf sections0 0x14).bind fun x => fwFlaw x (sectionOf sections0 0x15)) = none := by
  rw [show sectionOf sections0 0x14 = some ⟨0x14, 344, List.replicate 8 0 ++ leBytes 4 8 ++ List.replicate 156 0, 0, 0⟩ by decide,
    show sectionOf sections0 0x15 = none by decide]
  simp only [Option.bind_some, fwFlaw, c.key, c.digest]
  decide

/-- The states in which the image's DEVICE and PLY records, then all its records, have taken effect. -/
def plies0 (s : State) : State :=
  (((sectionOf sections0 3).map (·.records)).getD []).foldl (fun s p => State.applyPly s p.2)
    (((sectionOf sections0 1).map fun x => s.applyDevice x.payload).getD s)
def records0 (s : State) : State := (registerRecords sections0).foldl (fun s x => State.applyRecord s (~~~ 0) x) (plies0 s)

theorem image_passes (c : Accepts) (s : State) (hd : s.part.dies = 2)
    (hs : s.boot.fuses.skeinKey = some (Config.factoryId.toNat, Config.factoryKey))
    (h1 : ((sectionOf sections0 1).bind s.deviceFlaw).or ((sectionOf sections0 3).bind s.plyFlaw) = none)
    (h2 : (registerRecords sections0).all (plies0 s).recordOk = true)
    (h3 : ((registerRecords sections0).all fun x =>
      ((regAt (x.addr % 0x1000000)).map fun r => fieldsInRange r ((records0 s).reg x.addr)).getD true) = true)
    (h4 : ((records0 s).relations.all fun r => !(lastSetting (registerRecords sections0) r.addrs).isSome || !r.broken) = true) :
    ∃ x, s.takeImage image0 = .ok x := by
  have sig : signedOk s.boot.fuses image0 = true := by
    simp only [signedOk, hs, c.key, c.id]
    decide
  have l : imageSections image0 = .ok sections0 := by
    unfold imageSections
    rw [show imgSections image0 = 6 by decide]
    refine ok_of ?_
    exact some_of [] (by decide)
  have r2 : ((registerRecords sections0).find? fun x => !(plies0 s).recordOk x) = none := by
    rw [List.find?_eq_none]
    intro x hx
    simp [List.all_eq_true.1 h2 x hx]
  have r4 : (records0 s).rangeFlaw (registerRecords sections0) = none := by
    unfold State.rangeFlaw
    rw [List.find?_eq_none.2 fun x hx => by simp [List.all_eq_true.1 h3 x hx]]
    simp only [Option.map_eq_none_iff]
    rw [List.find?_eq_none]
    intro r hr
    have := List.all_eq_true.1 h4 r hr
    cases e : r.broken <;> simp_all
  rw [Option.or_eq_none_iff] at h1
  unfold State.takeImage
  rw [hd, show headerFlaw 2 0 image0 = none by decide, sig, l]
  simp only [Bool.not_true, Bool.false_eq_true, if_false, show missingFlaw sections0 = none by decide]
  simp only [records0, plies0] at r2 r4
  simp only [h1.1, h1.2, r2, r4, Option.map_none, show strandRecords sections0 = [] by decide, State.applyStrands,
    show sectionOf sections0 0xD = none by decide, show liveRecords sections0 = [] by decide, List.find?_nil, firmware_passes c, lowestFlaw,
    List.foldl_cons, List.foldl_nil, Option.or_none]
  exact ⟨_, rfl⟩

theorem witness_Skein_apply :
    let s := after fun s => (s.set 0 F.SKN_PATCH_LEN_LEN 65536).set 0 F.SKN_STATUS_SLOT 2
    let b := s.admitted at0 .pf0 0x040038
    let r := live.admitted at0 .pf0 0x040038
    s.Admits at0 .pf0 0x040038 ∧ live.Admits at0 .pf0 0x040038 ∧ b.applyRefusal false = none ∧ b.applyRefusal true = none ∧
      r.applyRefusal false = some 4 ∧ r.applyRefusal true = some 4 ∧ r.skn.wait = none ∧ r.skn.cmd = none ∧
      (∀ op ∈ [1, 2, 3, 4], wordGet (BitVec.ofNat 32 op) 2 0 = op) := by decide

theorem witness_Skein_cancel :
    let s := after fun s => { s with skn := { s.skn with wait := some ⟨patch0, none, true⟩, cmd := some ⟨2, 8, 0⟩ } }
    let b := s.admitted at0 .pf0 0x040038
    s.Admits at0 .pf0 0x040038 ∧ b.skn.wait ≠ none ∧ b.skn.cmd ≠ none := by decide

/-- A command of SKN_PATCH_CMD in progress whose bytes are no image. -/
theorem witness_Skein_checked_bad : ∀ op ∈ [1, 2, 4],
    let c : SknCmd := ⟨op, 65536, 0⟩
    let s := after fun s => { s with skn := { s.skn with cmd := some c } }
    let b := s.begun at0 39
    s.On at0 39 ∧ b.skn.cmd = some c ∧ b.skn.wait = none ∧ b.checkPatch (List.take c.len []) = .error ⟨1, 0, 0⟩ ∧
      b.blank.takeImage (List.take c.len []) = .error ⟨1, 0, 0⟩ := by
  intro op h
  simp only [List.mem_cons, List.mem_nil_iff, or_false] at h
  obtain rfl | rfl | rfl := h
  all_goals exact ⟨by decide, by decide, by decide, no_patch _, no_image _⟩

theorem witness_Skein_checked_patch (c : Accepts) : ∀ op ∈ [1, 2],
    let x : SknCmd := ⟨op, 65536, 0⟩
    let s := after fun s => { s with skn := { s.skn with cmd := some x } }
    let b := s.begun at0 39
    s.On at0 39 ∧ b.skn.cmd = some x ∧ b.skn.wait = none ∧ b.checkPatch (patch0.take x.len) = .ok note0 := by
  intro op h
  simp only [List.mem_cons, List.mem_nil_iff, or_false] at h
  obtain rfl | rfl := h
  all_goals exact ⟨by decide, by decide, by decide, patch_passes c _ (by decide) rfl (by decide)⟩

/-- A STORE of that image. -/
theorem witness_Skein_checked_image (c : Accepts) :
    let x : SknCmd := ⟨4, 8388608, 0⟩
    let s := after fun s => { s with skn := { s.skn with cmd := some x } }
    let b := s.begun at0 39
    s.On at0 39 ∧ b.skn.cmd = some x ∧ ∃ y, b.blank.takeImage (image0.take x.len) = .ok y :=
  ⟨by decide, by decide, image_passes c _ (by decide) rfl (by decide) (by decide) (by decide) (by decide)⟩

/-! Boot (chapter 16). -/

/-- The boot of that package is at a step, its image not yet running. -/
def booting (n : Nat) (s : State) : State := { s.set 0 F.SKN_STATUS_STATE 1 with pkg := { s.pkg with bootStep := n } }

theorem witness_Boot_clocks :
    let b := elapse at1 (after (booting 4))
    (∀ i ∈ clockIslands, bit (b.islands 0).ok i = true) ∧ b.pkg.bootStep = 4 ∧ (List.replicate 8 0).length = 8 := by decide

/-- The cells of a valid copy of the option bytes: what its checks ask for, among erased bytes. -/
def optionCells (copy : Nat) : Table Byte :=
  let n := optionCopyAt copy
  [(n, 0x4F), (n + 1, 0x50), (n + 2, 0x54), (n + 3, 0x37), (n + 4, 1), (n + 5, 0), (n + 252, 0x72), (n + 253, 0xEC), (n + 254, 0x29),
   (n + 255, 0x12)]

theorem witness_Boot_options : ∀ a ∈ [false, true], ∀ c ∈ [false, true],
    let s : State := { after (booting 5) with cells := (if a then optionCells 0 else []) ++ (if c then optionCells 1 else []) }
    let b := s.begun at0 40
    s.On at0 40 ∧ b.pkg.bootStep = 5 ∧ optionOk (b.cellBytes (optionCopyAt 0) 256) = a ∧ optionOk (b.cellBytes (optionCopyAt 1) 256) = c := by
  decide +kernel

theorem witness_Boot_erase :
    let b := live.begun at0 40
    live.On at0 40 ∧ b.get 0 F.PWR_STATUS_CURRENT = 0 ∧ b.hold.running = none := by decide

theorem witness_Boot_push : ∀ m ∈ [false, true],
    let s := after fun s => booting 9 { s with evt := { s.evt with bme := [(0, m)] } }
    let b := s.admitted at0 .pf0 0x010034
    s.Admits at0 .pf0 0x010034 ∧ 9 ≤ b.pkg.bootStep ∧ b.get 0 F.SKN_STATUS_STATE ≠ 2 ∧ b.boot.pushing = none ∧ b.boot.fetching = none ∧
      b.busMaster 0 = m ∧ wordGet 0x00800000#32 31 31 = 0 ∧ wordGet 0x80800000#32 31 31 = 1 ∧ wordGet 0x80800000#32 23 0 ≠ 0 ∧
      wordGet 0x80800000#32 23 0 ≤ 8388608 ∧ wordGet 0x80800000#32 23 0 % 8 = 0 := by decide

theorem witness_Boot_fetched :
    let s := after fun s => { s with boot := { s.boot with fetching := some 8 } }
    let b := s.begun at0 39
    s.On at0 39 ∧ b.boot.fetching = some 8 := by decide


/-! Station Ethernet (chapter 10), safe stores and hold-up (chapters 16 and 18). -/

/-- A frame of 64 bytes with an EtherType and an OpCode. -/
def frame (etype opcode : List Byte) : List Byte := reseal (List.replicate 12 0 ++ etype ++ opcode ++ List.replicate 44 0)

/-- A port whose link is up: frames too short, too long, broken, of PAUSE, of any other kind and of PTP. -/
theorem witness_StationPorts_frames :
    let s := after fun s => s.set 1 F.ETH_STATUS_LINK 1 3
    let b := s.begun at1 24
    let bad : List Byte := List.replicate 64 0
    s.On at1 (21 + 3) ∧ 3 < 4 ∧ b.flag 1 F.ETH_STATUS_LINK 3 = true ∧ (List.replicate 63 (0 : Byte)).length < 64 ∧
      b.get 1 F.ETH_CFG_MAX_FRAME 3 < (List.replicate 65536 (0 : Byte)).length ∧ bad.length ≤ b.get 1 F.ETH_CFG_MAX_FRAME 3 ∧
      fcsOk bad = false ∧ fcsOk (frame [0x88, 0x08] [0, 1]) = true ∧ isPause (frame [0x88, 0x08] [0, 1]) = true ∧
      fcsOk (frame [8, 0] [0, 0]) = true ∧ isPause (frame [8, 0] [0, 0]) = false ∧ (frame [8, 0] [0, 0]).length = 64 ∧
      b.flag 1 F.ETH_MSEC_CTL_EN 3 = false ∧ isPtp (frame [0x88, 0xF7] [0, 0]) = true := by
  simp only [List.length_replicate]
  decide

theorem witness_StationPorts_link : (live.begun at1 24).sleeping = false := by decide

/-- PTP on MAC 3: a silent master, and its timers. -/
theorem witness_StationPorts_ptp : ∀ role ∈ [1, 2],
    let s := after fun s => clocked (ms 3000)
      (((s.set 1 F.ETH_STATUS_LINK 1 3).set 1 F.ETH_PTP_CFG_ROLE role 3).set 1 F.ETH_PTP_STATUS_STATE 2 3)
    let b := s.begun at1 24
    s.On at1 (21 + 3) ∧ b.ptpRole 1 3 = role ∧ b.flag 1 F.ETH_STATUS_LINK 3 = true ∧ (b.ptpPort 1 3).heardAt + ms 3000 ≤ b.now ∧
      (∀ kind ∈ [0, 1, 2], kind < 3 ∧ (b.ptpPort 1 3).due.getD kind 0 ≤ b.now) ∧ b.ptpState 1 3 = 2 := by decide

theorem witness_StationPorts_supervision :
    let s := after fun s => (s.set 1 F.ETH_LRE_CFG_MODE 1).modLre 1 fun x => { x with downAt := [none, none] }
    let b := s.begun at1 21
    let own := (Config.macAddress (macNo 1 0)).toNat
    let proxies := ((List.range 16).map fun i => b.get 1 F.ETH_LRE_PROXY_LO_ADDR i + 2 ^ 32 * b.get 1 F.ETH_LRE_PROXY_HI_ADDR i).filter
      (· != 0)
    let u := b.lreSend 1 (b.supervision 1 own (b.die 1).lre.seq none) false
    let u := proxies.foldl (fun s x => s.lreSend 1 (s.supervision 1 x (s.die 1).lre.seq (some own)) false) u
    let u := u.modLre 1 fun x => { x with supDue := u.now + ms (b.get 1 F.ETH_LRE_SUP_LIFE_CHECK_MS) }
    s.On at1 21 ∧ b.lreMode 1 ≠ 0 ∧ (b.die 1).lre.supDue ≤ b.now ∧ ∀ p, p < 2 → (u.die 1).lre.downAt.getD p none = none := by decide

/-- An SA of port 3: installed with a key at hand or not, and retired. -/
theorem witness_StationPorts_sa : ∀ at_hand ∈ [false, true],
    let v : Word := 0x78000005#32
    let r : Word := 0xB8000005#32
    let k : KeySlot := ⟨5, [], 2, 0, false, 0, 0⟩
    let s := after fun s => ((s.set 1 F.ETH_MSEC_CTL_EN 1 3).set 1 F.ETH_SA_PN_NEXT_PN 1).modDie 1 fun x =>
      { x with keySlots := if at_hand then [(0, k)] else [] }
    let t := after fun s => (s.set 1 F.ETH_MSEC_CTL_EN 1 3).modDie 1 fun x => { x with sas := [⟨3, true, 0, 0, 5, 0, 1, false, false, 0⟩] }
    let b := s.admitted at1 .pf0 0x2A4000
    let c := t.admitted at1 .pf0 0x2A4000
    s.Admits at1 .pf0 0x2A4000 ∧ b.flag 1 F.ETH_SA_STATUS_BUSY = false ∧ b.flag 1 F.ETH_MSEC_CTL_EN (wordGet v 29 28) = true ∧
      wordGet v 31 30 = 1 ∧ b.get 1 F.ETH_SA_PN_NEXT_PN ≠ 0 ∧ (b.die 1).sas.any (saNamed v) = false ∧
      ((b.slotOwner? 1 (wordGet v 15 0)).isSome = true ↔ at_hand = true) ∧
      t.Admits at1 .pf0 0x2A4000 ∧ c.flag 1 F.ETH_SA_STATUS_BUSY = false ∧ c.flag 1 F.ETH_MSEC_CTL_EN (wordGet r 29 28) = true ∧
      wordGet r 31 30 = 2 ∧ (c.die 1).sas.any (saNamed r) = true ∧ wordGet r 27 27 = 1 := by decide

theorem witness_StationPorts_select : live.Admits at1 .pf0 (0x2A0020 + 0x400 * 3) := by decide

theorem witness_Stores_chunk :
    let j : StoreJob := { type := 5, what := 5, arg := 0, off := 0, bytes := [] }
    let s := after fun s => { s with hold := { s.hold with running := some j } }
    let b := s.begun at0 42
    s.On at0 42 ∧ b.runs 0 40 = true ∧ b.hold.running = some j ∧ j.what = 5 := by decide

/-- RST_FUSE_PROG before and after the reach fuses are programmed. -/
theorem witness_Stores_fuses : ∀ p ∈ [false, true],
    let s := after fun s => { (s.set 0 F.RST_FUSE_PROG_LO_CODES (s.boot.reach % 2 ^ 30)).set 0 F.RST_FUSE_PROG_HI_CODES (s.boot.reach / 2 ^ 30) with
      boot := { s.boot with fuses := { s.boot.fuses with reachValid := p } } }
    let b := s.admitted at0 .pf0 0x010048
    let staged := b.get 0 F.RST_FUSE_PROG_LO_CODES + 2 ^ 30 * b.get 0 F.RST_FUSE_PROG_HI_CODES
    s.Admits at0 .pf0 0x010048 ∧ wordGet 1#32 0 0 = 1 ∧ b.hold.running = none ∧
      ((b.boot.fuses.reachValid ∨ 1 < b.lc ∨ badCodes staged ≠ 0) ↔ p = true) := by decide

theorem witness_Stores_flush : live.Admits at0 .pf0 0x07001C := by decide

theorem witness_Stores_failure : ∀ run ∈ [false, true],
    let s := after fun s => if run then s else { s with isl := [(0, { up with ok := up.ok - 2 ^ 42 }), (1, up)] }
    let b := elapse at0 s
    b.clock.stopped = false ∧ b.hold.failing = none ∧ (∀ x ∈ b.boot.sources, x.s ≠ 10) ∧ b.runs 0 42 = run := by decide

theorem witness_Stores_temperature : live.On at1 42 := by decide

theorem witness_Stores_reference : ∀ l ∈ [[], [(1, 0)]],
    let s := after fun s => { s with refFault := l }
    s.On at1 38 ∧ Table.find? (s.begun at1 38).refFault 1 = Table.find? l 1 := by decide


/-! Display heads (chapter 11). -/

/-- A timing set of one tile. -/
def small : Timing := ⟨64, 8, 8, 8, 64, 4, 4, 4, 0, 0, 3, 2, 0, 1000, 0⟩

/-- Die 1 with some state of head 1. -/
def display (x : Head) (f : State → State := id) : State := after fun s => f (s.modDie 1 fun y => { y with heads := [(1, x)] })

theorem witness_Heads_plug : ∀ p ∈ [0, 1],
    let s := display {} fun s => s.set 1 F.DSP_HEAD_SINK_HPD p 1
    let b := s.begun at1 26
    s.On at1 (25 + 1) ∧ 1 < 2 ∧ (b.flag 1 F.DSP_HEAD_SINK_HPD 1 = true ↔ p = 1) := by decide

theorem witness_Heads_trained :
    let s := display { run := some small } fun s => s.set 1 F.DSP_HEAD_STATUS_STATE 2 1
    let b := s.begun at1 26
    s.On at1 26 ∧ (b.head 1 1).run = some small ∧ b.headState 1 1 = 2 ∧ 3 ≤ small.rate ∧ small.fits 3 = true := by decide

/-- A reply before the deadline, and the deadline reached. -/
theorem witness_Heads_aux :
    let y : Aux := ⟨0, 0, 7⟩
    let b := (display { aux := some y }).begun at1 26
    (display { aux := some y }).On at1 26 ∧ (b.head 1 1).aux = some y ∧ b.now < y.deadline + at1.cyc ∧ y.deadline ≤ b.now ∧ 16 ≤ 16 := by
  decide

theorem witness_Heads_points : ∀ p ∈ [1, 2, 3],
    let s := display { run := some small, phase := p } (clocked (ms 1000))
    let b := s.begun at1 26
    s.On at1 26 ∧ (b.pointAt 1 1).isSome = true ∧ (b.pointAt 1 1).getD 0 ≤ b.now ∧ (b.head 1 1).phase = p := by decide

theorem witness_Heads_dark :
    let s := display { run := some small, next := some small, dark := true } (clocked (ms 1000))
    let b := s.begun at1 26
    let x := b.head 1 1
    s.On at1 26 ∧ x.run = some small ∧ x.next = some small ∧ x.dark = true ∧ x.darkAt + small.linesPs (small.vActive + small.vBlank) ≤ b.now ∧
      x.queued = none := by decide

theorem witness_Heads_fetch : ∀ p ∈ [1, 3], ∀ high ∈ [false, true],
    let s := display { phase := p, front := some ⟨0, 0, 0, 0, none, 0⟩, fetching := high }
    let x := (s.begun at1 26).head 1 1
    s.On at1 26 ∧ x.phase = p ∧ x.front.isSome = true ∧ x.fetching = high := by decide

theorem witness_Heads_refresh :
    let b := live.begun at1 30
    live.On at1 (29 + 1) ∧ b.flag 1 F.MEM_CH_SR_SR_EN 1 = true ∧ b.asleep 1 1 = false ∧ b.tolerant 1 1 = true := by decide

theorem witness_HeadRegisters_writes :
    live.Admits at1 .pf0 (0x1C0000 + 0x1000 * 1) ∧ live.Admits at1 .pf0 (0x1C0084 + 0x1000 * 1) ∧
      live.Admits at1 .pf0 (0x1C0200 + 0x1000 * 1) ∧ live.Admits at1 .pf0 (0x1C002C + 0x1000 * 1) ∧
      live.Admits at1 .pf0 (0x1C0054 + 0x1000 * 1) := by decide

theorem witness_HeadRegisters_source :
    let e := entryOf [(223, 220, 1), (64, 62, 3), (61, 56, headNo 1 1), (55, 44, 5), (14, 12, 2)]
    let s := display { run := some small } fun s =>
      ledger 8191 e (((s.set 1 F.DSP_HEAD_CTL_SOURCE 1 1).set 1 F.DSP_HEAD_CTL_ENABLE 1 1).set 1 F.DSP_HEAD_CTL_SRC_SN 5 1)
    let b := s.begun at1 26
    s.On at1 26 ∧ (b.head 1 1).run = some small ∧ b.sourceStrand 1 1 = some 16383 ∧ b.flag 1 F.DSP_HEAD_CTL_SOURCE 1 = true ∧
      b.flag 1 F.DSP_HEAD_CTL_ENABLE 1 = true := by decide

/-- A tile and a token of a mirror's frame, with the frame open and its token waiting. -/
theorem witness_HeadRegisters_mirror :
    let k : Token := ⟨1, 1, 0⟩
    let s := display { run := some small, openFrame := some 1, got := 1, token := some k } fun s => s.set 1 F.DSP_HEAD_CTL_STORE 2 1
    let b := s.begun at1 26
    let tile := [1, 0, 0, 0, 0, 0, 1, 1, 1, 0, 0, 0, 0, 0, 0, 0] ++ List.replicate 4 (0 : Byte)
    let token := [2, 0, 1, 0] ++ leBytes 2 64 ++ [0, 0] ++ leBytes 4 1 ++ List.replicate 12 0 ++ leBytes 2 64 ++ List.replicate 6 (0 : Byte)
    let u := b.modHead 1 1 fun x => { x with mismatch := none }
    s.On at1 26 ∧ (b.head 1 1).run = some small ∧ b.get 1 F.DSP_HEAD_CTL_STORE 1 = 2 ∧ tileFits small tile = true ∧
      tileFits small [] = false ∧ byteAt [] 0 ≠ 2 ∧ byteAt token 0 = 2 ∧ token.length = 32 ∧
      (byteAt token 6, numAt token 4 2, numAt token 24 2) = (small.fmt, small.hActive, small.vActive) ∧
      (u.head 1 1).openFrame = some (numAt token 8 4) ∧ (u.head 1 1).got = numAt token 2 2 ∧ (u.head 1 1).gap = 0 ∧
      (b.head 1 1).token = some k := by decide


/-! The bridge (chapter 12) and virtual functions (chapter 13). -/

/-- A package with VDP 31 on this hub and three windows: 0 to VDP 31, 1 to VDP 31 prefetchable, 63 over the first MiB of BAR2. -/
def bridged (f : State → State := id) : State := after fun s =>
  let w := fun (n kind : Nat) (s : State) => ((s.set 0 F.BRG_WIN_CFG_VALID 1 n).set 0 F.BRG_WIN_CFG_KIND kind n).set 0 F.BRG_WIN_SIZE_SIZE_MIB 1 n
  let s := (w 63 3 (w 1 2 (w 0 1 s))).set 0 F.BRG_VDP_CFG_VALID 1 31
  f ((s.set 0 F.BRG_WIN_CFG_VDP 31 0).set 0 F.BRG_WIN_CFG_VDP 31 1)

theorem witness_Bridge_write : ∀ fence ∈ [false, true],
    let s := bridged fun s => if fence then s.setPair 0 Reg.BRG_FN_FENCE_LO Reg.BRG_FN_FENCE_HI (2 ^ 63 + 1) 248 else s
    let b := s.begun at1 19
    let u := b.activity
    let t := u.set 0 F.BRG_FN_ORDINAL_NEXT ((u.ordinal 0 + 1) % 65536) 0
    s.On at1 19 ∧ b.primary = 0 ∧ u.fenced 248 (b.window? 248 (.vdp 31 false) 0) = fence ∧ u.fenced 0 (b.window? 0 (.bar2 0) 0) = false ∧
      t.vdpOf (.vdp 31 false) (b.window? 0 (.vdp 31 false) 0) = some 31 ∧ (t.bar2Addr 0 0 (b.window? 0 (.bar2 0) 0)).isSome = true := by decide

/-- A notice that is just in time, and one without a cause. -/
theorem witness_Bridge_notice :
    let s := bridged (clocked 4000000000000)
    let b := s.begun at1 19
    let c := if tsPs 0 + 4000000000000 = tsPs b.ts then b.bump 0 F.BRG_NEAR_MISS_COUNT else b
    s.On at1 19 ∧ tsPs b.ts ≤ tsPs 0 + 4000000000000 ∧ c.window? 0 (.bar2 0) 0 = some 63 := by decide

/-- Reads: fenced, to a VDP that is none, to one that is not carried, to one that is carried, and of BAR2. -/
theorem witness_Bridge_read :
    let s := bridged fun s => (s.setPair 0 Reg.BRG_FN_FENCE_LO Reg.BRG_FN_FENCE_HI 1 248).set 0 F.BRG_WIN_CFG_ATOMIC 1 0
    let far := bridged fun s => s.set 0 F.BRG_VDP_CFG_TGT_HUB 9 31
    let b := s.begun at1 19
    let c := far.begun at1 19
    let u := b.activity
    let w := b.window? 0 (.vdp 31 false) 0
    s.On at1 19 ∧ (u.fenced 248 w && 248 != 255 || u.brokenFor 248 (b.vdpOf (.vdp 31 false) w)) = true ∧
      (u.fenced 0 w && 0 != 255 || u.brokenFor 0 (b.vdpOf (.vdp 31 false) w)) = false ∧
      b.vdpOf (.vdp 30 false) (b.window? 0 (.vdp 30 false) 0) = none ∧
      far.On at1 19 ∧ c.vdpOf (.vdp 31 false) (c.window? 0 (.vdp 31 false) 0) = some 31 ∧ c.activity.vdpCarried 31 = false ∧
      b.vdpOf (.vdp 31 false) w = some 31 ∧ u.vdpCarried 31 = true ∧ u.winFlag w F.BRG_WIN_CFG_PREFETCH = false ∧
      (u.takeTag 1 ⟨0, winNo w, 31, 0, 4096, 5, 0, u.tagDeadline, 0⟩).2 = some 0 ∧ u.atomicBlocked w (0, [1, 2, 3, 4]) = false ∧
      (u.bar2Addr 0 0 (b.window? 0 (.bar2 0) 0)).isSome = true ∧
      u.winFlag (b.window? 0 (.bar2 0) 0) F.BRG_WIN_CFG_PREFETCH = false := by decide

/-- Tags: free, in time, and at their deadline. -/
theorem witness_Bridge_tags :
    let x : BrgTag := ⟨0, 0xFF, 31, 0, 4, 5, 0, 0, 0⟩
    let s := bridged fun s => s.modDie 1 fun y => { y with tags := [(1023, x)] }
    let t := bridged fun s => clocked (us 1) (s.modDie 1 fun y => { y with tags := [(1023, x)] })
    let b := s.begun at1 19
    let c := t.begun at1 19
    s.On at1 19 ∧ Table.find? (b.die 1).tags 0 = none ∧ Table.find? (b.die 1).tags 1023 = some x ∧ b.now < x.deadline + at1.cyc ∧
      x.deadline ≤ b.now ∧ x.use = 0 ∧ t.On at1 19 ∧ Table.find? (c.die 1).tags 1023 = some x ∧ x.deadline + at1.cyc ≤ c.now := by decide

theorem witness_Bridge_old :
    let x : Ahead := ⟨0, 1, 0, 4, some [], 0, 0⟩
    let l : Lock := ⟨0, some 31, 5, 0, false⟩
    let s := bridged fun s => clocked (ms 70000) { s.modDie 1 fun y => { y with aheads := [(15, x)] } with brg := { s.brg with lock := some l } }
    let b := s.begun at1 19
    s.On at1 19 ∧ 15 < 16 ∧ Table.find? (b.die 1).aheads 15 = some x ∧ x.data.isSome = true ∧ x.at_ + us 2 ≤ b.now ∧
      b.brg.lock = some l ∧ l.vdp = some 31 ∧ l.broken = false ∧ l.since + ms (b.get 0 F.BRG_LOCK_CFG_LOCK_MAX_MS) ≤ b.now := by decide

/-- VDP 31: carried, and its report without and with a change. -/
theorem witness_Ports_vdp :
    let b := bridged.begun at1 19
    bridged.On at1 19 ∧ b.primary = 0 ∧ b.flag 0 F.BRG_VDP_CFG_VALID 30 = false ∧ b.flag 0 F.BRG_VDP_CFG_VALID 31 = true ∧
      b.vdpCarried 31 = true ∧ (b.takeTag 1 ⟨0, 0xFF, 31, 0, 4, 5, 0, b.tagDeadline, 0⟩).2 = some 0 ∧
      (b.flag 0 F.BRG_VDP_STATUS_PRESENT 31 != (false && b.vdpCarried 31)) = false ∧
      (b.flag 0 F.BRG_VDP_STATUS_PRESENT 31 != (true && b.vdpCarried 31)) = true ∧
      (b.flag 0 F.BRG_VDP_STATUS_LINK_ACTIVE 31 != (false && b.vdpCarried 31 && false && !b.brg.disabled.contains 31)) = false := by decide

theorem witness_Ports_links :
    let s := bridged fun s => { s with brg := { s.brg with downAt := none } }
    bridged.On at1 18 ∧ s.On at0 17 ∧ at0.die = (s.begun at0 17).primary ∧ (s.begun at0 17).brg.downAt = none := by decide

theorem witness_Ports_dma :
    live.Admits at1 .pf0 (0x220000 + 0x40 * 63) ∧ live.Admits at1 .pf0 (0x220010 + 0x40 * 63) ∧ wordGet 0x80000000#32 31 31 = 1 ∧
      (elapse at1 live).isFunction 62 = true := by decide

/-- Channel 63 of die 1, either way: a descriptor that faults and one that does not. -/
theorem witness_Ports_descriptor : ∀ dir ∈ [0, 1], ∀ m ∈ [false, true],
    let s := after fun s => ledger 8191 (dmaStrand 2) { (((s.set 1 F.BRG_DMA_CFG_ENABLE 1 63).set 1 F.BRG_DMA_CFG_DIR dir 63).set 1
      F.BRG_DMA_CFG_STRAND 16383 63).setWord 1 Reg.BRG_DMA_DOORBELL 1 63 with evt := { s.evt with bme := [(0, m)] } }
    let b := s.begun at1 20
    let desc := List.replicate 8 0 ++ [1] ++ List.replicate 23 (0 : Byte)
    s.On at1 20 ∧ 63 < 64 ∧ b.dmaRuns 1 63 = true ∧ b.dmaPosted 1 63 = true ∧ b.pwrStep < 3 ∧
      (b.flag 1 F.BRG_DMA_CFG_DIR 63 = true ↔ dir = 1) ∧ Table.find? (b.die 1).dmaJobs 63 = none ∧
      b.dmaFault 1 63 desc true = (if m then none else some 4) ∧ b.dmaStrand 1 63 = some 16383 := by decide

/-- Functions 1 to 62 of PF0 (13 R351). -/
def hosted (f : State → State := id) : State := after fun s =>
  f ((s.set 0 F.VFN_PF_SRIOV_VF_FIRST 1 0).set 0 F.VFN_PF_SRIOV_TOTAL_VFS 62 0)

/-- VFN_CMD for function 62, busy or not, and for one that does not exist. -/
theorem witness_Virtual_commands : ∀ busy ∈ [0, 1],
    let s := hosted fun s => s.set 0 F.VFN_CMD_STATUS_BUSY busy
    let b := s.admitted at0 .pf0 0x240000
    let v := fun (op f : Nat) => (BitVec.ofNat 32 (op * 2 ^ 28 + f) : Word)
    s.Admits at0 .pf0 0x240000 ∧ (b.flag 0 F.VFN_CMD_STATUS_BUSY = true ↔ busy = 1) ∧ b.validFunc 62 = true ∧ b.validFunc 63 = false ∧
      b.runs (homeDie 62) 36 = true ∧ (∀ op ∈ [1, 2, 3, 4, 5], wordGet (v op 62) 31 28 = op ∧ wordGet (v op 63) 7 0 = 63) := by decide

theorem witness_Virtual_quiesced :
    let s := hosted fun s => { s.set 1 F.VFN_VF_LOG_CTL_SWAP_PENDING 1 30 with vfn := { s.vfn with slots := [(62, { st := 3 })] } }
    let b := s.begun { at0 with die := homeDie 62 } 36
    s.On { at0 with die := homeDie 62 } 36 ∧ 62 ≤ 31 * s.part.dies ∧ (b.slot 62).st = 3 ∧ b.tagsOf 62 = [] ∧ slotNo 62 = 30 ∧
      b.flag (homeDie 62) F.VFN_VF_LOG_CTL_SWAP_PENDING 30 = true := by decide

theorem witness_Virtual_log : live.Admits at1 .pf0 (0x241004 + 0x40 * 30) ∧ 30 < 31 ∧ wordGet 0x40000000#32 30 30 = 1 := by decide


/-! USB (chapter 14). -/

theorem witness_Usb_writes :
    live.Admits at1 .pf0 0x260000 ∧ live.Admits at1 .pf0 (0x261000 + 0x800 * 3) ∧ live.Admits at1 .pf0 ((epReg true).off 3 4) ∧
      live.Admits at1 .pf0 ((epReg false).off 3 4) ∧ wordGet 0x80000000#32 31 31 = 1 ∧ wordGet 0x10000000#32 28 28 = 1 := by decide

/-- Die 1 with function 3 attached and reset, and some USB state. -/
def plugged (f : Usb → Usb := id) (g : State → State := id) : State := after fun s =>
  g (((s.set 1 F.USB_FN_CTL_ATTACH 1 3).set 1 F.USB_FN_STATE_DEV_STATE 2 3).modUsb 1 f)

/-- Control requests: GET_STATUS, an unknown read, SET_ADDRESS and an unknown write. -/
theorem witness_Usb_setup :
    let b := plugged.begun at1 27
    let v := (b.setHalted 1 3 0 true 0).setHalted 1 3 0 false 0
    let get : List Byte := [0x80, 0, 0, 0, 0, 0, 2, 0]
    let bad : List Byte := [0x80, 0x7F, 0, 0, 0, 0, 2, 0]
    let set : List Byte := [0, 5, 9, 0, 0, 0, 0, 0]
    let odd : List Byte := [0, 0x7F, 0, 0, 0, 0, 0, 0]
    plugged.On at1 27 ∧ b.attached 1 3 = true ∧ 2 ≤ b.devState 1 3 ∧ (v.controlIn 1 3 get).isSome = true ∧ v.controlIn 1 3 bad = none ∧
      v.controlOutOk 1 3 set = true ∧ v.controlOutOk 1 3 odd = false ∧ 128 ≤ byteAt get 0 ∧ 128 ≤ byteAt bad 0 ∧
      byteAt set 0 < 128 ∧ byteAt odd 0 < 128 ∧ (∀ u, u < 5 → u = 4 ∨ u < 4) := by decide

/-- A status stage: stalled, of a read, of SET_ADDRESS, of SET_CONFIGURATION and of a class request. -/
theorem witness_Usb_status : ∀ x ∈ [(128, 0, true), (128, 0, false), (0, 5, false), (0, 9, false), (0x21, 0x20, false)],
    let c : UsbCtl := { setup := [BitVec.ofNat 8 x.1, BitVec.ofNat 8 x.2.1, 1, 0, 0, 0, 0, 0], stage := 2, stall := x.2.2 }
    let s := plugged fun y => { y with fns := [(3, { ctl := some c })] }
    s.On at1 27 ∧ ((s.begun at1 27).usbFn 1 3).ctl = some c ∧ c.stall = x.2.2 ∧ c.stage = 2 ∧ byteAt c.setup 0 = x.1 ∧
      byteAt c.setup 1 = x.2.1 := by decide

/-- Bus reset, VBUS and the link states at high speed and at SuperSpeed. -/
theorem witness_Usb_bus : ∀ vbus ∈ [0, 1],
    let s := after fun s => (s.set 1 F.USB_UFP_CTL_USB_CONNECT 1).set 1 F.USB_UFP_STATUS_VBUS vbus
    let b := s.begun at1 27
    s.On at1 27 ∧ b.flag 1 F.USB_UFP_CTL_USB_CONNECT = true ∧ (b.flag 1 F.USB_UFP_STATUS_VBUS = true ↔ vbus = 1) := by decide

theorem witness_Usb_lpm : ∀ en ∈ [0, 1],
    let s := after fun s => ((s.set 1 F.USB_UFP_STATUS_SPEED 2).set 1 F.USB_UFP_STATUS_LINK 0).set 1 F.USB_UFP_CTL_LPM_EN en
    let b := s.begun at1 27
    s.On at1 27 ∧ b.ufpLink 1 = 0 ∧ b.ufpSpeed 1 = 2 ∧ (b.flag 1 F.USB_UFP_CTL_LPM_EN = true ↔ en = 1) ∧
      ((List.range 4).any fun u => (b.usbFn 1 u).ins.any fun p => !p.2.isEmpty) = false := by decide

theorem witness_Usb_super :
    let s := after fun s => clocked (ms 1) ((((s.set 1 F.USB_UFP_STATUS_SPEED 3).set 1 F.USB_UFP_STATUS_LINK 0).set 1
      F.USB_UFP_WAKE_U1_IDLE_US 1).modUsb 1 fun x => { x with u1 := true, u2 := true })
    let b := s.begun at1 27
    s.On at1 27 ∧ b.ufpSpeed 1 = 3 ∧ b.ufpLink 1 = 0 ∧ b.get 1 F.USB_UFP_WAKE_U1_IDLE_US ≠ 0 ∧
      (b.die 1).usb.activeAt + us (b.get 1 F.USB_UFP_WAKE_U1_IDLE_US) ≤ b.now ∧ (b.die 1).usb.u1 = true ∧ (b.die 1).usb.u2 = true := by decide

theorem witness_Usb_reattach :
    let s := plugged fun y => { y with fns := [(3, { reattachAt := some 0 })] }
    let b := s.begun at1 27
    s.On at1 27 ∧ (b.usbFn 1 3).reattachAt = some 0 ∧ 0 ≤ b.now ∧ b.flag 1 F.USB_FN_CTL_ATTACH 3 = true ∧
      (b.die 1).usb.keptOff.contains 3 = false := by decide

/-- A wake from suspend and from U3. -/
theorem witness_UsbWakes_drive : ∀ speed ∈ [2, 3],
    let s := plugged (fun x => { x with hubWake := true, hubPending := true }) fun s =>
      clocked (ms 5) ((s.set 1 F.USB_UFP_STATUS_SPEED speed).set 1 F.USB_UFP_STATUS_LINK 3)
    let b := s.begun at1 27
    let x := (b.die 1).usb
    s.On at1 27 ∧ b.wakeFrom 1 = (if speed = 3 then 3 else 1) ∧ x.wake = none ∧ b.wakeMaySignal 1 4 = true ∧ x.idleAt + ms 5 ≤ b.now ∧
      x.wakeAfter ≤ b.now ∧ x.signals < b.get 1 F.USB_UFP_WAKE_WAKE_RETRIES := by decide

/-- A wake being driven, one released, with and without the host's answer in time, and one from U3. -/
theorem witness_UsbWakes_waits : ∀ w ∈ [({ u := 4, from_ := 1, start := 0 } : UsbWake), { u := 4, from_ := 2, start := 0, released := some 0 },
      { u := 4, from_ := 3, start := 0 }],
    let s := plugged (fun x => { x with wake := some w }) fun s =>
      clocked (ms 100) ((s.set 1 F.USB_UFP_STATUS_SPEED 2).set 1 F.USB_UFP_STATUS_LINK 4)
    let b := s.begun at1 27
    s.On at1 27 ∧ (b.die 1).usb.wake = some w ∧ b.wakeFrom 1 ≠ 0 ∧ w.start + ms 10 ≤ b.now ∧ w.start + ms 1 ≤ b.now ∧
      (∀ t, w.released = some t → b.now < t + ms 100 + at1.cyc ∧ t + ms 100 ≤ b.now) := by
  intro w h
  simp only [List.mem_cons, List.mem_nil_iff, or_false] at h
  obtain rfl | rfl | rfl := h
  all_goals exact ⟨by decide, by decide, by decide, by decide, by decide, fun t h => by cases h <;> decide⟩

/-- Strand messages: of a wrong form, for an attached function, and for a relay host. -/
theorem witness_UsbWakes_messages :
    let s := after fun s => ((s.set 1 F.USB_FN_CTL_ATTACH 1 1).set 1 F.USB_FN_STATE_DEV_STATE 2 1).set 1 F.USB_DFP_STATUS_RELAY_UP 1 3
    let b := s.begun at1 27
    let m : List Byte := [2, BitVec.ofNat 8 (b.get 1 F.USB_DFP_CTL_SLOT 3), 0, 0, 0, 0, 0, 0]
    s.On at1 27 ∧ usbMessageOk [] = false ∧ usbMessageOk m = true ∧ b.usbHeld 1 1 = false ∧ b.attached 1 1 = true ∧ byteAt m 0 = 2 ∧
      byteAt m 1 = b.get 1 F.USB_DFP_CTL_SLOT (11 - 8) ∧ b.flag 1 F.USB_DFP_STATUS_RELAY_UP (11 - 8) = true := by decide

/-- Downstream port 3 as a LOCAL and as a RELAY port, with a relayed device. -/
theorem witness_UsbWakes_ports : ∀ mode ∈ [1, 2],
    let r : Relay := { interval := 0, pollAt := 0, errors := 2 }
    let s := after fun s => (((s.set 1 F.USB_DFP_CTL_POWER 1 3).set 1 F.USB_DFP_CTL_MODE mode 3).set 1 F.USB_DFP_STATUS_CONNECTED 1 3).modUsb 1
      fun x => { x with relays := [(3, r)] }
    let b := s.begun at1 28
    s.On at1 28 ∧ b.flag 1 F.USB_DFP_CTL_POWER 3 = true ∧ b.get 1 F.USB_DFP_CTL_MODE 3 = mode ∧
      b.flag 1 F.USB_DFP_STATUS_CONNECTED 3 = true ∧ b.relay? 1 3 = some r ∧ r.disabled = false ∧ r.pollAt ≤ b.now := by decide


/-! Power states and the Tarn domain (chapter 15). -/

/-- PWR_CMD: with no step running, and with a step of the same target and of another. -/
theorem witness_Power_command : ∀ x ∈ [(0, 7), (2, 0), (2, 1), (2, 2), (2, 3)],
    let s := after fun s => { s.set 0 F.PWR_STATUS_STEP x.1 with pwr := { s.pwr with running := some ⟨x.2, 1⟩ } }
    let b := s.admitted at0 .pf0 0x020000
    let u : State := { b with pwr := { b.pwr with count := b.pwr.count + 1 } }
    s.Admits at0 .pf0 0x020000 ∧ u.pwrStep = x.1 ∧
      (∀ t ∈ [0, 1, 2, 3], (u.pwr.running.any fun y => y.target == t) = (x.2 == t)) ∧
      (∀ t ∈ [0, 1, 2, 3, 4, 7], wordGet (BitVec.ofNat 32 t) 2 0 = t) := by decide

theorem witness_Power_steps : ∀ st ∈ [2, 3],
    let s := after fun s => { s.set 0 F.PWR_STATUS_STEP st with pwr := { s.pwr with flushed := true } }
    let b := s.begun at0 37
    let u := b.writeStaged
    s.On at0 37 ∧ b.pwrStep = st ∧ b.pwr.reversing = false ∧ b.undrained = false ∧
      (u.flag 0 F.PWR_CFG_FLUSH_ON_SLEEP && !u.pwr.flushed) = false ∧
      (u.pwr.pending.isSome && decide (u.now < u.pwr.pendingAt + at0.cyc)) = false := by decide

theorem witness_Power_reversed : ∀ p ∈ [none, some (PwrReq.mk 0 2)],
    let x : PwrAbort := ⟨2, 1, 3, 0⟩
    let s := after fun s => { s with pwr := { s.pwr with reversing := true, abort := some x, running := some ⟨2, 1⟩, pending := p } }
    let b := s.begun at0 37
    let u := b.bringUp
    s.On at0 37 ∧ b.pwr.reversing = true ∧ u.pwr.abort = some x ∧ ((u.endRunning 4).bump 0 F.PWR_COUNT_ABORTS).pwr.pending = p := by decide

theorem witness_Power_gate :
    let s := after fun s => s.set 0 F.PWR_STATUS_CURRENT 1
    let b := elapse at1 s
    bonded 1 41 = true ∧ b.get 0 F.PWR_STATUS_CURRENT = 1 ∧ b.runs 1 41 = true ∧ neverGated.contains 41 = false := by decide

/-- A package that rests, or is on its way: the step, the clock, the matcher, TARN. -/
def asleep (step : Nat) (stopped armed tarn : Bool) (f : Pwr → Pwr := id) : State := after fun s =>
  { ((s.set 0 F.PWR_STATUS_STEP step).set 0 F.TRN_ADDR_ARMED (b2n armed)).set 0 F.TRN_ADDR_WAKE_ADDR 0x3C with
    clock := { s.clock with stopped := stopped }, tarn := { s.tarn with asleep := tarn }, pwr := f s.pwr }

theorem witness_Tarn_match : ∀ x ∈ [(7, true, false, false), (6, true, false, true), (6, true, true, true), (6, true, true, false),
      (3, false, true, false)],
    let b := elapse at0 (asleep x.1 x.2.1 x.2.2.1 x.2.2.2)
    0x79 < 256 ∧ 0x79 / 2 = b.get 0 F.TRN_ADDR_WAKE_ADDR ∧ b.pwrStep = x.1 ∧ b.flag 0 F.TRN_ADDR_ARMED = x.2.2.1 ∧
      b.tarn.asleep = x.2.2.2 ∧ b.clock.stopped = x.2.1 := by decide

/-- The exit from STILL: in time, and too late. -/
theorem witness_Tarn_wake :
    let b := elapse at0 (asleep 7 true false false)
    let c := elapse at0 (asleep 7 true false false fun p => { p with waited := us 1000000 })
    b.pwrStep = 7 ∧ b.pwr.acked = false ∧ ((List.range b.part.dies).any fun d => b.lacking d != 0) = false ∧
      b.pwr.waited < b.wakeDeadline + at0.cyc ∧ c.pwrStep = 7 ∧ c.pwr.acked = false ∧ c.wakeDeadline ≤ c.pwr.waited := by decide

theorem witness_Tarn_exit : ∀ p ∈ [none, some (PwrReq.mk 0 2)],
    let b := elapse at0 (asleep 7 true false false fun x => { x with acked := true, pending := p })
    let u := State.set { b with clock := { b.clock with stopped := false, traceable := false } } 0 F.TIM_STATUS_TRACEABLE 0
    let u := (List.range u.part.dies).foldl (fun s d => s.modDie d fun x => { x with selfRefresh := [] }) u
    let u := (((u.set 0 F.PWR_STATUS_CURRENT 0).set 0 F.PWR_STATUS_STEP 0).stateDone 0 2 u.pwr.cause).letGo.bringUp
    let u := u.pwr.late.elim u fun r => State.pwrDone { u with pwr := { u.pwr with late := none } } r 5
    b.pwrStep = 7 ∧ b.pwr.acked = true ∧ u.pwr.pending = p := by decide

theorem witness_Tarn_address : ∀ n ∈ [8, 0x77],
    live.Admits at0 .pf0 0x060000 ∧ 8 ≤ wordGet (BitVec.ofNat 32 n) 6 0 ∧ wordGet (BitVec.ofNat 32 n) 6 0 < 0x78 ∧
      wordGet (BitVec.ofNat 32 n) 6 0 ≠ (live.admitted at0 .pf0 0x060000).get 0 F.PKG_SMB_CFG_TARGET_ADDR := by decide


/-! Resets (chapter 16). -/

theorem witness_Resets_power :
    at1.die < live.part.dies ∧ (elapse at1 live).tarn.asleep = false ∧ (elapse at0 live).runs (elapse at0 live).primary 17 = true := by decide

/-- A source that waits for die 1's acknowledgement: in time, and at its deadline. -/
theorem witness_Resets_handshake :
    let x : Source := { s := 15, level := 2, die := 1, isl := 8, applied := false, deadline := 1000, bits := 8 }
    let s := after fun s => { s with boot := { s.boot with sources := [x] } }
    let t := clocked 1000 s
    let b := elapse at1 s
    let c := elapse at1 t
    b.awaiting 1 15 = some x ∧ b.clock.stopped = false ∧ b.now < x.deadline + at1.cyc ∧ c.awaiting 1 15 = some x ∧ c.clock.stopped = false ∧
      x.deadline ≤ c.now := by decide

theorem witness_Resets_release : ∀ x ∈ [({ s := 0, level := 0, bits := 1 } : Source), { s := 15, level := 2, die := 1, bits := 1 },
      { s := 10, level := 1, until_ := some 5, bits := 1 }],
    let s := after fun s => clocked 5 { s with boot := { s.boot with sources := [x] } }
    let b := elapse at1 s
    (b.boot.sources.find? fun y => y.s == x.s && y.applied && (decide (y.level ≤ 1) || y.die == 1)) = some x ∧
      x.until_.all (fallen b) = true ∧ (x.s ≠ 10 ∨ b.hold.failing = none) := by decide

theorem witness_Resets_clocks :
    let s := after fun s => { s with isl := [(0, up), (1, { ok := 0, held := 0, faultAt := [(18, 7)] })] }
    let b := elapse at1 s
    bonded 1 8 = true ∧ b.resting = false ∧ bit (b.islands 1).ok 8 = false ∧ bit (b.islands 1).off 8 = false ∧
      Table.find? (b.islands 1).faultAt 8 = none ∧ bonded 1 18 = true ∧ Table.find? (b.islands 1).faultAt 18 = some 7 ∧
      b.clock.stopped = false ∧ bit (b.islands 1).off 18 = false := by decide

theorem witness_Resets_writes :
    live.Admits at0 .pf0 0x010024 ∧ live.Admits at0 .pf0 0x010010 ∧ live.On { at0 with die := homeDie 62 } 36 ∧ 62 ≤ 31 * live.part.dies ∧
      live.On { at0 with die := homeDie 1 } 36 := by decide

theorem witness_Resets_load :
    let s := after fun s => booting 6 s
    let b := s.begun at0 39
    s.On at0 39 ∧ at0.die = 0 ∧ b.pkg.bootStep = 6 := by decide

/-- A pushed image of a length that is none. -/
theorem witness_Resets_pushed_length : ∀ n ∈ [0, 8388616, 4],
    let s := after fun s => { booting 9 s with boot := { s.boot with pushing := some n } }
    let b := s.begun at0 39
    s.On at0 39 ∧ b.boot.pushing = some n ∧ (n = 0 ∨ 8388608 < n ∨ n % 8 ≠ 0) := by decide

/-- A pushed image of zeros. -/
theorem witness_Resets_pushed_bad :
    let s := after fun s => { booting 9 s with boot := { s.boot with pushing := some 8 } }
    let b := s.begun at0 39
    s.On at0 39 ∧ b.boot.pushing = some 8 ∧ b.tripReset.takeImage (b.cellBytes (bootCell 0) 8) = .error ⟨1, 0, 0⟩ := by
  refine ⟨by decide, by decide, ?_⟩
  unfold State.takeImage
  rw [show headerFlaw _ 0 _ = some ⟨1, 0, 0⟩ by decide]

/-- Listed cells that hold bytes from a cell of the boot buffer on. -/
def spread : Nat → List Byte → Table Byte
  | _, [] => []
  | n, b :: l => if b = 0 then spread (n + 1) l else (n, b) :: spread (n + 1) l

theorem spread_below (l : List Byte) (n m : Nat) (h : m < n) : Table.find? (spread n l) m = none := by
  induction l generalizing n with
  | nil => rfl
  | cons b l ih =>
    simp only [spread]
    split
    · exact ih _ (by omega)
    · simp only [Table.find?]
      rw [if_neg (by omega), ih _ (by omega)]

theorem spread_bytes (s : State) (l : List Byte) (n : Nat) (h : 2 ^ 40 ≤ n) (hl : s.cellLog = [])
    (hs : ∀ m, n ≤ m → Table.find? s.cells m = Table.find? (spread n l) m) : s.cellBytes n l.length = l := by
  induction l generalizing n with
  | nil => rfl
  | cons b l ih =>
    have at_ : s.cell n = b := by
      simp only [State.cell, hl, logFind, Table.read, hs n (Nat.le_refl n), spread]
      split
      · rename_i e
        rw [spread_below l _ _ (by omega)]
        simp [unlistedCell, e]
        omega
      · simp [Table.find?]
    have rest : s.cellBytes (n + 1) l.length = l := by
      refine ih (n + 1) (by omega) fun m hm => ?_
      rw [hs m (by omega)]
      simp only [spread]
      split
      · rfl
      · simp only [Table.find?]
        rw [if_neg (by omega)]
    simp only [List.length_cons, State.cellBytes, at_, rest]

/-- A package into whose boot buffer that image was pushed. -/
def pushed : State :=
  let s := after fun s => { booting 9 s with boot := { s.boot with pushing := some image0.length } }
  { s with cells := spread (bootCell 0) image0 }

theorem pushed_bytes : (pushed.begun at0 39).cellBytes (bootCell 0) image0.length = image0 :=
  spread_bytes _ _ _ (by decide) (by decide) fun m _ => rfl

theorem witness_Resets_pushed (c : Accepts) :
    let b := pushed.begun at0 39
    pushed.On at0 39 ∧ b.boot.pushing = some image0.length ∧ image0.length ≠ 0 ∧ image0.length ≤ 8388608 ∧ image0.length % 8 = 0 ∧
      ∃ t, b.tripReset.takeImage (b.cellBytes (bootCell 0) image0.length) = .ok t := by
  refine ⟨by decide, by decide, by decide, by decide, by decide, ?_⟩
  rw [pushed_bytes]
  exact image_passes c _ (by decide) rfl (by decide) (by decide) (by decide) (by decide)


/-! Keys (chapter 17). RFC 5649 and HMAC are opaque in the model (Config), so a witness of a blob that is accepted supposes what the
unwrapping answers. -/

/-- KEY_CMD: with a command in progress, with none, by the target of the SMBus; its operations. -/
theorem witness_Keys_command :
    let s := after fun s => { s with key := { s.key with cmd := some ⟨1, 5, 0x1F0, [], [], 0⟩ } }
    s.Admits at0 .pf0 0x280020 ∧ (s.admitted at0 .pf0 0x280020).key.cmd.isSome = true ∧ live.Admits at0 .pf0 0x280020 ∧
      (live.admitted at0 .pf0 0x280020).key.cmd = none ∧
      (∀ op ∈ [1, 2, 3, 4, 5, 6, 7, 8, 9], wordGet (BitVec.ofNat 32 (op * 2 ^ 28)) 31 28 = op) ∧
      (let t := after fun s => { s with boot := { s.boot with option := { s.boot.option with smbAttest := true } } }
       t.Admits at0 .smb 0x280020 ∧ Req.smb ≠ .pf0 ∧ (1 == 5 && Req.smb == .smb && (t.admitted at0 .smb 0x280020).boot.option.smbAttest) = false ∧
         (t.admitted at0 .smb 0x280020).key.cmd = none) := by decide

/-- The life cycle's codes, the operations they allow, and a buffer that is no bank. -/
theorem witness_Keys_lifecycle :
    let b := live.admitted at0 .pf0 0x280020
    let u := b.emit (.hostRead 0 (b.pair 0 Reg.KEY_CMD_ADDR_LO Reg.KEY_CMD_ADDR_HI) 200)
    let s := after fun s => { s with boot := { s.boot with fuses := { s.boot.fuses with lc := 1 } } }
    let c := s.admitted at0 .pf0 0x280020
    lcAllows 6 b.lc = true ∧ u.provisionBank [] = none ∧ s.Admits at0 .pf0 0x280020 ∧ c.key.cmd = none ∧ lcAllows 6 c.lc = false := by
  decide

/-- A bank that TRANSPORT unwraps. -/
theorem witness_Keys_bank (h : Config.unwrap Config.transportKey (List.replicate 200 0) =
      some ([0x4F, 0x57, 0x4E, 0x37] ++ live.serialBytes ++ List.replicate 180 0)) :
    let b := live.admitted at0 .pf0 0x280020
    let u := b.emit (.hostRead 0 (b.pair 0 Reg.KEY_CMD_ADDR_LO Reg.KEY_CMD_ADDR_HI) 200)
    live.Admits at0 .pf0 0x280020 ∧ b.key.cmd = none ∧ lcAllows 6 b.lc = true ∧ ∃ bank, u.provisionBank (List.replicate 200 0) = some bank := by
  refine ⟨by decide, by decide, by decide, List.replicate 176 0, ?_⟩
  unfold State.provisionBank
  rw [h]
  decide

/-- The load of handle 5 on die 1, its directory of eight entries in host memory. -/
def load5 : KeyLoad := ⟨5, 0, true, []⟩
def loading (f : State → State := id) : State := after fun s => f <|
  State.modDie { s.set 0 F.KEY_DIR_CFG_KEY_DIR_COUNT 8 with
    evt := { s.evt with bme := [(0, true)] },
    boot := { s.boot with fuses := { s.boot.fuses with lc := 1, bank := List.replicate 176 0 ++ crc32c (List.replicate 176 0) } } } 1 fun x =>
      { x with keyLoads := [load5] }

/-- That package with the load taken out. -/
def loaded (s : State) : State :=
  (s.begun at1 34).modDie 1 fun x => { x with keyLoads := x.keyLoads.filter fun y => y != load5 }

theorem witness_Keys_rejected :
    loading.On at1 34 ∧ ((loading.begun at1 34).die 1).keyLoads.find? (fun l => l.handle == 5) = some load5 ∧
      (loaded loading).fetchKey load5 [] [] = .error (5, 0, false) := by
  refine ⟨by decide, by decide, by rfl⟩

def entry5 : List Byte := List.replicate 9 0 ++ [1] ++ List.replicate 6 0
def blob5 : List Byte := [0x4B, 0x42, 0x4C, 0x37, 2, 1, 0, 0, 5, 0] ++ List.replicate 62 0

/-- A key that arrives: into a free slot, and where every slot of PF0 is pinned. -/
theorem witness_Keys_arrives (h : ∀ k, Config.unwrap k (List.replicate 56 0) = some (blob5.take 16 ++ List.replicate 32 0)) :
    (loaded loading).fetchKey load5 entry5 blob5 = .ok (0, 1, List.replicate 32 0) ∧ (loaded loading).takeSlot 1 0 = some (0, false) ∧
      Table.find? (loaded loading).key.flushedAt 5 = none ∧ (loaded loading).key.tamperAt = none := by
  refine ⟨?_, by decide, by decide, by decide⟩
  simp only [State.fetchKey, show (loaded loading).flag 0 F.KEY_DIR_CFG_DIR_DEVICE = false by decide,
    show (loaded loading).busMaster 0 = true by decide, show byteAt entry5 8 = 0 by decide, show byteAt entry5 9 = 1 by decide,
    show bit 1 0 = true by decide, show bit 1 1 = false by decide, show (loaded loading).get 0 F.KEY_DIR_CFG_KEY_DIR_COUNT = 8 by decide,
    show entry5.length = 16 by decide, show blob5.length = 72 by decide, load5, State.unwrapBlob,
    show (loaded loading).boot.fuses.ownerValid = true by decide, show blob5.drop 16 = List.replicate 56 0 by decide, h, if_true,
    Bool.false_eq_true, if_false]
  rfl

theorem witness_Keys_no_slot :
    let s := loading fun s => s.modDie 1 fun x => { x with
      keySlots := (List.range 64).map fun n => (n, { handle := 100 + n, key := [], use_ := 1, pinned := true }) }
    s.On at1 34 ∧ ((s.begun at1 34).die 1).keyLoads.find? (fun l => l.handle == 5) = some load5 ∧ (loaded s).takeSlot 1 0 = none := by
  decide

theorem witness_Keys_holdoff :
    let s := after fun s => clocked 7 (s.modDie 1 fun x => { x with keyFail := [(5, 7)] })
    s.On at1 34 ∧ Table.find? ((s.begun at1 34).die 1).keyFail 5 = some 7 ∧ 7 ≤ (s.begun at1 34).now := by decide

/-- Tampers: both inputs and a glitch, and the limit of rejected blobs. -/
theorem witness_Keys_tamper :
    let s := after fun s => { s with key := { s.key with rejects := List.replicate 16 0 } }
    s.On at0 34 ∧ (s.begun at0 34).tamperCounts 0 1 = true ∧ (s.begun at0 34).tamperCounts 0 4 = true ∧ s.On at1 34 ∧
      (s.begun at1 34).tamperCounts 1 3 = true := by decide


/-! Register accesses (chapter 19). -/

/-- The verdict on an access to an address as a write and as a read. -/
def judged (s : State) (q : Req) (addr len : Nat) (be : Bool := true) : Verdict × Verdict :=
  let b := (elapse at0 s).serve at0
  (b.accessVerdict q addr len be true, b.accessVerdict q addr len be false)

/-- An access of PF0 that waits. -/
def waiter (addr : Nat) (write sem : Bool) (dl : Option Nat) : Waiting :=
  ⟨.pf0, addr, addr / 0x1000000, addr % 0x1000000, write, 1, 0, 0, {}, sem, dl, none⟩

/-- Accesses served, of a bad shape, to no die, and denied. -/
theorem witness_Accesses_decided :
    (elapse at0 live).resting = false ∧ judged live .pf0 0x000020 1 = (.go, .go) ∧ judged live .pf0 0 0 = (.shape, .shape) ∧
      judged live .pf0 0x000020 1 false = (.shape, .shape) ∧ judged live .pf0 0x07FFFFFC 3 = (.shape, .shape) ∧
      judged live .pf0 0x07000000 2 = (.noDie, .noDie) ∧ judged live (.vf 1) 0x0008 1 = (.denied, .denied) ∧
      judged live .smb 0x280080 1 = (.denied, .denied) ∧
      judged (after fun s => s.set 0 F.RST_STRAP_BOOT 2) .pf0 0x010034 1 = (.denied, .go) := by decide

/-- Accesses to a die that is out, to what does not answer, to an island that is off, to one that does not run, and behind a write. -/
theorem witness_Accesses_stopped :
    judged (after fun s => { s with pkg := { s.pkg with diesCut := 2 } }) .pf0 0x01000020 1 = (.dieOut, .dieOut) ∧
      judged (after fun s => s.set 0 F.SKN_STATUS_STATE 1) .pf0 0x01000020 1 = (.silent, .silent) ∧
      judged (after fun s => s.modIslands 1 fun i => { i with off := 2 ^ 44 - 1 }) .pf0 0x01100000 1 = (.islandOff, .islandOff) ∧
      judged (after fun s => s.modIslands 1 fun _ => { ok := 2 ^ 37, held := 2 ^ 20 }) .pf0 0x01220000 1 = (.waits, .waits) ∧
      judged (after fun s => { s.modIslands 1 (fun _ => { ok := 2 ^ 37, held := 2 ^ 20 }) with
        access := { s.access with waiting := [waiter 0x01220000 true false (some 2000000)] } }) .pf0 0x01000020 1 = (.behind, .behind) := by
  decide

/-- Accesses to a channel whose semaphore function 1 holds. -/
theorem witness_Accesses_held : judged (after fun s => s.set 0 F.BRG_SEM_HOLDER 1 0) .pf0 0x0C0000 1 = (.held, .held) := by decide

/-- Reads with a latch, of a semaphore, and of the fence. -/
theorem witness_Accesses_reads :
    loPair 0x010000 = true ∧ 63 < 64 ∧ 255 < 256 ∧ isFence .pf0 0x3F0040 = true ∧ isFence (.vf 1) 0xFFF0 = true ∧
      isFence .pf0 0xFFF0 = false ∧ judged live .pf0 0x3F0040 1 = (.go, .go) ∧ judged live .pf0 (barAddr 0 0x010000) 1 = (.go, .go) ∧
      judged live .pf0 (barAddr 0 (0x203000 + 4 * 63)) 1 = (.go, .go) := by decide

/-- Waits at their deadlines: an access for its island, one for a semaphore, and a message. -/
theorem witness_Waits_end :
    let m : Msg := ⟨.smb, .smb, 2, 0, 0, 0x01220000, 1, [5], [], 0, some 5, {}⟩
    let s := after fun s => clocked 5 (s.modIslands 1 fun _ => { ok := 2 ^ 37, held := 2 ^ 20 })
    let w := { s with access := { s.access with waiting := [waiter 0x01220000 true false (some 5), waiter 0x0C0000 false true (some 5)] } }
    let v := { s with access := { s.access with msgs := [m] } }
    let b := elapse at1 w
    let c := elapse at1 v
    let past := fun (d : Option Nat) => (d.map (fallen b)).getD false
    let ended := fun (x : Waiting) => past x.deadline && (if x.sem then b.primary == at1.die else x.die == at1.die)
    at1.die < w.part.dies ∧ b.clock.stopped = false ∧ (b.access.waiting.filter ended).length = 1 ∧
      ((b.access.waiting.filter ended).foldl State.waitEnds { b with access := { b.access with waiting := [] } }).access.msgs = [] ∧
      c.access.waiting = [] ∧ c.access.msgs = [m] ∧ ((m.deadline.map (fallen c)).getD false && (m.addr + 4 * m.done) / 0x1000000 == at1.die) = true := by
  decide

/-- A package on whose VDP 31 window 0 may be locked. -/
def lockable (f : State → State := id) : State := bridged fun s => f (s.set 0 F.BRG_WIN_CFG_LOCKABLE 1 0)

theorem witness_Waits_locked :
    let b := lockable.begun at0 19
    let u := b.activity
    let w := u.window? 0 (.vdp 31 false) 0
    let x := lockable fun s => { s with brg := { s.brg with lock := some ⟨248, some 31, 0, 0, false⟩ } }
    let y := x.begun at0 19
    lockable.On at0 19 ∧ 248 < 249 ∧ at0.die = b.primary ∧ channelSem 0x0C0000 = some 0 ∧ channelSem 0x000020 = none ∧
      (u.fenced 248 w || u.brokenFor 248 (u.vdpOf (.vdp 31 false) w)) = false ∧ u.winFlag w F.BRG_WIN_CFG_LOCKABLE = true ∧
      u.vdpOf (.vdp 31 false) w = some 31 ∧ u.vdpCarried 31 = true ∧ u.brg.lock = none ∧
      x.On at0 19 ∧ at0.die = y.primary ∧ y.activity.brg.lock = some ⟨248, some 31, 0, 0, false⟩ ∧
      (y.activity.fenced 248 w || y.activity.brokenFor 248 (some 31)) = false := by decide

/-- Locked reads that are refused: behind a fence, of a window that may not be locked, of a VDP that is not there, of one that is not
carried. -/
theorem witness_Waits_refused :
    let s := bridged fun s => s.setPair 0 Reg.BRG_FN_FENCE_LO Reg.BRG_FN_FENCE_HI 1 248
    let u := (s.begun at0 19).activity
    let t := lockable fun s => s.set 0 F.BRG_VDP_CFG_VALID 0 31
    let far := lockable fun s => s.set 0 F.BRG_VDP_CFG_TGT_HUB 9 31
    let x := (t.begun at0 19).activity
    let y := (far.begun at0 19).activity
    let no := fun (u : State) => (u.fenced 0 (u.window? 0 (.vdp 31 false) 0) || u.brokenFor 0 (u.vdpOf (.vdp 31 false) (u.window? 0 (.vdp 31 false) 0)))
    s.On at0 19 ∧ (u.fenced 248 (u.window? 248 (.vdp 31 false) 0) || false) = true ∧ no u = false ∧
      u.winFlag (u.window? 0 (.vdp 31 false) 0) F.BRG_WIN_CFG_LOCKABLE = false ∧
      t.On at0 19 ∧ no x = false ∧ x.winFlag (x.window? 0 (.vdp 31 false) 0) F.BRG_WIN_CFG_LOCKABLE = true ∧
      x.vdpOf (.vdp 31 false) (x.window? 0 (.vdp 31 false) 0) = none ∧
      far.On at0 19 ∧ no y = false ∧ y.winFlag (y.window? 0 (.vdp 31 false) 0) F.BRG_WIN_CFG_LOCKABLE = true ∧
      y.vdpOf (.vdp 31 false) (y.window? 0 (.vdp 31 false) 0) = some 31 ∧ y.vdpCarried 31 = false := by decide

/-- A write of a semaphore that its writer holds, and that another holds; RELEASE alone, FORCE alone. -/
theorem witness_Semaphores_writes : ∀ h ∈ [0, 7],
    let s := after fun s => s.set 0 F.BRG_SEM_HOLDER h 63
    let b := s.admitted at0 .pf0 (0x203000 + 4 * 63)
    let c := s.admitted at0 (.vf 1) (0x203000 + 4 * 63)
    s.Admits at0 .pf0 (0x203000 + 4 * 63) ∧ at0.die = b.primary ∧ wordGet 1#32 0 0 = 1 ∧ wordGet 1#32 1 1 = 0 ∧ wordGet 2#32 1 1 = 1 ∧
      wordGet 2#32 0 0 = 0 ∧ b.semHolder 63 = h ∧ (c.primary = 0 ∧ c.semHolder 63 = h ∧ Req.vf 1 ≠ .pf0) := by decide

theorem witness_Semaphores_unlock : ∀ x ∈ [none, some (Lock.mk 7 none 4 0 false), some (Lock.mk 7 (some 31) 0 0 false), some (Lock.mk 7 (some 31) 0 0 true)],
    let s := after fun s => { s with brg := { s.brg with lock := x } }
    s.On at0 19 ∧ (s.begun at0 19).brg.lock = x := by decide

/-- Die 1 may take the primary port's part; die 0 has it. -/
theorem witness_Semaphores_promote :
    let s := after fun s => s.set 0 F.BRG_PORT_STATUS_STANDBY 2
    let b := s.admitted at0 .pf0 0x20000C
    s.Admits at0 .pf0 0x20000C ∧ wordGet 0x80000001#32 31 31 = 1 ∧ b.standby (wordGet 0x80000001#32 2 0) = true ∧
      b.standby (wordGet 0x80000000#32 2 0) = false := by decide

theorem witness_Semaphores_automatic :
    let s := after fun s => (clocked (ms 100000) { s.set 0 F.BRG_PORT_STATUS_STANDBY 2 with brg := { s.brg with downAt := some 0 } }).set 0
      F.BRG_PORT_CFG_AUTO_PROMOTE 1
    let b := s.begun { at0 with die := 0 } 19
    s.On { at0 with die := 0 } 19 ∧ 2 < 256 ∧ b.brg.downAt = some 0 ∧ b.standby 1 = true ∧ bit 2 1 = true ∧ (∀ e, e < 1 → ¬ (b.standby e = true ∧ bit 2 e = true)) ∧
      b.flag 0 F.BRG_PORT_CFG_AUTO_PROMOTE = true ∧ fallen b (0 + ms (b.get 0 F.BRG_PORT_CFG_PROMOTE_AFTER_MS)) = true := by decide


/-! The machine (chapters 1 and 19). -/

/-- A step of a state in whose queue a command stands. -/
theorem witness_Step_front : (∃ c rest, { live with pending := [Instr.rstNAssert at0, Instr.detectTimeout at1 7] }.pending = c :: rest) ∧
    State.reset.pending = [] := ⟨⟨_, _, rfl⟩, rfl⟩

theorem witness_Step_kept : live.Kept ∧ (∃ t, step { live with pending := [Instr.detectTimeout at1 7] } = .next t) ∧
    (∃ t, step live = .next t) := ⟨live_kept, ⟨_, rfl⟩, ⟨_, rfl⟩⟩

/-- Fields of a register at its ends. -/
theorem witness_Writes_fields : F.BRG_NOTICE_STALE_COUNT.lo ≤ F.BRG_NOTICE_STALE_COUNT.hi ∧ F.BRG_NOTICE_STALE_COUNT.hi < 32 ∧
    F.BRG_PORT_STATUS_STANDBY.reg = F.BRG_PORT_STATUS_PRIMARY.reg ∧
    (F.BRG_PORT_STATUS_STANDBY.hi < F.BRG_PORT_STATUS_PRIMARY.lo ∨ F.BRG_PORT_STATUS_PRIMARY.hi < F.BRG_PORT_STATUS_STANDBY.lo) := by decide

/-- Islands that do not run, right after reset. -/
theorem witness_Islands_stopped : State.reset.Kept ∧ at1.die < State.reset.part.dies ∧
    (∀ i ∈ [8, 9, 12, 13, 19, 21, 24, 25, 26, 29, 30, 34], State.reset.runs at1.die i = false) := by decide

theorem witness_BadAccesses : live.Kept ∧ live.Unwaited ∧ (elapse at0 live).resting = false ∧
    (∀ x ∈ [(0, 0, true), (0x07FFFFFC, 3, true), (0x20, 1, false), (0x22, 1, true), (0x24, 2, true)],
      x.1 < 2 ^ 27 ∧ x.1 ≠ 0x3F0040 ∧ (x.2.1 = 0 ∨ 2 < x.2.1 ∨ x.2.2 = false ∨ x.1 % 0x1000000 % 4 ≠ 0 ∨ (x.2.1 = 2 ∧ x.1 % 0x1000000 % 8 ≠ 0))) ∧
    (∀ x ∈ [0x02000000, 0x07FFFFF8], x < 2 ^ 27 ∧ x ≠ 0x3F0040 ∧ live.part.dies ≤ x / 0x1000000 ∧
      ∀ len ∈ [1, 2], ¬ (len = 0 ∨ 2 < len ∨ true = false ∨ x % 0x1000000 % 4 ≠ 0 ∨ (len = 2 ∧ x % 0x1000000 % 8 ≠ 0))) := by decide

/-- A counter, PKG_BAD_ACCESS, and a register of flags that are cleared by writing 1. -/
theorem witness_Clears :
    live.Admits at0 .pf0 0x200104 ∧ regAt 0x200104 = some Reg.BRG_NOTICE_STALE ∧ (live.admitted at0 .pf0 0x200104).acts 0 0x200104 = true ∧
      wordGet 0x80000000#32 31 31 = 1 ∧ isCounter Reg.BRG_NOTICE_STALE = true ∧
      live.Admits at0 .pf0 0x3F0010 ∧ (∃ r, regAt 0x3F0010 = some r) ∧ (live.admitted at0 .pf0 0x3F0010).acts 0 0x3F0010 = true ∧
      live.Admits at1 .pf0 0x0A0808 ∧ regAt 0x0A0808 = some Reg.MOD_CAGE_FLAGS ∧
      (live.admitted at1 .pf0 0x0A0808).acts 1 0x0A0808 = true ∧ 0x80#32 &&& Reg.MOD_CAGE_FLAGS.mask (· == .w1c) ≠ 0 := by
  refine ⟨by decide, by decide, by decide, by decide, by decide, by decide, ⟨_, rfl⟩, by decide, by decide, by decide, by decide, by decide⟩

/-- A doorbell of outlet 127: of as many records as are outstanding, and of one more. -/
theorem witness_Doorbells : ∀ p ∈ [4, 3],
    let s := after fun s => (s.set 1 F.EVT_OUT_STATUS_OUTSTANDING p 127).set 1 F.EVT_OUT_PRODUCER_P 5 127
    s.Admits at1 .pf0 (0x051020 + 0x40 * 127) ∧ s.get 1 F.EVT_OUT_STATUS_OUTSTANDING 127 = p ∧
      (s.get 1 F.EVT_OUT_PRODUCER_P 127 + 2 ^ 32 - (1 : Word).toNat) % 2 ^ 32 = 4 := by decide

/-- Notices at 4 s and 1 ns later. -/
theorem witness_Notices :
    let s := bridged (clocked 4000000000000)
    let t := bridged (clocked 4000000001000)
    s.On at0 19 ∧ tsPs (s.begun at0 19).ts = tsPs 0 + 4000000000000 ∧ t.On at0 19 ∧ tsPs 0 + 4000000000000 < tsPs (t.begun at0 19).ts := by
  decide

theorem witness_Frames_writes :
    let s := after fun s => s.set 0 F.RST_BOOT_PAGE_PAGE 2047
    live.Unwaited ∧ live.Admits at1 .pf0 0x000020 ∧ (∀ off ∈ [0x3F0020, 0x3F0024, 0x3F0028, 0x3F002C], live.Admits at0 .pf0 off) ∧
      (∀ off ∈ [0x011000, 0x011FFC], s.Admits at0 .pf0 off ∧ off % 4 = 0) ∧ live.Admits at0 .pf0 0x060000 := by decide

theorem witness_Frames_events : (∀ p ∈ [0, 2], live.On at0 (14 + p)) ∧ live.spliceHere 0 0 = true ∧ live.On at1 30 := by decide

/-- Semaphore 63: free, held by the reader, held by another; and 5, which is never granted. -/
theorem witness_Semaphores_reads : ∀ h ∈ [0x1FF, 0, 7],
    let s := after fun s => s.set 0 F.BRG_SEM_HOLDER h 63
    s.Kept ∧ s.Unwaited ∧ (elapse at0 s).resting = false ∧ at0.die = s.primary ∧ s.semHolder 63 = h ∧ semUsable 63 = true ∧
      semUsable 5 = false ∧ (elapse at0 s).verdict .pf0 0 (0x203000 + 4 * 63) 1 true false = .go ∧
      (elapse at0 s).verdict .pf0 0 (0x203000 + 4 * 5) 1 true false = .go := by decide

/-- A pair whose high half is not latched, and one whose high half is. -/
theorem witness_HighHalf : ∀ l ∈ [[], [(barAddr 1 0x1A0014, (7 : Word))]],
    let s := after fun s => s.setLatches .pf0 l
    s.Kept ∧ s.Unwaited ∧ (elapse at1 s).resting = false ∧ loPair 0x1A0010 = true ∧
      (elapse at1 s).verdict .pf0 1 0x1A0010 1 true false = .go ∧ (elapse at1 s).verdict .pf0 1 0x1A0014 1 true false = .go ∧
      (Table.find? (s.latches .pf0) (barAddr 1 0x1A0014)).isSome = !l.isEmpty ∧ s.get 0 F.PWR_STATUS_CURRENT ≠ 1 := by decide


/-! Rules across the manual. -/

/-- A part of eight dies whose mask of die 7 covers output 18, and the access to the mask on a part of two. -/
theorem witness_CutThrough :
    let s : State := { live with part := { live.part with dies := 8 } }
    let t := s.set 7 F.SWC_CT_OFF_CT_OFF 0x40000
    bit (t.get ((512 * 7 + 16 * 18) / 512) F.SWC_CT_OFF_CT_OFF) ((512 * 7 + 16 * 18) % 512 / 16) = true ∧
      live.Unwaited ∧ live.Kept ∧ live.part.dies ≠ 8 ∧ (elapse at1 live).resting = false ∧
      (elapse at1 live).verdict .pf0 1 0x100018 1 true false = .go ∧ Table.find? (live.latches .pf0) (barAddr 1 0x100018) = none ∧
      live.Admits at1 .pf0 0x100018 := by decide

/-- A bring-up timer of each kind that has run out, at attempts 0, 3 and 255. -/
theorem witness_BringUpFailures : ∀ st ∈ [0, 3, 5], ∀ n ∈ [0, 3, 255],
    let s := link st 3 ply7 fun s => s.set 1 F.PLY_LINK_STATE_ATTEMPTS n 7
    s.On at1 8 ∧ s.ply? 1 7 = some ply7 ∧ ply7.deadline ≤ (s.begun at1 8).now ∧ s.plyState 1 7 = st ∧ (s.begun at1 8).heldLow 1 7 = false ∧
      s.get 1 F.PLY_LINK_STATE_ATTEMPTS 7 = n := by decide

theorem witness_Destroy : ∀ st ∈ [0, 1, 3, 4, 5],
    let s := hosted fun s => { s with vfn := { s.vfn with slots := [(62, { st := st })] } }
    let b := s.admitted at0 .pf0 0x240000
    s.Admits at0 .pf0 0x240000 ∧ wordGet 0x4000003E#32 31 28 = 4 ∧ wordGet 0x4000003E#32 7 0 = 62 ∧ s.flag 0 F.VFN_CMD_STATUS_BUSY = false ∧
      b.validFunc 62 = true ∧ b.runs (homeDie 62) 36 = true ∧ (s.slot 62).st = st := by decide

theorem witness_Eddy : ∀ c ∈ [0, 1], let s := after fun s => s.set 0 F.PWR_STATUS_CURRENT c
    s.On at0 37 ∧ at0.die = 0 ∧ 3 < 4 ∧ s.get 0 F.PWR_STATUS_CURRENT = c := by decide

theorem witness_KeyPins : ∀ held ∈ [true, false],
    let s := after fun s => if held then s.modDie 1 fun x => { x with keySlots := [(63, { handle := 65535, key := [], use_ := 1 })] } else s
    s.Admits at0 .pf0 0x280020 ∧ s.key.cmd = none ∧ wordGet 0x2000FFFF#32 15 0 = 65535 ∧ s.handleHeld 65535 = held ∧
      wordGet 0x2000FFFF#32 31 28 = 2 ∧ wordGet 0x3000FFFF#32 31 28 = 3 := by decide

end Sys2Proof.Tests
end

section
/-! Reads over writes of a field and of a run of bytes, and O43. -/

namespace Sys2Proof.Machine

/-- A field's write changes its own register only. -/
theorem State.reg_set (s : State) (d : Nat) (f : Fld) (v i j n : Nat) :
    (s.set d f v i j).reg n =
      if barAddr d (f.reg.off i j) = n then wordSet (s.word d f.reg i j) f.hi f.lo v else s.reg n :=
  s.reg_setReg ..

theorem State.reg_set_of_ne (s : State) {d i j n : Nat} {f : Fld} (h : n ≠ barAddr d (f.reg.off i j)) (v : Nat) :
    (s.set d f v i j).reg n = s.reg n := by
  rw [State.reg_set, if_neg h.symm]

/-- A field reads the value written to it, modulo its width. -/
theorem State.get_set_same (s : State) {f : Fld} (hlo : f.lo ≤ f.hi) (hhi : f.hi < 32) (d v i j : Nat) :
    (s.set d f v i j).get d f i j = v % 2 ^ (f.hi + 1 - f.lo) := by
  rw [State.get, State.word, State.reg_set, if_pos rfl, wordGet_wordSet_same _ _ _ _ hlo hhi]

/-- A field of the same register, apart from the written one, reads as before. -/
theorem State.get_set_apart (s : State) {f g : Fld} (hlo : f.lo ≤ f.hi) (hhi : f.hi < 32) (hr : g.reg = f.reg)
    (h : g.hi < f.lo ∨ f.hi < g.lo) (d v i j : Nat) : (s.set d f v i j).get d g i j = s.get d g i j := by
  rw [State.get, State.word, hr, State.reg_set, if_pos rfl, wordGet_wordSet_other _ _ _ _ _ _ hlo hhi h, State.get, hr]

/-- A byte written at a cell. -/
theorem State.cell_cons (s : State) (n : Nat) (b : Byte) (m : Nat) :
    State.cell { s with cellLog := (n, b) :: s.cellLog } m = if n = m then b else s.cell m := by
  rw [State.cell, logFind_cons]
  split <;> rfl

/-- Bytes written from a cell on read back, and every other byte reads as before. -/
theorem State.cell_setCells (s : State) (n m : Nat) (l : List Byte) :
    (s.setCells n l).cell m = if n ≤ m ∧ m < n + l.length then l.getD (m - n) 0 else s.cell m := by
  induction l generalizing s n with
  | nil => rw [State.setCells, if_neg (by simp)]
  | cons b bs ih =>
    rw [State.setCells, ih, State.cell_cons, List.length_cons]
    rcases Nat.lt_trichotomy m n with hlt | rfl | hgt
    · rw [if_neg (by omega), if_neg (by omega), if_neg (by omega)]
    · rw [if_neg (by omega), if_pos rfl, if_pos (by omega), Nat.sub_self, List.getD_cons_zero]
    · obtain ⟨k, rfl⟩ := Nat.exists_eq_add_of_lt hgt
      rw [if_neg (show ¬ n = n + k + 1 by omega), show n + k + 1 - n = k + 1 by omega, List.getD_cons_succ,
        show n + k + 1 - (n + 1) = k by omega]
      exact ite_congr (propext (by omega)) (fun _ => rfl) fun _ => rfl

/-- Settles O43: the laws of reads over writes, and of the fold of a command's log into the canonical tables. -/
theorem aCommandEndsInItsLatestWrites : Obligations.ACommandEndsInItsLatestWrites := by
  refine ⟨fun s n m w => ?_, fun s d v i j f g hlo hhi => ⟨s.get_set_same hlo hhi d v i j, fun hr hap => ?_⟩,
    State.cell_setCells, fun s u n hk => ⟨State.reg_commit hk n, State.cell_commit hk n⟩,
    fun s u hk => State.kept_commit hk u⟩
  · rw [State.reg_setReg]
    exact ite_congr (propext eq_comm) (fun _ => rfl) fun _ => rfl
  · exact s.get_set_apart hlo hhi hr hap d v i j

end Sys2Proof.Machine
end

section
/-! How a register write by PF0 is carried out where nothing waits, and what an admitted write and the end of a command keep. -/

namespace Sys2Proof.Machine

/-! Commands whose next state is known. -/

theorem Yields.gives {i : Instr} {s u : State} {P : State → Prop} (h : Yields i s u) (hp : P (s.commit u)) : Gives i s P :=
  ⟨_, h, hp⟩

/-- With nothing waiting there is nothing to serve. -/
theorem State.serve_of_unwaited {s : State} (h : s.Unwaited) (a : At) : s.serve a = s := by
  obtain ⟨hw, hp, hm⟩ := h
  have retry : s.retryAll a = s := by rw [State.retryAll, hw, List.foldl_nil, ← hw]
  have parked : s.runAllParked = s := by rw [State.runAllParked, hp, List.foldl_nil, ← hp]
  have msgs : State.advanceAll a s = s := by rw [State.advanceAll, hm, List.foldl_nil, ← hm]
  rw [State.serve, retry, parked, msgs]

theorem Settles.yields {a : At} {i : Instr} {s u : State} (h : Settles a i s u) (hu : u.Unwaited) : Yields i s u := by
  rw [Settles, State.serve_of_unwaited hu] at h
  exact h

/-! What the end of a command keeps. The first three are proved by rewriting: as definitional equalities, a use of them by simp leaves
the kernel to compare whole states. -/

@[simp] theorem State.commit_out (s u : State) : (s.commit u).out = u.out := by rw [State.commit]
@[simp] theorem State.commit_dies (s u : State) : (s.commit u).dies = u.dies := by rw [State.commit]
@[simp] theorem State.commit_evt (s u : State) : (s.commit u).evt = u.evt := by rw [State.commit]

theorem State.onlyRegs_commit {s u : State} {l : List Nat} (hk : s.Kept) (hregs : u.regs = s.regs) (h : s.OnlyRegs l u) :
    s.OnlyRegs l (s.commit u) := fun n hn => (State.reg_commit_eq hk hregs n).trans (h n hn)

theorem State.sameBytes_commit {s u : State} (hk : s.Kept) (h : u.cellLog = []) : s.SameBytes (s.commit u) := fun n => by
  rw [State.cell_commit hk, h]
  rfl

/-- A byte in a state that has not touched the table it began with reads the same after the command. -/
theorem State.cell_commit_eq {s u : State} (hk : s.Kept) (hu : u.cells = s.cells) (n : Nat) : (s.commit u).cell n = u.cell n := by
  have ⟨_, _, _, hlog⟩ := hk
  rw [State.cell_commit hk, State.cell, State.cell, hu, hlog]
  rfl

/-! What an admitted write finds. -/

theorem State.ungate_access (s : State) (d isl : Nat) : (s.ungate d isl).access = s.access := by
  unfold State.ungate; split <;> rfl

theorem State.tlpActivity_access (s : State) (q : Req) (off : Nat) : (s.tlpActivity q off).access = s.access := by
  unfold State.tlpActivity
  split
  · rfl
  · obtain ⟨i, l, e, h, -⟩ := s.activity_eq
    rw [h]

/-- An admitted write is noted in its requester's fence, and nothing waits that did not wait before. -/
theorem State.unwaited_admitted {s : State} (h : s.Unwaited) (a : At) (q : Req) (off : Nat) : (s.admitted a q off).Unwaited := by
  have hacc : (((elapse a s).tlpActivity q off).ungate a.die ((elapse a s).holder a.die off)).access = s.access :=
    (State.ungate_access ..).trans (State.tlpActivity_access ..)
  simp only [State.Unwaited, State.admitted, State.modFence, hacc]
  exact h

theorem State.admitted_dies {s : State} (h : s.Kept) (a : At) (q : Req) (off : Nat) : (s.admitted a q off).dies = s.dies := by
  obtain ⟨i, l, e, x, h1, -⟩ := s.admitted_eq h a q off; rw [h1]; rfl

theorem State.admitted_cells {s : State} (h : s.Kept) (a : At) (q : Req) (off : Nat) : (s.admitted a q off).cells = s.cells := by
  obtain ⟨i, l, e, x, h1, -⟩ := s.admitted_eq h a q off; rw [h1]; rfl

theorem State.cell_admitted {s : State} (h : s.Kept) (a : At) (q : Req) (off n : Nat) : (s.admitted a q off).cell n = s.cell n := by
  have ⟨_, _, _, hlog⟩ := h
  rw [State.cell, State.cell, State.admitted_cellLog h, State.admitted_cells h, hlog]

theorem State.onlyRegs_admitted {s : State} (h : s.Kept) (a : At) (q : Req) (off : Nat) :
    s.OnlyRegs eddyRegs (s.admitted a q off) := fun _ hn => State.reg_admitted h a q off hn

theorem State.get_admitted {s : State} (h : s.Kept) (a : At) (q : Req) (off : Nat) {d i j : Nat} {f : Fld}
    (hn : barAddr d (f.reg.off i j) ∉ eddyRegs) : (s.admitted a q off).get d f i j = s.get d f i j := by
  rw [State.get, State.get, State.word, State.word, State.reg_admitted h a q off hn]

/-- A write to the PWR or TRN block does not end EDDY (15 R400). -/
theorem State.reg_admitted_quiet {s : State} (h : s.Kept) (a : At) (q : Req) {off : Nat}
    (hq : (0x020000 ≤ off ∧ off < 0x030000) ∨ (0x060000 ≤ off ∧ off < 0x070000)) (n : Nat) :
    (s.admitted a q off).reg n = s.reg n := by
  have hact : (elapse a s).tlpActivity q off = elapse a s := if_pos (.inr (.inr hq))
  obtain ⟨-, -, hlog, -⟩ := h
  rw [State.admitted, State.modFence_reg, State.ungate_reg, hact, State.reg_elapse hlog]

/-! PF0's own space is BAR0 (19 R483). -/

theorem barAddr_div {off : Nat} (h : off < 0x1000000) (d : Nat) : barAddr d off / 0x1000000 = d := by
  unfold barAddr; omega

theorem barAddr_mod {off : Nat} (h : off < 0x1000000) (d : Nat) : barAddr d off % 0x1000000 = off := by
  unfold barAddr; omega

theorem State.spot_pf0 (s : State) {off : Nat} (h : off < 0x1000000) (d : Nat) : s.spot .pf0 (barAddr d off) = .reg d off := by
  simp only [State.spot, barAddr_div h, barAddr_mod h]

theorem State.decidedAt_pf0 (s : State) {off : Nat} (h : off < 0x1000000) (d len : Nat) :
    s.decidedAt .pf0 (barAddr d off) len = (d, off) := by
  simp only [State.decidedAt, s.spot_pf0 h]

theorem State.accessVerdict_pf0 {s : State} (hw : s.access.waiting = []) {off : Nat} (h : off < 0x1000000) (d len : Nat)
    (be write : Bool) : s.accessVerdict .pf0 (barAddr d off) len be write = s.verdict .pf0 d off len be write := by
  have hno : s.writeWaits .pf0 = false := by rw [State.writeWaits, hw, List.any_nil]
  simp [State.accessVerdict, barAddr_div h, barAddr_mod h, hno]

theorem exec_registerWrite (a : At) (q : Req) (addr len : Nat) (be : Bool) (v0 v1 : Word) (w : Around) (s : State) :
    exec (.registerWrite a q addr len be v0 v1 w) s = execRegisterWrite a q addr len be v0 v1 w s := rfl

/-- PF0's admitted write of a dword, with nothing waiting: the dword is written, and what that lets run is served. -/
theorem registerWrite_settles {a : At} {off : Nat} {s : State} (hw : s.Unwaited) (h : s.Admits a .pf0 off) (hd : a.die < 8)
    (hoff : off < 0x1000000) (v v1 : Word) (w : Around) :
    Settles a (.registerWrite a .pf0 (barAddr a.die off) 1 true v v1 w) s
      ((s.admitted a .pf0 off).writeDword a.die off a.cyc .pf0 v w) := by
  obtain ⟨-, hrest, hgo⟩ := h
  have haddr : barAddr a.die off < 2 ^ 27 := by unfold barAddr; omega
  have hserve : (elapse a s).serve a = elapse a s :=
    State.serve_of_unwaited (s := elapse a s) hw a
  have hbegin : (elapse a s).beginWrite a.cyc .pf0 (barAddr a.die off) 1 true v v1 w =
      (s.admitted a .pf0 off).writeDword a.die off a.cyc .pf0 v w := by
    rw [State.beginWrite, State.accessVerdict_pf0 (s := elapse a s) hw.1 hoff, hgo]
    simp [State.performWrite, State.decidedAt_pf0 _ hoff, State.spot_pf0 _ hoff, State.writeSpot, State.admitted]
  rw [Settles, exec_registerWrite]
  simp only [execRegisterWrite, onAccess, haddr, hrest, hserve, hbegin, decide_true, if_true, Bool.false_eq_true, if_false]

end Sys2Proof.Machine
end

section
/-! The writes that O49 names: scratch registers and the boot window. -/

namespace Sys2Proof.Machine

/-! Scratch registers (19 R494, R495). -/

/-- A register whose bits all take what is written holds the word afterwards; its second write is that of its SKN fields, of which it
has none. -/
theorem State.writePlain_scratch (s : State) {r : RegDesc} {off : Nat} (d : Nat) (v : Word)
    (hoff : r.off (r.index off).1 (r.index off).2 = off) (hrw : r.mask (fun x => x == .rw || x == .rws) = BitVec.allOnes 32)
    (hw1c : r.mask (· == .w1c) = 0#32) (hskn : r.mask (· == .skn) = 0#32) :
    s.writePlain d off r v = (s.setReg (barAddr d off) v).setReg (barAddr d off) v := by
  have hnone : ~~~ (0#32) = BitVec.allOnes 32 := by decide
  simp only [State.writePlain, State.writeSkn, State.word, State.setWord, State.reg_setReg, hoff, hrw, hw1c, hskn, hnone,
    BitVec.not_allOnes, BitVec.and_allOnes, BitVec.and_zero, BitVec.zero_and, BitVec.zero_or, BitVec.or_zero, BitVec.ofNat_eq_ofNat, if_true]

/-- The offsets of GLB_SCRATCH on a die, and of PKG_SCRATCH on die 0. -/
def ScratchAt (d off : Nat) : Prop :=
  off = 0x000020 ∨ (d = 0 ∧ (off = 0x3F0020 ∨ off = 0x3F0024 ∨ off = 0x3F0028 ∨ off = 0x3F002C))

theorem lt_of_scratchAt {d off : Nat} (h : ScratchAt d off) : off < 0x1000000 := by
  unfold ScratchAt at h; omega

theorem State.writeDword_scratch (s : State) {d off : Nat} (h : ScratchAt d off) (cyc : Nat) (q : Req) (v : Word) (w : Around) :
    s.writeDword d off cyc q v w = (s.setReg (barAddr d off) v).setReg (barAddr d off) v := by
  rcases h with rfl | ⟨rfl, h⟩
  · have hreg : regAt 0x000020 = some Reg.GLB_SCRATCH := by decide
    have hacts : s.acts d 0x000020 = true := rfl
    have hplain := s.writePlain_scratch (r := Reg.GLB_SCRATCH) (off := 0x000020) d v (by decide) (by decide) (by decide) (by decide)
    rw [← hplain, State.writeDword, hreg]
    simp [hacts, isCounter, State.writeLow, Reg.GLB_SCRATCH]
  · have hreg : regAt off = some Reg.PKG_SCRATCH := by rcases h with rfl | rfl | rfl | rfl <;> decide
    have hacts : s.acts 0 off = true := by rcases h with rfl | rfl | rfl | rfl <;> rfl
    have hplain := s.writePlain_scratch (r := Reg.PKG_SCRATCH) (off := off) 0 v
      (by rcases h with rfl | rfl | rfl | rfl <;> decide) (by decide) (by decide) (by decide)
    have hhigh : ¬ off < 0x0C0000 ∧ ¬ off < 0x200000 := by omega
    rw [← hplain, State.writeDword, hreg]
    simp [hacts, hhigh, isCounter, State.writeHigh, Reg.PKG_SCRATCH]

/-- PF0's admitted write of a scratch register reads back, and changes no other register but EDDY's end. -/
theorem gives_scratchWrite {a : At} {off : Nat} {s : State} (hw : s.Unwaited) (h : s.Admits a .pf0 off) (hd : a.die < 8)
    (hs : ScratchAt a.die off) (v v1 : Word) (w : Around) :
    Gives (.registerWrite a .pf0 (barAddr a.die off) 1 true v v1 w) s fun t => t.reg (barAddr a.die off) = v ∧
      s.OnlyRegs (barAddr a.die off :: eddyRegs) t ∧ s.SameBytes t ∧ t.out = [] ∧ t.dies = s.dies := by
  have hk := h.1
  have hset := registerWrite_settles hw h hd (lt_of_scratchAt hs) v v1 w
  rw [State.writeDword_scratch _ hs] at hset
  have hregs := State.admitted_regs hk a .pf0 off
  refine (hset.yields (State.unwaited_admitted hw a .pf0 off)).gives ⟨?_, State.onlyRegs_commit hk hregs fun n hn => ?_,
    State.sameBytes_commit hk (State.admitted_cellLog hk a .pf0 off), State.admitted_out hk a .pf0 off, State.admitted_dies hk a .pf0 off⟩
  · rw [State.reg_commit_eq hk (by simpa using hregs), State.reg_setReg, if_pos rfl]
  · have hne : barAddr a.die off ≠ n := (List.ne_of_not_mem_cons hn).symm
    rw [State.reg_setReg, if_neg hne, State.reg_setReg, if_neg hne,
      State.reg_admitted hk a .pf0 off (List.not_mem_of_not_mem_cons hn)]

/-! The boot window (16 R427). -/

theorem RegDesc.holds_iff (r : RegDesc) (off : Nat) : r.holds off = true ↔
    r.base ≤ off ∧ (r.index off).1 < r.n1 ∧ (r.index off).2 < r.n2 ∧ r.off (r.index off).1 (r.index off).2 = off := by
  simp [RegDesc.holds, and_assoc]

/-- A register that a die has once lies at its base alone. -/
theorem RegDesc.holds_single {r : RegDesc} (h1 : r.n1 = 1) (h2 : r.n2 = 1) (off : Nat) : r.holds off = true ↔ off = r.base := by
  have hoff : r.off 0 0 = r.base := by simp [RegDesc.off]
  have hix : r.index off = (0, 0) := by simp [RegDesc.index, h1, h2]
  rw [RegDesc.holds_iff, hix, h1, h2, hoff]
  omega

/-- The 1,024 dwords of the boot window. -/
structure InBootWindow (off : Nat) : Prop where
  lower : 0x011000 ≤ off
  upper : off < 0x012000
  aligned : off % 4 = 0

theorem regAt_bootWindow {off : Nat} (h : InBootWindow off) : regAt off = some Reg.RST_BOOT_WIN := by
  obtain ⟨hlo, hup, hal⟩ := h
  have hblock : blockRegs off = Reg.blockRST := by
    rw [blockRegs, if_neg (by omega), if_pos (by omega)]
  have hwin : Reg.RST_BOOT_WIN.holds off = true := by
    have hix : Reg.RST_BOOT_WIN.index off = ((off - 0x011000) / 4, 0) := by simp [RegDesc.index, Reg.RST_BOOT_WIN]
    rw [RegDesc.holds_iff, hix]
    simp only [RegDesc.off, Reg.RST_BOOT_WIN]
    omega
  have hrest : ∀ r ∈ Reg.blockRST.dropLast, r.n1 = 1 ∧ r.n2 = 1 ∧ r.base < 0x011000 := by decide
  have hsplit : Reg.blockRST = Reg.blockRST.dropLast ++ [Reg.RST_BOOT_WIN] := by decide
  have hnone : Reg.blockRST.dropLast.find? (fun r => r.holds off) = none := by
    refine List.find?_eq_none.mpr fun r hr => ?_
    obtain ⟨h1, h2, hb⟩ := hrest r hr
    rw [RegDesc.holds_single h1 h2]
    omega
  rw [regAt, if_neg (by omega), hblock, hsplit, List.find?_append, hnone, List.find?_singleton, hwin]
  rfl

theorem anchorOnly_bootWindow {off : Nat} (h : InBootWindow off) : anchorOnly off = true := by
  obtain ⟨hlo, hup, -⟩ := h
  have hin : 0x010000 ≤ off ∧ off < 0x020000 ∧ off ≠ 0x010008 ∧ off ≠ 0x01000C ∧ off ≠ 0x01001C ∧ off ≠ 0x010020 := by omega
  simp [anchorOnly, hin]

theorem State.writeDword_bootWindow (s : State) {off : Nat} (h : InBootWindow off) (cyc : Nat) (q : Req) (v : Word) (w : Around) :
    s.writeDword 0 off cyc q v w =
      s.setCells (bootCell (4096 * s.get 0 F.RST_BOOT_PAGE_PAGE + (off - 0x011000))) (leBytes 4 v.toNat) := by
  have hacts : s.acts 0 off = true := by simp [State.acts, anchorOnly_bootWindow h]
  have hlow : off < 0x0C0000 := Nat.lt_trans h.upper (by decide)
  rw [State.writeDword, regAt_bootWindow h]
  simp [hacts, hlow, isCounter, State.writeLow, Reg.RST_BOOT_WIN]

/-- Bytes written change no register, and nothing but the byte log. -/
theorem State.setCells_eq (s : State) (n : Nat) (l : List Byte) : ∃ log, s.setCells n l = { s with cellLog := log } := by
  induction l generalizing s n with
  | nil => exact ⟨s.cellLog, rfl⟩
  | cons b bs ih =>
    obtain ⟨log, h⟩ := ih { s with cellLog := (n, b) :: s.cellLog } (n + 1)
    exact ⟨log, h⟩

/-- PF0's admitted write into the boot window stores its four bytes at the window's page, and no other byte. -/
theorem gives_bootWindowWrite {a : At} {off : Nat} {s : State} (hw : s.Unwaited) (h : s.Admits a .pf0 off) (hd : a.die = 0)
    (hin : InBootWindow off) (v v1 : Word) (w : Around) :
    Gives (.registerWrite a .pf0 (barAddr a.die off) 1 true v v1 w) s fun t =>
      let n := bootCell (4096 * s.get 0 F.RST_BOOT_PAGE_PAGE + (off - 0x011000))
      (∀ k, k < 4 → t.cell (n + k) = (leBytes 4 v.toNat).getD k 0) ∧ (∀ m, m < n ∨ n + 4 ≤ m → t.cell m = s.cell m) ∧
      s.OnlyRegs eddyRegs t ∧ t.out = [] ∧ t.dies = s.dies := by
  have hk := h.1
  have hset := registerWrite_settles hw h (by omega) (Nat.lt_trans hin.upper (by decide)) v v1 w
  have hpage : (s.admitted a .pf0 off).get 0 F.RST_BOOT_PAGE_PAGE = s.get 0 F.RST_BOOT_PAGE_PAGE :=
    State.get_admitted hk a .pf0 off (by decide)
  rw [hd, State.writeDword_bootWindow _ hin, hpage] at hset
  generalize bootCell (4096 * s.get 0 F.RST_BOOT_PAGE_PAGE + (off - 0x011000)) = n at hset ⊢
  obtain ⟨log, hu⟩ := (s.admitted a .pf0 off).setCells_eq n (leBytes 4 v.toNat)
  have hcell : ∀ m, (s.commit ((s.admitted a .pf0 off).setCells n (leBytes 4 v.toNat))).cell m =
      if n ≤ m ∧ m < n + 4 then (leBytes 4 v.toNat).getD (m - n) 0 else s.cell m := fun m => by
    rw [State.cell_commit_eq hk (by rw [hu]; exact State.admitted_cells hk a .pf0 off), State.cell_setCells, State.cell_admitted hk]
    rfl
  rw [hd]
  refine (hset.yields (by rw [hu]; exact State.unwaited_admitted hw a .pf0 off)).gives ⟨fun k hk4 => ?_, fun m hm => ?_, ?_, ?_, ?_⟩
  · rw [hcell, if_pos (by omega), Nat.add_sub_cancel_left]
  · rw [hcell, if_neg (by omega)]
  · rw [hu]
    exact State.onlyRegs_commit hk (State.admitted_regs hk a .pf0 off) (State.onlyRegs_admitted hk a .pf0 off)
  · rw [hu]
    exact State.admitted_out hk a .pf0 off
  · rw [hu]
    exact State.admitted_dies hk a .pf0 off

end Sys2Proof.Machine
end

section
/-! The other commands of O49, each decided in one island or by a write of its own. -/

namespace Sys2Proof.Machine

/-- Counting up to a field's top from a value of the field. -/
theorem satAdd_eq_min {top v : Nat} (h : v ≤ top) (k : Nat) : satAdd top v k = min top (v + k) := by
  unfold satAdd; split <;> omega

theorem Fld.get_le_top (f : Fld) (s : State) (d i j : Nat) : s.get d f i j ≤ f.top :=
  Nat.le_sub_one_of_lt (wordGet_lt ..)

/-- A saturating counter reads one increment more, up to its top. -/
theorem State.get_bump (s : State) {f : Fld} (hlo : f.lo ≤ f.hi) (hhi : f.hi < 32) (d k i j : Nat) :
    (s.bump d f k i j).get d f i j = min f.top (s.get d f i j + k) := by
  have htop : f.top < 2 ^ (f.hi + 1 - f.lo) := Nat.sub_one_lt (Nat.ne_of_gt (Nat.two_pow_pos _))
  rw [State.bump, State.get_set_same _ hlo hhi, satAdd_eq_min (f.get_le_top s d i j), Nat.mod_eq_of_lt (by omega)]

theorem exec_spliceReplay (a : At) (port : Nat) (s : State) : exec (.spliceReplay a port) s = execSpliceReplay a port s := rfl

theorem exec_memSelfRefreshExit (a : At) (c : Nat) (s : State) :
    exec (.memSelfRefreshExit a c) s = execMemSelfRefreshExit a c s := rfl

theorem exec_trnAddrWrite (a : At) (q : Req) (v : Word) (s : State) : exec (.trnAddrWrite a q v) s = execTrnAddrWrite a q v s := rfl

/-- A splice replay raises its count (01 R21). -/
theorem gives_spliceReplay {a : At} {port : Nat} {s : State} (h : s.On a (14 + port)) (hp : s.spliceHere a.die port = true) :
    Gives (.spliceReplay a port) s fun t =>
      t.get a.die F.GLB_SPLICE_STATUS_REPLAY_COUNT port =
        min F.GLB_SPLICE_STATUS_REPLAY_COUNT.top (s.get a.die F.GLB_SPLICE_STATUS_REPLAY_COUNT port + 1) ∧
      s.OnlyRegs [barAddr a.die (Reg.GLB_SPLICE_STATUS.off port 0)] t ∧ s.SameBytes t ∧ t.out = [] ∧ t.dies = s.dies ∧ t.evt = s.evt := by
  have hk := h.1
  have hy : Yields (.spliceReplay a port) s
      ((s.begun a (14 + port)).bump a.die F.GLB_SPLICE_STATUS_REPLAY_COUNT 1 port) :=
    (exec_spliceReplay a port s).trans (onIsland_on h hp)
  have hregs : ((s.begun a (14 + port)).bump a.die F.GLB_SPLICE_STATUS_REPLAY_COUNT 1 port).regs = s.regs := by simp
  refine hy.gives ⟨?_, State.onlyRegs_commit hk hregs fun n hn => ?_, State.sameBytes_commit hk (by simp), by simp, by simp, by simp⟩
  · rw [State.get_commit hk hregs, State.get_bump _ (by decide) (by decide), State.get_begun hk]
  · rw [State.bump, State.reg_set_of_ne _ (List.ne_of_not_mem_cons hn), State.reg_begun hk]

/-- A die changed by a command decided in one island, and every other as before the command. -/
theorem State.die_begun_modDie (s : State) (a : At) (isl d : Nat) (f : Die → Die) (e : Nat) :
    ((s.begun a isl).modDie d f).die e = if e = d then f (s.die d) else s.die e := by
  rw [State.die_modDie, State.die_congr (State.begun_dies ..), State.die_congr (State.begun_dies ..)]

/-- A channel that leaves self-refresh is that die's one change (11 R316). -/
theorem gives_memSelfRefreshExit {a : At} {c : Nat} {s : State} (hc : c < 2) (h : s.On a (29 + c)) :
    Gives (.memSelfRefreshExit a c) s fun t => (∀ e, t.die e = if e = a.die then
        { s.die e with selfRefresh := Table.put (s.die e).selfRefresh c false } else s.die e) ∧
      s.OnlyRegs [] t ∧ s.SameBytes t ∧ t.out = [] ∧ t.evt = s.evt := by
  have hk := h.1
  have hy : Yields (.memSelfRefreshExit a c) s
      ((s.begun a (29 + c)).modDie a.die fun x => { x with selfRefresh := Table.put x.selfRefresh c false }) :=
    (exec_memSelfRefreshExit a c s).trans (onIsland_on h (decide_eq_true hc))
  refine hy.gives ⟨fun e => ?_, State.onlyRegs_commit hk (by simp) fun n _ => ?_, State.sameBytes_commit hk (by simp), by simp, by simp⟩
  · rw [State.die_congr (State.commit_dies ..), State.die_begun_modDie]
    split
    next he => rw [he]
    next => rfl
  · rw [State.modDie_reg, State.reg_begun hk]

/-- A write of TRN_ADDR changes WAKE_ADDR, unless the address is reserved or the SMB target's (15 R411). -/
theorem gives_trnAddrWrite {a : At} {q : Req} {s : State} (h : s.Admits a q 0x060000) (hd : a.die = 0) (v : Word) :
    let x := wordGet v 6 0
    Gives (.trnAddrWrite a q v) s fun t =>
      t.get 0 F.TRN_ADDR_WAKE_ADDR = (if x < 8 ∨ 0x78 ≤ x ∨ x = s.get 0 F.PKG_SMB_CFG_TARGET_ADDR then s.get 0 F.TRN_ADDR_WAKE_ADDR else x) ∧
      s.OnlyRegs [barAddr 0 (Reg.TRN_ADDR.off 0 0)] t ∧ s.SameBytes t ∧ t.out = [] ∧ t.dies = s.dies := by
  intro x
  have hk := h.1
  have hreg : ∀ n, (s.admitted a q 0x060000).reg n = s.reg n := State.reg_admitted_quiet hk a q (by decide)
  have hget : ∀ f : Fld, (s.admitted a q 0x060000).get 0 f = s.get 0 f := fun f => by
    rw [State.get, State.get, State.word, State.word, hreg]
  have hy : Yields (.trnAddrWrite a q v) s (if x < 8 ∨ 0x78 ≤ x ∨ x = s.get 0 F.PKG_SMB_CFG_TARGET_ADDR then
      s.admitted a q 0x060000 else (s.admitted a q 0x060000).set 0 F.TRN_ADDR_WAKE_ADDR x) := by
    refine (exec_trnAddrWrite a q v s).trans ((onWrite_admits h rfl).trans ?_)
    simp only [State.writeTrnAddr, hd, hget, ne_eq, not_true_eq_false, false_or, x]
  have hregs := State.admitted_regs hk a q 0x060000
  have hlog := State.admitted_cellLog hk a q 0x060000
  have hout := State.admitted_out hk a q 0x060000
  have hdies := State.admitted_dies hk a q 0x060000
  split at hy
  next hx =>
    refine hy.gives ⟨?_, State.onlyRegs_commit hk hregs fun n _ => hreg n, State.sameBytes_commit hk hlog, hout, hdies⟩
    rw [if_pos hx, State.get_commit hk hregs, hget]
  next hx =>
    have hregs' : ((s.admitted a q 0x060000).set 0 F.TRN_ADDR_WAKE_ADDR x).regs = s.regs := by rw [State.set_regs, hregs]
    refine hy.gives ⟨?_, State.onlyRegs_commit hk hregs' fun n hn => ?_, State.sameBytes_commit hk (by simpa using hlog),
      by simpa using hout, by simpa using hdies⟩
    · rw [if_neg hx, State.get_commit hk hregs', State.get_set_same _ (by decide) (by decide)]
      exact Nat.mod_eq_of_lt (wordGet_lt v 6 0)
    · rw [State.reg_set_of_ne _ (List.ne_of_not_mem_cons hn), hreg]

/-- Settles O49: the frames of scratch and boot-window writes, of a replay, of a self-refresh exit and of a Tarn address. -/
theorem commandsChangeOnlyWhatTheyName : Obligations.CommandsChangeOnlyWhatTheyName := by
  refine ⟨fun a off v v1 w s hw h hd => ⟨fun hs => gives_scratchWrite hw h hd hs v v1 w, fun hd0 hlo hup hal => ?_⟩,
    fun a port s _ h hp => gives_spliceReplay h hp, fun a c s hc h => gives_memSelfRefreshExit hc h,
    fun a q v s h hd => gives_trnAddrWrite h hd v⟩
  exact gives_bootWindowWrite hw h hd0 ⟨hlo, hup, hal⟩ v v1 w

end Sys2Proof.Machine
end

section
/-! Every command is carried out or names a unit that the variant does not have: O41. -/

namespace Sys2Proof.Machine

/-- A command is carried out, or refused for a unit that the variant does not have (log entry 19). -/
def Answered (o : Out) : Prop := (∃ t, o = .next t) ∨ o = .refused .noSuchUnit

theorem answered_next (t : State) : Answered (.next t) := .inl ⟨t, rfl⟩

theorem answered_ite {c : Prop} [Decidable c] (t : State) : Answered (if c then .next t else .refused .noSuchUnit) := by
  split
  · exact answered_next t
  · exact .inr rfl

/-! The shapes of a meaning. -/

theorem answered_onUnit (a : At) (ok : Bool) (s : State) (f : State → State) : Answered (onUnit a ok s f) := answered_ite _

theorem answered_onWrite (a : At) (q : Req) (off : Nat) (v : Word) (ok : Bool) (s : State) (f : State → State) (w : Around) :
    Answered (onWrite a q off v ok s f w) := answered_ite _

theorem answered_onAccess (a : At) (ok : Bool) (s : State) (f : State → State) : Answered (onAccess a ok s f) := answered_ite _

theorem answered_onIsland (a : At) (isl : Nat) (ok : Bool) (s : State) (f : State → State) : Answered (onIsland a isl ok s f) :=
  answered_onUnit ..

theorem answered_onPly (a : At) (k : Nat) (s : State) (f : State → Ply → State) : Answered (onPly a k s f) := answered_onIsland ..

theorem answered_onUsb (a : At) (ok : Bool) (s : State) (f : State → State) : Answered (onUsb a ok s f) := answered_onIsland ..

theorem answered_onPort (a : At) (port : Nat) (ok : Bool) (s : State) (f : State → State) : Answered (onPort a port ok s f) :=
  answered_onUnit ..

theorem answered_onMessage (a : At) (via : Via) (ok : Bool) (s : State) (f : State → State) : Answered (onMessage a via ok s f) :=
  answered_onUnit ..

theorem answered_thenServe {a : At} {o : Out} (h : Answered o) : Answered (thenServe a o) := by
  rcases h with ⟨t, rfl⟩ | rfl
  · exact answered_next _
  · exact .inr rfl

/-- Every command's meaning has one of these shapes. -/
theorem exec_answered (i : Instr) (s : State) : Answered (exec i s) := by
  unfold exec
  cases i with
  | accessWaitTimeout | busMasterEnableSet | msixVectorUnmask | twistWindowClose | twistBoundary | spillwayOpen
  | parentSilent | holdoverExpire | irigFrame | irigLoss | irigFormatHoldEnd | ppsInEdge | ppsOutPulse | islandGate
  | tarnMatch | wakeAck | pwrWakeSlow | vtarnPowerOn | powerOnReset | rstNAssert | perstNAssert | jtagReset
  | resetIdleTimeout | bootClocksReady | pwrFail | supplyFault | resetIdleAck | busMasterEnableClear => exact answered_onUnit ..
  | spliceReplay | spliceDown | spliceUp | clkIslandFault | sknPatchChecked | storeChunkDone | nvmEraseAhead
  | outletRecordAccept | outletModTimer | outletResumed | directionSleepEnter | directionWake | refreshBurst | moduleInserted
  | moduleReady | modulePoll | moduleRemoved | segmentReceive | idleBlockReceive | creditBlockReceive | creditSend
  | creditStall | lossyDrop | markBlockSend | markBlockReceive | strMarkTimeout | strDrainDone | strDrainTimeout
  | snQuarantineEnd | localSegmentIngress | spliceSegmentArrive | switchingUnitComplete | mcastCopyResume | pondPageRefill
  | chargeRelease | queueAgeDrop | auditSweep | ctUnderrun | schedDecision | queueSample | gateEntryChange | tickSend
  | tickReceive | scheduledOpFire | remoteTimeout | timMessageSend | timMessageReceive | ethFrameReceive | ethLink
  | lreEntryForget | lreSupervisionSend | ptpMessageReceive | ptpIntervalTimer | ptpAnnounceTimeout | ptpFollowupExpire
  | dspHpdPlug | dspHpdUnplug | dspHpdIrq | dspLinkTrained | auxReply | auxTimeout | darkChangeDone | intakePoint
  | prefetchPoint | frameStart | reservoirWatermark | dspUnderrun | sourceFrameSend | dptTileReceive | dptTokenReceive
  | mirrorTokenComplete | memSelfRefreshEnter | memSelfRefreshExit | brgPostedWrite | brgReadRequest | brgCompletionReceive
  | brgCplTimeout | failureNoticeReceive | prefetchDiscard | lockedRead | brgLockBroken | vdpConfigRequest | vdpLink
  | dsPortLink | dmaTxDescriptor | dmaRxFrame | vfQuiesced | vfLogSwapped | usbOvercurrent | relayDeviceAttach
  | relayDeviceDetach | relayPoll | relayTxnTimeout | sleepEntryQuiesced | sleepEntryDrained | sleepEntryReversed
  | eddyActivity | optionBytesRead | bootFetchDone | lcChanged | keyLoadDone | keyFailHoldoffEnd | keyTamper | tempReading
  | refClkFault | refClkRestored | smbBlockWrite | smbBlockRead | sknStoreChecked | vdpLinkControl | primaryLinkDlActive
  | usbDfpConnect => exact answered_onIsland ..
  | counterClear | sknApply | sknApplyStore | sknCancel | sknStore | outletDoorbell | outletEnable | outletDisable | evtTest
  | plyDisable | plyEnable | plyRetrain | moduleReset | forceLowpwr | strCreate | strActivate | strModify | strTeardown
  | strRead | mcastBranchWrite | histClear | histFreeze | policerRateWrite | spdFreezeWrite | spillForce | timSet
  | shlBroadcast | barrierOpen | barrierArrive | shlSnapshot | shlReset | snapAck | rraRead | rraWrite | ethSaInstall
  | ethSaRetire | msecTxAnSelect | auxTransaction | timingApply | dspCommit | dspRefresh | prefetchLeadWrite | dmaDoorbell
  | dmaEnable | dmaDisable | vfnCreate | vfnQuiesce | vfnRelease | vfnDestroy | vfnRead | logSwap | usbConnect | usbAttach
  | usbDetach | usbEpHalt | pwrCmdFlow | pwrCmdEddy | pwrCmdStill | pwrCmdTarn | pwrCmdBadTarget | trnAddrWrite | rstFuseProg
  | bootPush | bootPushFetch | hldFlush | keyLoad | keyPin | keyUnpin | keyFlush | keyAttest | keyProvision | keyDeploy
  | keyReturn | keyScrap | w1cClear => exact answered_onWrite ..
  | registerWrite | loLatchRead | fenceRead | semRead | registerRead => exact answered_onAccess ..
  | plyDetectDone | detectTimeout | quietEnd | trainTimeout | lockTimeout | alignTimeout | exchangeTimeout | liveness
  | signalLost | rateFrameReceive | trainingFrameReceive | laneBlockLock | laneHuntFail | invalidHeaderBlock
  | fecCodewordDecode | fecWindowEnd | alignBlockReceive | alignLost | exchBlockReceive | sleepBlockReceive | wakeRunReceive
  | plyWakeFail | refreshTimeout => exact answered_onPly ..
  | shlSideUp | shlSideDown | enumStart | enumFrameReceive | enumReturnTimeout | originTakeover | timeFrameSend
  | timeFrameReceive | rippleReceive | barrierDeadline | arriveHoldExpire => exact answered_onPort ..
  | usbTransaction | usbSetupRequest | usbStatusStageComplete | usbBusReset | usbLpmToken | usbSuspend | usbU1Initiate
  | usbWakeReason | usbRemoteWake | usbResumeRelease | usbHostResume | usbWakeTimeout | usbLfpsTimeout
  | usbStrandMessageReceive | usbFuncReattach | usbVbusChange | usbLinkStateRequest => exact answered_onUsb ..
  | mgtRequestReceive | mgtResponseReceive => exact answered_onMessage ..
  | clkOkAssert | clkIslandRestored | stillExitDone | pcieHotReset | pf0Flr
  | resetRelease => exact answered_thenServe (answered_onUnit ..)
  | sknLoad | unlockMessage | autoPromote | vfFunctionReset | pushImageLoaded => exact answered_thenServe (answered_onIsland ..)
  | semRelease | semForce | portPromote | rstReq | rstForceRelease => exact answered_thenServe (answered_onWrite ..)

/-- Settles O41: the queue is empty and the step idles, or the command at its front is carried out or refused. -/
theorem noStepFaults : Obligations.NoStepFaults := fun s => by
  unfold step
  split
  next => exact answered_next s
  next => exact exec_answered ..

end Sys2Proof.Machine
end

section
/-! Commands of an island, of an admitted write, of a unit: the effect decides what they leave. -/

namespace Sys2Proof.Machine

/-- A command of a unit that the variant has is carried out. -/
theorem onUnit_here {a : At} {ok : Bool} {s : State} (f : State → State) (hd : a.die < s.part.dies) (hok : ok = true) :
    onUnit a ok s f = .next (s.commit (f (elapse a s))) := if_pos ⟨hd, hok⟩

theorem State.On.yields {i : Instr} {a : At} {isl : Nat} {ok : Bool} {s u : State} {f : State → State} (h : s.On a isl)
    (hok : ok = true) (hi : exec i s = onIsland a isl ok s f) (hf : f (s.begun a isl) = u) : Yields i s u := by
  rw [Yields, hi, onIsland_on h hok, hf]

theorem State.Admits.yields {i : Instr} {a : At} {q : Req} {off : Nat} {v : Word} {ok : Bool} {s u : State} {f : State → State}
    {w : Around} (h : s.Admits a q off) (hok : ok = true) (hi : exec i s = onWrite a q off v ok s f w)
    (hf : f (s.admitted a q off) = u) : Yields i s u := by
  rw [Yields, hi, onWrite_admits h hok, hf]

theorem yields_onUnit {i : Instr} {a : At} {ok : Bool} {s u : State} {f : State → State} (hd : a.die < s.part.dies)
    (hok : ok = true) (hi : exec i s = onUnit a ok s f) (hf : f (elapse a s) = u) : Yields i s u := by
  rw [Yields, hi, onUnit_here f hd hok, hf]

end Sys2Proof.Machine
end

section
/-! Splices, the clocks of running islands, and outlets: O19. -/

namespace Sys2Proof.Machine

/-! The commands as their meanings. -/

theorem exec_spliceDown (a : At) (port : Nat) (s : State) : exec (.spliceDown a port) s = execSpliceDown a port s := rfl

theorem exec_spliceUp (a : At) (port : Nat) (s : State) : exec (.spliceUp a port) s = execSpliceUp a port s := rfl

theorem exec_clkIslandFault (a : At) (isl kind : Nat) (s : State) :
    exec (.clkIslandFault a isl kind) s = execClkIslandFault a isl kind s := rfl

theorem exec_outletRecordAccept (a : At) (k : Nat) (s : State) :
    exec (.outletRecordAccept a k) s = execOutletRecordAccept a k s := rfl

theorem exec_outletModTimer (a : At) (m : Nat) (s : State) : exec (.outletModTimer a m) s = execOutletModTimer a m s := rfl

theorem exec_outletResumed (a : At) (m : Nat) (s : State) : exec (.outletResumed a m) s = execOutletResumed a m s := rfl

theorem exec_outletEnable (a : At) (q : Req) (m : Nat) (v : Word) (s : State) :
    exec (.outletEnable a q m v) s = execOutletEnable a q m v s := rfl

theorem exec_outletDisable (a : At) (q : Req) (m : Nat) (v : Word) (s : State) :
    exec (.outletDisable a q m v) s = execOutletDisable a q m v s := rfl

theorem exec_outletDoorbell (a : At) (q : Req) (m : Nat) (v : Word) (s : State) :
    exec (.outletDoorbell a q m v) s = execOutletDoorbell a q m v s := rfl

theorem exec_busMasterEnableSet (a : At) (f : Nat) (s : State) :
    exec (.busMasterEnableSet a f) s = execBusMasterEnableSet a f s := rfl

theorem exec_msixVectorUnmask (a : At) (f vec : Nat) (s : State) :
    exec (.msixVectorUnmask a f vec) s = execMsixVectorUnmask a f vec s := rfl

theorem exec_evtTest (a : At) (q : Req) (v : Word) (s : State) : exec (.evtTest a q v) s = execEvtTest a q v s := rfl

/-! Splices (01 R21). -/

theorem yields_spliceReplay {a : At} {port : Nat} {s : State} (h : s.On a (14 + port)) (hp : s.spliceHere a.die port = true) :
    Yields (.spliceReplay a port) s ((s.begun a (14 + port)).bump a.die F.GLB_SPLICE_STATUS_REPLAY_COUNT 1 port) :=
  h.yields hp (exec_spliceReplay a port s) rfl

/-- A splice that went down: what crossed it is dropped, both ends are counted, and the routes are recomputed. -/
def State.spliceLost (s : State) (d port : Nat) : State :=
  let far := s.spliceFar d port
  State.reroute ((((s.dropCrossing d port).1.setSplice d port false).bump d F.GLB_SPLICE_STATUS_DOWN_COUNT 1 port).bump far.1
    F.GLB_SPLICE_STATUS_DOWN_COUNT 1 far.2)

theorem yields_spliceDown {a : At} {port : Nat} {s : State} (h : s.On a (14 + port)) (hp : s.spliceHere a.die port = true)
    (hup : (s.begun a (14 + port)).flag a.die F.GLB_SPLICE_STATUS_UP port = true) :
    let b := s.begun a (14 + port)
    let u := b.spliceLost a.die port
    let cut := u.pkg.diesCut != 0
    Yields (.spliceDown a port) s (u.raise a.die (14 + port) 0x012 (if cut then 4 else 2)
      [(1, (b.spliceFar a.die port).1), (1, b2n (!cut)), (2, 0), (4, (b.dropCrossing a.die port).2)]) :=
  h.yields hp (exec_spliceDown a port s) (if_neg (by simp [hup]))

theorem yields_spliceUp {a : At} {port : Nat} {s : State} (h : s.On a (14 + port)) (hp : s.spliceHere a.die port = true)
    (hup : (s.begun a (14 + port)).flag a.die F.GLB_SPLICE_STATUS_UP port = false) :
    let b := s.begun a (14 + port)
    Yields (.spliceUp a port) s ((((b.setSplice a.die port true).reroute).resend).raise a.die (14 + port) 0x013 1
      [(1, (b.spliceFar a.die port).1)]) :=
  h.yields hp (exec_spliceUp a port s) (if_neg (by simp [hup]))

/-! Clocks (01 R25). -/

/-- An island whose clock has left its window, noted in the fault register. -/
def State.clockLost (s : State) (d isl : Nat) : State :=
  let u := (s.setClk d isl false).modIslands d fun i => { i with faultAt := Table.put i.faultAt isl s.ts }
  let r := if isl < 32 then Reg.CLK_ISLAND_FAULT_LO else Reg.CLK_ISLAND_FAULT_HI
  u.setWord d r (u.word d r ||| BitVec.ofNat 32 (2 ^ (isl % 32)))

theorem yields_clkIslandFault {a : At} {isl kind : Nat} {s : State} (h : s.On a isl) (hi : isl < 44) (hk : kind < 3) :
    Yields (.clkIslandFault a isl kind) s (((s.begun a isl).clockLost a.die isl).raise a.die isl 0x010 3 [(1, isl), (1, kind)]) :=
  h.yields (by simp [hi, hk]) (exec_clkIslandFault a isl kind s) rfl

/-! Outlets (03 R77 to R85). -/

theorem yields_outletRecordAccept {a : At} {k i : Nat} {e : Event} {s : State} (h : s.On a 35)
    (hi : (s.begun a 35).acceptIndex a.die k = some i) (he : (s.begun a 35).evt.raised[i]? = some e) :
    let b := s.begun a 35
    Yields (.outletRecordAccept a k) s (State.acceptEvent { b with evt := { b.evt with raised := b.evt.raised.eraseIdx i } } e) :=
  h.yields rfl (exec_outletRecordAccept a k s) (by simp only [hi, he])

theorem yields_outletModTimer {a : At} {m : Nat} {s : State} (h : s.On a 35) (hm : m < 128) :
    let b := s.begun a 35
    let p := a.die * 128 + m
    let t := b.get a.die F.EVT_OUT_MOD_TIME_US m
    b.flag a.die F.EVT_OUT_STATUS_ENABLED m = true → t ≠ 0 → (b.outlet p).pending ≠ 0 → (b.outlet p).due = false →
      (b.outlet p).firstAt + us t ≤ b.now → Yields (.outletModTimer a m) s (b.signal p) := by
  intro b p t hen ht hpend hdue hlate
  have hruns : (b.flag a.die F.EVT_OUT_STATUS_ENABLED m && t != 0 && (b.outlet p).pending != 0 && !(b.outlet p).due &&
      fallen b ((b.outlet p).firstAt + us t)) = true := by simp [hen, ht, hpend, hdue, fallen, hlate]
  exact h.yields (decide_eq_true hm) (exec_outletModTimer a m s) (if_pos hruns)

/-- The event of an outlet that leaves overrun (03 R83). -/
def State.resumedEvent (s : State) (d m : Nat) : Event :=
  let p := d * 128 + m
  let o := s.outlet p
  ⟨0x002, 1, d, m, s.outletOwner p, false, s.ts, payload [(4, o.lostNow), (8, o.lastLostTs)], false, false⟩

theorem yields_outletResumed {a : At} {m : Nat} {s : State} (h : s.On a 35) (hm : m < 128) :
    let b := s.begun a 35
    let p := a.die * 128 + m
    let e := b.resumedEvent a.die m
    b.flag a.die F.EVT_OUT_STATUS_ENABLED m = true → b.flag a.die F.EVT_OUT_STATUS_OVERRUN m = true →
      b.busMaster (b.outletOwner p) = true → b.outstanding p + 2 ≤ b.ringSize p →
      Yields (.outletResumed a m) s ((((b.set a.die F.EVT_OUT_STATUS_OVERRUN 0 m).putOutlet p
        { b.outlet p with lostNow := 0 }).journalCopy e).writeAndSignal p e) := by
  intro b p e hen hover hbme hroom
  have hleaves : (b.flag a.die F.EVT_OUT_STATUS_ENABLED m && b.flag a.die F.EVT_OUT_STATUS_OVERRUN m &&
      b.busMaster (b.outletOwner p) && decide (b.outstanding p + 2 ≤ b.ringSize p)) = true := by simp [hen, hover, hbme, hroom]
  exact h.yields (decide_eq_true hm) (exec_outletResumed a m s) (if_pos hleaves)

/-- A write of an outlet's CFG enables or disables it, as its bit 31 says (03 R85). -/
theorem yields_outletCfg {a : At} {q : Req} {m : Nat} {s : State} (h : s.Admits a q (0x051010 + 0x40 * m)) (hm : m < 128) (v : Word) :
    let b := s.admitted a q (0x051010 + 0x40 * m)
    (wordGet v 31 31 = 1 → Yields (.outletEnable a q m v) s (b.enableOutlet a.die m v)) ∧
    (wordGet v 31 31 = 0 → Yields (.outletDisable a q m v) s ((b.writeOutletCfg a.die m v).disableOutlet a.die m)) :=
  ⟨fun hv => h.yields (by simp [hm, hv]) (exec_outletEnable a q m v s) rfl,
    fun hv => h.yields (by simp [hm, hv]) (exec_outletDisable a q m v s) rfl⟩

theorem yields_outletDoorbell {a : At} {q : Req} {m : Nat} {s : State} (h : s.Admits a q (0x051020 + 0x40 * m)) (hm : m < 128)
    (v : Word) : Yields (.outletDoorbell a q m v) s ((s.admitted a q (0x051020 + 0x40 * m)).writeOutletDoorbell a.die m v) :=
  h.yields (decide_eq_true hm) (exec_outletDoorbell a q m v s) rfl

/-! What a host sets (03 R82), and EVT_TEST (03 R87). -/

/-- Bus Master Enable of a function is set: its outlets and messages that waited for it follow. -/
def State.enableMaster (s : State) (f : Nat) : State :=
  let u : State := { s with evt := { s.evt with bme := Table.put s.evt.bme f true },
                            vfn := { s.vfn with hostEn := Table.put s.vfn.hostEn f true } }
  if s.busMaster f then u else
    State.sendWaiting ((List.range (u.part.dies * 128)).foldl (fun s p =>
      if s.flag (p / 128) F.EVT_OUT_STATUS_ENABLED (p % 128) && s.outletOwner p == f && (s.outlet p).pending != 0
      then s.signal p else s) u) f

theorem yields_busMasterEnableSet {a : At} {f : Nat} {s : State} (hd : a.die < s.part.dies) (hf : (elapse a s).isFunction f = true) :
    Yields (.busMasterEnableSet a f) s ((elapse a s).enableMaster f) :=
  yields_onUnit hd hf (exec_busMasterEnableSet a f s) rfl

theorem yields_msixVectorUnmask {a : At} {f vec : Nat} {s : State} (hd : a.die < s.part.dies)
    (hf : (elapse a s).isFunction f = true) (hv : vec < msixSize f) :
    Yields (.msixVectorUnmask a f vec) s ((elapse a s).unmask f vec) :=
  yields_onUnit hd (Bool.and_eq_true_iff.mpr ⟨hf, decide_eq_true hv⟩) (exec_msixVectorUnmask a f vec s) rfl

theorem yields_evtTest {a : At} {q : Req} {s : State} (h : s.Admits a q 0x050004) {v : Word} (hv : wordGet v 18 16 ≤ 4) :
    Yields (.evtTest a q v) s ((s.admitted a q 0x050004).raiseFor (reqFn q) false a.die (reqFn q) 0x00F (wordGet v 18 16)
      [(2, wordGet v 15 0)]) :=
  h.yields rfl (exec_evtTest a q v s) (if_neg (Nat.not_lt.mpr hv))

/-- Settles O19: every command there is decided in one island, in one unit or by an admitted write, and leaves its own effect. -/
theorem splicesOutletsAndIslandFaultsMoveOn : Obligations.SplicesOutletsAndIslandFaultsMoveOn := by
  refine ⟨fun a port s h hp => ⟨yields_spliceReplay h hp, yields_spliceDown h hp, yields_spliceUp h hp⟩,
    fun a isl kind s h hi hk => yields_clkIslandFault h hi hk,
    fun a s h => ⟨fun k i e hi he => yields_outletRecordAccept h hi he, fun m hm => ⟨yields_outletModTimer h hm, yields_outletResumed h hm⟩⟩,
    fun a q m v s hm => ⟨fun h => yields_outletCfg h hm v, fun h => yields_outletDoorbell h hm v⟩,
    fun a f s hd hf => ⟨yields_busMasterEnableSet hd hf, fun vec hv => yields_msixVectorUnmask hd hf hv⟩,
    fun a q v s h hv => yields_evtTest h hv⟩

end Sys2Proof.Machine
end

section
/-! The refutation of O33: power-on forgets which plies COLD took down. -/

namespace Sys2Proof.Machine

theorem exec_powerOnReset (a : At) (s : State) : exec (.powerOnReset a) s = execPowerOnReset a s := rfl

/-- Power-on leaves no ply that a reset took down: COLD notes the plies that were ACTIVE, and the supply's loss forgets them. -/
theorem Yields.plyDown_powerOnReset {a : At} {s u : State} (hd : a.die < s.part.dies) (h : Yields (.powerOnReset a) s u) :
    u.boot.plyDown = [] := by
  have hcommit := Host.Outcome.next.inj (h.symm.trans ((exec_powerOnReset a s).trans (onUnit_here _ hd rfl)))
  exact congrArg (fun t : State => t.boot.plyDown) hcommit

/-- What the supply's loss leaves of a package, before COLD is applied (16 R416). -/
def State.unpowered (b : State) : State :=
  let ram := ((b.cellLog.map (·.1)) ++ (b.cells.map (·.1))).filter fun n => decide (2 ^ 40 ≤ n)
  { b with cellLog := ram.map (fun n => (n, (0 : Byte))) ++ b.cellLog, skn := { b.skn with fired := false },
           boot := { b.boot with sources := [] }, tarn := { b.tarn with asleep := false } }

/-- A package at reset but for the ply of lane 0 in slot 2 of die 0, which is ACTIVE. -/
def linkUp : State :=
  let s : State := { State.reset with dies := [(0, { plies := [(2, { cfg := ⟨2, 1, 0, 7, 0, 0, 0, 0, 0⟩ })] })] }
  s.commit (s.set 0 F.PLY_LINK_STATE_STATE 6 2)

/-- COLD at power-on notes that package's ply as taken down. -/
theorem plyDown_fire_linkUp : ((elapse ⟨0, 0, 0⟩ linkUp).unpowered.cutTransition.fire 0 0 0 0).boot.plyDown = [(2, false)] := by
  decide

/-- Refutes O33: its power-on clause keeps the note of the plies that COLD took down, which the model's power-on clears; the two
differ where a ply is ACTIVE. -/
theorem not_resetsFireHandshakeAndRelease : ¬ Obligations.ResetsFireHandshakeAndRelease := by
  intro h
  obtain ⟨hsources, -⟩ := h
  obtain ⟨hpower, -⟩ := hsources ⟨0, 0, 0⟩ linkUp (by decide)
  have hnone := hpower.plyDown_powerOnReset (by decide)
  exact List.cons_ne_nil _ _ (plyDown_fire_linkUp.symm.trans hnone)

end Sys2Proof.Machine
end

section
/-! Register accesses as commands: what Table 19.2 decides, and O35. -/

namespace Sys2Proof.Machine

/-! Row 2 of Table 19.2 never applies (19 R485). -/

/-- Two dwords from a multiple of 8 on lie in one block: every block starts at a multiple of 8. -/
theorem blockStart_add_four {off : Nat} (h : off % 8 = 0) : blockStart (off + 4) = blockStart off := by
  have hfind : ∀ l : List Nat, (∀ b ∈ l, b % 8 = 0) → l.find? (fun b => decide (b ≤ off + 4)) = l.find? fun b => decide (b ≤ off) := by
    intro l
    induction l with
    | nil => exact fun _ => rfl
    | cons b l ih =>
      intro hl
      have hb : b % 8 = 0 := hl b List.mem_cons_self
      rw [List.find?_cons, List.find?_cons, ih fun c hc => hl c (List.mem_cons_of_mem _ hc),
        decide_eq_decide.mpr (show b ≤ off + 4 ↔ b ≤ off by omega)]
  unfold blockStart
  rw [hfind _ (by decide)]

theorem ite_ne_crossBlock {c : Prop} [Decidable c] {v w : Verdict} (hv : v ≠ .crossBlock) (hw : w ≠ .crossBlock) :
    (if c then v else w) ≠ .crossBlock := by
  split
  · exact hv
  · exact hw

theorem State.verdict_ne_crossBlock {s : State} {q : Req} {die off len : Nat} {be write : Bool} :
    s.verdict q die off len be write ≠ .crossBlock := by
  unfold State.verdict
  split
  next => decide
  next hshape =>
    split
    next hcross =>
      obtain ⟨hlen, hblocks⟩ := hcross
      have haligned : off % 8 = 0 := by omega
      exact absurd (blockStart_add_four haligned).symm hblocks
    next =>
      repeat' apply ite_ne_crossBlock
      all_goals decide

/-- In a virtual function's own space the verdict is that of a dword of a die, or one that is no row 2. -/
theorem State.accessVerdict_ne_crossBlock {s : State} {q : Req} {addr len : Nat} {be write : Bool} :
    s.accessVerdict q addr len be write ≠ .crossBlock := by
  unfold State.accessVerdict
  refine ite_ne_crossBlock (by decide) ?_
  split
  next f =>
    refine ite_ne_crossBlock (ite_ne_crossBlock (by decide) (ite_ne_crossBlock (by decide) ?_)) State.verdict_ne_crossBlock
    split
    next =>
      split
      next => exact ite_ne_crossBlock State.verdict_ne_crossBlock (by decide)
      next => decide
      next => exact ite_ne_crossBlock (by decide) (by decide)
    next => exact State.verdict_ne_crossBlock
    next => exact ite_ne_crossBlock (by decide) (by decide)
  next => exact State.verdict_ne_crossBlock

/-! The accesses as commands. What waited goes first (log entry 14). -/

theorem exec_registerRead (a : At) (q : Req) (addr len : Nat) (be : Bool) (s : State) :
    exec (.registerRead a q addr len be) s = execRegisterRead a q addr len be s := rfl

theorem exec_loLatchRead (a : At) (q : Req) (off : Nat) (s : State) : exec (.loLatchRead a q off) s = execLoLatchRead a q off s := rfl

theorem exec_semRead (a : At) (q : Req) (n : Nat) (s : State) : exec (.semRead a q n) s = execSemRead a q n s := rfl

theorem exec_fenceRead (a : At) (q : Req) (held : Nat) (s : State) : exec (.fenceRead a q held) s = execFenceRead a q held s := rfl

/-- An access reaches nothing while the package rests in STILL or TARN, and else comes after what waited (15 R402). -/
def Accesses (a : At) (i : Instr) (s u : State) : Prop :=
  ((elapse a s).resting = true → exec i s = .next (s.commit (elapse a s))) ∧ ((elapse a s).resting = false → Settles a i s u)

theorem accesses_onAccess {a : At} {i : Instr} {ok : Bool} {s u : State} {f : State → State} (hok : ok = true)
    (hi : exec i s = onAccess a ok s f) (hf : f ((elapse a s).serve a) = u) : Accesses a i s u := by
  subst hok hf
  constructor
  · intro hrest
    simp only [hi, onAccess, hrest, if_true]
  · intro hrest
    simp only [Settles, hi, onAccess, hrest, if_true, Bool.false_eq_true, if_false]

theorem accesses_registerWrite {addr : Nat} (h : addr < 2 ^ 27) (a : At) (q : Req) (len : Nat) (be : Bool) (v0 v1 : Word) (w : Around)
    (s : State) : Accesses a (.registerWrite a q addr len be v0 v1 w) s (((elapse a s).serve a).beginWrite a.cyc q addr len be v0 v1 w) :=
  accesses_onAccess (decide_eq_true h) (exec_registerWrite a q addr len be v0 v1 w s) rfl

/-- A command that is a read of `len` dwords at an address, begun in `b`; a fence read shows `held` (01 R34; log entry 31). -/
def ReadsAt (a : At) (i : Instr) (s : State) (q : Req) (addr len held : Nat) (be : Bool) (b : State) : Prop :=
  let b0 := (elapse a s).serve a
  let waiting := (b0.access.waiting.filter fun w => w.write && w.req == q).foldl (fun m w => setBit m w.die) 0
  (i = Instr.registerRead a q addr len be ∧ addr < 2 ^ 27 ∧
      ((isFence q addr = false ∧ b = b0 ∧ held = 0) ∨ (isFence q addr = true ∧ b = b0.drawn ∧ held = b0.draw % 256))) ∨
    (∃ off, i = Instr.loLatchRead a q off ∧ loPair off = true ∧ addr = barAddr a.die off ∧ len = 1 ∧ be = true ∧ held = 0 ∧ b = b0) ∨
    (∃ n, i = Instr.semRead a q n ∧ n < 64 ∧ addr = barAddr a.die (0x203000 + 4 * n) ∧ len = 1 ∧ be = true ∧ held = 0 ∧ b = b0) ∨
    (∃ h, i = Instr.fenceRead a q h ∧ h < 256 ∧ addr = 0x3F0040 ∧ len = 1 ∧ be = true ∧ held = h ||| waiting ∧ b = b0)

theorem ReadsAt.accesses {a : At} {i : Instr} {s : State} {q : Req} {addr len held : Nat} {be : Bool} {b : State}
    (h : ReadsAt a i s q addr len held be b) : Accesses a i s (b.beginRead q addr len be held none) := by
  rcases h with ⟨rfl, haddr, hplain | hfence⟩ | ⟨off, rfl, hpair, rfl, rfl, rfl, rfl, rfl⟩ | ⟨n, rfl, hn, rfl, rfl, rfl, rfl, rfl⟩ |
    ⟨hbits, rfl, hlt, rfl, rfl, rfl, rfl, rfl⟩
  · obtain ⟨hno, rfl, rfl⟩ := hplain
    exact accesses_onAccess (decide_eq_true haddr) (exec_registerRead a q addr len be s) (if_neg (by simp [hno]))
  · obtain ⟨hyes, rfl, rfl⟩ := hfence
    exact accesses_onAccess (decide_eq_true haddr) (exec_registerRead a q addr len be s) (if_pos hyes)
  · exact accesses_onAccess hpair (exec_loLatchRead a q off s) rfl
  · exact accesses_onAccess (decide_eq_true hn) (exec_semRead a q n s) rfl
  · exact accesses_onAccess (decide_eq_true hlt) (exec_fenceRead a q hbits s) rfl

/-! What a verdict does with a write and with a read (19 Table 19.2). -/

section
variable {s : State} {q : Req} {addr len : Nat} {be : Bool}

theorem State.beginWrite_go (h : s.accessVerdict q addr len be true = .go) (cyc : Nat) (v0 v1 : Word) (w : Around) :
    s.beginWrite cyc q addr len be v0 v1 w = s.performWrite cyc q addr len v0 v1 w := by
  simp only [State.beginWrite, h]

theorem State.beginWrite_turnedAway {v : Verdict} (h : s.accessVerdict q addr len be true = v) (hv : v ≠ .go) (cyc : Nat)
    (v0 v1 : Word) (w : Around) : s.beginWrite cyc q addr len be v0 v1 w =
      s.turnAwayWrite q addr (s.decidedAt q addr len).1 (s.decidedAt q addr len).2 len v0 v1 w v := by
  simp only [State.beginWrite, h]

variable {held : Nat}

/-- A read that waits, without a deadline. -/
def State.readWait (s : State) (q : Req) (addr len held : Nat) : Waiting :=
  ⟨q, addr, (s.decidedAt q addr len).1, (s.decidedAt q addr len).2, false, len, BitVec.ofNat 32 held, 0, {}, false, none, none⟩

theorem State.beginRead_go (h : s.accessVerdict q addr len be false = .go) : s.beginRead q addr len be held none =
    (s.performRead q addr len held).1.emit (.completion q (.data (s.performRead q addr len held).2)) := by
  simp only [State.beginRead, h]
  rfl

theorem State.beginRead_behind (h : s.accessVerdict q addr len be false = .behind) :
    s.beginRead q addr len be held none = s.park (s.readWait q addr len held) := by
  simp only [State.beginRead, h, State.readWait]

theorem State.beginRead_waits (h : s.accessVerdict q addr len be false = .waits) : s.beginRead q addr len be held none =
    s.park { s.readWait q addr len held with deadline := some (s.now + us 2) } := by
  simp only [State.beginRead, h, State.readWait, State.islandWait]

theorem State.beginRead_held (h : s.accessVerdict q addr len be false = .held) : s.beginRead q addr len be held none =
    s.park { s.readWait q addr len held with sem := true, deadline := s.semWait } := by
  simp only [State.beginRead, h, State.readWait]

theorem State.beginRead_turnedAway {v : Verdict} (h : s.accessVerdict q addr len be false = v)
    (hv : v ≠ .go ∧ v ≠ .behind ∧ v ≠ .waits ∧ v ≠ .held) :
    s.beginRead q addr len be held none = s.turnAwayRead q addr len none v := by
  obtain ⟨hgo, hbehind, hwaits, hheld⟩ := hv
  simp only [State.beginRead, h]

end

/-- The rows of Table 19.2 for a write. -/
theorem registerWrite_rows {addr : Nat} (haddr : addr < 2 ^ 27) (a : At) (q : Req) (len : Nat) (be : Bool) (v0 v1 : Word) (w : Around)
    {s : State} (hrest : (elapse a s).resting = false) :
    let b := (elapse a s).serve a
    let t := b.decidedAt q addr len
    let i := Instr.registerWrite a q addr len be v0 v1 w
    (b.accessVerdict q addr len be true = .go → Settles a i s (b.performWrite a.cyc q addr len v0 v1 w)) ∧
    ∀ v, b.accessVerdict q addr len be true = v → v ≠ .go → Settles a i s (b.turnAwayWrite q addr t.1 t.2 len v0 v1 w v) := by
  intro b t i
  have ⟨_, haccess⟩ := accesses_registerWrite haddr a q len be v0 v1 w s
  have hset := haccess hrest
  refine ⟨fun h => ?_, fun v h hne => ?_⟩
  · rwa [State.beginWrite_go h] at hset
  · rwa [State.beginWrite_turnedAway h hne] at hset

/-- Settles O35: an access is carried out where no row of Table 19.2 turns it away or lets it wait; row 2 never applies. -/
theorem registerAccessesFollowTable192 : Obligations.RegisterAccessesFollowTable192 := by
  refine ⟨fun a q addr len be v0 v1 w s haddr => ?_, fun a q addr len held be i s b hread => ?_⟩
  · have ⟨hstill, _⟩ := accesses_registerWrite haddr a q len be v0 v1 w s
    refine ⟨hstill, fun hrest => ?_⟩
    have ⟨hgo, haway⟩ := registerWrite_rows haddr a q len be v0 v1 w hrest
    refine ⟨hgo, fun h => haway .shape h (by decide), State.accessVerdict_ne_crossBlock, fun h => haway .noDie h (by decide),
      fun h => haway .dieOut h (by decide), ?_, fun h => ⟨?_, ?_, ?_⟩, fun h => haway .behind h (by decide),
      fun h => haway .waits h (by decide), fun h => haway .held h (by decide)⟩
    · rintro (h | h)
      · exact haway .silent h (by decide)
      · exact haway .islandOff h (by decide)
    · rintro f rfl
      exact haway .denied h (by decide)
    · rintro rfl
      exact haway .denied h (by decide)
    · rintro (rfl | rfl)
      · exact haway .denied h (by decide)
      · exact haway .denied h (by decide)
  · have ⟨hstill, haccess⟩ := ReadsAt.accesses hread
    refine ⟨hstill, fun hrest => ?_⟩
    have hset := haccess hrest
    have haway : ∀ v, b.accessVerdict q addr len be false = v → v ≠ .go ∧ v ≠ .behind ∧ v ≠ .waits ∧ v ≠ .held →
        Settles a i s (b.turnAwayRead q addr len none v) := fun v h hv => by
      rwa [State.beginRead_turnedAway h hv] at hset
    refine ⟨fun h => ?_, fun h => haway .shape h (by decide), State.accessVerdict_ne_crossBlock, fun h => haway .noDie h (by decide),
      fun h => haway .dieOut h (by decide), ?_, fun h => ⟨?_, ?_, ?_⟩, fun h => ?_, fun h => ?_, fun h => ?_⟩
    · rwa [State.beginRead_go h] at hset
    · rintro (h | h)
      · exact haway .silent h (by decide)
      · exact haway .islandOff h (by decide)
    · rintro f rfl
      exact haway .denied h (by decide)
    · rintro rfl
      exact haway .denied h (by decide)
    · rintro (rfl | rfl)
      · exact haway .denied h (by decide)
      · exact haway .denied h (by decide)
    · rwa [State.beginRead_behind h] at hset
    · rwa [State.beginRead_waits h] at hset
    · rwa [State.beginRead_held h] at hset

end Sys2Proof.Machine
end

section
/-! The Skein's patch commands, as written and as checked: O20. -/

namespace Sys2Proof.Machine

/-! The commands as their meanings. -/

theorem exec_sknApply (a : At) (q : Req) (v : Word) (s : State) : exec (.sknApply a q v) s = execSknApply a q v s := rfl

theorem exec_sknApplyStore (a : At) (q : Req) (v : Word) (s : State) : exec (.sknApplyStore a q v) s = execSknApplyStore a q v s := rfl

theorem exec_sknCancel (a : At) (q : Req) (v : Word) (s : State) : exec (.sknCancel a q v) s = execSknCancel a q v s := rfl

theorem exec_sknStore (a : At) (q : Req) (v : Word) (s : State) : exec (.sknStore a q v) s = execSknStore a q v s := rfl

theorem exec_sknPatchChecked (a : At) (readOk : Bool) (bytes : List Byte) (s : State) :
    exec (.sknPatchChecked a readOk bytes) s = execSknPatchChecked a readOk bytes s := rfl

theorem exec_sknStoreChecked (a : At) (readOk : Bool) (bytes : List Byte) (codes : List Nat) (s : State) :
    exec (.sknStoreChecked a readOk bytes codes) s = execSknStoreChecked a readOk bytes codes s := rfl

/-! A write of SKN_PATCH_CMD on die 0 (02 R61 to R63, R67). -/

section
variable {s : State} {v : Word} {op : Nat}

theorem State.writeSknCmd_apply (hv : wordGet v 2 0 = 1) : s.writeSknCmd 0 v = s.applyCmd 1 := by
  simp [State.writeSknCmd, hv]

theorem State.writeSknCmd_applyStore (hv : wordGet v 2 0 = 2) : s.writeSknCmd 0 v = s.applyCmd 2 := by
  simp [State.writeSknCmd, hv]

theorem State.writeSknCmd_cancel (hv : wordGet v 2 0 = 3) : s.writeSknCmd 0 v = s.cancelCmd := by
  simp [State.writeSknCmd, hv]

theorem State.writeSknCmd_store (hv : wordGet v 2 0 = 4) : s.writeSknCmd 0 v = s.storeCmd := by
  simp [State.writeSknCmd, hv]

theorem State.applyCmd_refused {code : Nat} (h : s.applyRefusal (op == 2) = some code) :
    s.applyCmd op = s.sknAnswer op code 0 := by
  simp only [State.applyCmd, h]

theorem State.applyCmd_reads (h : s.applyRefusal (op == 2) = none) : s.applyCmd op = s.readHost op := by
  simp only [State.applyCmd, h]

theorem State.cancelCmd_of_none (h : s.skn.wait = none) : s.cancelCmd = s.sknAnswer 3 0x18 0 :=
  if_pos (Option.isNone_iff_eq_none.mpr h)

/-- The pending patch is dropped, and the APPLY_STORE it belongs to ends with code 16H (02 R62). -/
def State.patchDropped (s : State) : State :=
  let u := State.set { s with skn := { s.skn with wait := none } } 0 F.SKN_STATUS_PATCH_PENDING 0
  if u.skn.cmd.any fun c => c.op == 2 then u.sknDone 2 0x16 0 else u

theorem State.cancelCmd_of_pending (h : s.skn.wait ≠ none) : s.cancelCmd = s.patchDropped.sknAnswer 3 0x16 0 :=
  if_neg (mt Option.isNone_iff_eq_none.mp h)

theorem State.storeCmd_busy (h : s.skn.cmd ≠ none) : s.storeCmd = s.sknAnswer 4 0x13 0 :=
  if_pos (Option.isSome_iff_ne_none.mpr h)

theorem State.storeCmd_free (h : s.skn.cmd = none) : s.storeCmd =
    if s.get 0 F.SKN_PATCH_LEN_LEN = 0 ∨ 8388608 < s.get 0 F.SKN_PATCH_LEN_LEN then s.sknAnswer 4 4 0 else s.readHost 4 :=
  if_neg (by simp [h])

end

section
variable {a : At} {q : Req} {v : Word} {s u : State} (h : s.Admits a q 0x040038) (hd : a.die = 0)
include h hd

theorem yields_sknApply (hv : wordGet v 2 0 = 1) (hu : (s.admitted a q 0x040038).applyCmd 1 = u) :
    Yields (.sknApply a q v) s u :=
  h.yields (beq_iff_eq.mpr hv) (exec_sknApply a q v s) (by rw [hd, State.writeSknCmd_apply hv, hu])

theorem yields_sknApplyStore (hv : wordGet v 2 0 = 2) (hu : (s.admitted a q 0x040038).applyCmd 2 = u) :
    Yields (.sknApplyStore a q v) s u :=
  h.yields (beq_iff_eq.mpr hv) (exec_sknApplyStore a q v s) (by rw [hd, State.writeSknCmd_applyStore hv, hu])

theorem yields_sknCancel (hv : wordGet v 2 0 = 3) (hu : (s.admitted a q 0x040038).cancelCmd = u) :
    Yields (.sknCancel a q v) s u :=
  h.yields (beq_iff_eq.mpr hv) (exec_sknCancel a q v s) (by rw [hd, State.writeSknCmd_cancel hv, hu])

theorem yields_sknStore (hv : wordGet v 2 0 = 4) (hu : (s.admitted a q 0x040038).storeCmd = u) :
    Yields (.sknStore a q v) s u :=
  h.yields (beq_iff_eq.mpr hv) (exec_sknStore a q v s) (by rw [hd, State.writeSknCmd_store hv, hu])

end

/-! The bytes have been read and checked (02 R61, R63, R64). -/

/-- With no patch waiting, an APPLY or APPLY_STORE in progress is the command that the check ends or goes on with. -/
theorem awaitsCheck {c : SknCmd} {s : State} (hop : c.op = 1 ∨ c.op = 2) (hw : s.skn.wait = none) :
    ¬((c.op ≠ 1 ∧ c.op ≠ 2) ∨ s.skn.wait.isSome = true) := by
  rintro (⟨hnotApply, hnotStore⟩ | hwaits)
  · exact hop.elim hnotApply hnotStore
  · simp [hw] at hwaits

/-- A patch that passed its checks awaits its boundary; an APPLY is complete with that (02 R61). -/
def State.patchPends (s : State) (c : SknCmd) (bytes : List Byte) : State :=
  let due := if tsTraceable c.at_ == s.clock.traceable then some (tsPs c.at_) else none
  let u := State.set { s with skn := { s.skn with wait := some ⟨bytes.take (imgLength bytes), due, c.op == 2⟩ } } 0
    F.SKN_STATUS_PATCH_PENDING 1
  if c.op = 1 then u.sknDone 1 0 0 else u

/-- An image that passed its checks is stored, if its slot holds it and no stored image is as new (02 R64). -/
def State.storePasses (s : State) (img : List Byte) (codes : List Nat) : State :=
  if exceedsSlot img then s.sknDone 4 4 8
  else if s.serials.any fun n => decide (imgSerial img ≤ n) then s.sknDone 4 0x10 16
  else s.sknRequest 4
    { type := 2, what := 1, arg := s.storeSlot, off := slotAt s.storeSlot, bytes := img ++ markerOf s.storeSeq img } codes

section
variable {a : At} {bytes : List Byte} {c : SknCmd} {s : State} (h : s.On a 39) (hd : a.die = 0)
  (hc : (s.begun a 39).skn.cmd = some c)
include h hd hc

section
variable (hop : c.op = 1 ∨ c.op = 2) (hw : (s.begun a 39).skn.wait = none)
include hop hw

theorem yields_sknPatchChecked_error {f : Flaw} (hf : (s.begun a 39).checkPatch (bytes.take c.len) = .error f) :
    Yields (.sknPatchChecked a true bytes) s ((s.begun a 39).sknDone c.op f.code f.off) :=
  h.yields (beq_iff_eq.mpr hd) (exec_sknPatchChecked a true bytes s)
    (by simp only [hc, if_neg (awaitsCheck hop hw), if_true, hf])

theorem yields_sknPatchChecked_ok {x : List Section} (hx : (s.begun a 39).checkPatch (bytes.take c.len) = .ok x) :
    Yields (.sknPatchChecked a true bytes) s ((s.begun a 39).patchPends c (bytes.take c.len)) :=
  h.yields (beq_iff_eq.mpr hd) (exec_sknPatchChecked a true bytes s)
    (by simp only [hc, if_neg (awaitsCheck hop hw), if_true, hx, State.patchPends])

end

section
variable (hop : c.op = 4) (codes : List Nat)
include hop

theorem yields_sknStoreChecked_error {f : Flaw} (hf : (s.begun a 39).blank.takeImage (bytes.take c.len) = .error f) :
    Yields (.sknStoreChecked a true bytes codes) s ((s.begun a 39).sknDone 4 f.code f.off) :=
  h.yields (beq_iff_eq.mpr hd) (exec_sknStoreChecked a true bytes codes s)
    (by simp only [hc, hop, ne_eq, not_true_eq_false, if_false, if_true, hf])

theorem yields_sknStoreChecked_ok {x : State} (hx : (s.begun a 39).blank.takeImage (bytes.take c.len) = .ok x) :
    Yields (.sknStoreChecked a true bytes codes) s
      ((s.begun a 39).storePasses ((bytes.take c.len).take (imgLength (bytes.take c.len))) codes) :=
  h.yields (beq_iff_eq.mpr hd) (exec_sknStoreChecked a true bytes codes s)
    (by simp only [hc, hop, ne_eq, not_true_eq_false, if_false, if_true, hx, State.storePasses])

end

end

/-- Settles O20: each write is its command's effect, and each check goes on or ends the command in progress. -/
theorem skeinCommandsAndChecksComplete : Obligations.SkeinCommandsAndChecksComplete := by
  refine ⟨fun a q v s h hd => ⟨fun hv => ?apply, fun hv => ?applyStore, fun hv => ?cancel, fun hv => ?store⟩,
    fun a bytes c s h hd hc => ⟨fun hop hw => ?patch, fun hop codes => ?image⟩⟩
  case apply =>
    exact ⟨fun _ hcode => yields_sknApply h hd hv (State.applyCmd_refused (op := 1) hcode),
      fun hgo => yields_sknApply h hd hv (State.applyCmd_reads (op := 1) hgo)⟩
  case applyStore =>
    exact ⟨fun _ hcode => yields_sknApplyStore h hd hv (State.applyCmd_refused (op := 2) hcode),
      fun hgo => yields_sknApplyStore h hd hv (State.applyCmd_reads (op := 2) hgo)⟩
  case cancel =>
    exact ⟨fun hnone => yields_sknCancel h hd hv (State.cancelCmd_of_none hnone),
      fun hwait => yields_sknCancel h hd hv (State.cancelCmd_of_pending hwait)⟩
  case store =>
    exact ⟨fun hbusy => yields_sknStore h hd hv (State.storeCmd_busy hbusy),
      fun hfree => yields_sknStore h hd hv (State.storeCmd_free hfree)⟩
  case patch =>
    exact ⟨fun _ => yields_sknPatchChecked_error h hd hc hop hw, fun _ => yields_sknPatchChecked_ok h hd hc hop hw⟩
  case image =>
    exact ⟨fun _ => yields_sknStoreChecked_error h hd hc hop codes, fun _ => yields_sknStoreChecked_ok h hd hc hop codes⟩

end Sys2Proof.Machine
end

section
/-! A doorbell of an outlet consumes the records below it or is refused (03 R74): O47. -/

namespace Sys2Proof.Machine

/-! What a command may have changed, step by step. -/

theorem State.OnlyRegs.refl (s : State) (l : List Nat) : s.OnlyRegs l s := fun _ _ => rfl

theorem State.OnlyRegs.trans {s t u : State} {l k : List Nat} (h : s.OnlyRegs l t) (h' : t.OnlyRegs k u) : s.OnlyRegs (k ++ l) u :=
  fun n hn => by
    rw [List.mem_append, not_or] at hn
    rw [h' n hn.1, h n hn.2]

theorem State.OnlyRegs.set {s t : State} {l : List Nat} (h : s.OnlyRegs l t) {d i j : Nat} {f : Fld}
    (hmem : barAddr d (f.reg.off i j) ∈ l) (v : Nat) : s.OnlyRegs l (t.set d f v i j) :=
  fun n hn => by rw [State.reg_set_of_ne _ (ne_of_mem_of_not_mem hmem hn).symm, h n hn]

/-- A field of a register other than the written one reads as before. -/
theorem State.get_set_of_ne (s : State) {f g : Fld} {d e i j k l : Nat} (h : barAddr e (g.reg.off k l) ≠ barAddr d (f.reg.off i j))
    (v : Nat) : (s.set d f v i j).get e g k l = s.get e g k l := by
  rw [State.get, State.word, State.reg_set_of_ne s h, State.get, State.word]

@[simp] theorem State.raise_get (s : State) (d src code sev : Nat) (x : List (Nat × Nat)) (e : Nat) (f : Fld) (i j : Nat) :
    (s.raise d src code sev x).get e f i j = s.get e f i j := rfl

@[simp] theorem State.commit_clock (s u : State) : (s.commit u).clock = u.clock := by rw [State.commit]

/-! The latest event. -/

/-- An event raised is PF0's latest. -/
theorem State.raised_raise (s : State) (d src code sev : Nat) (x : List (Nat × Nat)) :
    (s.raise d src code sev x).Raised 0 d src code sev x :=
  ⟨_, List.getLast?_concat, rfl, rfl, rfl, rfl, rfl, rfl, rfl⟩

/-- The end of a command keeps the latest event and the time it bears. -/
theorem State.Raised.commit {u : State} {owner d src code sev : Nat} {x : List (Nat × Nat)} (h : u.Raised owner d src code sev x)
    (s : State) : (s.commit u).Raised owner d src code sev x := by
  have hts : (s.commit u).ts = u.ts := by rw [State.ts, State.now, State.tsAt, State.commit_clock, State.ts, State.now, State.tsAt]
  rwa [State.Raised, State.commit_evt, hts]

/-! The registers of the outlets (03 Table 3.3). -/

/-- A register of which each outlet of a die has one, in its group of 64 bytes. -/
abbrev RegDesc.OfOutlet (r : RegDesc) : Prop := 0x051000 ≤ r.base ∧ r.base < 0x051040 ∧ r.s1 = 0x40

/-- The end of EDDY writes no register of an outlet. -/
theorem RegDesc.OfOutlet.not_mem_eddyRegs {r : RegDesc} (h : r.OfOutlet) {m : Nat} (hm : m < 128) (d : Nat) :
    barAddr d (r.off m 0) ∉ eddyRegs := by
  obtain ⟨hlo, hup, hstep⟩ := h
  simp only [eddyRegs, barAddr, RegDesc.off, hstep, Reg.PWR_STATUS, Reg.PWR_COUNT, List.mem_cons, List.not_mem_nil, or_false]
  omega

theorem doorbell_ne_status (d m : Nat) : barAddr d (Reg.EVT_OUT_DOORBELL.off m 0) ≠ barAddr d (Reg.EVT_OUT_STATUS.off m 0) := by
  simp only [barAddr, RegDesc.off, Reg.EVT_OUT_DOORBELL, Reg.EVT_OUT_STATUS]
  omega

/-- Until an admitted write takes effect, an outlet's registers read as before it. -/
theorem State.get_admitted_outlet {s : State} (hk : s.Kept) (a : At) (q : Req) (off : Nat) {f : Fld} (hf : f.reg.OfOutlet) {m : Nat}
    (hm : m < 128) (d : Nat) : (s.admitted a q off).get d f m = s.get d f m :=
  State.get_admitted hk a q off (hf.not_mem_eddyRegs hm d)

/-- The records of a ring, by the outlet's place on its die. -/
theorem State.outstanding_outlet (s : State) {m : Nat} (hm : m < 128) (d : Nat) :
    s.outstanding (d * 128 + m) = s.get d F.EVT_OUT_STATUS_OUTSTANDING m := by
  rw [State.outstanding, show (d * 128 + m) / 128 = d by omega, show (d * 128 + m) % 128 = m by omega]

/-! A doorbell's effect. -/

/-- The records that a doorbell would leave outstanding: (P − D) mod 2^32. -/
def State.doorbellLeft (s : State) (d m : Nat) (v : Word) : Nat := (s.get d F.EVT_OUT_PRODUCER_P m + 2 ^ 32 - v.toNat) % 2 ^ 32

section
variable {s : State} {d m : Nat} {v : Word} (hm : m < 128)
include hm

/-- A doorbell that leaves no more than was outstanding is taken; any other is flagged and told to PF0. -/
theorem State.writeOutletDoorbell_eq : s.writeOutletDoorbell d m v =
    if s.doorbellLeft d m v ≤ s.get d F.EVT_OUT_STATUS_OUTSTANDING m then
      (s.set d F.EVT_OUT_DOORBELL_C v.toNat m).set d F.EVT_OUT_STATUS_OUTSTANDING (s.doorbellLeft d m v) m
    else (s.set d F.EVT_OUT_STATUS_BAD_DOORBELL 1 m).raise d m 0x003 2
      [(2, d * 128 + m), (1, s.outletOwner (d * 128 + m)), (1, 0), (4, v.toNat), (4, s.get d F.EVT_OUT_PRODUCER_P m)] := by
  rw [← State.outstanding_outlet s hm, State.doorbellLeft, State.writeOutletDoorbell]

/-- Taken or refused, a doorbell writes the outlet's doorbell and status alone. -/
theorem State.onlyRegs_writeOutletDoorbell :
    s.OnlyRegs [barAddr d (Reg.EVT_OUT_DOORBELL.off m 0), barAddr d (Reg.EVT_OUT_STATUS.off m 0)] (s.writeOutletDoorbell d m v) := by
  rw [State.writeOutletDoorbell_eq hm]
  split
  · exact ((State.OnlyRegs.refl s _).set (by simp) _).set (by simp) _
  · exact (State.OnlyRegs.refl s _).set (by simp) _

/-- Taken or refused, a doorbell leaves the register table, the bytes, the dies and what is sent. -/
theorem State.writeOutletDoorbell_keeps :
    let u := s.writeOutletDoorbell d m v
    u.regs = s.regs ∧ u.cellLog = s.cellLog ∧ u.out = s.out ∧ u.dies = s.dies := by
  rw [State.writeOutletDoorbell_eq hm]
  split <;> simp

/-- What a doorbell that is taken leaves: its value, the records above it, and no event. -/
theorem State.reads_doorbell_taken (h : s.doorbellLeft d m v ≤ s.get d F.EVT_OUT_STATUS_OUTSTANDING m) :
    let u := s.writeOutletDoorbell d m v
    u.get d F.EVT_OUT_DOORBELL_C m = v.toNat ∧ u.get d F.EVT_OUT_STATUS_OUTSTANDING m = s.doorbellLeft d m v ∧
      u.get d F.EVT_OUT_STATUS_BAD_DOORBELL m = s.get d F.EVT_OUT_STATUS_BAD_DOORBELL m ∧ u.evt = s.evt := by
  have hfits : s.doorbellLeft d m v < 2 ^ 17 := Nat.lt_of_le_of_lt h (wordGet_lt ..)
  rw [State.writeOutletDoorbell_eq hm, if_pos h]
  refine ⟨?_, ?_, ?_, by simp⟩
  · rw [State.get_set_of_ne _ (doorbell_ne_status d m), State.get_set_same _ (by decide) (by decide)]
    exact Nat.mod_eq_of_lt v.isLt
  · rw [State.get_set_same _ (by decide) (by decide)]
    exact Nat.mod_eq_of_lt hfits
  · rw [State.get_set_apart (f := F.EVT_OUT_STATUS_OUTSTANDING) (g := F.EVT_OUT_STATUS_BAD_DOORBELL) _ (by decide) (by decide) rfl
      (by decide), State.get_set_of_ne _ (doorbell_ne_status d m).symm]

/-- What a refused doorbell leaves: the outlet as it was, its flag, and PF0's event. -/
theorem State.reads_doorbell_refused (h : s.get d F.EVT_OUT_STATUS_OUTSTANDING m < s.doorbellLeft d m v) :
    let u := s.writeOutletDoorbell d m v
    u.get d F.EVT_OUT_DOORBELL_C m = s.get d F.EVT_OUT_DOORBELL_C m ∧
      u.get d F.EVT_OUT_STATUS_OUTSTANDING m = s.get d F.EVT_OUT_STATUS_OUTSTANDING m ∧ u.get d F.EVT_OUT_STATUS_BAD_DOORBELL m = 1 ∧
      u.Raised 0 d m 0x003 2
        [(2, d * 128 + m), (1, s.outletOwner (d * 128 + m)), (1, 0), (4, v.toNat), (4, s.get d F.EVT_OUT_PRODUCER_P m)] := by
  rw [State.writeOutletDoorbell_eq hm, if_neg (Nat.not_le.mpr h)]
  refine ⟨?_, ?_, ?_, State.raised_raise ..⟩
  · rw [State.raise_get, State.get_set_of_ne _ (doorbell_ne_status d m)]
  · rw [State.raise_get, State.get_set_apart (f := F.EVT_OUT_STATUS_BAD_DOORBELL) (g := F.EVT_OUT_STATUS_OUTSTANDING) _ (by decide)
      (by decide) rfl (by decide)]
  · rw [State.raise_get, State.get_set_same _ (by decide) (by decide)]
    rfl

end

/-- Settles O47: the doorbell's effect on the state of the admitted write, whose outlet reads as before the command. -/
theorem doorbellsConsumeOrAreRefused : Obligations.DoorbellsConsumeOrAreRefused := by
  intro a q m v s h hm d left before
  have hk : s.Kept := h.1
  let off := 0x051020 + 0x40 * m
  let b := s.admitted a q off
  have hget : ∀ f : Fld, f.reg.OfOutlet → b.get d f m = s.get d f m := fun f hf => State.get_admitted_outlet hk a q off hf hm d
  have hproducer : b.get d F.EVT_OUT_PRODUCER_P m = s.get d F.EVT_OUT_PRODUCER_P m := hget _ (by decide)
  have hbefore : b.get d F.EVT_OUT_STATUS_OUTSTANDING m = before := hget _ (by decide)
  have hleft : b.doorbellLeft d m v = left := by rw [State.doorbellLeft, hproducer]
  obtain ⟨hregs, hbytes, hout, hdies⟩ := State.writeOutletDoorbell_keeps (s := b) (d := d) (v := v) hm
  replace hregs := hregs.trans (State.admitted_regs hk a q off)
  have hread : ∀ f : Fld, (s.commit (b.writeOutletDoorbell d m v)).get d f m = (b.writeOutletDoorbell d m v).get d f m :=
    fun f => State.get_commit hk hregs d f m 0
  refine (yields_outletDoorbell h hm v).gives ⟨?regs, ?bytes, ?out, ?dies, fun htaken => ?taken, fun hrefused => ?refused⟩
  case regs =>
    exact State.onlyRegs_commit hk hregs ((State.onlyRegs_admitted hk a q off).trans (State.onlyRegs_writeOutletDoorbell hm))
  case bytes => exact State.sameBytes_commit hk (hbytes.trans (State.admitted_cellLog hk a q off))
  case out => exact (State.commit_out ..).trans (hout.trans (State.admitted_out hk a q off))
  case dies => exact (State.commit_dies ..).trans (hdies.trans (State.admitted_dies hk a q off))
  case taken =>
    obtain ⟨hvalue, hleaves, hflag, hevt⟩ := State.reads_doorbell_taken (s := b) hm (by rwa [hleft, hbefore])
    exact ⟨(hread _).trans hvalue, (hread _).trans (hleaves.trans hleft), (hread _).trans (hflag.trans (hget _ (by decide))),
      (State.commit_evt ..).trans hevt⟩
  case refused =>
    obtain ⟨hvalue, hkept, hflag, hraised⟩ := State.reads_doorbell_refused (s := b) hm (by rwa [hleft, hbefore])
    rw [hproducer] at hraised
    exact ⟨(hread _).trans (hvalue.trans (hget _ (by decide))), (hread _).trans (hkept.trans hbefore), (hread _).trans hflag,
      _, hraised.commit s⟩

end Sys2Proof.Machine
end

section
/-! Precoding and the scrambler of a lane (04 R92, R93): O6 and O7. -/

namespace Sys2Proof.Machine

/-! Precoding. -/

theorem length_precode (t : Nat) (gs : List Nat) : (precode t gs).length = gs.length := by
  induction gs generalizing t with
  | nil => rfl
  | cons g gs ih => rw [precode, List.length_cons, ih, List.length_cons]

theorem lt_four_of_mem_precode {t x : Nat} {gs : List Nat} (h : x ∈ precode t gs) : x < 4 := by
  induction gs generalizing t with
  | nil => simp [precode] at h
  | cons g gs ih =>
    rw [precode, List.mem_cons] at h
    rcases h with rfl | h
    · exact Nat.mod_lt _ (by decide)
    · exact ih h

/-- The receiver adds what the transmitter took away. -/
theorem unprecode_precode {t : Nat} {gs : List Nat} (ht : t < 4) (hgs : ∀ g ∈ gs, g < 4) : unprecode t (precode t gs) = gs := by
  induction gs generalizing t with
  | nil => rfl
  | cons g gs ih =>
    obtain ⟨hg, hrest⟩ := List.forall_mem_cons.mp hgs
    rw [precode, unprecode, ih (Nat.mod_lt _ (by decide)) hrest]
    congr 1
    omega

/-- An index that the receiver recovers is the sum of the one sent and the one sent before it. -/
theorem getD_unprecode {t n : Nat} {xs : List Nat} (hn : n < xs.length) :
    (unprecode t xs).getD n 0 = (xs.getD n 0 + if n = 0 then t else xs.getD (n - 1) 0) % 4 := by
  induction xs generalizing t n with
  | nil => simp at hn
  | cons x xs ih =>
    cases n with
    | zero => rfl
    | succ n =>
      rw [unprecode, List.getD_cons_succ, List.getD_cons_succ, ih (Nat.lt_of_succ_lt_succ hn), if_neg n.succ_ne_zero,
        Nat.add_sub_cancel]
      cases n <;> rfl

/-- Settles O6: the receiver's sums, on what the transmitter sends, are the Gray indices. -/
theorem precodingIsUndone : Obligations.PrecodingIsUndone := by
  refine ⟨fun t gs ht hgs => ⟨length_precode t gs, fun _ => lt_four_of_mem_precode, unprecode_precode ht hgs,
    fun n hn => ?_⟩, rfl⟩
  rw [← getD_unprecode (by rwa [length_precode]), unprecode_precode ht hgs]

/-! The scrambler. -/

theorem length_descramble (h ss : List Bool) : (descramble h ss).length = ss.length := by
  induction ss generalizing h with
  | nil => rfl
  | cons s ss ih => rw [descramble, List.length_cons, ih, List.length_cons]

theorem xor_xor_twice : ∀ x y z : Bool, ((x ^^ y ^^ z) ^^ y ^^ z) = x := by decide

/-- With the scrambler's history the descrambler takes away what the scrambler added. -/
theorem descramble_scramble (h ds : List Bool) : descramble h (scramble h ds) = ds := by
  induction ds generalizing h with
  | nil => rfl
  | cons d ds ih =>
    rw [scramble, descramble, ih]
    rw [xor_xor_twice]

/-- What stands before bit `n` of a stream, newest first. -/
def pastBits (h ss : List Bool) (n : Nat) : List Bool := (ss.take n).reverse ++ h

theorem getD_pastBits {h ss : List Bool} {n i : Nat} (hi : i < n) (hn : n ≤ ss.length) :
    (pastBits h ss n).getD i false = ss.getD (n - 1 - i) false := by
  have hlen : (ss.take n).length = n := List.length_take_of_le hn
  have hi' : i < (ss.take n).reverse.length := by rwa [List.length_reverse, hlen]
  rw [pastBits, List.getD_eq_getElem?_getD, List.getElem?_append_left hi', List.getElem?_reverse (by rwa [hlen]),
    hlen, List.getElem?_take_of_lt (by omega), ← List.getD_eq_getElem?_getD]

theorem getD_descramble {h ss : List Bool} {n : Nat} (hn : n < ss.length) :
    (descramble h ss).getD n false = (ss.getD n false ^^ (pastBits h ss n).getD 38 false ^^ (pastBits h ss n).getD 57 false) := by
  induction ss generalizing h n with
  | nil => simp at hn
  | cons s ss ih =>
    cases n with
    | zero => rfl
    | succ n =>
      have hpast : pastBits (s :: h) ss n = pastBits h (s :: ss) (n + 1) := by simp [pastBits]
      rw [descramble, List.getD_cons_succ, List.getD_cons_succ, ih (Nat.lt_of_succ_lt_succ hn), hpast]

/-- From bit 58 on the descrambler looks at the stream alone. -/
theorem getD_descramble_late {h ss : List Bool} {n : Nat} (hlate : 58 ≤ n) (hn : n < ss.length) :
    (descramble h ss).getD n false = (ss.getD n false ^^ ss.getD (n - 39) false ^^ ss.getD (n - 58) false) := by
  rw [getD_descramble hn, getD_pastBits (by omega) (Nat.le_of_lt hn), getD_pastBits (by omega) (Nat.le_of_lt hn),
    show n - 1 - 38 = n - 39 by omega, show n - 1 - 57 = n - 58 by omega]

/-- Two descramblers of one stream agree from bit 58 on. -/
theorem drop_descramble (h h' ss : List Bool) : (descramble h ss).drop 58 = (descramble h' ss).drop 58 := by
  refine List.ext_getElem (by simp [length_descramble]) fun n hn _ => ?_
  rw [List.length_drop, length_descramble] at hn
  have hlen : 58 + n < ss.length := by omega
  rw [List.getElem_drop, List.getElem_drop, List.getElem_eq_getD false, List.getElem_eq_getD false,
    getD_descramble_late (by omega) hlen, getD_descramble_late (by omega) hlen]

/-- Settles O7: the descrambler undoes the scrambler, and after 58 bits whatever its history. -/
theorem descramblerIsInStepAfter58Bits : Obligations.DescramblerIsInStepAfter58Bits := by
  intro tx rx data
  have hback : descramble tx (scramble tx data) = data := descramble_scramble tx data
  refine ⟨?_, hback, fun n hlate hn => ?_⟩
  · rw [drop_descramble rx tx, hback]
  · have hn' : n < (scramble tx data).length := by rwa [← length_descramble tx, hback]
    have hbit := getD_descramble_late (h := tx) hlate hn'
    rw [hback] at hbit
    rw [hbit, xor_xor_twice]

end Sys2Proof.Machine
end

section
/-! Conditions of a ply link (04 R102), and the timers of its bring-up (04 R103): O1. -/

namespace Sys2Proof.Machine

/-! What the conditions of a ply look at. -/

theorem inTime_iff {a : At} {s : State} {t : Nat} : inTime a s t = true ↔ s.now < t + a.cyc := decide_eq_true_iff

theorem fallen_iff {s : State} {t : Nat} : fallen s t = true ↔ t ≤ s.now := decide_eq_true_iff

theorem State.flag_iff {s : State} {d i j : Nat} {f : Fld} : s.flag d f i j = true ↔ s.get d f i j = 1 := beq_iff_eq

theorem ite_of_iff {α : Type} {c c' : Prop} [Decidable c] [Decidable c'] (h : c ↔ c') (x y : α) :
    (if c then x else y) = if c' then x else y :=
  ite_congr (propext h) (fun _ => rfl) fun _ => rfl

theorem State.timedOut_iff {s : State} {d k st : Nat} {p : Ply} :
    s.timedOut d k st p = true ↔ s.plyState d k = st ∧ p.deadline ≤ s.now := by
  rw [State.timedOut, Bool.and_eq_true, beq_iff_eq, fallen_iff]

theorem State.plyActive_iff {s : State} {d k : Nat} {p : Ply} (hp : s.ply? d k = some p) :
    s.plyActive d k = true ↔ s.plyState d k = 6 := by
  rw [State.plyActive, hp, Option.isSome_some, Bool.true_and, beq_iff_eq]

theorem State.allLanes_iff {s : State} {d k : Nat} {c : Nat → Bool} :
    s.allLanes d k c = true ↔ ∀ n ∈ s.plyLanes d k, c n = true := List.all_eq_true

/-! The commands as their meanings. -/

theorem exec_plyDetectDone (a : At) (k : Nat) (s : State) : exec (.plyDetectDone a k) s = execPlyDetectDone a k s := rfl

theorem exec_detectTimeout (a : At) (k : Nat) (s : State) : exec (.detectTimeout a k) s = execDetectTimeout a k s := rfl

theorem exec_quietEnd (a : At) (k : Nat) (s : State) : exec (.quietEnd a k) s = execQuietEnd a k s := rfl

theorem exec_trainTimeout (a : At) (k : Nat) (s : State) : exec (.trainTimeout a k) s = execTrainTimeout a k s := rfl

theorem exec_lockTimeout (a : At) (k : Nat) (s : State) : exec (.lockTimeout a k) s = execLockTimeout a k s := rfl

theorem exec_alignTimeout (a : At) (k : Nat) (s : State) : exec (.alignTimeout a k) s = execAlignTimeout a k s := rfl

theorem exec_exchangeTimeout (a : At) (k : Nat) (s : State) : exec (.exchangeTimeout a k) s = execExchangeTimeout a k s := rfl

/-! A condition of a configured ply is decided on the ply as its island finds it. -/

section
variable {a : At} {k : Nat} {s : State} {p : Ply} (h : s.On a 8) (hk : k < 8) (hp : (s.begun a 8).ply? a.die k = some p)
include h hk hp

theorem yields_onPly {i : Instr} {u : State} {f : State → Ply → State} (hi : exec i s = onPly a k s f)
    (hf : f (s.begun a 8) p = u) : Yields i s u :=
  h.yields (decide_eq_true hk) hi (by rw [hp, ← hf])

/-- A timer of Table 4.6 that has expired in its state has its effect. -/
theorem yields_timedOut {i : Instr} {st : Nat} {u : State} {f : State → Ply → State}
    (hi : exec i s = onPly a k s fun b p => if b.timedOut a.die k st p then f b p else b)
    (hf : f (s.begun a 8) p = u) (hst : (s.begun a 8).plyState a.die k = st) (hend : p.deadline ≤ (s.begun a 8).now) : Yields i s u :=
  yields_onPly h hk hp hi ((if_pos (State.timedOut_iff.mpr ⟨hst, hend⟩)).trans hf)

theorem yields_detectTimeout (hst : (s.begun a 8).plyState a.die k = 0) (hend : p.deadline ≤ (s.begun a 8).now)
    (hfree : (s.begun a 8).heldLow a.die k = false) :
    Yields (.detectTimeout a k) s ((s.begun a 8).quietBackoff a.die k 1 0 false false) :=
  yields_onPly h hk hp (exec_detectTimeout a k s) (if_pos (by rw [State.timedOut_iff.mpr ⟨hst, hend⟩, hfree]; rfl))

theorem yields_lockTimeout (hst : (s.begun a 8).plyState a.die k = 3) (hend : p.deadline ≤ (s.begun a 8).now) :
    Yields (.lockTimeout a k) s ((s.begun a 8).quietBackoff a.die k 5 ((s.begun a 8).unlocked a.die k) false false) :=
  yields_timedOut h hk hp (exec_lockTimeout a k s) rfl hst hend

theorem yields_exchangeTimeout (hst : (s.begun a 8).plyState a.die k = 5) (hend : p.deadline ≤ (s.begun a 8).now) :
    Yields (.exchangeTimeout a k) s ((s.begun a 8).quietBackoff a.die k 8 0 false false) :=
  yields_timedOut h hk hp (exec_exchangeTimeout a k s) rfl hst hend

theorem yields_plyDetectDone (hst : (s.begun a 8).plyState a.die k = 0) (hin : (s.begun a 8).now < p.deadline + a.cyc)
    (hfree : (s.begun a 8).heldLow a.die k = false)
    (hready : ∀ m ∈ (s.begun a 8).plyCages a.die k,
      ((s.begun a 8).cage a.die m).dataPath = true ∧ (s.begun a 8).get a.die F.MOD_CAGE_FLAGS_RX_LOS m = 0) :
    Yields (.plyDetectDone a k) s ((((s.begun a 8).plyNear a k p.deadline).setLanes a.die k F.LN_STATUS_DETECTED 1).enterQuiet
      a.die k 0 true) := by
  have hcages : ((s.begun a 8).plyCages a.die k).all (fun m => ((s.begun a 8).cage a.die m).dataPath &&
      !(s.begun a 8).flag a.die F.MOD_CAGE_FLAGS_RX_LOS m) = true :=
    List.all_eq_true.mpr fun m hm => by simp [hready m hm, State.flag]
  exact yields_onPly h hk hp (exec_plyDetectDone a k s) (if_pos (by rw [hst, inTime_iff.mpr hin, hcages, hfree]; rfl))

end

/-- Settles O1: DETECT's normal exit, and each timer in its state. -/
theorem bringUpTimersMoveTheLinkOn : Obligations.BringUpTimersMoveTheLinkOn := by
  intro a k s p h hk hp b d
  refine ⟨yields_plyDetectDone h hk hp, yields_detectTimeout h hk hp, ?quiet, ?train, yields_lockTimeout h hk hp, ?align,
    yields_exchangeTimeout h hk hp⟩
  case quiet => exact yields_timedOut h hk hp (exec_quietEnd a k s) rfl
  case train => exact yields_timedOut h hk hp (exec_trainTimeout a k s) rfl
  case align => exact yields_timedOut h hk hp (exec_alignTimeout a k s) rfl

end Sys2Proof.Machine
end

section
/-! What arrives on the lanes of a ply under bring-up (04 R105 to R111): O2. -/

namespace Sys2Proof.Machine

/-! The commands as their meanings. -/

theorem exec_rateFrameReceive (a : At) (k lane w sent : Nat) (s : State) :
    exec (.rateFrameReceive a k lane w sent) s = execRateFrameReceive a k lane w sent s := rfl

theorem exec_trainingFrameReceive (a : At) (k lane ctl stat chk : Nat) (inv ready : Bool) (sent : Nat) (s : State) :
    exec (.trainingFrameReceive a k lane ctl stat chk inv ready sent) s =
      execTrainingFrameReceive a k lane ctl stat chk inv ready sent s := rfl

theorem exec_laneBlockLock (a : At) (k lane : Nat) (s : State) : exec (.laneBlockLock a k lane) s = execLaneBlockLock a k lane s := rfl

theorem exec_laneHuntFail (a : At) (k lane examined : Nat) (s : State) :
    exec (.laneHuntFail a k lane examined) s = execLaneHuntFail a k lane examined s := rfl

theorem exec_alignBlockReceive (a : At) (k lane : Nat) (b : List Byte) (s : State) :
    exec (.alignBlockReceive a k lane b) s = execAlignBlockReceive a k lane b s := rfl

theorem exec_exchBlockReceive (a : At) (k : Nat) (b : List Byte) (s : State) :
    exec (.exchBlockReceive a k b) s = execExchBlockReceive a k b s := rfl

/-- A valid control block of a ply that is not ACTIVE is taken, and its liveness time is now. -/
theorem State.takeBlock_early {b : State} {a : At} {k type : Nat} {blk : List Byte} {ok : Bool} {p : Ply}
    (hp : b.ply? a.die k = some p) (hst : b.plyState a.die k ≠ 6)
    (hok : (blockFit type blk && ok && blockAllowed (b.plyState a.die k) type) = true) (f : State → Ply → State) :
    b.takeBlock a k type blk ok f = f (b.modPly a.die k fun x => { x with liveAt := b.now }) { p with liveAt := b.now } := by
  simp only [State.takeBlock, hp, hok, Bool.not_true, Bool.false_eq_true, if_false, State.heard_early hst, State.ply_modPly,
    and_self, if_true, Option.map_some]

/-- What is known of a ply beyond its registers changes none of them. -/
@[simp] theorem State.get_modPly (s : State) (d k : Nat) (f : Ply → Ply) (e : Nat) (g : Fld) (i j : Nat) :
    (s.modPly d k f).get e g i j = s.get e g i j := by
  rw [State.get, State.word, State.modPly_reg, State.get, State.word]

/-- Settles O2: each frame or block meets the guard of its state, and a block is heard before it is taken. -/
theorem trainingAndExchangeFramesAreTaken : Obligations.TrainingAndExchangeFramesAreTaken := by
  intro a k lane s p h hk hp hlane b d
  refine ⟨fun w sent hst hrate hin hok => ?rate, fun ctl stat chk inv ready sent hst hrate hin hchk => ?taps,
    fun hlo hhi hin => ?lock, fun examined hlo hhi hunt => ?hunt, fun blk hlock hst hfit halign => ?align,
    fun blk hst hfit hply halign hrate => ?exch⟩
  case rate =>
    refine yields_onPly h hk hp (exec_rateFrameReceive a k lane w sent s) ((if_pos ?_).trans (ite_of_iff State.allLanes_iff _ _))
    rw [hst, hrate, inTime_iff.mpr hin, hlane, hok]
    rfl
  case taps =>
    refine yields_onPly h hk hp (exec_trainingFrameReceive a k lane ctl stat chk inv ready sent s)
      ((if_pos ?_).trans (ite_of_iff State.allLanes_iff _ _))
    rw [hst, bne_iff_ne.mpr hrate, inTime_iff.mpr hin, hlane, beq_iff_eq.mpr hchk]
    rfl
  case lock =>
    exact yields_onPly h hk hp (exec_laneBlockLock a k lane s) (if_pos ⟨hlo, hhi, inTime_iff.mpr hin, hlane⟩)
  case hunt =>
    exact yields_onPly h hk hp (exec_laneHuntFail a k lane examined s) (if_pos ⟨hlo, hhi, hlane, hunt⟩)
  case align =>
    have htaken := State.takeBlock_early (ok := [1, 2, 4, 8].contains (byteAt blk 2)) hp (by rw [hst]; decide)
      (by rw [hfit, halign, hst]; rfl)
    refine yields_onPly h hk hp (exec_alignBlockReceive a k lane blk s) ((if_pos ?_).trans ((htaken _).trans (if_pos ?_)))
    · rw [hlane, hlock]
      rfl
    · exact (State.get_modPly ..).trans hst
  case exch =>
    have htaken := State.takeBlock_early (ok := byteAt blk 1 != 0 && [1, 2, 4, 8].contains (byteAt blk 9)) hp (by rw [hst]; decide)
      (by rw [hfit, bne_iff_ne.mpr hply, halign, hst]; rfl)
    refine yields_onPly h hk hp (exec_exchBlockReceive a k blk s)
      ((htaken _).trans ((if_neg fun hne => hne ?_).trans (if_neg fun hne => hne ?_)))
    · exact (State.get_modPly ..).trans hst
    · exact hrate.trans (State.get_modPly ..).symm

end Sys2Proof.Machine
end

section
/-! Errors on a lane, and what ends a link (04 R95, R98, R102, R106, R112 to R114): O3. -/

namespace Sys2Proof.Machine

/-! The commands as their meanings. -/

theorem exec_invalidHeaderBlock (a : At) (k lane gap : Nat) (s : State) :
    exec (.invalidHeaderBlock a k lane gap) s = execInvalidHeaderBlock a k lane gap s := rfl

theorem exec_fecCodewordDecode (a : At) (k lane : Nat) (errs : Option Nat) (s : State) :
    exec (.fecCodewordDecode a k lane errs) s = execFecCodewordDecode a k lane errs s := rfl

theorem exec_fecWindowEnd (a : At) (k lane snr : Nat) (s : State) :
    exec (.fecWindowEnd a k lane snr) s = execFecWindowEnd a k lane snr s := rfl

theorem exec_liveness (a : At) (k : Nat) (s : State) : exec (.liveness a k) s = execLiveness a k s := rfl

theorem exec_alignLost (a : At) (k : Nat) (s : State) : exec (.alignLost a k) s = execAlignLost a k s := rfl

theorem exec_signalLost (a : At) (k lane : Nat) (s : State) : exec (.signalLost a k lane) s = execSignalLost a k lane s := rfl

theorem exec_refreshTimeout (a : At) (k : Nat) (s : State) : exec (.refreshTimeout a k) s = execRefreshTimeout a k s := rfl

theorem exec_plyWakeFail (a : At) (k unlocked : Nat) (s : State) :
    exec (.plyWakeFail a k unlocked) s = execPlyWakeFail a k unlocked s := rfl

/-- The two sleeping states of a direction (04 Table 4.11). -/
theorem asleep_iff {n : Nat} : (n == 1 || n == 2) = true ↔ n = 1 ∨ n = 2 := by
  rw [Bool.or_eq_true, beq_iff_eq, beq_iff_eq]

theorem ite_beq_and_decide {α : Type} {m n : Nat} {c : Prop} [Decidable c] (x y : α) :
    (if (m == n && decide c) = true then x else y) = if m = n ∧ c then x else y :=
  ite_of_iff (by rw [Bool.and_eq_true, beq_iff_eq, decide_eq_true_iff]) x y

/-- An uncorrectable codeword is counted, and told where that is due (04 R98). -/
def State.uncorrectable (b : State) (d k lane : Nat) (p : Ply) (due : Bool) : State :=
  let u := (b.bump d F.LN_FEC_UNCORR_COUNT 1 lane).modLane d lane fun x => { x with fecRun := x.fecRun + 1 }
  let u := u.modPly d k fun x =>
    { x with uncorr := satAdd 0xFFFFFFFF x.uncorr 1, uncorrNew := if due then 0 else satAdd 0xFFFFFFFF x.uncorrNew 1,
             uncorrAt := if due then some u.now else x.uncorrAt }
  if due then u.raise d lane 0x10A 2 [(1, u.plyId d k), (1, lane), (2, 0), (4, satAdd 0xFFFFFFFF p.uncorrNew 1)] else u

/-- The eighth uncorrectable codeword in a row takes an ACTIVE link down. -/
def State.endsUncorrectable (u : State) (d k lane : Nat) : State :=
  if u.plyState d k = 6 ∧ 8 ≤ (u.lane d lane).fecRun then u.leaveActive d k 13 else u

theorem all_eq_match (o : Option Nat) (c : Nat → Bool) : (match o with | none => true | some t => c t) = o.all c := by
  cases o <;> rfl

/-- Settles O3: each condition meets its guard, and the counters and the end of the link follow. -/
theorem laneErrorsAreCountedAndEndTheLink : Obligations.LaneErrorsAreCountedAndEndTheLink := by
  intro a k lane s p h hk hp hlane b d
  have hactive : b.plyState d k = 6 → b.plyActive d k = true := (State.plyActive_iff hp).mpr
  refine ⟨fun gap hlock => ?header, fun n hframed hn => ?corrected, fun hframed => ?uncorrectable, fun snr hnone hgood => ?window,
    fun snr hthresh hover => ?degraded, fun hst hrx hlate => ?liveness, fun hst hrx => ?align, fun hst hrx => ?signal,
    fun hlo hhi => ?early, fun hst hrx hlate => ?refresh, fun unlocked hst hrx => ?wake⟩
  case header =>
    have hmeets : (bit p.cfg.mask lane && b.flag d F.LN_STATUS_BLOCK_LOCK lane) = true := by rw [hlane, hlock]; rfl
    have hcmd {u : State} := yields_onPly (u := u) h hk hp (exec_invalidHeaderBlock a k lane gap s)
    refine ⟨fun hfew => ?_, fun hmany hst hrx => ?_, fun hmany hst => ?_⟩
    · exact hcmd ((if_pos hmeets).trans (if_pos hfew))
    · exact hcmd ((if_pos hmeets).trans ((if_neg (Nat.not_lt.mpr hmany)).trans ((if_pos hst).trans (if_pos hrx))))
    · exact hcmd ((if_pos hmeets).trans ((if_neg (Nat.not_lt.mpr hmany)).trans (if_neg hst)))
  case corrected =>
    have hcount : (some n).filter (fun m => decide (m ≤ 15)) = some n := by simp [hn]
    refine yields_onPly h hk hp (exec_fecCodewordDecode a k lane (some n) s) ((if_pos ?_).trans ?_)
    · rw [hlane, hframed]; rfl
    · simp only [hcount]; rfl
  case uncorrectable =>
    refine yields_onPly h hk hp (exec_fecCodewordDecode a k lane none s) ((if_pos ?_).trans ?_)
    · rw [hlane, hframed]; rfl
    · refine (ite_beq_and_decide (m := (b.uncorrectable d k lane p _).plyState d k)
        (c := 8 ≤ ((b.uncorrectable d k lane p _).lane d lane).fecRun) _ _).trans ?_
      exact congrArg (fun due => (b.uncorrectable d k lane p due).endsUncorrectable d k lane) (all_eq_match p.uncorrAt _)
  case window =>
    refine yields_onPly h hk hp (exec_fecWindowEnd a k lane snr s) ((if_pos hlane).trans ((if_neg ?_).trans ((if_neg ?_).trans ?_)))
    · exact fun hover => hover.1 hnone
    · exact fun hlow => absurd hlow.1 (by rw [hgood]; decide)
    · rw [hnone, if_neg (Nat.not_lt_zero _)]
      rfl
  case degraded =>
    exact yields_onPly h hk hp (exec_fecWindowEnd a k lane snr s) ((if_pos hlane).trans (if_pos ⟨hthresh, hover⟩))
  case liveness =>
    exact yields_onPly h hk hp (exec_liveness a k s) (if_pos (by rw [hactive hst, hrx, fallen_iff.mpr hlate]; rfl))
  case align => exact yields_onPly h hk hp (exec_alignLost a k s) (if_pos (by rw [hactive hst, hrx]; rfl))
  case signal =>
    exact yields_onPly h hk hp (exec_signalLost a k lane s)
      ((if_neg (by rw [hlane]; decide)).trans
        ((if_neg fun hearly => absurd (hst ▸ hearly.2) (by decide)).trans (if_pos ⟨hst, hrx⟩)))
  case early =>
    exact yields_onPly h hk hp (exec_signalLost a k lane s) ((if_neg (by rw [hlane]; decide)).trans (if_pos ⟨hlo, hhi⟩))
  case refresh =>
    exact yields_onPly h hk hp (exec_refreshTimeout a k s)
      (if_pos (by rw [hactive hst, asleep_iff.mpr hrx, fallen_iff.mpr hlate]; rfl))
  case wake =>
    exact yields_onPly h hk hp (exec_plyWakeFail a k unlocked s) (if_pos (by rw [hactive hst, asleep_iff.mpr hrx]; rfl))

end Sys2Proof.Machine
end

section
/-! Control of ply links and modules (04 R112, R117, R118): O4. -/

namespace Sys2Proof.Machine

/-! The commands as their meanings. -/

theorem exec_plyDisable (a : At) (q : Req) (k : Nat) (v : Word) (s : State) :
    exec (.plyDisable a q k v) s = execPlyDisable a q k v s := rfl

theorem exec_plyEnable (a : At) (q : Req) (k : Nat) (v : Word) (s : State) :
    exec (.plyEnable a q k v) s = execPlyEnable a q k v s := rfl

theorem exec_plyRetrain (a : At) (q : Req) (k : Nat) (v : Word) (s : State) :
    exec (.plyRetrain a q k v) s = execPlyRetrain a q k v s := rfl

theorem exec_moduleReset (a : At) (q : Req) (m : Nat) (v : Word) (s : State) :
    exec (.moduleReset a q m v) s = execModuleReset a q m v s := rfl

theorem exec_forceLowpwr (a : At) (q : Req) (m : Nat) (v : Word) (s : State) :
    exec (.forceLowpwr a q m v) s = execForceLowpwr a q m v s := rfl

theorem exec_moduleInserted (a : At) (m ident rev sel appRates waitMs : Nat) (s : State) :
    exec (.moduleInserted a m ident rev sel appRates waitMs) s = execModuleInserted a m ident rev sel appRates waitMs s := rfl

theorem exec_moduleReady (a : At) (m state : Nat) (s : State) : exec (.moduleReady a m state) s = execModuleReady a m state s := rfl

theorem exec_modulePoll (a : At) (m state flags : Nat) (dpOk : Bool) (s : State) :
    exec (.modulePoll a m state flags dpOk) s = execModulePoll a m state flags dpOk s := rfl

theorem exec_moduleRemoved (a : At) (m : Nat) (s : State) : exec (.moduleRemoved a m) s = execModuleRemoved a m s := rfl

/-! A write of PLY_LINKk_CTL (04 R112). -/

/-- What a write of PLY_LINKk_CTL shows: DISABLE as written, and FAILED cleared with RETRAIN. -/
def State.plyCtlShown (s : State) (d k : Nat) (v : Word) : State :=
  let u := s.set d F.PLY_LINK_CTL_DISABLE (wordGet v 31 31) k
  if wordGet v 30 30 = 1 then u.set d F.PLY_LINK_STATE_FAILED 0 k else u

section
variable {s : State} {d k : Nat} {v : Word} {p : Ply} (hp : s.ply? d k = some p)
include hp

theorem State.writePlyCtl_disable (hdis : wordGet v 31 31 = 1) : s.writePlyCtl d k v =
    ((if s.plyState d k = 6 then (s.plyCtlShown d k v).endActive d k 17 else s.plyCtlShown d k v).laneIdle d k).enterState d k 7 := by
  simp [State.writePlyCtl, State.plyCtlShown, hp, hdis, b2n]

theorem State.writePlyCtl_enable (hdis : wordGet v 31 31 = 0) (hst : s.plyState d k = 7) :
    s.writePlyCtl d k v = ((s.plyCtlShown d k v).set d F.PLY_LINK_STATE_ATTEMPTS 0 k).enterState d k 0 := by
  simp [State.writePlyCtl, State.plyCtlShown, hp, hdis, hst, b2n]

theorem State.writePlyCtl_retrain (hdis : wordGet v 31 31 = 0) (hre : wordGet v 30 30 = 1) (hst : s.plyState d k ≠ 7) :
    s.writePlyCtl d k v =
      if s.plyState d k = 6 then (s.plyCtlShown d k v).leaveActive d k 17 else (s.plyCtlShown d k v).quietPlain d k 17 := by
  simp [State.writePlyCtl, State.plyCtlShown, hp, hdis, hre, hst, b2n]

end

/-! A write of MOD_CAGEm_CTL (04 R117, R118). -/

theorem State.writeCageCtl_reset {s : State} {d m : Nat} {v : Word} (hreset : wordGet v 30 30 = 1)
    (hsame : wordGet v 31 31 = s.get d F.MOD_CAGE_CTL_FORCE_LOWPWR m) :
    s.writeCageCtl d m v = (s.set d F.MOD_CAGE_CTL_FORCE_LOWPWR (wordGet v 31 31) m).emit (.moduleReset d m) := by
  rw [State.writeCageCtl, if_pos hsame, if_pos hreset]

theorem State.writeCageCtl_force {s : State} {d m : Nat} {v : Word} (hreset : wordGet v 30 30 = 0) (hlow : wordGet v 31 31 = 1)
    (hfree : s.get d F.MOD_CAGE_CTL_FORCE_LOWPWR m = 0) : s.writeCageCtl d m v =
      let x := ((s.set d F.MOD_CAGE_CTL_FORCE_LOWPWR (wordGet v 31 31) m).emit (.moduleLowPower d m true)).modCage d m
        fun c => { c with staged := false, dataPath := false }
      (x.cageSlots d m).foldl (fun s k => s.holdInDetect d k) x := by
  simp [State.writeCageCtl, hreset, hlow, hfree]

/-- Settles O4: each admitted write is its register's effect, and each step of a module meets its guard. -/
theorem plyControlAndModuleWritesTakeEffect : Obligations.PlyControlAndModuleWritesTakeEffect := by
  refine ⟨fun a q k v s p h hk hp => ⟨fun hdis => ?disable, fun hdis hst => ?enable, fun hdis hre hst => ?retrain⟩,
    fun a q m v s h hm => ⟨fun hreset hsame => ?reset, fun hreset hlow hfree => ?force⟩,
    fun a m s h hm => ⟨fun ident rev sel appRates waitMs => ?inserted,
      fun hpresent => ⟨fun state hfree hready => ?ready, fun state flags dpOk hstate h7 h6 h4 => ?poll, ?removed⟩⟩⟩
  case disable =>
    exact h.yields (decide_eq_true hk) (exec_plyDisable a q k v s) (State.writePlyCtl_disable hp hdis)
  case enable =>
    exact h.yields (decide_eq_true hk) (exec_plyEnable a q k v s) (State.writePlyCtl_enable hp hdis hst)
  case retrain =>
    exact h.yields (decide_eq_true hk) (exec_plyRetrain a q k v s) (State.writePlyCtl_retrain hp hdis hre hst)
  case reset =>
    exact h.yields (decide_eq_true hm) (exec_moduleReset a q m v s) (State.writeCageCtl_reset hreset hsame)
  case force =>
    exact h.yields (decide_eq_true hm) (exec_forceLowpwr a q m v s) (State.writeCageCtl_force hreset hlow hfree)
  case inserted =>
    exact h.yields (decide_eq_true hm) (exec_moduleInserted a m ident rev sel appRates waitMs s)
      (ite_of_iff State.flag_iff _ _)
  case ready =>
    refine h.yields (decide_eq_true hm) (exec_moduleReady a m state s) (if_pos ?_)
    rw [State.flag_iff.mpr hpresent, State.flag, beq_eq_false_iff_ne.mpr hfree]
    simpa [fallen] using hready
  case poll =>
    refine h.yields (decide_eq_true hm) (exec_modulePoll a m state flags dpOk s)
      ((if_pos (State.flag_iff.mpr hpresent)).trans (if_neg ?_))
    rw [h7, h6, h4, beq_eq_false_iff_ne.mpr hstate]
    decide
  case removed =>
    exact h.yields (decide_eq_true hm) (exec_moduleRemoved a m s) (if_pos (State.flag_iff.mpr hpresent))

end Sys2Proof.Machine
end

section
/-! The sleep and the waking of a ply's directions (04 R113 to R115): O5. -/

namespace Sys2Proof.Machine

/-! The commands as their meanings. -/

theorem exec_directionSleepEnter (a : At) (k : Nat) (s : State) :
    exec (.directionSleepEnter a k) s = execDirectionSleepEnter a k s := rfl

theorem exec_directionWake (a : At) (k : Nat) (s : State) : exec (.directionWake a k) s = execDirectionWake a k s := rfl

theorem exec_refreshBurst (a : At) (k : Nat) (s : State) : exec (.refreshBurst a k) s = execRefreshBurst a k s := rfl

theorem exec_sleepBlockReceive (a : At) (k : Nat) (b : List Byte) (s : State) :
    exec (.sleepBlockReceive a k b) s = execSleepBlockReceive a k b s := rfl

theorem exec_wakeRunReceive (a : At) (k took : Nat) (s : State) :
    exec (.wakeRunReceive a k took) s = execWakeRunReceive a k took s := rfl

/-! The transmit direction. -/

/-- The commit step of a direction's sleep: a SLEEP block on every lane, and the time of the first refresh (04 R113). -/
def State.sleepTx (s : State) (d k m : Nat) : State :=
  let u := s.onEveryLane d k (s.sleepBlock d k m false)
  let u := (u.set d F.PLY_LINK_SLEEP_TX_STATE m k).wrap d F.PLY_LINK_SLEEP_CNT_ENTRIES k
  u.modPly d k fun x => { x with refreshAt := u.now + u.refreshEvery d k m }

section
variable {a : At} {k : Nat} {s : State} {p : Ply} (h : s.On a 9) (hk : k < 8) (hp : (s.begun a 9).ply? a.die k = some p)
  (hst : (s.begun a 9).plyState a.die k = 6)
include h hk hp hst

/-- A transmit direction that may sleep aborts on work that is queued, and commits otherwise. -/
theorem yields_directionSleepEnter {m : Nat} (htx : (s.begun a 9).txState a.die k = 0) (hmode : (s.begun a 9).dirMode a.die k = m)
    (hm : m = 1 ∨ m = 2) (hallowed : (s.begun a 9).sleepAllowed a.die k m = true)
    (hidle : p.sentAt + (s.begun a 9).idleTime a.die m ≤ (s.begun a 9).now) :
    Yields (.directionSleepEnter a k) s
      (if (s.begun a 9).owesWork a.die k = true then (s.begun a 9).bump a.die F.PLY_LINK_SLEEP_CNT_ABORTS 1 k
        else (s.begun a 9).sleepTx a.die k m) := by
  subst hmode
  refine h.yields (decide_eq_true hk) (exec_directionSleepEnter a k s) ?_
  simp only [hp]
  refine if_pos ?_
  rw [(State.plyActive_iff hp).mpr hst, htx, asleep_iff.mpr hm, hallowed, fallen_iff.mpr hidle]
  rfl

section
variable (htx : (s.begun a 9).txState a.die k = 1 ∨ (s.begun a 9).txState a.die k = 2)
include htx

/-- A sleeping transmit direction with work, or in mode AWAKE, wakes. -/
theorem yields_directionWake (hdue : (s.begun a 9).owesWork a.die k = true ∨ (s.begun a 9).dirMode a.die k = 0) :
    Yields (.directionWake a k) s (((s.begun a 9).wakeRun a.die k false).set a.die F.PLY_LINK_SLEEP_TX_STATE 0 k) := by
  have hwork : ((s.begun a 9).owesWork a.die k || (s.begun a 9).dirMode a.die k == 0) = true := by
    rwa [Bool.or_eq_true, beq_iff_eq]
  refine h.yields (decide_eq_true hk) (exec_directionWake a k s) (if_pos ?_)
  rw [(State.plyActive_iff hp).mpr hst, asleep_iff.mpr htx, hwork]
  rfl

theorem gives_directionWake (hdue : (s.begun a 9).owesWork a.die k = true ∨ (s.begun a 9).dirMode a.die k = 0) :
    Gives (.directionWake a k) s fun t => t.txState a.die k = 0 ∧
      t.out = [.wakeRun a.die k false, .align a.die k (3 + 4 * s.get a.die F.LN_STATUS_PRECODE_TX k)] ∧
      s.OnlyRegs [barAddr a.die (Reg.PLY_LINK_SLEEP.off k 0)] t ∧ s.SameBytes t := by
  have hkept : s.Kept := h.1
  let u := ((s.begun a 9).wakeRun a.die k false).set a.die F.PLY_LINK_SLEEP_TX_STATE 0 k
  have hregs : u.regs = s.regs := s.begun_regs a 9
  have hbegun : s.OnlyRegs [barAddr a.die (Reg.PLY_LINK_SLEEP.off k 0)] ((s.begun a 9).wakeRun a.die k false) :=
    fun n _ => State.reg_begun hkept a 9 n
  refine (yields_directionWake h hk hp hst htx hdue).gives ⟨?_, ?_, State.onlyRegs_commit hkept hregs (hbegun.set ?_ 0),
    State.sameBytes_commit hkept (s.begun_cellLog a 9)⟩
  · rw [State.txState, State.get_commit hkept hregs, State.get_set_same _ (by decide) (by decide)]
    rfl
  · rw [State.commit_out, State.set_out, State.wakeRun, State.emits, State.begun_out, State.get_begun hkept]
    rfl
  · exact List.mem_singleton.mpr rfl

/-- At its refresh time a sleeping transmit direction sends a burst. -/
theorem yields_refreshBurst (hdue : p.refreshAt ≤ (s.begun a 9).now) : Yields (.refreshBurst a k) s (
    let t := (s.begun a 9).txState a.die k
    let u := ((s.begun a 9).wakeRun a.die k true).refreshBlocks a.die k
    let u := u.onEveryLane a.die k (u.sleepBlock a.die k t true)
    u.modPly a.die k fun x => { x with refreshAt := u.now + u.refreshEvery a.die k t }) := by
  refine h.yields (decide_eq_true hk) (exec_refreshBurst a k s) ?_
  simp only [hp]
  refine if_pos ?_
  rw [(State.plyActive_iff hp).mpr hst, asleep_iff.mpr htx, fallen_iff.mpr hdue]
  rfl

end

end

/-! The receive direction. -/

/-- Hearing a control block takes no time. -/
theorem State.heard_now (s : State) (a : At) (k : Nat) : (s.heard a k).now = s.now := by
  have hnear (t : Nat) : (s.plyNear a k t).clock = s.clock := by
    unfold State.plyNear
    split <;> rfl
  unfold State.heard
  dsimp only
  split
  · rfl
  · rw [State.now, State.modPly_clock]
    split
    · rw [hnear, State.now]
    · rfl

section
variable {a : At} {k : Nat} {s : State} {p : Ply} (h : s.On a 8) (hk : k < 8) (hp : (s.begun a 8).ply? a.die k = some p)
  (hst : (s.begun a 8).plyState a.die k = 6)
include h hk hp hst

/-- A valid SLEEP block puts the receive direction to sleep. -/
theorem yields_sleepBlockReceive {blk : List Byte} (hfit : blockFit 6 blk = true) (htarget : byteAt blk 1 = 1 ∨ byteAt blk 1 = 2) :
    Yields (.sleepBlockReceive a k blk) s
      ((((s.begun a 8).heard a k).set a.die F.PLY_LINK_SLEEP_RX_STATE (byteAt blk 1) k).modPly a.die k fun x =>
        { x with rxRefreshBy := (s.begun a 8).now + 2 * (if byteAt blk 1 = 1 then us (numAt blk 4 2) else ms 10),
                 resync := false }) := by
  obtain ⟨_, htaken⟩ := State.takeBlock_ok (type := 6) (ok := byteAt blk 1 == 1 || byteAt blk 1 == 2) hp
    (by rw [hfit, asleep_iff.mpr htarget, hst]; rfl) fun x _ =>
      (x.set a.die F.PLY_LINK_SLEEP_RX_STATE (byteAt blk 1) k).modPly a.die k fun q =>
        { q with rxRefreshBy := x.now + 2 * (if byteAt blk 1 = 1 then us (numAt blk 4 2) else ms 10), resync := false }
  rw [State.heard_now] at htaken
  exact yields_onPly h hk hp (exec_sleepBlockReceive a k blk s) htaken

/-- A wake run in time wakes the receive direction. -/
theorem yields_wakeRunReceive {took : Nat} (hrx : (s.begun a 8).rxState a.die k = 1 ∨ (s.begun a 8).rxState a.die k = 2)
    (hin : took < wakeLimit ((s.begun a 8).rxState a.die k) ((s.begun a 8).plyRate a.die k)) : Yields (.wakeRunReceive a k took) s (
      let u := (s.begun a 8).set a.die F.PLY_LINK_SLEEP_RX_STATE 0 k
      let u := (u.plyLanes a.die k).foldl (fun s n => s.modLane a.die n fun x => { x with invalid := [], fecRun := 0 }) u
      u.modPly a.die k fun x => { x with liveAt := u.now }) := by
  refine yields_onPly h hk hp (exec_wakeRunReceive a k took s) ((if_pos ?_).trans ?_)
  · rw [(State.plyActive_iff hp).mpr hst, asleep_iff.mpr hrx, decide_eq_true (Nat.lt_add_right a.cyc hin)]
    rfl
  · rw [if_neg (Nat.not_le.mpr hin)]

end

/-- Settles O5: what a direction sends or hears in its state moves it to its next. -/
theorem directionsSleepAndWake : Obligations.DirectionsSleepAndWake := by
  refine ⟨fun a k s p h hk hp hst => ⟨fun m htx hmode hm hallowed hidle => ?sleep,
      fun htx => ⟨gives_directionWake h hk hp hst htx, yields_refreshBurst h hk hp hst htx⟩⟩,
    fun a k s p h hk hp hst => ⟨fun _ => yields_sleepBlockReceive h hk hp hst, fun _ => yields_wakeRunReceive h hk hp hst⟩⟩
  case sleep =>
    have henter := yields_directionSleepEnter h hk hp hst htx hmode hm hallowed hidle
    refine ⟨fun hwork => ?_, fun hnone => ?_⟩
    · rwa [if_pos hwork] at henter
    · rwa [if_neg (ne_true_of_eq_false hnone)] at henter

end Sys2Proof.Machine
end

section
/-! A bring-up that fails: one more attempt, its cause, and the back-off (04 R103): O54. -/

namespace Sys2Proof.Machine

/-! Entering QUIET. -/

/-- A step of a link's way into QUIET: registers and dies alone change, the link stays configured, and its ATTEMPTS and LAST_FAIL
read as before. -/
structure State.Requiets (d k : Nat) (s t : State) : Prop where
  beside : ∃ l x, t = { s with regLog := l, dies := x }
  stays : (s.ply? d k).isSome → (t.ply? d k).isSome
  attempts : t.get d F.PLY_LINK_STATE_ATTEMPTS k = s.get d F.PLY_LINK_STATE_ATTEMPTS k
  cause : t.get d F.PLY_LINK_STATE_LAST_FAIL k = s.get d F.PLY_LINK_STATE_LAST_FAIL k

/-- A lane's status register is none of a ply link's. -/
theorem laneStatus_ne_linkState {n : Nat} (hn : n < 8) (d k : Nat) :
    barAddr d (Reg.PLY_LINK_STATE.off k 0) ≠ barAddr d (Reg.LN_STATUS.off n 0) := by
  simp only [barAddr, RegDesc.off, Reg.PLY_LINK_STATE, Reg.LN_STATUS]
  omega

theorem State.lt_of_mem_plyLanes {s : State} {d k n : Nat} (h : n ∈ s.plyLanes d k) : n < 8 := by
  unfold State.plyLanes at h
  split at h
  · exact List.mem_range.mp (List.mem_filter.mp h).1
  · exact absurd h List.not_mem_nil

theorem State.ply_modLane (s : State) (d n : Nat) (f : Lane → Lane) (e k : Nat) : (s.modLane d n f).ply? e k = s.ply? e k := by
  unfold State.ply? State.modLane
  rw [State.die_modDie]
  split
  · next he => rw [he]
  · rfl

section
variable {d k : Nat} {s t : State}

theorem State.Requiets.refl (s : State) (d k : Nat) : s.Requiets d k s := ⟨⟨_, _, rfl⟩, id, rfl, rfl⟩

theorem State.Requiets.trans {u : State} (h : s.Requiets d k t) (h' : t.Requiets d k u) : s.Requiets d k u := by
  obtain ⟨⟨_, _, rfl⟩, hstays, hattempts, hcause⟩ := h
  obtain ⟨⟨_, _, rfl⟩, hstays', hattempts', hcause'⟩ := h'
  exact ⟨⟨_, _, rfl⟩, hstays' ∘ hstays, hattempts'.trans hattempts, hcause'.trans hcause⟩

theorem State.Requiets.foldl {α : Type} {f : State → α → State} {l : List α} (h : s.Requiets d k t)
    (hf : ∀ u : State, ∀ x ∈ l, u.Requiets d k (f u x)) : s.Requiets d k (l.foldl f t) := by
  induction l generalizing t with
  | nil => exact h
  | cons x l ih =>
    exact ih (h.trans (hf t x List.mem_cons_self)) fun u y hy => hf u y (List.mem_cons_of_mem x hy)

/-- A field of the status register is set on every lane. -/
theorem State.Requiets.setLanes (h : s.Requiets d k t) {f : Fld} (hf : f.reg = Reg.LN_STATUS) (v : Nat) :
    s.Requiets d k (t.setLanes d k f v) := by
  refine h.foldl fun u n hn => ?_
  have hne : barAddr d (Reg.PLY_LINK_STATE.off k 0) ≠ barAddr d (f.reg.off n 0) :=
    hf ▸ laneStatus_ne_linkState (State.lt_of_mem_plyLanes hn) d k
  exact ⟨⟨_, _, rfl⟩, id, State.get_set_of_ne u hne v, State.get_set_of_ne u hne v⟩

/-- The lanes' own states change. -/
theorem State.Requiets.modLanes (h : s.Requiets d k t) (l : List Nat) (f : Lane → Lane) :
    s.Requiets d k (l.foldl (fun u n => u.modLane d n f) t) :=
  h.foldl fun u n _ => ⟨⟨_, _, rfl⟩, by rw [State.ply_modLane]; exact id, rfl, rfl⟩

/-- The link's own state changes. -/
theorem State.Requiets.modPly (h : s.Requiets d k t) (f : Ply → Ply) : s.Requiets d k (t.modPly d k f) := by
  refine h.trans ⟨?_, ?_, State.get_modPly .., State.get_modPly ..⟩
  · unfold State.modPly
    split
    · exact ⟨_, _, rfl⟩
    · exact ⟨_, _, rfl⟩
  · rw [State.ply_modPly, if_pos ⟨rfl, rfl⟩, Option.isSome_map]
    exact id

/-- STATE or RATE of the link is set. -/
theorem State.Requiets.setLink (h : s.Requiets d k t) {f : Fld} (hreg : f.reg = Reg.PLY_LINK_STATE) (hlo : 23 < f.lo)
    (hle : f.lo ≤ f.hi) (hhi : f.hi < 32) (v : Nat) : s.Requiets d k (t.set d f v k) :=
  h.trans ⟨⟨_, _, rfl⟩, id, State.get_set_apart t hle hhi hreg.symm (.inl hlo) d v k 0,
    State.get_set_apart t hle hhi hreg.symm (.inl (Nat.lt_trans (by decide) hlo)) d v k 0⟩

end

section
variable (s : State) (d k backoff : Nat) (fromDetect : Bool)

theorem State.requiets_laneIdle : s.Requiets d k (s.laneIdle d k) := by
  have hlocks := ((State.Requiets.refl s d k).setLanes (f := F.LN_STATUS_CDR_LOCK) rfl 0).setLanes (f := F.LN_STATUS_BLOCK_LOCK) rfl 0
  have hrate := (hlocks.setLanes (f := F.LN_STATUS_FEC_FRAMED) rfl 0).setLanes (f := F.LN_STATUS_RATE) rfl 3
  have hprecode := (hrate.setLanes (f := F.LN_STATUS_PRECODE_TX) rfl 0).setLanes (f := F.LN_STATUS_PRECODE_RX) rfl 0
  have hlanes := (hprecode.setLanes (f := F.LN_STATUS_POLARITY_INV) rfl 0).modLanes
  unfold State.laneIdle
  exact ((hlanes _ _).setLink (f := F.PLY_LINK_STATE_RATE) rfl (by decide) (by decide) (by decide) 3).modPly _

theorem State.enterState_quiet : s.enterState d k 1 =
    (s.set d F.PLY_LINK_STATE_STATE 1 k).modPly d k fun p => { p with deadline := s.now + us 50 } := by
  simp only [State.enterState, stateTimer, Nat.reduceEqDiff, if_false]
  rfl

theorem State.requiets_enterQuiet : s.Requiets d k (s.enterQuiet d k backoff fromDetect) := by
  have hquiet := (s.requiets_laneIdle d k).setLink (f := F.PLY_LINK_STATE_STATE) rfl (by decide) (by decide) (by decide) 1
  rw [State.enterQuiet, State.enterState_quiet]
  exact (hquiet.modPly _).modPly _

theorem State.plyState_enterQuiet : (s.enterQuiet d k backoff fromDetect).plyState d k = 1 := by
  rw [State.plyState, State.enterQuiet, State.get_modPly, State.enterState_quiet, State.get_modPly,
    State.get_set_same _ (by decide) (by decide)]
  rfl

theorem State.Requiets.now {s t : State} {d k : Nat} (h : s.Requiets d k t) : t.now = s.now := by
  obtain ⟨⟨_, _, rfl⟩, -, -, -⟩ := h
  rfl

/-- QUIET of a configured link lasts 50 us and its back-off. -/
theorem State.ply_enterQuiet (hp : (s.ply? d k).isSome) : ∃ x, (s.enterQuiet d k backoff fromDetect).ply? d k = some x ∧
    x.fromDetect = fromDetect ∧ x.deadline = s.now + us 50 + backoff := by
  have hlink := (s.requiets_laneIdle d k).setLink (f := F.PLY_LINK_STATE_STATE) rfl (by decide) (by decide) (by decide) 1
  have hquiet := hlink.modPly fun p => { p with deadline := (s.laneIdle d k).now + us 50 }
  rw [← State.enterState_quiet] at hquiet
  obtain ⟨p, hp'⟩ := Option.isSome_iff_exists.mp (hquiet.stays hp)
  rw [State.enterQuiet, State.ply_modPly, if_pos ⟨rfl, rfl⟩, hp', hquiet.now]
  exact ⟨_, rfl, rfl, rfl⟩

end

/-! The back-off. -/

/-- ATTEMPTS after one more. -/
def State.attempts (s : State) (d k : Nat) : Nat := min 255 (s.get d F.PLY_LINK_STATE_ATTEMPTS k + 1)

/-- The link in QUIET after a failed bring-up, but for its event (04 R103). -/
def State.backedOff (s : State) (d k cause : Nat) : State :=
  ((s.drawn.set d F.PLY_LINK_STATE_ATTEMPTS (s.attempts d k) k).set d F.PLY_LINK_STATE_LAST_FAIL cause k).enterQuiet d k
    (ms (min (2 ^ (s.attempts d k - 1)) 256) + s.jitter) false

/-- PLY_BRINGUP_TIMEOUT is raised: ATTEMPTS has become a power of two, and not by DETECT. -/
abbrev State.TellsBringUp (s : State) (d k cause : Nat) : Prop :=
  cause ≠ 1 ∧ s.get d F.PLY_LINK_STATE_ATTEMPTS k ≠ 255 ∧ s.attempts d k ∈ [1, 2, 4, 8, 16, 32, 64, 128]

theorem isPow2_iff {n : Nat} (h : n ≤ 255) : isPow2 n = true ↔ n ∈ [1, 2, 4, 8, 16, 32, 64, 128] := by
  have hrange : List.range 9 = [0, 1, 2, 3, 4, 5, 6, 7, 8] := rfl
  simp only [isPow2, hrange, List.any_cons, List.any_nil, Bool.or_false, Bool.or_eq_true, beq_iff_eq, List.mem_cons,
    List.not_mem_nil, or_false]
  omega

section
variable (s : State) (d k cause mask : Nat)

theorem State.attempts_eq : satAdd 255 (s.get d F.PLY_LINK_STATE_ATTEMPTS k) 1 = s.attempts d k :=
  satAdd_eq_min (F.PLY_LINK_STATE_ATTEMPTS.get_le_top s d k 0) 1

theorem State.quietBackoff_eq : s.quietBackoff d k cause mask false false =
    if (cause != 1 && s.attempts d k != s.get d F.PLY_LINK_STATE_ATTEMPTS k && isPow2 (s.attempts d k)) = true then
      (s.backedOff d k cause).raise d k 0x104 2 [(1, (s.backedOff d k cause).plyId d k), (1, cause), (1, s.plyRate d k),
        (1, s.attempts d k), (2, min (2 ^ (s.attempts d k - 1)) 256), (1, mask)]
    else s.backedOff d k cause := by
  simp only [State.quietBackoff, State.attempts_eq, Bool.false_or, Bool.false_eq_true, if_false, State.backedOff]

theorem State.tellsBringUp_iff :
    (cause != 1 && s.attempts d k != s.get d F.PLY_LINK_STATE_ATTEMPTS k && isPow2 (s.attempts d k)) = true ↔
      s.TellsBringUp d k cause := by
  have htop : s.get d F.PLY_LINK_STATE_ATTEMPTS k ≤ 255 := F.PLY_LINK_STATE_ATTEMPTS.get_le_top s d k 0
  have hle : s.attempts d k ≤ 255 := Nat.min_le_left ..
  have hmore : s.attempts d k ≠ s.get d F.PLY_LINK_STATE_ATTEMPTS k ↔ s.get d F.PLY_LINK_STATE_ATTEMPTS k ≠ 255 := by
    unfold State.attempts
    omega
  rw [Bool.and_eq_true, Bool.and_eq_true, bne_iff_ne, bne_iff_ne, isPow2_iff hle, hmore, and_assoc]

/-- A failed bring-up backs the link off, and raises at most its event. -/
theorem State.quietBackoff_backedOff : ∃ e, s.quietBackoff d k cause mask false false = { s.backedOff d k cause with evt := e } ∧
    (¬ s.TellsBringUp d k cause → e = (s.backedOff d k cause).evt) ∧
    (s.TellsBringUp d k cause → ∃ r, e.raised = (s.backedOff d k cause).evt.raised ++ [r] ∧ r.code = 0x104 ∧ r.die = d ∧
      r.src = k ∧ r.owner = 0) := by
  have htell := s.tellsBringUp_iff d k cause
  rw [State.quietBackoff_eq]
  generalize s.backedOff d k cause = u
  split
  next h => exact ⟨_, rfl, fun hnot => absurd (htell.mp h) hnot, fun _ => ⟨_, rfl, rfl, rfl, rfl, rfl⟩⟩
  next h => exact ⟨u.evt, rfl, fun _ => rfl, fun hyes => absurd (htell.mpr hyes) h⟩

theorem State.get_attempts_backedOff : (s.backedOff d k cause).get d F.PLY_LINK_STATE_ATTEMPTS k = s.attempts d k := by
  rw [State.backedOff, (State.requiets_enterQuiet ..).attempts,
    State.get_set_apart (f := F.PLY_LINK_STATE_LAST_FAIL) (g := F.PLY_LINK_STATE_ATTEMPTS) _ (by decide) (by decide) rfl (by decide),
    State.get_set_same _ (by decide) (by decide)]
  exact Nat.mod_eq_of_lt (Nat.lt_succ_of_le (Nat.min_le_left ..))

theorem State.get_cause_backedOff (h : cause < 32) : (s.backedOff d k cause).get d F.PLY_LINK_STATE_LAST_FAIL k = cause := by
  rw [State.backedOff, (State.requiets_enterQuiet ..).cause, State.get_set_same _ (by decide) (by decide)]
  exact Nat.mod_eq_of_lt h

theorem State.ply_backedOff (hp : (s.ply? d k).isSome) : ∃ x, (s.backedOff d k cause).ply? d k = some x ∧ x.fromDetect = false ∧
    x.deadline = s.now + us 50 + (ms (min (2 ^ (s.attempts d k - 1)) 256) + s.jitter) :=
  State.ply_enterQuiet _ d k _ false hp

/-- Of the rest, a back-off leaves what a command answers with. -/
theorem State.backedOff_keeps :
    let u := s.backedOff d k cause
    u.regs = s.regs ∧ u.cellLog = s.cellLog ∧ u.out = s.out ∧ u.evt = s.evt ∧ u.clock = s.clock := by
  have hquiet := State.requiets_enterQuiet ((s.drawn.set d F.PLY_LINK_STATE_ATTEMPTS (s.attempts d k) k).set d
    F.PLY_LINK_STATE_LAST_FAIL cause k) d k (ms (min (2 ^ (s.attempts d k - 1)) 256) + s.jitter) false
  obtain ⟨l, x, h⟩ := hquiet.beside
  rw [State.backedOff, h]
  exact ⟨rfl, rfl, rfl, rfl, rfl⟩

/-- What a failed bring-up shows: QUIET with one more attempt, its cause and its back-off, and at most one event. -/
theorem State.quietBackoff_shows (hp : (s.ply? d k).isSome) (hcause : cause < 32) :
    let u := s.quietBackoff d k cause mask false false
    u.plyState d k = 1 ∧ u.get d F.PLY_LINK_STATE_ATTEMPTS k = s.attempts d k ∧ u.get d F.PLY_LINK_STATE_LAST_FAIL k = cause ∧
      (∃ x, u.ply? d k = some x ∧ x.fromDetect = false ∧
        x.deadline = s.now + us 50 + (ms (min (2 ^ (s.attempts d k - 1)) 256) + s.jitter)) ∧
      (¬ s.TellsBringUp d k cause → u.evt = s.evt) ∧
      (s.TellsBringUp d k cause →
        ∃ r, u.evt.raised = s.evt.raised ++ [r] ∧ r.code = 0x104 ∧ r.die = d ∧ r.src = k ∧ r.owner = 0) ∧
      u.regs = s.regs ∧ u.cellLog = s.cellLog ∧ u.out = s.out ∧ u.clock = s.clock := by
  have hstate : (s.backedOff d k cause).plyState d k = 1 := State.plyState_enterQuiet _ d k _ false
  have hattempts := s.get_attempts_backedOff d k cause
  have hfail := s.get_cause_backedOff d k cause hcause
  have hply := s.ply_backedOff d k cause hp
  obtain ⟨hregs, hcells, hout, hevt, hclock⟩ := s.backedOff_keeps d k cause
  obtain ⟨e, hu, hquiet, htold⟩ := s.quietBackoff_backedOff d k cause mask
  rw [hevt] at hquiet htold
  rw [hu]
  generalize s.backedOff d k cause = w at *
  exact ⟨hstate, hattempts, hfail, hply, hquiet, htold, hregs, hcells, hout, hclock⟩

end

/-- Settles O54: the three timers are one back-off, whose registers, link and event read as the rule says. -/
theorem bringUpFailuresCountAndBackOff : Obligations.BringUpFailuresCountAndBackOff := by
  intro a k s p h hk _ hp hend d old n i st cause hwhich hst
  have hkept : s.Kept := h.1
  let b := s.begun a 8
  have hp' : b.ply? d k = some p := (State.ply_congr (s.begun_dies a 8) d k).trans hp
  have hget (f : Fld) : b.get d f k = s.get d f k := State.get_begun hkept a 8 d f k 0
  have hst' : b.plyState d k = st := (hget _).trans hst
  obtain ⟨mask, hcause, hyields⟩ : ∃ mask, cause < 32 ∧ Yields i s (b.quietBackoff d k cause mask false false) := by
    rcases hwhich with ⟨rfl, rfl, rfl, hfree⟩ | ⟨rfl, rfl, rfl⟩ | ⟨rfl, rfl, rfl⟩
    · exact ⟨_, by decide, yields_detectTimeout h hk hp' hst' hend hfree⟩
    · exact ⟨_, by decide, yields_lockTimeout h hk hp' hst' hend⟩
    · exact ⟨_, by decide, yields_exchangeTimeout h hk hp' hst' hend⟩
  have hattempts : b.attempts d k = n := by rw [State.attempts, hget]
  have htells : b.TellsBringUp d k cause ↔ cause ≠ 1 ∧ old ≠ 255 ∧ n ∈ [1, 2, 4, 8, 16, 32, 64, 128] := by
    rw [State.TellsBringUp, hget, hattempts]
  have hshows := b.quietBackoff_shows d k cause mask (Option.isSome_of_eq_some hp') hcause
  generalize b.quietBackoff d k cause mask false false = u at hyields hshows
  obtain ⟨hstate, hcount, hfail, ⟨x, hx, hfrom, hdeadline⟩, hquiet, htold, hregs, hcells, hout, hclock⟩ := hshows
  have hread (f : Fld) : (s.commit u).get d f k = u.get d f k := State.get_commit hkept (hregs.trans (s.begun_regs a 8)) d f k 0
  have hnow : (s.commit u).now = b.now := by rw [State.now, State.commit_clock, hclock, State.now]
  refine hyields.gives ⟨(hread _).trans hstate, (hread _).trans (hcount.trans hattempts), (hread _).trans hfail,
    ⟨x, b.draw % 256, (State.ply_congr (s.commit_dies u) d k).trans hx, hfrom, by omega, ?deadline⟩, fun hnot => ?quiet,
    fun hcause hold hn => ?told, State.sameBytes_commit hkept (hcells.trans (s.begun_cellLog a 8)),
    (s.commit_out u).trans (hout.trans (s.begun_out a 8))⟩
  case deadline => rw [hdeadline, hattempts, hnow, State.jitter, Nat.add_assoc _ (ms _)]
  case quiet =>
    rw [State.commit_evt, hquiet fun htell => ?_, State.begun_evt]
    obtain ⟨hloud, hroom, hpow⟩ := htells.mp htell
    rcases hnot with hone | hfull | hother
    · exact hloud hone
    · exact hroom hfull
    · exact hother hpow
  case told =>
    obtain ⟨r, hraised, hfields⟩ := htold (htells.mpr ⟨hcause, hold, hn⟩)
    rw [State.commit_evt, hraised, State.begun_evt]
    exact ⟨r, rfl, hfields⟩

end Sys2Proof.Machine
end

section
/-! Segments, credit and their blocks on an ACTIVE ply, and a local segment offered (05 R123 to R143; 06 R164): O8. -/

namespace Sys2Proof.Machine

/-! The commands as their meanings. -/

theorem exec_segmentReceive (a : At) (k hdr : Nat) (payload : List Byte) (errored : Bool) (plain : Option (List Byte)) (s : State) :
    exec (.segmentReceive a k hdr payload errored plain) s = execSegmentReceive a k hdr payload errored plain s := rfl

theorem exec_idleBlockReceive (a : At) (k : Nat) (b : List Byte) (s : State) :
    exec (.idleBlockReceive a k b) s = execIdleBlockReceive a k b s := rfl

theorem exec_creditBlockReceive (a : At) (k : Nat) (b : List Byte) (s : State) :
    exec (.creditBlockReceive a k b) s = execCreditBlockReceive a k b s := rfl

theorem exec_creditSend (a : At) (k : Nat) (s : State) : exec (.creditSend a k) s = execCreditSend a k s := rfl

theorem exec_creditStall (a : At) (k t : Nat) (s : State) : exec (.creditStall a k t) s = execCreditStall a k t s := rfl

theorem exec_lossyDrop (a : At) (k t : Nat) (s : State) : exec (.lossyDrop a k t) s = execLossyDrop a k t s := rfl

theorem exec_localSegmentIngress (a : At) (idx : Nat) (sop eop : Bool) (payload : List Byte) (s : State) :
    exec (.localSegmentIngress a idx sop eop payload) s = execLocalSegmentIngress a idx sop eop payload s := rfl

/-! What an ACTIVE ply receives. -/

/-- An ACTIVE ply takes every control block that passes R96, once it has heard it. -/
theorem State.takeBlock_active {s : State} {a : At} {k type : Nat} {blk : List Byte} {p : Ply} (hp : s.ply? a.die k = some p)
    (hst : s.plyState a.die k = 6) (hfit : blockFit type blk = true) (f : State → State) :
    s.takeBlock a k type blk true (fun u _ => f u) = f (s.heard a k) := by
  obtain ⟨_, htaken⟩ := State.takeBlock_ok (ok := true) hp (by rw [hfit, hst]; rfl) fun u _ => f u
  exact htaken

section
variable {a : At} {k : Nat} {s : State} {p : Ply} (h : s.On a 8) (hk : k < 8) (hp : (s.begun a 8).ply? a.die k = some p)
  (hst : (s.begun a 8).plyState a.die k = 6)
include h hk hp hst

/-- A control block whose command takes it on the ply's island. -/
theorem yields_takeBlock {i : Instr} {type : Nat} {blk : List Byte} {f : State → State} (hfit : blockFit type blk = true)
    (hi : exec i s = onIsland a 8 (k < 8) s fun u => u.takeBlock a k type blk true fun u _ => f u) :
    Yields i s (f ((s.begun a 8).heard a k)) :=
  h.yields (decide_eq_true hk) hi (State.takeBlock_active hp hst hfit f)

/-- A segment that arrives out of a resync is framed (05 R127). -/
theorem yields_segmentReceive (hsync : p.resync = false) (hdr : Nat) (payload : List Byte) (errored : Bool)
    (plain : Option (List Byte)) : Yields (.segmentReceive a k hdr payload errored plain) s
      ((s.begun a 8).frameSeg a.die k (hdr % 2 ^ 64) payload errored plain) := by
  refine h.yields (decide_eq_true hk) (exec_segmentReceive a k hdr payload errored plain s) ?_
  simp only [hp]
  rw [if_neg (not_not_intro hst), if_neg (ne_true_of_eq_false hsync)]

end

/-! What an ACTIVE ply sends. -/

section
variable {a : At} {k : Nat} {s : State} (h : s.On a 9) (hk : k < 8)
include h hk

/-- A direction that is awake sends CREDIT when it is due (05 R124, R141). -/
theorem yields_creditSend (hactive : (s.begun a 9).plyActive a.die k = true) (htx : (s.begun a 9).txState a.die k = 0)
    (hdue : ((s.begun a 9).credit a.die k).due ≤ (s.begun a 9).now) :
    Yields (.creditSend a k) s ((s.begun a 9).sendCredit a.die k) := by
  refine h.yields (decide_eq_true hk) (exec_creditSend a k s) (if_pos ?_)
  rw [hactive, htx, fallen_iff.mpr hdue]
  rfl

/-- A lossless class without credit for CREDIT_STALL_US is reported once (05 R143). -/
theorem yields_creditStall {t since : Nat} (hactive : (s.begun a 9).plyActive a.die k = true) (ht : t < 8)
    (hempty : ((s.begun a 9).credit a.die k).emptyAt.getD t none = some since) (hkeeps : (s.begun a 9).lossless a.die k t = true)
    (honce : bit ((s.begun a 9).credit a.die k).stalled t = false)
    (hwatched : (s.begun a 9).get a.die F.PLY_LINK_CREDIT_CFG_CREDIT_STALL_US k ≠ 0)
    (hend : since + us ((s.begun a 9).get a.die F.PLY_LINK_CREDIT_CFG_CREDIT_STALL_US k) ≤ (s.begun a 9).now) :
    Yields (.creditStall a k t) s
      (((s.begun a 9).modCredit a.die k fun c => { c with stalled := setBit c.stalled t }).raise a.die k 0x20A 2
        [(1, (s.begun a 9).plyId a.die k), (1, t), (2, 0), (4, ((s.begun a 9).credit a.die k).lim.getD t 0),
         (4, ((s.begun a 9).credit a.die k).txc.getD t 0)]) := by
  refine h.yields (by simp [hk, ht]) (exec_creditStall a k t s) ?_
  simp only [hempty]
  refine if_pos ?_
  rw [hactive, hkeeps, bne_iff_ne.mpr hwatched, honce, fallen_iff.mpr hend]
  rfl

/-- The head of a lossy class at a ply's first queue that has waited LOSSY_WAIT_US for credit is dropped (05 R143). -/
theorem yields_lossyDrop {t since : Nat} {g : Seg} (ht : t < 8)
    (hhead : (s.begun a 9).headClass (512 * a.die + 16 * k) = some (t, g))
    (hlack : ((s.begun a 9).queue (512 * a.die + 16 * k)).lack = some since) (hlossy : (s.begun a 9).lossless a.die k t = false)
    (hend : since + us ((s.begun a 9).get a.die F.PLY_LINK_CREDIT_CFG_LOSSY_WAIT_US k) ≤ (s.begun a 9).now) :
    Yields (.lossyDrop a k t) s
      (let b := s.begun a 9
       let key := 512 * a.die + 16 * k
       ((((((b.bump a.die F.STR_LOSSY_DROP_COUNT).releaseSeg (b.holdDie key) g).popSeg key).afterDequeue key).watchLack a.die
        k).rechain)) := by
  have hrange : List.range 16 = 0 :: (List.range 15).map Nat.succ := List.range_succ_eq_map
  refine h.yields (by simp [hk, ht]) (exec_lossyDrop a k t s) ?_
  simp only [hrange, List.find?_cons, Nat.add_zero, hhead, hlack, beq_self_eq_true, fallen_iff.mpr hend, Bool.and_self, hlossy,
    Bool.false_eq_true, if_false]

end

/-- Settles O8: each block or segment is taken on a ply that is ACTIVE, and each wait for credit meets its guard. -/
theorem segmentsAndCreditBlocksAreTaken : Obligations.SegmentsAndCreditBlocksAreTaken := by
  refine ⟨fun a k s p h hk hp hst => ⟨fun hdr payload errored plain hsync => ?segment, fun blk hfit => ?idle, fun blk hfit => ?credit⟩,
    fun a k s h hk hactive => ⟨yields_creditSend h hk hactive, fun t since ht => yields_creditStall h hk hactive ht⟩,
    fun a k t g since s h hk ht => yields_lossyDrop h hk ht, fun a idx sop eop payload s _ h hidx _ _ _ _ _ => ?offer⟩
  case segment => exact yields_segmentReceive h hk hp hst hsync hdr payload errored plain
  case idle => exact yields_takeBlock h hk hp hst hfit (exec_idleBlockReceive a k blk s)
  case credit =>
    have htaken := yields_takeBlock h hk hp hst hfit (exec_creditBlockReceive a k blk s)
    exact htaken
  case offer => exact h.yields (decide_eq_true hidx) (exec_localSegmentIngress a idx sop eop payload s) rfl

end Sys2Proof.Machine
end

section
/-! The refutation of O9: the wait of a held strand ends with a note of the ply that it left, not of the ply that it moved to (05 R146). -/

namespace Sys2Proof.Machine

/-- A command leaves one state. -/
theorem Yields.unique {i : Instr} {s u v : State} (hu : Yields i s u) (hv : Yields i s v) : s.commit u = s.commit v :=
  Host.Outcome.next.inj (hu.symm.trans hv)

/-! A Ledger entry after a change of it. -/

theorem State.entry_congr {s u : State} (h : u.dies = s.dies) (idx : Nat) : u.entry? idx = s.entry? idx := by
  rw [State.entry?, State.die_congr h, State.entry?]

theorem State.entry_modEntry (s : State) (idx : Nat) (f : Entry → Entry) : (s.modEntry idx f).entry? idx = (s.entry? idx).map f := by
  rw [State.modEntry]
  split
  next e he => rw [State.entry?, State.die_modDie, if_pos rfl, Table.find_put, if_pos rfl, he, Option.map_some]
  next he => rw [he, Option.map_none]

/-- An entry that a command changes and then reports reads as changed. -/
theorem State.entry_commit_raiseStrand_modEntry (s u : State) (idx : Nat) (f : Entry → Entry) (code sev : Nat)
    (l : List (Nat × Nat)) :
    (s.commit ((u.modEntry idx f).raiseStrand idx code sev l)).entry? idx = (u.entry? idx).map f := by
  rw [State.entry_congr (State.commit_dies ..), State.raiseStrand, State.entry_congr (State.raiseOwned_dies ..),
    State.entry_modEntry]

/-! The end of the wait. -/

theorem exec_strMarkTimeout (a : At) (k idx : Nat) (s : State) : exec (.strMarkTimeout a k idx) s = execStrMarkTimeout a k idx s := rfl

/-- The 50 us wait of a held strand expires: its segments go on, and the ply they used to come from is noted as the one whose late
segments are dropped (05 R146). -/
theorem yields_strMarkTimeout {a : At} {k idx : Nat} {e : Entry} {s : State} (h : s.On a 8) (hk : k < 8) (hidx : idx < 65536)
    (he : (s.begun a 8).entry? idx = some e) (hheld : e.held ≠ []) (hon : e.heldOn = 8 * a.die + k)
    (hend : e.heldAt + us 50 ≤ (s.begun a 8).now) :
    Yields (.strMarkTimeout a k idx) s
      ((((s.begun a 8).releaseHeld idx).modEntry idx fun x => { x with expired := some e.fromPly }).raiseStrand idx 0x209 2
        [(4, e.strandId), (1, e.fromPly), (1, (s.begun a 8).plyId a.die k), (2, e.held.length)]) := by
  have hlate : fallen (s.begun a 8) e.markBy = true := fallen_iff.mpr hend
  refine h.yields (by simp [hk, hidx]) (exec_strMarkTimeout a k idx s) ?_
  simp only [he]
  exact if_pos (by simp [hheld, hon, hlate])

/-! A strand that is held. -/

/-- An ACTIVE strand that came from ply 1 and holds the MARK segment that slot 1 brought. -/
def heldStrand : Entry := { raw := 0x2000, fromPly := 1, held := [⟨1, 2 ^ 45, [], none, 1023, 0⟩], heldOn := 1 }

/-- A package whose PLYI island runs, with ply 2 in slot 1 and that strand at index 0. -/
def holding : State :=
  let s : State := { State.reset with isl := [(0, { ok := 2 ^ 8, held := 0 })], dies := [(0, { ledger := [(0, heldStrand)] })] }
  s.commit (s.set 0 F.PLY_LINK_STATE_PLY_ID 2 1)

/-- The command of die 0, 50 us later. -/
def waited : At := ⟨0, us 50, 0⟩

/-- With its segments, the strand goes on from ply 2. -/
theorem fromPly_releaseHeld_holding : (((holding.begun waited 8).releaseHeld 0).entry? 0).map (·.fromPly) = some 2 := by decide

/-- Refutes O9: its third clause notes as expired the ply the strand comes from once its segments went on, which is the new one; the
model notes the old one. The two differ where a strand moves from ply 1 to ply 2. -/
theorem not_movesAndDrainsEnd : ¬ Obligations.MovesAndDrainsEnd := by
  intro h
  obtain ⟨-, -, htimeout, -⟩ := h
  have hon : holding.On waited 8 := by decide
  have he : (holding.begun waited 8).entry? 0 = some heldStrand := by decide
  have hsaid := htimeout waited 1 0 heldStrand holding hon (by decide) (by decide) he (by decide) (by decide) (by decide)
  have hdone := yields_strMarkTimeout (k := 1) hon (by decide) (by decide) he (by decide) (by decide) (by decide)
  have hsame := congrArg (fun t : State => (t.entry? 0).map (·.expired)) (hsaid.unique hdone)
  obtain ⟨x, hx, hfrom⟩ := Option.map_eq_some_iff.mp fromPly_releaseHeld_holding
  simp only [State.entry_commit_raiseStrand_modEntry, hx, Option.map_some, hfrom] at hsame
  exact absurd hsame (by decide)

end Sys2Proof.Machine
end

section
/-! The strand commands of PF0 that no check of R153 refuses (05 R149 to R153): O10. -/

namespace Sys2Proof.Machine

/-! The commands as their meanings. -/

theorem exec_strCreate (a : At) (q : Req) (v : Word) (s : State) : exec (.strCreate a q v) s = execStrCreate a q v s := rfl

theorem exec_strActivate (a : At) (q : Req) (v : Word) (s : State) : exec (.strActivate a q v) s = execStrActivate a q v s := rfl

theorem exec_strModify (a : At) (q : Req) (v : Word) (s : State) : exec (.strModify a q v) s = execStrModify a q v s := rfl

theorem exec_strTeardown (a : At) (q : Req) (v : Word) (s : State) : exec (.strTeardown a q v) s = execStrTeardown a q v s := rfl

theorem exec_strRead (a : At) (q : Req) (v : Word) (s : State) : exec (.strRead a q v) s = execStrRead a q v s := rfl

/-! A command that its set takes. -/

/-- A command set that is idle, with the target die's STR island running, carries its command out (05 R149). -/
theorem State.strCmd_idle {s : State} {d f : Nat} {v : Word} (hidle : s.get d F.STR_CMD_STATUS_BUSY = 0)
    (hruns : s.runs (cmdDie f v) 10 = true) (run : State → State) : s.strCmd d v f run = run s := by
  have hbusy : s.flag d F.STR_CMD_STATUS_BUSY = false := by rw [State.flag, hidle]; rfl
  rw [State.strCmd, hbusy, hruns, if_neg Bool.false_ne_true, if_neg (by simp)]

/-- No check of R153 refuses. -/
theorem firstResult_ok {l : List (Bool × StrResult)} (h : ∀ p ∈ l, p.1 = false) : firstResult l = .ok := by
  rw [firstResult, List.find?_eq_none.mpr fun p hp => ne_true_of_eq_false (h p hp)]
  rfl

theorem State.cmdIndex_pf0 (s : State) (v : Word) : s.cmdIndex 0 v = some (wordGet v 15 0) := rfl

theorem State.createIndex_named (s : State) {v : Word} (hnamed : wordGet v 27 27 = 0) :
    s.createIndex 0 v = some (wordGet v 15 0) := by
  rw [State.createIndex, if_pos hnamed, State.cmdIndex_pf0]

/-! A command on an entry that is there. -/

section
variable {s : State} {d : Nat} {v : Word} {e : Entry} (hdie : wordGet v 15 0 / 8192 < s.part.dies)
  (he : s.entry? (wordGet v 15 0) = some e) (hhome : e.mirrorOf = none)
include hdie he hhome

/-- PF0's command on an entry that is no mirror takes effect where none of its checks refuses (05 R153). -/
theorem State.onEntry_pf0 {op : Nat} {checks : Entry → List (Bool × StrResult)} (hok : ∀ p ∈ checks e, p.1 = false)
    (effect : State → Nat → Entry → State) :
    s.onEntry d 0 op v checks effect =
      effect (s.cmdDone d 0 op .ok (wordGet v 15 0) e.strandId false) (wordGet v 15 0) e := by
  have hresult : firstResult ((checks e).filter (fun p => p.2 == .badEntry) ++ [((0 : Nat) != 0 && e.owner != 0, .notOwner)] ++
      (checks e).filter fun p => p.2 != .badEntry) = .ok := firstResult_ok fun p hp => by
    rcases List.mem_append.mp hp with hp | hp
    · rcases List.mem_append.mp hp with hp | hp
      · exact hok p (List.mem_filter.mp hp).1
      · rw [List.mem_singleton.mp hp]; rfl
    · exact hok p (List.mem_filter.mp hp).1
  simp only [State.onEntry, State.cmdIndex_pf0, Option.getD_some, Nat.not_le.mpr hdie, and_false, if_false, Option.isNone_some,
    Bool.false_eq_true, he, hhome, hresult, if_true]

/-- READ of an entry that is no mirror stages its words (05 R149). -/
theorem State.strRead_pf0 (hidle : s.get d F.STR_CMD_STATUS_BUSY = 0) (hruns : s.runs (cmdDie 0 v) 10 = true) :
    s.strRead d 0 v = (s.stageEntry d e.readValue).cmdDone d 0 5 .ok (wordGet v 15 0) e.strandId false := by
  have hself : s.homeOf (wordGet v 15 0) = wordGet v 15 0 := by rw [State.homeOf, he, Option.bind_some, hhome, Option.getD_none]
  rw [State.strRead, State.strCmd_idle hidle hruns]
  simp only [State.cmdIndex_pf0, Option.getD_some, Nat.not_le.mpr hdie, and_false, if_false, Option.isNone_some,
    Bool.false_eq_true, hself, he, ne_eq, not_true, false_and, bne_self_eq_false]

end

/-- CREATE at the index that PF0 names installs the staged entry, where none of R153's checks refuses it and its SN is given. -/
theorem State.strCreate_pf0 {s : State} {d : Nat} {v : Word} {e : Entry} (hidle : s.get d F.STR_CMD_STATUS_BUSY = 0)
    (hdie : cmdDie 0 v < s.part.dies) (hruns : s.runs (cmdDie 0 v) 10 = true) (hnamed : wordGet v 27 27 = 0)
    (hstaged : (({ raw := s.staged256 d } : Entry).setF 14 12 1).setF 11 0 0 = e) (hok : s.entryOk 0 e = true)
    (hfree : s.entry? (wordGet v 15 0) = none) (hnew : s.duplicates (wordGet v 15 0 / 8192) e = false)
    (hsn : e.inSn ≠ 0xFFF ∨ e.inType = 3) (hfits : s.overcommits 0 65536 e 0 = false)
    (hmirrors : ∀ m ∈ s.mirrorDies (wordGet v 15 0 / 8192) e, (s.freeIndex m).isSome = true) :
    s.strCreate d 0 v = (((s.install (wordGet v 15 0) e).cmdDone d 0 1 .ok (wordGet v 15 0) e.strandId false).raiseStrand
      (wordGet v 15 0) 0x201 0 [(4, e.strandId), (2, wordGet v 15 0), (2, e.inSn)]) := by
  have htarget : cmdDie 0 v = wordGet v 15 0 / 8192 := by simp [cmdDie, hnamed]
  have hgiven : (e.inSn == 0xFFF && e.inType != 3) = false := by
    rcases hsn with h | h
    · rw [beq_eq_false_iff_ne.mpr h, Bool.false_and]
    · rw [h, bne_self_eq_false, Bool.and_false]
  have hroom : ((s.mirrorDies (wordGet v 15 0 / 8192) e).any fun m => (s.freeIndex m).isNone) = false :=
    List.any_eq_false.mpr fun m hm => by rw [← Option.not_isSome, hmirrors m hm]; decide
  rw [State.strCreate, State.strCmd_idle hidle hruns]
  simp only [if_true, hstaged, s.createIndex_named hnamed, Option.getD_some, htarget, hgiven]
  generalize hresult : firstResult _ = r
  obtain rfl : r = .ok := hresult.symm.trans (firstResult_ok (by simp [htarget ▸ hdie, hok, hfree, hnew, hfits, hroom, hnamed]))
  simp only [if_true, Bool.false_eq_true, if_false]

/-! The commands as PF0's admitted writes. -/

section
variable {a : At} {v : Word} {s : State} (h : s.Admits a .pf0 0x0C0000)
  (hidle : (s.admitted a .pf0 0x0C0000).get a.die F.STR_CMD_STATUS_BUSY = 0)
  (hruns : (s.admitted a .pf0 0x0C0000).runs (cmdDie 0 v) 10 = true)
include h hidle hruns

/-- PF0's write of a command on an entry that is no mirror, none of whose checks refuses it. -/
theorem yields_onEntry {i : Instr} {op : Nat} {checks : State → Entry → List (Bool × StrResult)}
    {effect : State → State → Nat → Entry → State} {e : Entry} (hdie : wordGet v 15 0 / 8192 < (s.admitted a .pf0 0x0C0000).part.dies)
    (he : (s.admitted a .pf0 0x0C0000).entry? (wordGet v 15 0) = some e) (hhome : e.mirrorOf = none)
    (hi : exec i s = onWrite a .pf0 0x0C0000 v (wordGet v 31 28 == op) s fun u =>
      u.strCmd a.die v 0 fun u => u.onEntry a.die 0 op v (checks u) (effect u)) (hop : wordGet v 31 28 = op)
    (hok : ∀ p ∈ checks (s.admitted a .pf0 0x0C0000) e, p.1 = false) :
    Yields i s (effect (s.admitted a .pf0 0x0C0000)
      ((s.admitted a .pf0 0x0C0000).cmdDone a.die 0 (wordGet v 31 28) .ok (wordGet v 15 0) e.strandId false) (wordGet v 15 0) e) :=
  h.yields (beq_iff_eq.mpr hop) hi (by rw [State.strCmd_idle hidle hruns, State.onEntry_pf0 hdie he hhome hok, hop])

end

/-- Settles O10: each command is taken, and none of its checks refuses it. -/
theorem strandCommandsComplete : Obligations.StrandCommandsComplete := by
  intro a v s h b d hidle hdie hruns idx ok
  refine ⟨fun hop hnamed hok hfree hnew hsn hfits hmirrors => ?create, fun e he hhome hthere =>
    ⟨fun hop hst henc => ?activate, fun hop hrates hlow hhigh hdynamic hfits => ?modify, fun hop hst hdynamic => ?teardown,
      fun hop => ?read⟩⟩
  case create =>
    simp only [ok, hop]
    exact h.yields (beq_iff_eq.mpr hop) (exec_strCreate a .pf0 v s)
      (State.strCreate_pf0 hidle hdie hruns hnamed rfl hok hfree hnew hsn hfits hmirrors)
  case activate =>
    have hready : (e.enc && !b.encAvailable e) = false := by rcases henc with h | h <;> simp [h]
    have hdone := yields_onEntry h hidle hruns hthere he hhome (exec_strActivate a .pf0 v s) hop (by simp [hst, hready, b])
    exact hdone
  case modify =>
    have hdone := yields_onEntry h hidle hruns hthere he hhome (exec_strModify a .pf0 v s) hop (by
      have hlive : (e.st == 0 || decide (5 ≤ e.st)) = false := by simp; omega
      have hfn : reqFn .pf0 = 0 := rfl
      simp [hfn, vfShapeOk, hrates, hlive, hdynamic, State.cmdIndex_pf0, hfits, b, d, idx])
    exact hdone
  case teardown =>
    have hdone := yields_onEntry h hidle hruns hthere he hhome (exec_strTeardown a .pf0 v s) hop
      (by rcases hst with h | h <;> simp [h, hdynamic])
    exact hdone
  case read =>
    simp only [ok, hop]
    exact h.yields (beq_iff_eq.mpr hop) (exec_strRead a .pf0 v s) (State.strRead_pf0 hthere he hhome hidle hruns)

end Sys2Proof.Machine
end

section
/-! An output's mask of cut-through, and the register that shows it (06 R170): O53. -/

namespace Sys2Proof.Machine

/-- An output whose bit of SWC_CT_OFF is set has no unit cut through. -/
theorem State.cutThrough_masked {s : State} {key : Nat} (h : bit (s.get (key / 512) F.SWC_CT_OFF_CT_OFF) (key % 512 / 16) = true)
    (speed tc : Nat) : s.cutThrough key speed tc = false := by
  simp only [State.cutThrough, h, Bool.not_true, Bool.and_false, Bool.false_and]

/-! A dword read by PF0, with nothing waiting (19 R485). -/

/-- The state in which an admitted access reaches its register: time has passed, a power state of EDDY ends (15 R400), and the
island that holds the register is not gated. -/
def State.reached (s : State) (a : At) (q : Req) (off : Nat) : State :=
  ((elapse a s).tlpActivity q off).ungate a.die ((elapse a s).holder a.die off)

/-- A write is noted in its requester's fence besides (01 R34), which is all that a read leaves out. -/
theorem State.admitted_eq_reached (s : State) (a : At) (q : Req) (off : Nat) :
    s.admitted a q off = (s.reached a q off).modFence q fun x => { x with written := setBit x.written a.die } := rfl

theorem State.reached_access (s : State) (a : At) (q : Req) (off : Nat) : (s.reached a q off).access = s.access :=
  (State.ungate_access ..).trans (State.tlpActivity_access ..)

theorem State.reached_latches (s : State) (a : At) (q : Req) (off : Nat) (r : Req) : (s.reached a q off).latches r = s.latches r := by
  rw [State.latches, State.reached_access, State.latches]

section
variable {s : State} (hk : s.Kept) (a : At) (q : Req) (off : Nat)
include hk

theorem State.admitted_part : (s.admitted a q off).part = s.part := by
  obtain ⟨i, l, e, x, h, -⟩ := s.admitted_eq hk a q off
  rw [h]
  rfl

theorem State.reached_part : (s.reached a q off).part = s.part := State.admitted_part hk a q off

theorem State.reached_out : (s.reached a q off).out = [] := State.admitted_out hk a q off

theorem State.reached_regs : (s.reached a q off).regs = s.regs := State.admitted_regs hk a q off

theorem State.reached_cellLog : (s.reached a q off).cellLog = [] := State.admitted_cellLog hk a q off

theorem State.onlyRegs_reached : s.OnlyRegs eddyRegs (s.reached a q off) := State.onlyRegs_admitted hk a q off

end

theorem isFence_pf0 {off : Nat} (h : off < 0x1000000) (hplain : off ≠ 0x3F0040) (d : Nat) : isFence .pf0 (barAddr d off) = false := by
  have hbar : barAddr d off ≠ 0x3F0040 := by unfold barAddr; omega
  simp [isFence, hbar]

/-- PF0's admitted read of a register that is no fence: the dword goes back to PF0, and what that lets run is served. -/
theorem registerRead_settles {a : At} {off : Nat} {s : State} (hw : s.Unwaited) (hrest : (elapse a s).resting = false)
    (hgo : (elapse a s).verdict .pf0 a.die off 1 true false = .go) (hd : a.die < 8) (hoff : off < 0x1000000) (hplain : off ≠ 0x3F0040) :
    Settles a (.registerRead a .pf0 (barAddr a.die off) 1 true) s
      (((s.reached a .pf0 off).readDword .pf0 a.die off).1.emit
        (.completion .pf0 (.data [((s.reached a .pf0 off).readDword .pf0 a.die off).2]))) := by
  have hfence : isFence .pf0 (barAddr a.die off) = false := isFence_pf0 hoff hplain a.die
  have hserve : (elapse a s).serve a = elapse a s := State.serve_of_unwaited (s := elapse a s) hw a
  have hread : ReadsAt a (.registerRead a .pf0 (barAddr a.die off) 1 true) s .pf0 (barAddr a.die off) 1 0 true (elapse a s) :=
    .inl ⟨rfl, by unfold barAddr; omega, .inl ⟨hfence, hserve.symm, rfl⟩⟩
  have hverdict := (State.accessVerdict_pf0 (s := elapse a s) hw.1 hoff a.die 1 true false).trans hgo
  have hset := hread.accesses.2 hrest
  rw [State.beginRead_go hverdict] at hset
  simpa [State.performRead, State.decidedAt_pf0 _ hoff, State.spot_pf0 _ hoff, State.readSpot, hplain, State.reached] using hset

/-! SWC_CT_OFF on a part of fewer than eight dies. -/

theorem regAt_ctOff : regAt 0x100018 = some Reg.SWC_CT_OFF := by decide

/-- The register shows every output masked. -/
theorem State.view_ctOff {s : State} (h : s.part.dies ≠ 8) (d : Nat) : s.view d 0x100018 = 0x7FFFF := by
  have hacts : s.acts d 0x100018 = true := rfl
  have hshown : 524287#32 &&& ~~~ Reg.SWC_CT_OFF.mask (· == .wo) = 524287#32 := by decide
  rw [State.view, regAt_ctOff]
  simp [hacts, State.viewSwc, h, hshown]

/-- A write of the register is ignored. -/
theorem State.writeDword_ctOff {s : State} (h : s.part.dies ≠ 8) (d cyc : Nat) (q : Req) (v : Word) (w : Around) :
    s.writeDword d 0x100018 cyc q v w = s := by
  have hacts : s.acts d 0x100018 = true := rfl
  rw [State.writeDword, regAt_ctOff]
  simp [hacts, isCounter, State.writeMid, h, Reg.SWC_CT_OFF]

/-- With no HI half latched for it, a read of the register has no effect of its own. -/
theorem State.readDword_ctOff {s : State} {d : Nat} (h : s.part.dies ≠ 8)
    (hlatch : Table.find? (s.latches .pf0) (barAddr d 0x100018) = none) : s.readDword .pf0 d 0x100018 = (s, 0x7FFFF) := by
  have hpair : loPair 0x100018 = false := by decide
  simp [State.readDword, hpair, hlatch, State.view_ctOff h]

theorem gives_ctOffRead {a : At} {s : State} (hw : s.Unwaited) (hk : s.Kept) (hdies : s.part.dies ≠ 8) (hd : a.die < 8)
    (hrest : (elapse a s).resting = false) (hgo : (elapse a s).verdict .pf0 a.die 0x100018 1 true false = .go)
    (hlatch : Table.find? (s.latches .pf0) (barAddr a.die 0x100018) = none) :
    Gives (.registerRead a .pf0 (barAddr a.die 0x100018) 1 true) s fun t =>
      t.out = [.completion .pf0 (.data [0x7FFFF])] ∧ s.OnlyRegs eddyRegs t ∧ s.SameBytes t := by
  have hset := registerRead_settles hw hrest hgo hd (by decide) (by decide)
  have hpart : (s.reached a .pf0 0x100018).part.dies ≠ 8 := by rwa [State.reached_part hk]
  have hnone : Table.find? ((s.reached a .pf0 0x100018).latches .pf0) (barAddr a.die 0x100018) = none := by
    rw [State.reached_latches, hlatch]
  rw [State.readDword_ctOff hpart hnone] at hset
  have hunwaited : ((s.reached a .pf0 0x100018).emit (.completion .pf0 (.data [0x7FFFF]))).Unwaited := by
    simpa only [State.Unwaited, State.emit_access, State.reached_access] using hw
  refine (hset.yields hunwaited).gives ⟨?_, State.onlyRegs_commit hk (State.reached_regs hk a .pf0 _)
    (State.onlyRegs_reached hk a .pf0 _), State.sameBytes_commit hk (State.reached_cellLog hk a .pf0 _)⟩
  rw [State.commit_out, State.emit, State.reached_out hk]
  rfl

theorem gives_ctOffWrite {a : At} {s : State} (hw : s.Unwaited) (h : s.Admits a .pf0 0x100018) (hdies : s.part.dies ≠ 8)
    (hd : a.die < 8) (v v1 : Word) (w : Around) :
    Gives (.registerWrite a .pf0 (barAddr a.die 0x100018) 1 true v v1 w) s fun t =>
      t.out = [] ∧ s.OnlyRegs eddyRegs t ∧ s.SameBytes t ∧ t.dies = s.dies := by
  have hk := h.1
  have hset := registerWrite_settles hw h hd (by decide) v v1 w
  have hpart : (s.admitted a .pf0 0x100018).part.dies ≠ 8 := by rwa [State.admitted_part hk]
  rw [State.writeDword_ctOff hpart] at hset
  refine (hset.yields (State.unwaited_admitted hw a .pf0 _)).gives ⟨?_, State.onlyRegs_commit hk (State.admitted_regs hk a .pf0 _)
    (State.onlyRegs_admitted hk a .pf0 _), State.sameBytes_commit hk (State.admitted_cellLog hk a .pf0 _), ?_⟩
  · rw [State.commit_out, State.admitted_out hk]
  · rw [State.commit_dies, State.admitted_dies hk]

/-- Settles O53: the mask is a conjunct of the decision, and the register of a part without cut-through has its value fixed. -/
theorem cutThroughObeysItsMask : Obligations.CutThroughObeysItsMask :=
  ⟨fun _ _ speed tc h => State.cutThrough_masked h speed tc, fun _ _ hw hk hdies hd =>
    ⟨fun hrest hgo hlatch => gives_ctOffRead hw hk hdies hd hrest hgo hlatch,
      fun h v v1 w => gives_ctOffWrite hw h hdies hd v v1 w⟩⟩

end Sys2Proof.Machine
end

section
/-! What waits in the switch core moves on: crossings, complete units, copies, pond pages, releases, aged heads and leaks (06 R162 to
R180): O11. -/

namespace Sys2Proof.Machine

/-! The commands as their meanings. -/

theorem exec_spliceSegmentArrive (a : At) (port : Nat) (s : State) :
    exec (.spliceSegmentArrive a port) s = execSpliceSegmentArrive a port s := rfl

theorem exec_switchingUnitComplete (a : At) (idx : Nat) (s : State) :
    exec (.switchingUnitComplete a idx) s = execSwitchingUnitComplete a idx s := rfl

theorem exec_mcastCopyResume (a : At) (idx : Nat) (s : State) : exec (.mcastCopyResume a idx) s = execMcastCopyResume a idx s := rfl

theorem exec_pondPageRefill (a : At) (n : Nat) (s : State) : exec (.pondPageRefill a n) s = execPondPageRefill a n s := rfl

theorem exec_chargeRelease (a : At) (s : State) : exec (.chargeRelease a) s = execChargeRelease a s := rfl

theorem exec_queueAgeDrop (a : At) (n : Nat) (s : State) : exec (.queueAgeDrop a n) s = execQueueAgeDrop a n s := rfl

theorem exec_auditSweep (a : At) (s : State) : exec (.auditSweep a) s = execAuditSweep a s := rfl

/-! A segment that crosses dies (06 R162, R167, R168). -/

section
variable {a : At} {port i : Nat} {c : Crossing} {s : State} (h : s.On a (14 + port)) (hport : port < 3)
  (hfirst : ((s.begun a (14 + port)).die a.die).inbound.zipIdx.find? (fun p => p.1.port == port) = some (c, i))
  (hroom : (s.begun a (14 + port)).charged a.die (acctTransit port) + c.seg.units ≤ 2048)
  (hup : (s.begun a (14 + port)).get a.die F.GLB_SPLICE_STATUS_UP port = 1)

include hroom hup in
theorem not_waits_crossing : ¬(2048 < (s.begun a (14 + port)).charged a.die (acctTransit port) + c.seg.units ∨
    (!(s.begun a (14 + port)).flag a.die F.GLB_SPLICE_STATUS_UP port) = true) := by
  rintro (hfull | hdown)
  · exact absurd hroom (Nat.not_le.mpr hfull)
  · rw [State.flag_iff.mpr hup] at hdown
    exact absurd hdown (by decide)

/-- A crossing no longer waits on its port. -/
def State.takeCrossing (s : State) (d i : Nat) : State := s.modDie d fun x => { x with inbound := x.inbound.eraseIdx i }

include h hport hfirst hroom hup

theorem yields_spliceSegmentArrive_on (hfar : c.dest ≠ a.die) :
    Yields (.spliceSegmentArrive a port) s (((s.begun a (14 + port)).takeCrossing a.die i).sendAcross a.die c) :=
  h.yields (decide_eq_true hport) (exec_spliceSegmentArrive a port s) (by
    simp only [hfirst]
    rw [if_neg (not_waits_crossing hroom hup), if_pos hfar, State.takeCrossing])

theorem yields_spliceSegmentArrive_here (hhere : c.dest = a.die) (hopen : c.unit.done = false) :
    Yields (.spliceSegmentArrive a port) s
      (((((s.begun a (14 + port)).takeCrossing a.die i).chargeTo a.die (acctTransit port) c.seg.units).gatherAt a.die
        { c.unit with port := port } c.seg c.first c.last).rechain) :=
  h.yields (decide_eq_true hport) (exec_spliceSegmentArrive a port s) (by
    simp only [hfirst]
    rw [if_neg (not_waits_crossing hroom hup), if_neg (not_not_intro hhere), hopen, Bool.not_false, if_pos rfl, State.takeCrossing])

end

/-! The audit (06 R180). -/

/-- The audit finds a bobbin leaked: it is no longer referred to, and untouched for longer than the leak age, if there is one. -/
def State.leaked (s : State) (d : Nat) (p : Nat × Bobbin) : Bool :=
  s.get d F.SWC_AUDIT_CFG_LEAK_AGE_MS != 0 && p.2.refs == 0 &&
    decide (s.get d F.SWC_AUDIT_CFG_LEAK_AGE_MS < s.now / ms 1 - p.2.touch)

/-- The units of the chains of a die whose keys a test admits. -/
def State.chained (s : State) (d : Nat) (p : Nat → Bool) : Nat :=
  ((s.die d).chains.filter fun c => p c.1).foldl (fun n c => n + c.2.length) 0

/-- A sweep is counted, and totals that do not add up are reported. -/
def State.countSweep (s : State) (d : Nat) : State :=
  let free := 65536 - (s.die d).bobbins.length
  let queued := s.chained d fun k => decide (k < 2 ^ 16)
  let flight := s.chained d fun k => decide (2 ^ 16 ≤ k)
  let v := s.wrap d F.SWC_AUDIT_STATUS_SWEEPS
  if free + queued + flight ≠ 65536 then v.raise d 12 0x302 3 [(4, free), (4, queued), (4, flight)] else v

/-- Leaked bobbins are taken back, and the sweep is counted. -/
def State.swept (s : State) (d : Nat) : State :=
  (s.modDie d fun x => { x with bobbins := x.bobbins.filter fun p => !s.leaked d p }).countSweep d

section
variable {a : At} {s : State} (h : s.On a 12) (hperiod : (s.begun a 12).get a.die F.SWC_AUDIT_CFG_PERIOD_MS ≠ 0)
include h hperiod

theorem yields_auditSweep_clean (hnone : ((s.begun a 12).die a.die).bobbins.filter ((s.begun a 12).leaked a.die) = []) :
    Yields (.auditSweep a) s ((s.begun a 12).swept a.die) :=
  h.yields rfl (exec_auditSweep a s) (by
    unfold State.leaked at hnone
    rw [if_neg hperiod]
    simp only [hnone]
    rfl)

theorem yields_auditSweep_leaks {n : Nat} {x : Bobbin} {rest : List (Nat × Bobbin)}
    (hleaks : ((s.begun a 12).die a.die).bobbins.filter ((s.begun a 12).leaked a.die) = (n, x) :: rest) :
    Yields (.auditSweep a) s
      ((((s.begun a 12).swept a.die).bump a.die F.SWC_AUDIT_STATUS_LEAKS (rest.length + 1)).raise a.die 12 0x301 2
        [(4, n), (2, x.owner), (2, rest.length + 1), (4, (s.begun a 12).now / ms 1 - x.touch)]) :=
  h.yields rfl (exec_auditSweep a s) (by
    unfold State.leaked at hleaks
    rw [if_neg hperiod]
    simp only [hleaks]
    rfl)

end

/-! A complete unit and a unit whose copies wait (06 R166, R172). -/

section
variable {a : At} {idx i : Nat} {x : SUnit} {s : State} (h : s.On a 11)
include h

theorem yields_switchingUnitComplete
    (holdest : ((s.begun a 11).die a.die).complete.zipIdx.find? (fun p => p.1.idx == idx) = some (x, i)) :
    Yields (.switchingUnitComplete a idx) s
      ((((s.begun a 11).modDie a.die fun y => { y with complete := y.complete.eraseIdx i }).finishUnit a.die x).rechain) :=
  h.yields rfl (exec_switchingUnitComplete a idx s) (by simp only [holdest])

theorem yields_mcastCopyResume {e : Entry}
    (holdest : ((s.begun a 11).die a.die).copies.zipIdx.find? (fun p => p.1.idx == idx) = some (x, i))
    (he : (s.begun a 11).entry? x.idx = some e)
    (hfits : (s.begun a 11).copiesFit ((s.begun a 11).copiesOf a.die x.idx e) (x.segs.foldl (fun n g => n + g.units) 0) = true) :
    Yields (.mcastCopyResume a idx) s
      ((((s.begun a 11).modDie a.die fun y => { y with copies := y.copies.eraseIdx i }).writeCopies a.die x e).rechain) :=
  h.yields rfl (exec_mcastCopyResume a idx s) (by simp only [holdest, he, hfits, if_true])

end

/-! The oldest release on its way to a die (06 R164). -/

theorem yields_chargeRelease {a : At} {r : Release} {rest : List Release} {s : State} (h : s.On a 12)
    (hnext : ((s.begun a 12).die a.die).releases = r :: rest) :
    Yields (.chargeRelease a) s
      (((s.begun a 12).modDie a.die fun x => { x with releases := rest }).freeFrom a.die r.acct r.units) :=
  h.yields rfl (exec_chargeRelease a s) (by simp only [hnext])

/-- Settles O11: each command finds what waits for it, and its guard holds. -/
theorem switchCoreUnitsMoveOn : Obligations.SwitchCoreUnitsMoveOn := by
  refine ⟨fun a port i c s hport h => ?splice, fun a idx i x s h => ⟨?complete, ?copies⟩, fun a n s hn h => ?pond,
    fun a r rest s h => ?release, fun a n s hn h => ?age, fun a s h => ?audit⟩
  case splice =>
    intro b d hfirst hroom hup u
    exact ⟨yields_spliceSegmentArrive_on h hport hfirst hroom hup, yields_spliceSegmentArrive_here h hport hfirst hroom hup⟩
  case complete => exact yields_switchingUnitComplete h
  case copies => exact fun e => yields_mcastCopyResume h
  case pond =>
    intro b key hpond hshare hpool hd step r
    exact h.yields (decide_eq_true hn) (exec_pondPageRefill a n s) (if_pos ⟨hpond, hshare, hpool⟩)
  case release => exact yields_chargeRelease h
  case age =>
    intro b key haged
    exact h.yields (decide_eq_true hn) (exec_queueAgeDrop a n s) (if_pos haged)
  case audit =>
    intro b d age leak gone u free count queued flight v v' hperiod
    refine ⟨yields_auditSweep_clean h hperiod, fun n x rest hleaks => ?_⟩
    have hlen : gone.length = rest.length + 1 := by rw [hleaks, List.length_cons]
    rw [hlen]
    exact yields_auditSweep_leaks h hperiod hleaks

end Sys2Proof.Machine
end

section
/-! Decisions of the scheduler, the end of a cut-through that runs dry, samples, gates, and the writes of branches and policers (06 R169,
R171; 07 R188 to R204): O12. -/

namespace Sys2Proof.Machine

/-! The commands as their meanings. -/

theorem exec_schedDecision (a : At) (o : Nat) (s : State) : exec (.schedDecision a o) s = execSchedDecision a o s := rfl

theorem exec_ctUnderrun (a : At) (m : Nat) (s : State) : exec (.ctUnderrun a m) s = execCtUnderrun a m s := rfl

theorem exec_queueSample (a : At) (s : State) : exec (.queueSample a) s = execQueueSample a s := rfl

theorem exec_gateEntryChange (a : At) (o : Nat) (s : State) : exec (.gateEntryChange a o) s = execGateEntryChange a o s := rfl

theorem exec_mcastBranchWrite (a : At) (q : Req) (g b : Nat) (v : Word) (s : State) :
    exec (.mcastBranchWrite a q g b v) s = execMcastBranchWrite a q g b v s := rfl

theorem exec_policerRateWrite (a : At) (q : Req) (p : Nat) (isCbs : Bool) (v : Word) (s : State) :
    exec (.policerRateWrite a q p isCbs v) s = execPolicerRateWrite a q p isCbs v s := rfl

/-! A decision at an output that is ready (07 R194, R208). -/

/-- What comes before the choice of a queue: aged and oversize heads go, keys are fetched, and units that the guard holds are counted. -/
def State.clearHeads (s : State) (d o : Nat) : State :=
  ((((List.range 16).foldl (fun s q => s.ageDrop (512 * d + 16 * o + q)) s).dropOversize d o).fetchKeys d o).countGuard d o

section
variable {a : At} {o q cost : Nat} {u : SUnit} {g : Seg} {s : State} (h : s.On a 13) (ho : o < 19)
  (hready : (s.begun a 13).outReady a.die o = true)
include h ho hready

theorem yields_schedDecision_midFrame (hmid : (s.begun a 13).midFrame a.die o = some q)
    (hcost : (s.begun a 13).headCost a.die o q = some (u, g, cost)) :
    Yields (.schedDecision a o) s ((s.begun a 13).sendHead a.die o q u g cost) :=
  h.yields (decide_eq_true ho) (exec_schedDecision a o s) (by
    simp only [hready, hmid, hcost, Bool.not_true, Bool.false_eq_true, if_false])

theorem yields_schedDecision_strict {x : State} (hx : (s.begun a 13).clearHeads a.die o = x)
    (hmid : (s.begun a 13).midFrame a.die o = none)
    (hstrict : (List.range (x.get a.die F.SCH_OUT_CFG_NSTRICT o)).find? (fun q => x.eligible a.die o q) = some q)
    (hlocal : x.transitNext a.die o (some q == some 0) = false)
    (hcost : (x.localTurn a.die o).headCost a.die o q = some (u, g, cost)) :
    Yields (.schedDecision a o) s ((x.localTurn a.die o).sendHead a.die o q u g cost) :=
  h.yields (decide_eq_true ho) (exec_schedDecision a o s) (by
    unfold State.clearHeads at hx
    simp only [hready, hmid, hx, hstrict, hlocal, hcost, Bool.not_true, Bool.false_eq_true, if_false])

end

/-- A cut-through frame of a MAC that has run dry ends, and is counted (06 R169). -/
theorem yields_ctUnderrun {a : At} {m q : Nat} {u : SUnit} {rest : List SUnit} {s : State} (h : s.On a 13) (hm : m < 4)
    (hmid : (s.begun a 13).midFrame a.die (m + 8) = some q)
    (hhead : ((s.begun a 13).queue (512 * a.die + 16 * (m + 8) + q)).units = u :: rest) (hdry : u.segs = []) (hopen : u.done = false)
    (hdue : Table.look ((s.begun a 13).die a.die).busy (m + 8) 0 ≤ (s.begun a 13).now) :
    Yields (.ctUnderrun a m) s
      ((((((s.begun a 13).modQueue (512 * a.die + 16 * (m + 8) + q) fun x => { x with units := rest }).macSend a.die m u.idx u.sent
        true).bump a.die F.SWC_CT_UNDERRUN_COUNT).raiseLimited a.die 0x30A m (ms 1) fun _ s =>
          s.raise a.die 11 0x30A 2 [(1, m), (3, 0), (4, ((s.entry? u.idx).map (·.strandId)).getD 0)])) :=
  h.yields (decide_eq_true hm) (exec_ctUnderrun a m s) (by
    simp only [hmid, hhead, hdry, hopen, hdue, List.isEmpty_nil, Bool.not_false, decide_true, Bool.and_self, if_true])

/-! A boundary of an output's gates (07 R202, R204). -/

/-- The armed list takes the running one's place. -/
def State.gatesSwitch (s : State) (d o switchAt : Nat) : State :=
  let u := s.modDie d fun x => { x with oldGcl := Table.del x.oldGcl o }
  (u.set d F.SCH_OUT_GCL_CTL_CHANGE_ARMED 0 o).raise d o 0x402 1 [(1, o), (1, 0), (2, u.get d F.SCH_OUT_GCL_CTL_GCL_LEN o),
    (8, u.tsAt switchAt), (4, u.get d F.SCH_OUT_GCL_CYCLE_CYCLE_NS o)]

section
variable {a : At} {o : Nat} {s : State} (h : s.On a 13) (ho : o < 19)
  (hgated : (s.begun a 13).get a.die F.SCH_OUT_GCL_CTL_GATE_EN o = 1)
include h ho hgated

theorem yields_gateEntryChange_shown (hold : Table.find? ((s.begun a 13).die a.die).oldGcl o = none) :
    Yields (.gateEntryChange a o) s ((s.begun a 13).showGate a.die o) :=
  h.yields (decide_eq_true ho) (exec_gateEntryChange a o s) (by
    simp only [State.flag_iff.mpr hgated, hold, Bool.not_true, Bool.false_eq_true, if_false])

theorem yields_gateEntryChange_switched {g : OldGcl} (hold : Table.find? ((s.begun a 13).die a.die).oldGcl o = some g)
    (hdue : g.switchAt ≤ (s.begun a 13).now) :
    Yields (.gateEntryChange a o) s (((s.begun a 13).gatesSwitch a.die o g.switchAt).showGate a.die o) :=
  h.yields (decide_eq_true ho) (exec_gateEntryChange a o s) (by
    simp only [State.flag_iff.mpr hgated, hold, hdue, Bool.not_true, Bool.false_eq_true, if_false, if_true, State.gatesSwitch])

end

/-! The rates of a policer (07 R188). -/

section
variable (s : State) (d p : Nat) (v : Word) {isCbs : Bool}

/-- A policer's bucket, refilled to now at the rate and up to the burst in force. -/
def State.refilled (s : State) (d p : Nat) : Bucket :=
  (s.policer d p).fill (s.get d F.STR_POL_CIR_CIR p) (s.get d F.STR_POL_CBS_CBS p) s.now

theorem State.writePolicer_cir (h : isCbs = false) :
    s.writePolicer d p isCbs v = (s.putPolicer d p (s.refilled d p)).writeSkn d Reg.STR_POL_CIR v p := by
  rw [State.writePolicer, if_neg (ne_true_of_eq_false h), State.refilled]

theorem State.writePolicer_cbs (h : isCbs = true) : s.writePolicer d p isCbs v = (s.writeSkn d Reg.STR_POL_CBS v p).putPolicer d p
    { s.refilled d p with tokens :=
      if ((s.writeSkn d Reg.STR_POL_CBS v p).get d F.STR_POL_CBS_CBS p : Int) < (s.refilled d p).tokens then
        (s.writeSkn d Reg.STR_POL_CBS v p).get d F.STR_POL_CBS_CBS p else (s.refilled d p).tokens } := by
  rw [State.writePolicer, if_pos h, State.refilled]

end

theorem yields_policerRateWrite {a : At} {q : Req} {p : Nat} {isCbs : Bool} {s u : State}
    (h : s.Admits a q (0x0D0000 + 0x10 * p + 4 * b2n isCbs)) (hp : p < 4096) (v : Word)
    (hu : (s.admitted a q (0x0D0000 + 0x10 * p + 4 * b2n isCbs)).writePolicer a.die p isCbs v = u) :
    Yields (.policerRateWrite a q p isCbs v) s u :=
  h.yields (decide_eq_true hp) (exec_policerRateWrite a q p isCbs v s) hu

/-- Settles O12: each command meets its guard, and each admitted write is its register's effect. -/
theorem schedulerDecidesSamplesAndGates : Obligations.SchedulerDecidesSamplesAndGates := by
  refine ⟨fun a o q u g cost s ho h => ?decision, fun a m q u rest s hm h => ?underrun, fun a s h => ?sample,
    fun a o s ho h => ?gate, fun a q g n v s hg hn => ?branch, fun a q p isCbs v s hp => ?policer⟩
  case decision =>
    intro b d hready
    exact ⟨yields_schedDecision_midFrame h ho hready, fun hmid => yields_schedDecision_strict h ho hready rfl hmid⟩
  case underrun => exact yields_ctUnderrun h hm
  case sample => exact h.yields rfl (exec_queueSample a s) rfl
  case gate =>
    intro b d hgated
    exact ⟨yields_gateEntryChange_shown h ho hgated, fun g => yields_gateEntryChange_switched h ho hgated⟩
  case branch =>
    intro off h u
    exact h.yields (by simp [hg, hn]) (exec_mcastBranchWrite a q g n v s) (by simp [State.writeBranch, u])
  case policer =>
    intro off h b d k
    exact ⟨fun hcir => yields_policerRateWrite h hp v (State.writePolicer_cir b d p v hcir),
      fun hcbs => yields_policerRateWrite h hp v (State.writePolicer_cbs b d p v hcbs)⟩

end Sys2Proof.Machine
end

section
/-! Admitted writes of SCH_HIST_CTL and SPD_FREEZE, the close of a twist's window and its boundary (07 R200; 08 R212, R213, R237): O13. -/

namespace Sys2Proof.Machine

/-! The commands as their meanings. -/

theorem exec_histFreeze (a : At) (q : Req) (v : Word) (s : State) : exec (.histFreeze a q v) s = execHistFreeze a q v s := rfl

theorem exec_histClear (a : At) (q : Req) (v : Word) (s : State) : exec (.histClear a q v) s = execHistClear a q v s := rfl

theorem exec_spdFreezeWrite (a : At) (q : Req) (v : Word) (s : State) :
    exec (.spdFreezeWrite a q v) s = execSpdFreezeWrite a q v s := rfl

theorem exec_twistWindowClose (a : At) (late : Nat) (tries : List Attempt) (s : State) :
    exec (.twistWindowClose a late tries) s = execTwistWindowClose a late tries s := rfl

theorem exec_twistBoundary (a : At) (missed step : Nat) (codes : List Nat) (s : State) :
    exec (.twistBoundary a missed step codes) s = execTwistBoundary a missed step codes s := rfl

/-! A register's field written with the same field of a word. -/

/-- A field reads what a written word carries in its place. -/
theorem State.get_set_wordGet (s : State) {f : Fld} (hlo : f.lo ≤ f.hi) (hhi : f.hi < 32) (v : Word) (d i j : Nat) :
    (s.set d f (wordGet v f.hi f.lo) i j).get d f i j = wordGet v f.hi f.lo := by
  rw [State.get_set_same _ hlo hhi, Nat.mod_eq_of_lt (wordGet_lt ..)]

/-- An admitted write whose effect is within one register leaves the other registers but those of EDDY's end, the bytes and the dies,
and sends nothing. -/
theorem State.Admits.keeps_beside {a : At} {q : Req} {off x : Nat} {s u : State} (h : s.Admits a q off)
    (hreg : (s.admitted a q off).OnlyRegs [x] u) (hregs : u.regs = (s.admitted a q off).regs)
    (hcells : u.cellLog = (s.admitted a q off).cellLog) (hout : u.out = (s.admitted a q off).out)
    (hdies : u.dies = (s.admitted a q off).dies) :
    s.OnlyRegs (x :: eddyRegs) (s.commit u) ∧ s.SameBytes (s.commit u) ∧ (s.commit u).out = [] ∧ (s.commit u).dies = s.dies := by
  obtain ⟨hk, -⟩ := h
  refine ⟨State.onlyRegs_commit hk (hregs.trans (State.admitted_regs hk a q off)) ((State.onlyRegs_admitted hk a q off).trans hreg),
    State.sameBytes_commit hk (hcells.trans (State.admitted_cellLog hk a q off)), ?_, ?_⟩
  · rw [State.commit_out, hout, State.admitted_out hk]
  · rw [State.commit_dies, hdies, State.admitted_dies hk]

/-! A range of registers zeroed. -/

/-- A log is searched as a table is: the first entry of a key is the one found. -/
theorem logFind_eq_find {α : Type} (l : List (Nat × α)) (n : Nat) : logFind l n = Table.find? l n := by
  induction l with
  | nil => rfl
  | cons p l ih => rw [logFind, Table.find?, ih]

theorem Table.find_of_not_mem {α : Type} {t : Table α} {n : Nat} (h : n ∉ t.map (·.1)) : Table.find? t n = none := by
  induction t with
  | nil => rfl
  | cons p t ih =>
    rw [List.map_cons, List.mem_cons, not_or] at h
    rw [Table.find?, if_neg (Ne.symm h.1), ih h.2]

theorem State.mem_listedIn {s : State} {d off len n : Nat} : n ∈ s.listedIn d off len ↔
    (n ∈ s.regLog.map (·.1) ∨ n ∈ s.regs.map (·.1)) ∧ barAddr d off ≤ n ∧ n < barAddr d (off + len) := by
  rw [State.listedIn, List.mem_filter, List.mem_append, Bool.and_eq_true, decide_eq_true_iff, decide_eq_true_iff]

/-- A register of a range that is not listed there reads as one never written does. -/
theorem State.reg_of_not_listed {s : State} {d off len n : Nat} (hlo : barAddr d off ≤ n) (hup : n < barAddr d (off + len))
    (h : n ∉ s.listedIn d off len) : s.reg n = unlistedReg n := by
  have hkeys : ¬ (n ∈ s.regLog.map (·.1) ∨ n ∈ s.regs.map (·.1)) := fun hmem => h (State.mem_listedIn.mpr ⟨hmem, hlo, hup⟩)
  obtain ⟨hlog, hregs⟩ := not_or.mp hkeys
  rw [State.reg, logFind_eq_find, Table.find_of_not_mem hlog, Table.read, Table.find_of_not_mem hregs]
  rfl

theorem State.reg_zeroed (l : List Nat) (s : State) (n : Nat) :
    (l.foldl (fun s n => s.setReg n 0) s).reg n = if n ∈ l then 0 else s.reg n := by
  induction l generalizing s with
  | nil => rfl
  | cons m l ih =>
    rw [List.foldl_cons, ih, State.reg_setReg]
    by_cases hl : n ∈ l
    · simp [hl]
    · simp [hl, eq_comm]

/-- A register of a range that is zeroed reads 0, or as one never written does. -/
theorem State.reg_zeroRange_inside (s : State) {d off len n : Nat} (hlo : barAddr d off ≤ n) (hup : n < barAddr d (off + len)) :
    (s.zeroRange d off len).reg n = 0 ∨ (s.zeroRange d off len).reg n = unlistedReg n := by
  rw [State.zeroRange, State.reg_zeroed]
  split
  next => exact .inl rfl
  next hnot => exact .inr (State.reg_of_not_listed hlo hup hnot)

theorem State.reg_zeroRange_outside (s : State) {d off len n : Nat} (hout : n < barAddr d off ∨ barAddr d (off + len) ≤ n) :
    (s.zeroRange d off len).reg n = s.reg n := by
  have hnot : n ∉ s.listedIn d off len := fun hmem => by
    obtain ⟨-, hlo, hup⟩ := State.mem_listedIn.mp hmem
    omega
  rw [State.zeroRange, State.reg_zeroed, if_neg hnot]

@[simp] theorem State.zeroRange_regs (s : State) (d off len : Nat) : (s.zeroRange d off len).regs = s.regs :=
  foldl_keeps State.regs _ _ _ fun _ _ _ => rfl

@[simp] theorem State.zeroRange_cellLog (s : State) (d off len : Nat) : (s.zeroRange d off len).cellLog = s.cellLog :=
  foldl_keeps State.cellLog _ _ _ fun _ _ _ => rfl

/-! SCH_HIST_CTL (07 R200). -/

theorem histCtl_lt_histograms (d : Nat) : barAddr d (Reg.SCH_HIST_CTL.off 0 0) < barAddr d 0x160000 := Nat.add_lt_add_left (by decide) _

section
variable {a : At} {q : Req} {v : Word} {s : State} (h : s.Admits a q 0x14F004)
include h

/-- Without CLEAR, the write sets FREEZE and leaves everything else. -/
theorem gives_histFreeze (hv : wordGet v 31 31 = 0) : Gives (.histFreeze a q v) s fun t =>
    t.get a.die F.SCH_HIST_CTL_FREEZE = wordGet v 30 30 ∧
    s.OnlyRegs (barAddr a.die (Reg.SCH_HIST_CTL.off 0 0) :: eddyRegs) t ∧ s.SameBytes t ∧ t.out = [] ∧ t.dies = s.dies := by
  have ⟨hk, _⟩ := h
  have hkeep : ¬ wordGet v 31 31 = 1 := by omega
  have hy : Yields (.histFreeze a q v) s ((s.admitted a q 0x14F004).set a.die F.SCH_HIST_CTL_FREEZE (wordGet v 30 30)) :=
    h.yields rfl (exec_histFreeze a q v s) (by rw [State.writeHistCtl, if_neg hkeep])
  refine hy.gives ⟨?_, h.keeps_beside ((State.OnlyRegs.refl _ _).set (by simp) _) (by simp) (by simp) (by simp) (by simp)⟩
  rw [State.get_commit hk (by simpa using State.admitted_regs hk a q _), State.get_set_wordGet _ (by decide) (by decide)]

/-- With CLEAR, the histograms of the die are zeroed before FREEZE is set. -/
theorem gives_histClear (hv : wordGet v 31 31 = 1) : Gives (.histClear a q v) s fun t =>
    t.get a.die F.SCH_HIST_CTL_FREEZE = wordGet v 30 30 ∧
    (∀ n, barAddr a.die 0x160000 ≤ n → n < barAddr a.die (0x160000 + 0x80 * 304) → t.reg n = 0 ∨ t.reg n = unlistedReg n) ∧
    (∀ n, (n < barAddr a.die 0x160000 ∨ barAddr a.die (0x160000 + 0x80 * 304) ≤ n) →
      n ∉ barAddr a.die (Reg.SCH_HIST_CTL.off 0 0) :: eddyRegs → t.reg n = s.reg n) ∧ s.SameBytes t := by
  have ⟨hk, _⟩ := h
  have hy : Yields (.histClear a q v) s
      (((s.admitted a q 0x14F004).zeroRange a.die 0x160000 (0x80 * 304)).set a.die F.SCH_HIST_CTL_FREEZE (wordGet v 30 30)) :=
    h.yields rfl (exec_histClear a q v s) (by rw [State.writeHistCtl, if_pos hv])
  have hregs := State.admitted_regs hk a q 0x14F004
  refine hy.gives ⟨?_, fun n hlo hup => ?_, fun n hout hn => ?_,
    State.sameBytes_commit hk (by simpa using State.admitted_cellLog hk a q _)⟩
  · rw [State.get_commit hk (by simpa using hregs), State.get_set_wordGet _ (by decide) (by decide)]
  · have hne : n ≠ barAddr a.die (Reg.SCH_HIST_CTL.off 0 0) := Nat.ne_of_gt (Nat.lt_of_lt_of_le (histCtl_lt_histograms a.die) hlo)
    rw [State.reg_commit_eq hk (by simpa using hregs), State.reg_set_of_ne _ hne]
    exact State.reg_zeroRange_inside _ hlo hup
  · rw [State.reg_commit_eq hk (by simpa using hregs), State.reg_set_of_ne _ (List.ne_of_not_mem_cons hn),
      State.reg_zeroRange_outside _ hout, State.reg_admitted hk a q _ (List.not_mem_of_not_mem_cons hn)]

end

/-! SPD_FREEZE (08 R237). -/

/-- On die 0 the write sets HOLD and EXCEPT_FAILOVER, and leaves everything else. -/
theorem gives_spdFreezeWrite {a : At} {q : Req} {s : State} (h : s.Admits a q 0x180008) (hd : a.die = 0) (v : Word) :
    Gives (.spdFreezeWrite a q v) s fun t =>
      t.get 0 F.SPD_FREEZE_HOLD = wordGet v 31 31 ∧ t.get 0 F.SPD_FREEZE_EXCEPT_FAILOVER = wordGet v 30 30 ∧
      s.OnlyRegs (barAddr 0 (Reg.SPD_FREEZE.off 0 0) :: eddyRegs) t ∧ s.SameBytes t ∧ t.out = [] ∧ t.dies = s.dies := by
  have ⟨hk, _⟩ := h
  have hy : Yields (.spdFreezeWrite a q v) s (((s.admitted a q 0x180008).set 0 F.SPD_FREEZE_HOLD (wordGet v 31 31)).set 0
      F.SPD_FREEZE_EXCEPT_FAILOVER (wordGet v 30 30)) :=
    h.yields rfl (exec_spdFreezeWrite a q v s) (by rw [State.writeFreeze, if_pos hd])
  have hregs := State.admitted_regs hk a q 0x180008
  refine hy.gives ⟨?_, ?_, h.keeps_beside (((State.OnlyRegs.refl _ _).set (by simp) _).set (by simp) _) (by simp) (by simp) (by simp)
    (by simp)⟩
  · rw [State.get_commit hk (by simpa using hregs), State.get_set_apart (f := F.SPD_FREEZE_EXCEPT_FAILOVER) (g := F.SPD_FREEZE_HOLD) _
      (by decide) (by decide) rfl (by decide), State.get_set_wordGet _ (by decide) (by decide)]
  · rw [State.get_commit hk (by simpa using hregs), State.get_set_wordGet _ (by decide) (by decide)]

/-! The twist (08 R212, R213, R238). -/

@[simp] theorem elapse_stopped (a : At) (s : State) : (elapse a s).clock.stopped = s.clock.stopped := by
  unfold elapse
  split <;> rfl

/-- The die that an order is about has sent die 0 its summary. -/
def Move.summed (late : Nat) : Move → Bool
  | .ply idx _ _ => !bit late (idx / 8192)
  | .hold key _ _ => !bit late (key / 512)
  | .pond key _ _ => !bit late (key / 512)
  | .store h _ _ => !bit late (h / 2)

/-- Where no summary is late, every order is about a die that has sent its own. -/
theorem Move.summed_zero (m : Move) : m.summed 0 = true := by
  have hbit (n : Nat) : bit 0 n = false := by simp [bit]
  cases m <;> simp [Move.summed, hbit]

/-- The orders of a window's close: die 0's, where it decides, about the dies whose summary it has. -/
def State.windowOrders (s : State) (late : Nat) : List Move := if s.spinning 0 then s.orders.filter (Move.summed late) else []

theorem State.mem_orders_of_windowOrders {s : State} {late : Nat} {m : Move} (h : m ∈ s.windowOrders late) : m ∈ s.orders := by
  unfold State.windowOrders at h
  split at h
  · exact (List.mem_filter.mp h).1
  · exact absurd h List.not_mem_nil

theorem State.windowOrders_all {s : State} {late : Nat} (hlate : late = 0) (h : s.spinning 0 = true) :
    s.windowOrders late = s.orders := by
  rw [hlate, State.windowOrders, if_pos h, List.filter_eq_self.mpr fun m _ => m.summed_zero]

/-- Settles O13: each admitted write sets the fields of its register, after the histograms are zeroed where it clears; the orders of a
window's close are die 0's about the dies whose summary is not late. -/
theorem histogramAndFreezeWritesReadBack : Obligations.HistogramAndFreezeWritesReadBack := by
  refine ⟨fun a q v s h _ => ⟨gives_histFreeze h, gives_histClear h⟩, fun a q v s h hd => gives_spdFreezeWrite h hd v,
    fun a late tries s hd hclock => ?close, fun a missed step codes s hd hclock hmissed hlo hup hnew => ?boundary⟩
  case close =>
    intro b hnew hspin dies read u allots
    have hcloses : ¬ (b.clock.stopped = true ∨ b.spd.closed = b.windowNo ∨ (!b.spinning a.die) = true) := by
      simp [b, hclock, hnew, hspin]
    exact ⟨u.windowOrders late, fun _ => State.mem_orders_of_windowOrders, State.windowOrders_all,
      yields_onUnit hd rfl (exec_twistWindowClose a late tries s) (if_neg hcloses)⟩
  case boundary =>
    have hfalls : ¬ ((elapse a s).clock.stopped = true ∨ (elapse a s).boundaryNo = (elapse a s).spd.fell) := by simp [hclock, hnew]
    exact yields_onUnit hd (by simp [hmissed, hlo, hup]) (exec_twistBoundary a missed step codes s) (if_neg hfalls)

end Sys2Proof.Machine
end

section
/-! TICKs, time frames, the silent parent, the end of a holdover, TIM_SET and TIM strands (09 R255 to R261, R274): O14. -/

namespace Sys2Proof.Machine

/-! The commands as their meanings. -/

theorem exec_tickSend (a : At) (k : Nat) (s : State) : exec (.tickSend a k) s = execTickSend a k s := rfl

theorem exec_tickReceive (a : At) (k : Nat) (blk : List Byte) (s : State) :
    exec (.tickReceive a k blk) s = execTickReceive a k blk s := rfl

theorem exec_timeFrameSend (a : At) (port side : Nat) (s : State) :
    exec (.timeFrameSend a port side) s = execTimeFrameSend a port side s := rfl

theorem exec_timeFrameReceive (a : At) (port side : Nat) (blk : List Byte) (s : State) :
    exec (.timeFrameReceive a port side blk) s = execTimeFrameReceive a port side blk s := rfl

theorem exec_parentSilent (a : At) (s : State) : exec (.parentSilent a) s = execParentSilent a s := rfl

theorem exec_holdoverExpire (a : At) (s : State) : exec (.holdoverExpire a) s = execHoldoverExpire a s := rfl

theorem exec_timSet (a : At) (q : Req) (v : Word) (s : State) : exec (.timSet a q v) s = execTimSet a q v s := rfl

theorem exec_timMessageSend (a : At) (idx : Nat) (s : State) : exec (.timMessageSend a idx) s = execTimMessageSend a idx s := rfl

theorem exec_timMessageReceive (a : At) (idx : Nat) (msg : List Byte) (s : State) :
    exec (.timMessageReceive a idx msg) s = execTimMessageReceive a idx msg s := rfl

/-- A command of a Shoreline port whose island runs is carried out. -/
theorem yields_onPort {i : Instr} {a : At} {port : Nat} {ok : Bool} {s u : State} {f : State → State} (hd : a.die < s.part.dies)
    (hport : port < 2) (hok : ok = true) (hruns : (elapse a s).runs port 33 = true) (hi : exec i s = onPort a port ok s f)
    (hf : f (elapse a s) = u) : Yields i s u :=
  yields_onUnit hd (by simp [hport, hok]) hi ((if_pos hruns).trans hf)

/-! TICKs of a ply (09 R256, R257). -/

section
variable {a : At} {k : Nat} {s : State} (h : s.On a 9) (hk : k < 8) (hply : ((s.begun a 9).ply? a.die k).isSome = true)
  (hdue : ((s.begun a 9).tlink (plyLink a.die k)).due ≤ (s.begun a 9).now)
include h hk hply hdue

theorem yields_tickSend_exchange (hst : (s.begun a 9).plyState a.die k = 5) :
    Yields (.tickSend a k) s ((s.begun a 9).sendTick a.die k (us 1)) :=
  h.yields (decide_eq_true hk) (exec_tickSend a k s) (by
    simp only [hply, fallen_iff.mpr hdue, hst, Bool.and_self, if_true])

theorem yields_tickSend_active (hst : (s.begun a 9).plyState a.die k = 6) (htx : (s.begun a 9).txState a.die k = 0)
    (hcap : (s.begun a 9).flag a.die F.PLY_LINK_PEER_CAP_TICK k = true) :
    Yields (.tickSend a k) s ((s.begun a 9).sendTick a.die k (ns 62500)) :=
  h.yields (decide_eq_true hk) (exec_tickSend a k s) (by
    have hactive : (s.begun a 9).plyActive a.die k = true := by rw [State.plyActive, hply, hst]; rfl
    simp [hply, fallen_iff.mpr hdue, hst, hactive, htx, hcap])

end

/-! A TICK taken in ACTIVE (09 R256, R259). -/

/-- Hearing a control block leaves the state of every ply: a near miss counts in a register of its own. -/
theorem State.plyState_heard (s : State) (a : At) (k d j : Nat) : (s.heard a k).plyState d j = s.plyState d j := by
  have hnear (t : Nat) : (s.plyNear a k t).plyState d j = s.plyState d j := by
    unfold State.plyNear
    split
    · refine State.get_set_of_ne s ?_ _
      simp [barAddr, RegDesc.off, Reg.PLY_LINK_STATE, Reg.PLY_LINK_NEAR_MISS]
      omega
    · rfl
  unfold State.heard
  dsimp only
  split
  · rfl
  · rw [State.plyState, State.get_modPly]
    split
    · exact hnear _
    · rfl

/-- What a TICK tells is recorded, its sample is taken, and the ply shows the delay. -/
def State.takeTick (b : State) (d k : Nat) (blk : List Byte) : State × Option (Int × Nat × Nat) :=
  let l := plyLink d k
  let w := (b.plyLanes d k).length
  let x := b.tlink l
  let u := (b.boundary d k).modLink l fun x => { x with
    heard := true, cls := classOf (byteAt blk 25), hops := byteAt blk 26, gm := (b.boundary d k).get 0 F.TIM_GM_GM }
  let r := u.timeSample l blk (fun i j => x.f.getD (tickLane i w) 0 + x.b.getD (tickLane j w) 0)
    (signed 16 (b.get d F.PLY_LINK_TCAL_CABLE_ASYM_PS k) * 8 / 1000)
  (r.1.set d F.PLY_LINK_TDELAY_DELAY (unsigned 32 (r.1.tlink l).meanDelay) k, r.2)

section
variable {a : At} {k : Nat} {blk : List Byte} {s : State} {p : Ply} (h : s.On a 8) (hk : k < 8)
  (hp : (s.begun a 8).ply? a.die k = some p) (hst : (s.begun a 8).plyState a.die k = 6) (hfit : blockFit 3 blk = true)
  (hok : timeFieldsOk blk = true)
include h hk hp hst hfit hok

/-- A TICK without a sample is recorded, and one with a sample steers the hub where its ply is the parent, found or sought. -/
theorem yields_tickReceive {v : State} {sample : Option (Int × Nat × Nat)}
    (hv : ((s.begun a 8).heard a k).takeTick a.die k blk = (v, sample)) :
    (sample = none → Yields (.tickReceive a k blk) s v) ∧
    ∀ {t : State} offset i j, sample = some (offset, i, j) → (if v.tim.parent.isNone then v.seekParent 3 else v) = t →
      Yields (.tickReceive a k blk) s
        (if t.tim.parent = some (plyLink a.die k) then (t.follow (t.tlink (plyLink a.die k))).servo offset else t) := by
  obtain ⟨_, htaken⟩ := State.takeBlock_ok (type := 3) (ok := timeFieldsOk blk) hp (by rw [hfit, hok, hst]; rfl) _
  have hactive : (((s.begun a 8).heard a k).plyState a.die k == 5) = false := by rw [State.plyState_heard, hst]; rfl
  unfold State.takeTick at hv
  obtain ⟨hstate, hsample⟩ := Prod.mk.inj hv
  refine ⟨fun hnone => ?_, fun offset i j hsome ht => ?_⟩
  · refine h.yields (decide_eq_true hk) (exec_tickReceive a k blk s) (htaken.trans ?_)
    simp only [hactive, Bool.false_eq_true, if_false, hsample, hstate, hnone]
  · refine h.yields (decide_eq_true hk) (exec_tickReceive a k blk s) (htaken.trans ?_)
    simp only [hactive, Bool.false_eq_true, if_false, hsample, hstate, hsome, ht]

end

/-! Time frames of a Shoreline side (09 R257, R260). -/

section
variable {a : At} {port side : Nat} {s : State} (hd : a.die < s.part.dies) (hport : port < 2) (hside : side < 2)
  (hruns : (elapse a s).runs port 33 = true) (hup : (elapse a s).sideUp port side = true) (hring : (elapse a s).onRing port = true)
include hd hport hside hruns hup hring

theorem yields_timeFrameSend (hdue : ((elapse a s).tlink (shlLink port side)).due ≤ (elapse a s).now) :
    let b := elapse a s
    let l := shlLink port side
    let f := sealBlock ((0x02 : Byte) :: b.timeBody l (b.get 0 F.TIM_GM_PRIORITY) (b.get 0 F.TIM_UTC_TAI_UTC) (b.get 0 F.TIM_GM_GM))
    Yields (.timeFrameSend a port side) s ((b.shlSend port side f).departed l (us 125)) :=
  yields_onPort hd hport (decide_eq_true hside) hruns (exec_timeFrameSend a port side s)
    (if_pos (by rw [hup, hring, fallen_iff.mpr hdue]; rfl))

theorem yields_timeFrameReceive_bad {blk : List Byte} (hbad : blockOk 2 blk = false ∨ timeFieldsOk blk = false) :
    Yields (.timeFrameReceive a port side blk) s ((elapse a s).bump port F.SHL_FRAME_ERR_COUNT) :=
  yields_onPort hd hport (decide_eq_true hside) hruns (exec_timeFrameReceive a port side blk s) (by
    have hcheck : (blockOk 2 blk && timeFieldsOk blk) = false := by
      rcases hbad with hbad | hbad <;> simp [hbad]
    simp only [hup, hring, hcheck, Bool.and_self, Bool.not_true, Bool.not_false, Bool.false_eq_true, if_false, if_true])

end

/-- What a time frame tells is recorded, and its sample is taken. -/
def State.takeTimeFrame (b : State) (l : Nat) (blk : List Byte) : State × Option (Int × Nat × Nat) :=
  let u := b.modLink l fun x => { x with
    heard := true, cls := classOf (byteAt blk 25), prio := byteAt blk 13, gm := numAt blk 28 2 % 4096, hops := byteAt blk 26,
    utc := byteAt blk 27 }
  u.timeSample l blk (fun _ _ => 0) 0

/-- A sample that came from the parent, of the grandmaster that the hub has, steers it (09 R260). -/
theorem yields_timeFrameReceive_parent {a : At} {port : Nat} {blk : List Byte} {s v : State} {offset : Int} {i j : Nat}
    (hd : a.die < s.part.dies) (hport : port < 2) (hruns : (elapse a s).runs port 33 = true)
    (hup : (elapse a s).sideUp port 1 = true) (hring : (elapse a s).onRing port = true) (hcheck : blockOk 2 blk = true)
    (hok : timeFieldsOk blk = true) (hv : ((elapse a s).takeTimeFrame (shlLink port 1) blk).1.elect = v)
    (hparent : v.tim.parent = some (shlLink port 1)) (hgm : (v.tlink (shlLink port 1)).gm = v.get 0 F.TIM_GM_GM)
    (hsample : ((elapse a s).takeTimeFrame (shlLink port 1) blk).2 = some (offset, i, j)) :
    Yields (.timeFrameReceive a port 1 blk) s ((v.follow (v.tlink (shlLink port 1))).servo offset) := by
  refine yields_onPort hd hport rfl hruns (exec_timeFrameReceive a port 1 blk s) ?_
  unfold State.takeTimeFrame at hv hsample
  have hsame : ((v.tlink (shlLink port 1)).gm != v.get 0 F.TIM_GM_GM) = false := by rw [hgm, bne_self_eq_false]
  simp only [hup, hring, hcheck, hok, hv, hparent, hsame, hsample, Bool.and_self, Bool.and_false, Bool.not_true, Bool.false_eq_true,
    if_false, if_true, Nat.one_ne_zero, Option.isNone_some, Bool.false_and]

/-! The hub's parent and its holdover (09 R259, R261). -/

section
variable {a : At} {s : State} (hd : a.die < s.part.dies) (hruns : (elapse a s).runs 0 32 = true)
include hd hruns

theorem yields_parentSilent_parent {l : Nat} (hparent : (elapse a s).tim.parent = some l) (hl : l < 206)
    (hend : max (elapse a s).tim.soughtAt (((elapse a s).tlink l).sampleAt.getD 0) + ms 1 ≤ (elapse a s).now) :
    Yields (.parentSilent a) s ((((elapse a s).modLink l fun x => { x with traceable := false }).seekParent 2).elect) :=
  yields_onUnit hd rfl (exec_parentSilent a s) (by
    simp only [hruns, hparent, hl, fallen_iff.mpr hend, Bool.not_true, Bool.false_eq_true, if_false, decide_true, Bool.and_self, if_true])

theorem yields_parentSilent_none (hparent : (elapse a s).tim.parent = none)
    (hend : (elapse a s).tim.soughtAt + ms 1 ≤ (elapse a s).now) : Yields (.parentSilent a) s (elapse a s).elect :=
  yields_onUnit hd rfl (exec_parentSilent a s) (by
    simp only [hruns, hparent, fallen_iff.mpr hend, Bool.not_true, Bool.false_eq_true, if_false, if_true])

theorem yields_holdoverExpire (hst : (elapse a s).get 0 F.TIM_STATUS_STATE = 3) (hclass : (elapse a s).get 0 F.TIM_STATUS_CLASS = 7)
    (hend : (elapse a s).tim.lostAt + ms (1000 * (elapse a s).get 0 F.TIM_CFG_HOLDOVER_S) ≤ (elapse a s).now) :
    Yields (.holdoverExpire a) s (((elapse a s).set 0 F.TIM_STATUS_CLASS 52).elect) :=
  yields_onUnit hd rfl (exec_holdoverExpire a s) (if_pos (by rw [hruns, hst, hclass, fallen_iff.mpr hend]; rfl))

end

/-! TIM strands (09 R274). -/

/-- A TIM message as the hub sends it. -/
def State.timMessage (s : State) : List Byte :=
  leBytes 1 1 ++ leBytes 1 (b2n s.clock.traceable + 2 * s.get 0 F.TIM_UTC_LEAP61 + 4 * s.get 0 F.TIM_UTC_LEAP59) ++
    leBytes 2 (s.get 0 F.TIM_GM_GM) ++ leBytes 8 s.ts ++ leBytes 4 0 ++ leBytes 1 (s.get 0 F.TIM_STATUS_CLASS) ++
    leBytes 1 (s.get 0 F.TIM_STATUS_HOPS) ++ leBytes 1 (s.get 0 F.TIM_UTC_TAI_UTC) ++ leBytes 1 (s.get 0 F.TIM_GM_PRIORITY) ++
    leBytes 12 0

/-- What a message of TIM_PARENT's strand tells of its sender. -/
def State.hearTim (s : State) (msg : List Byte) : State :=
  let flags := byteAt msg 1
  let u := s.modLink 200 fun x => { x with
    heard := true, traceable := bit flags 0, gm := numAt msg 2 2 % 4096, cls := classOf (byteAt msg 16),
    hops := byteAt msg 17, utc := byteAt msg 18, prio := byteAt msg 19, sampleAt := some s.now }
  (u.set 0 F.TIM_UTC_LEAP61 (b2n (bit flags 1))).set 0 F.TIM_UTC_LEAP59 (b2n (bit flags 2))

section
variable {a : At} {idx : Nat} {e : Entry} {s : State} (h : s.On a 32) (hidx : idx < 8192)
  (he : (s.begun a 32).entry? (8192 * a.die + idx) = some e) (hkind : e.kind = 5)
include h hidx he hkind

theorem yields_timMessageSend (hin : e.inType = 3) (hst : e.st = 2 ∨ e.st = 3)
    (hdue : Table.look (s.begun a 32).tim.strandDue (8192 * a.die + idx) 0 ≤ (s.begun a 32).now) :
    let b := s.begun a 32
    let i := 8192 * a.die + idx
    Yields (.timMessageSend a idx) s (State.offerFrame
      { b with tim := { b.tim with strandDue := Table.put b.tim.strandDue i (b.now + us 62500) } } i b.timMessage) :=
  h.yields (decide_eq_true hidx) (exec_timMessageSend a idx s) (by
    simp only [he]
    exact if_pos ⟨hkind, hin, hst, fallen_iff.mpr hdue⟩)

theorem yields_timMessageReceive {msg : List Byte} (hout : e.outType = 3) (hlen : msg.length = 32) (hver : byteAt msg 0 = 1)
    (hts : tsOk (numAt msg 4 8) = true) (hend : 8192 * a.die + idx = (s.begun a 32).get 0 F.TIM_PARENT_STRAND_TIM_PARENT)
    (hen : (s.begun a 32).flag 0 F.TIM_CFG_TIM_PARENT_EN = true) (hparent : (s.begun a 32).tim.parent = some 200) :
    let v := (s.begun a 32).hearTim msg
    Yields (.timMessageReceive a idx msg) s
      ((v.follow (v.tlink 200)).servo ((qOf (numAt msg 4 8) 0 + numAt msg 12 4 : Nat) - (q16 v.now : Int))) :=
  h.yields (decide_eq_true hidx) (exec_timMessageReceive a idx msg s) (by
    have htaken : ¬(e.kind ≠ 5 ∨ e.outType ≠ 3 ∨ msg.length ≠ 32 ∨ byteAt msg 0 ≠ 1 ∨ tsOk (numAt msg 4 8) = false) := by
      simp [hkind, hout, hlen, hver, hts]
    have hours : ¬(8192 * a.die + idx ≠ (s.begun a 32).get 0 F.TIM_PARENT_STRAND_TIM_PARENT ∨
        (s.begun a 32).flag 0 F.TIM_CFG_TIM_PARENT_EN = false) := by simp [← hend, hen]
    simp only [he]
    rw [if_neg htaken, if_neg hours]
    simp only [State.modLink, hparent, Option.isNone_some, Bool.false_eq_true, false_and, if_false, if_true, State.hearTim])

end

/-- Settles O14: each message is sent when it is due, and each that is taken steers the hub where it comes from the parent. -/
theorem timeMessagesAreSentAndTaken : Obligations.TimeMessagesAreSentAndTaken := by
  refine ⟨fun a k s h hk => ?tick, fun a k blk s p h hk hp => ?taken, fun a port side s hd hport hside => ?frames,
    fun a l s hd => ?parent, fun a q v s h => ?set, fun a idx e s h hidx => ?strand⟩
  case tick =>
    intro b d hply hdue
    exact ⟨yields_tickSend_exchange h hk hply hdue, yields_tickSend_active h hk hply hdue⟩
  case taken =>
    intro d l hst hfit hok b w x corr u r v
    have ⟨hnone, hsome⟩ := yields_tickReceive h hk hp hst hfit hok (v := v) (sample := r.2) rfl
    exact ⟨hnone, fun offset i j hsample => hsome offset i j hsample rfl⟩
  case frames =>
    intro b l hruns hup hring
    refine ⟨yields_timeFrameSend hd hport hside hruns hup hring, fun blk => yields_timeFrameReceive_bad hd hport hside hruns hup hring,
      fun blk hcheck hok hone => ?_⟩
    intro u r v offset i j hparent hgm hsample
    subst hone
    exact yields_timeFrameReceive_parent hd hport hruns hup hring hcheck hok rfl hparent hgm hsample
  case parent =>
    intro b hruns
    exact ⟨yields_parentSilent_parent hd hruns, yields_parentSilent_none hd hruns, yields_holdoverExpire hd hruns⟩
  case set => exact h.yields rfl (exec_timSet a q v s) rfl
  case strand =>
    intro b i he hkind
    exact ⟨yields_timMessageSend h hidx he hkind, fun msg => yields_timMessageReceive h hidx he hkind⟩

end Sys2Proof.Machine
end

section
/-! IRIG-B frames, the PPS input and the PPS output (09 R262 to R265): O15. -/

namespace Sys2Proof.Machine

/-! The commands as their meanings. -/

theorem exec_irigFrame (a : At) (fmt : Nat) (ok : Bool) (bcd ctl : List Nat) (ago : Nat) (s : State) :
    exec (.irigFrame a fmt ok bcd ctl ago) s = execIrigFrame a fmt ok bcd ctl ago s := rfl

theorem exec_irigLoss (a : At) (s : State) : exec (.irigLoss a) s = execIrigLoss a s := rfl

theorem exec_irigFormatHoldEnd (a : At) (s : State) : exec (.irigFormatHoldEnd a) s = execIrigFormatHoldEnd a s := rfl

theorem exec_ppsInEdge (a : At) (s : State) : exec (.ppsInEdge a) s = execPpsInEdge a s := rfl

theorem exec_ppsOutPulse (a : At) (high : Bool) (s : State) : exec (.ppsOutPulse a high) s = execPpsOutPulse a high s := rfl

/-! IRIG-B (09 R262, R263). -/

/-- A frame of a format is noted and shown in SEEN. -/
def State.seeIrig (s : State) (fmt : Nat) : State :=
  State.set { s with tim := { s.tim with irigAt := s.now } } 0 F.TIM_IRIG_STATUS_SEEN fmt

/-- The second that a frame of a format with a year and without IEEE 1344 tells, in UTC. -/
def irigUtc (bcd : List Nat) : Nat :=
  (daysTo (2000 + bcd.getD 4 0) + bcd.getD 3 0 - 1) * 86400 + bcd.getD 2 0 * 3600 + bcd.getD 1 0 * 60 + bcd.getD 0 0

/-- The fields of such a frame are within their ranges. -/
structure IrigInRange (bcd : List Nat) : Prop where
  length : bcd.length = 5
  second : bcd.getD 0 0 ≤ 60
  minute : bcd.getD 1 0 ≤ 59
  hour : bcd.getD 2 0 ≤ 23
  dayLow : 1 ≤ bcd.getD 3 0
  dayHigh : bcd.getD 3 0 ≤ 365
  year : bcd.getD 4 0 ≤ 99

section
variable {a : At} {fmt : Nat} {ok : Bool} {bcd ctl : List Nat} {ago : Nat} {s : State} (hd : a.die < s.part.dies)
  (hruns : (elapse a s).runs 0 32 = true) (hfmt : fmt < 8)
include hd hruns hfmt

theorem yields_irigFrame_invalid
    (hbad : ok = false ∨ ((elapse a s).get 0 F.TIM_IRIG_CFG_FORMAT ≠ 8 ∧ (elapse a s).get 0 F.TIM_IRIG_CFG_FORMAT ≠ fmt)) :
    Yields (.irigFrame a fmt ok bcd ctl ago) s ((elapse a s).seeIrig fmt).irigInvalid :=
  yields_onUnit hd (decide_eq_true hfmt) (exec_irigFrame a fmt ok bcd ctl ago s) (by
    rw [hruns, Bool.not_true, if_neg Bool.false_ne_true]
    refine if_pos ?_
    rcases hbad with hbad | ⟨hany, hone⟩
    · simp [hbad]
    · simp [hany, hone])

theorem yields_irigFrame_changed
    (hwant : (elapse a s).get 0 F.TIM_IRIG_CFG_FORMAT = 8 ∨ (elapse a s).get 0 F.TIM_IRIG_CFG_FORMAT = fmt)
    (hplain : (elapse a s).flag 0 F.TIM_IRIG_CFG_IEEE1344 = false) (hyear : 4 ≤ fmt) (hrange : IrigInRange bcd)
    (hseen : (elapse a s).get 0 F.TIM_IRIG_STATUS_SEEN ≠ 15) (hnew : (elapse a s).get 0 F.TIM_IRIG_STATUS_SEEN ≠ fmt) :
    let v := (elapse a s).seeIrig fmt
    let w : State := { v with tim := { v.tim with irigRun := 1, irigSec := irigUtc bcd, irigBad := 0, irigHold := v.now + ms 200 } }
    (w.irigState 3).get 0 F.TIM_IRIG_STATUS_STATE ≠ 2 → Yields (.irigFrame a fmt true bcd ctl ago) s (w.irigState 3) := by
  intro v w hst
  obtain ⟨hlen, hsecond, hminute, hhour, hlow, hhigh, hyears⟩ := hrange
  refine yields_onUnit hd (decide_eq_true hfmt) (exec_irigFrame a fmt true bcd ctl ago s) ?_
  have hday : bcd.getD 3 0 ≤ if isLeap (2000 + bcd.getD 4 0) = true then 366 else 365 := by split <;> omega
  have hformat : ((elapse a s).get 0 F.TIM_IRIG_CFG_FORMAT == 8 || (elapse a s).get 0 F.TIM_IRIG_CFG_FORMAT == fmt) = true := by
    simpa using hwant
  have hchanged : ((elapse a s).get 0 F.TIM_IRIG_STATUS_SEEN != 15 && (elapse a s).get 0 F.TIM_IRIG_STATUS_SEEN != fmt) = true := by
    simp [hseen, hnew]
  simp only [hruns, hplain, hyear, hformat, hsecond, hminute, hhour, hlow, hday, hyears, hlen, hchanged, decide_true, Bool.not_true,
    Bool.false_and, Bool.false_or, Bool.true_and, Bool.and_true, Bool.and_self, Bool.not_false, Bool.false_eq_true, if_false, if_true]
  exact if_neg hst

end

/-! The loss of IRIG, and the end of a format's hold (09 R262, R263). -/

section
variable {a : At} {s : State} (hd : a.die < s.part.dies) (hruns : (elapse a s).runs 0 32 = true)
include hd hruns

theorem yields_irigLoss (hst : (elapse a s).get 0 F.TIM_IRIG_STATUS_STATE ≠ 0)
    (hend : (elapse a s).tim.irigAt + ms 1500 ≤ (elapse a s).now) :
    let b := elapse a s
    Yields (.irigLoss a) s ((State.irigState { b with tim := { b.tim with irigRun := 0, irigBad := 0 } } 0).set 0
      F.TIM_IRIG_STATUS_SEEN 15) :=
  yields_onUnit hd rfl (exec_irigLoss a s) (if_pos (by rw [hruns, bne_iff_ne.mpr hst, fallen_iff.mpr hend]; rfl))

theorem yields_irigFormatHoldEnd (hst : (elapse a s).get 0 F.TIM_IRIG_STATUS_STATE = 3)
    (hend : (elapse a s).tim.irigHold ≤ (elapse a s).now) :
    Yields (.irigFormatHoldEnd a) s ((elapse a s).irigState (if (elapse a s).tim.irigRun = 3 then 2 else 1)) :=
  yields_onUnit hd rfl (exec_irigFormatHoldEnd a s) (if_pos (by rw [hruns, hst, fallen_iff.mpr hend]; rfl))

end

/-! The PPS input and output (09 R264, R265). -/

/-- The time of an edge at the PPS input, before its filter. -/
def State.ppsEdge (s : State) : Nat := s.now - deglitchPs (s.get 0 F.PIN_DEGLITCH_PPS_IN)

/-- How far an edge is off the nearest second. -/
def State.ppsError (s : State) : Int :=
  (s.ppsEdge : Int) - ((s.ppsEdge + 1000000000000 / 2) / 1000000000000 * 1000000000000 : Nat)

/-- The number of the second that the PPS output shows. -/
def State.ppsSecond (s : State) : Nat :=
  (((s.now : Int) - 1000 * signed 20 (s.get 0 F.TIM_PPS_CFG_OFFSET_NS)) / 1000000000000).toNat

section
variable {a : At} {s : State} (hd : a.die < s.part.dies) (hruns : (elapse a s).runs 0 32 = true)
include hd hruns

theorem yields_ppsInEdge_off (hvalid : (elapse a s).flag 0 F.TIM_PPS_STATUS_IN_VALID = true)
    (hfar : us 10 < (elapse a s).ppsError.natAbs) :
    Yields (.ppsInEdge a) s (((elapse a s).bump 0 F.TIM_PPS_STATUS_OUT_OF_WINDOW).raise 0 32 0x607 2
      [(4, unsigned 32 ((elapse a s).ppsError / 1000))]) :=
  yields_onUnit hd rfl (exec_ppsInEdge a s) (by
    rw [hruns, Bool.not_true, if_neg Bool.false_ne_true]
    exact if_pos (by rw [hvalid, Bool.true_and]; exact decide_eq_true hfar))

theorem yields_ppsInEdge_first (hvalid : (elapse a s).flag 0 F.TIM_PPS_STATUS_IN_VALID = false) (hnone : (elapse a s).tim.ppsAt = none) :
    let b := elapse a s
    Yields (.ppsInEdge a) s { b with tim := { b.tim with ppsAt := some b.ppsEdge } } :=
  yields_onUnit hd rfl (exec_ppsInEdge a s) (by
    rw [hruns, Bool.not_true, if_neg Bool.false_ne_true]
    simp only [hvalid, hnone, Bool.false_and, Bool.false_eq_true, if_false]
    exact if_neg fun hboth => ne_true_of_eq_false hvalid (Bool.and_eq_true_iff.mp hboth).1)

theorem yields_ppsOutPulse_rise (hen : (elapse a s).flag 0 F.TIM_PPS_CFG_OUT_EN = true) (htrace : (elapse a s).clock.traceable = true)
    (hlow : (elapse a s).tim.ppsHigh = false) (hnew : (elapse a s).tim.ppsNo ≠ some (elapse a s).ppsSecond) :
    let b := elapse a s
    Yields (.ppsOutPulse a true) s
      (State.emit { b with tim := { b.tim with ppsHigh := true, ppsNo := some b.ppsSecond, ppsRose := b.now } } (.ppsOut true)) :=
  yields_onUnit hd rfl (exec_ppsOutPulse a true s) (by
    rw [hruns, Bool.not_true, if_neg Bool.false_ne_true, if_pos rfl]
    exact if_pos (by rw [hen, htrace, hlow]; exact bne_iff_ne.mpr hnew))

theorem yields_ppsOutPulse_fall (hhigh : (elapse a s).tim.ppsHigh = true)
    (hend : (elapse a s).tim.ppsRose + ms ((elapse a s).get 0 F.TIM_PPS_CFG_WIDTH_MS) ≤ (elapse a s).now) :
    let b := elapse a s
    Yields (.ppsOutPulse a false) s (State.emit { b with tim := { b.tim with ppsHigh := false } } (.ppsOut false)) :=
  yields_onUnit hd rfl (exec_ppsOutPulse a false s) (by
    rw [hruns, Bool.not_true, if_neg Bool.false_ne_true, if_neg Bool.false_ne_true]
    exact if_pos (by rw [hhigh, fallen_iff.mpr hend]; rfl))

end

/-- Settles O15: a frame is valid or not, a wait has ended, an edge is off the second or the first, and a pulse is due. -/
theorem irigAndPpsAreTakenAndGiven : Obligations.IrigAndPpsAreTakenAndGiven := by
  intro a s hd b hruns
  refine ⟨fun fmt ok bcd ctl ago hfmt => ⟨yields_irigFrame_invalid hd hruns hfmt, ?changed⟩, yields_irigLoss hd hruns,
    yields_irigFormatHoldEnd hd hruns, ⟨yields_ppsInEdge_off hd hruns, yields_ppsInEdge_first hd hruns⟩,
    ⟨yields_ppsOutPulse_rise hd hruns, yields_ppsOutPulse_fall hd hruns⟩⟩
  case changed =>
    intro hok hwant hplain hyear hlen hsecond hminute hhour hlow hhigh hyears hseen hnew
    subst hok
    exact yields_irigFrame_changed hd hruns hfmt hwant hplain hyear ⟨hlen, hsecond, hminute, hhour, hlow, hhigh, hyears⟩ hseen hnew

end Sys2Proof.Machine
end

section
/-! The sides of the Shoreline, enumeration, waits at a barrier, and Spillways (09 R248 to R252, R269): O16. -/

namespace Sys2Proof.Machine

/-! The commands as their meanings. -/

theorem exec_shlSideUp (a : At) (port side : Nat) (s : State) : exec (.shlSideUp a port side) s = execShlSideUp a port side s := rfl

theorem exec_shlSideDown (a : At) (port side : Nat) (s : State) :
    exec (.shlSideDown a port side) s = execShlSideDown a port side s := rfl

theorem exec_enumStart (a : At) (port : Nat) (s : State) : exec (.enumStart a port) s = execEnumStart a port s := rfl

theorem exec_enumFrameReceive (a : At) (port side : Nat) (blk : List Byte) (s : State) :
    exec (.enumFrameReceive a port side blk) s = execEnumFrameReceive a port side blk s := rfl

theorem exec_enumReturnTimeout (a : At) (port : Nat) (s : State) :
    exec (.enumReturnTimeout a port) s = execEnumReturnTimeout a port s := rfl

theorem exec_originTakeover (a : At) (s : State) : exec (.originTakeover a) s = execOriginTakeover a s := rfl

theorem exec_barrierDeadline (a : At) (s : State) : exec (.barrierDeadline a) s = execBarrierDeadline a s := rfl

theorem exec_arriveHoldExpire (a : At) (opId : Nat) (s : State) :
    exec (.arriveHoldExpire a opId) s = execArriveHoldExpire a opId s := rfl

theorem exec_spillwayOpen (a : At) (kind port : Nat) (s : State) :
    exec (.spillwayOpen a kind port) s = execSpillwayOpen a kind port s := rfl

theorem exec_spillForce (a : At) (q : Req) (v : Word) (s : State) : exec (.spillForce a q v) s = execSpillForce a q v s := rfl

/-! A side of a port that is on (09 R248). -/

section
variable {s : State} {p side : Nat}

/-- A side's new state is shown, and event 0x609 tells it. -/
def State.showSide (s : State) (p side : Nat) (up : Bool) : State :=
  (s.set p (if side = 0 then F.SHL_PORT_STATUS_IN_UP else F.SHL_PORT_STATUS_OUT_UP) (b2n up)).raise 0 33 0x609 1
    [(1, p), (1, side), (1, b2n up)]

theorem State.sideChange_up (h : s.sideUp p side = false) : s.sideChange p side true =
    ((s.showSide p side true).modLink (shlLink p side) fun _ => { due := (s.showSide p side true).now }).wantEnum p := by
  rw [State.sideChange, h, if_neg Bool.false_ne_true]
  rfl

theorem State.sideChange_down (h : s.sideUp p side = true) :
    s.sideChange p side false = ((s.showSide p side false).linkLost (shlLink p side)).wantEnum p := by
  rw [State.sideChange, h, if_neg (Ne.symm Bool.false_ne_true)]
  rfl

end

section
variable {a : At} {port side : Nat} {s : State} (hd : a.die < s.part.dies) (hport : port < 2) (hside : side < 2)
  (hruns : (elapse a s).runs port 33 = true) (hon : (elapse a s).portOn port = true)
include hd hport hruns hon

section
include hside

theorem yields_shlSideUp (hdown : (elapse a s).sideUp port side = false) :
    let u := (elapse a s).showSide port side true
    Yields (.shlSideUp a port side) s ((u.modLink (shlLink port side) fun _ => { due := u.now }).wantEnum port) :=
  yields_onPort hd hport (decide_eq_true hside) hruns (exec_shlSideUp a port side s) ((if_pos hon).trans (State.sideChange_up hdown))

theorem yields_shlSideDown (hup : (elapse a s).sideUp port side = true) : Yields (.shlSideDown a port side) s
    ((((elapse a s).showSide port side false).linkLost (shlLink port side)).wantEnum port) :=
  yields_onPort hd hport (decide_eq_true hside) hruns (exec_shlSideDown a port side s)
    ((if_pos hon).trans (State.sideChange_down hup))

end

/-! Enumeration (09 R249, R250). -/

/-- The origin begins an enumeration: it takes the next number, the next one is due in 100 ms, and its return within 1 ms. -/
def State.newEnum (s : State) (port : Nat) : State :=
  let u := s.enumEndsBarrier port
  u.modPort port fun x => { x with
    seq := ((u.port port).seq + 1) % 65536, due := u.now + ms 100, wait := some (u.now + ms 1), chained := false, down := [] }

theorem yields_enumStart (horigin : (elapse a s).isOrigin port = true) (hfree : (elapse a s).conflict = false)
    (hdue : ((elapse a s).port port).due ≤ (elapse a s).now) :
    let v := (elapse a s).newEnum port
    Yields (.enumStart a port) s (v.shlSend port 1 (enumFrame 0 (v.get 0 F.SHL_ID_BASIN_ID) v.hubAddr
      (((((elapse a s).enumEndsBarrier port).port port).seq + 1) % 65536) [v.ownEntry port] [])) :=
  yields_onPort hd hport rfl hruns (exec_enumStart a port s) (if_pos (by rw [hon, horigin, hfree, fallen_iff.mpr hdue]; rfl))

section
variable (hup : (elapse a s).sideUp port side = true) (hring : (elapse a s).onRing port = true)
include hside hup hring

theorem yields_enumFrameReceive_bad {blk : List Byte} (hbad : enumOk blk = false) :
    Yields (.enumFrameReceive a port side blk) s ((elapse a s).bump port F.SHL_FRAME_ERR_COUNT) :=
  yields_onPort hd hport (decide_eq_true hside) hruns (exec_enumFrameReceive a port side blk s) (by
    simp only [hon, hup, hring, hbad, Bool.and_self, Bool.not_true, Bool.not_false, Bool.false_eq_true, if_false, if_true])

/-- A frame that spreads wakes every hub up to the origin, or tells the ring's members what the origin has learnt. -/
theorem yields_enumFrameReceive_onward {blk : List Byte} (hok : enumOk blk = true) (hother : (elapse a s).isOrigin port = false)
    (hlow : (elapse a s).hubAddr ≤ numAt blk 4 2 % 4096) :
    (bit (byteAt blk 1) 3 = true →
      Yields (.enumFrameReceive a port side blk) s ((elapse a s).shlSend port (1 - side) blk)) ∧
    (bit (byteAt blk 1) 3 = false → bit (byteAt blk 1) 0 = true →
      let b := elapse a s
      let u := if (b.port port).doneSeq = some (numAt blk 6 2) then b
        else (b.learnRing port (enumEntries blk) (bit (byteAt blk 1) 1) (numAt blk 2 2) (numAt blk 4 2 % 4096) (numAt blk 6 2)).takeHistory
          (enumHistory blk)
      Yields (.enumFrameReceive a port side blk) s (u.shlSend port (1 - side) blk)) := by
  have hkeep : ¬(port = 0 ∧ numAt blk 4 2 % 4096 < (elapse a s).hubAddr) := fun ⟨_, hlt⟩ => Nat.not_le.mpr hlt hlow
  refine ⟨fun hask => ?_, fun htell hspread => ?_⟩
  · refine yields_onPort hd hport (decide_eq_true hside) hruns (exec_enumFrameReceive a port side blk s) ?_
    simp only [hon, hup, hring, hok, hkeep, hother, hask, Bool.and_self, Bool.not_true, Bool.false_eq_true, if_false, if_true]
  · refine yields_onPort hd hport (decide_eq_true hside) hruns (exec_enumFrameReceive a port side blk s) ?_
    simp only [hon, hup, hring, hok, hkeep, hother, htell, hspread, Bool.and_self, Bool.and_false, Bool.not_true, Bool.false_eq_true,
      if_false, if_true]

end

/-- A Spillway of the Shoreline opens (09 R252). -/
theorem yields_spillwayOpen_shoreline (hnormal : (elapse a s).pkg.recovery = false) (hawake : (elapse a s).pwrStep = 0)
    (hfree : (elapse a s).flag port F.SHL_PORT_STATUS_SPILL_FORCE = false) (hclosed : ((elapse a s).port port).open_ = false) :
    let u := ((elapse a s).modPort port fun x => { x with open_ := true }).emit (.spillCtl port true)
    Yields (.spillwayOpen a 0 port) s ((u.raise 0 33 0x615 1 [(1, 0), (1, port), (1, 0), (1, 0)]).wantEnum port) :=
  yields_onUnit hd (by simp [hport]) (exec_spillwayOpen a 0 port s) (by
    simp [hnormal, hawake, hruns, hon, hfree, hclosed])

end

theorem yields_enumReturnTimeout {a : At} {port t : Nat} {s : State} (hd : a.die < s.part.dies) (hport : port < 2)
    (hruns : (elapse a s).runs port 33 = true) (hwait : ((elapse a s).port port).wait = some t) (hend : t ≤ (elapse a s).now) :
    let u := (elapse a s).modPort port fun x => { x with wait := none, chained := true }
    Yields (.enumReturnTimeout a port) s (if u.sideUp port 0 = true then
      u.shlSend port 0 (enumFrame 4 (u.get 0 F.SHL_ID_BASIN_ID) u.hubAddr (u.port port).seq [u.ownEntry port] [])
      else u.enumDone port (u.ownEntry port :: (u.port port).down) true) :=
  yields_onPort hd hport rfl hruns (exec_enumReturnTimeout a port s) (by
    simp only [hwait, fallen_iff.mpr hend, if_true])

/-! What waits on port A: a barrier, the ARRIVEs held, the origin's place (09 R250, R269). -/

section
variable {a : At} {s : State} (hd : a.die < s.part.dies) (hruns : (elapse a s).runs 0 33 = true)
include hd hruns

theorem yields_barrierDeadline {x : Barrier} (hx : (elapse a s).shl.barrier = some x) (horigin : (elapse a s).isOrigin 0 = true)
    (hend : x.deadline ≤ (elapse a s).now) :
    let b := elapse a s
    Yields (.barrierDeadline a) s (State.release { b with shl := { b.shl with barrier := none } } x.opId 0 1) :=
  yields_onPort hd (by decide) rfl hruns (exec_barrierDeadline a s) (by
    simp only [hx]
    exact if_pos ⟨horigin, fallen_iff.mpr hend⟩)

theorem yields_arriveHoldExpire (opId : Nat) :
    let b := elapse a s
    Yields (.arriveHoldExpire a opId) s
      { b with shl := { b.shl with held := b.shl.held.filter fun h => !(h.1 == opId && decide (h.2 ≤ b.now)) } } :=
  yields_onPort hd (by decide) rfl hruns (exec_arriveHoldExpire a opId s) rfl

theorem yields_originTakeover (hlow : (elapse a s).hubAddr % 64 = 0) (hother : (elapse a s).isOrigin 0 = false)
    (hfree : (elapse a s).conflict = false) (hend : (elapse a s).shl.lowAt + ms 300 ≤ (elapse a s).now) :
    let b := elapse a s
    Yields (.originTakeover a) s { b with shl := { b.shl with origin := true, a := { b.shl.a with due := b.now } } } :=
  yields_onPort hd (by decide) rfl hruns (exec_originTakeover a s)
    (if_pos ⟨hlow, by rw [hother]; rfl, by rw [hfree]; rfl, fallen_iff.mpr hend⟩)

end

/-- The Spillway between the Shoreline and Ethernet opens (09 R252). -/
theorem yields_spillwayOpen_ethernet {a : At} {port : Nat} {s : State} (hd : a.die < s.part.dies) (hport : port < 2)
    (hnormal : (elapse a s).pkg.recovery = false) (hawake : (elapse a s).pwrStep = 0) (hmac0 : (elapse a s).runs 0 21 = true)
    (hmac1 : (elapse a s).runs 0 22 = true) (hruns : (elapse a s).runs 0 33 = true) (hclosed : (elapse a s).shl.ethOpen = false) :
    let b := elapse a s
    Yields (.spillwayOpen a 1 port) s (State.raise { b with shl := { b.shl with ethOpen := true } } 0 33 0x615 1
      [(1, 1), (1, 0), (1, 0), (1, 0)]) :=
  yields_onUnit hd (by simp [hport]) (exec_spillwayOpen a 1 port s) (by
    simp only [hnormal, hawake, hmac0, hmac1, hruns, hclosed, bne_self_eq_false, Bool.or_self, Bool.false_eq_true, if_false, if_true,
      Bool.not_false, Bool.and_self])

/-- A write of SPILL_FORCE on a die that has a port (09 R252). -/
theorem State.writePortStatus_eq {s : State} {d : Nat} {v : Word} (hd : d < 2) :
    let u := s.set d F.SHL_PORT_STATUS_SPILL_FORCE (wordGet v 29 29)
    s.writePortStatus d v = if wordGet v 29 29 = 1 then u.spillClose d 6 else u := if_neg (Nat.not_le.mpr hd)

/-- Settles O16: each command meets its guard on a port whose island runs. -/
theorem shorelineEnumeratesAndOpensSpillways : Obligations.ShorelineEnumeratesAndOpensSpillways := by
  refine ⟨fun a port side s hd hport hside => ?side, fun a port t s hd hport => yields_enumReturnTimeout hd hport, fun a s hd => ?waits,
    fun a q v s h hd => h.yields rfl (exec_spillForce a q v s) (State.writePortStatus_eq hd)⟩
  case side =>
    intro b hruns hon
    refine ⟨yields_shlSideUp hd hport hside hruns hon, yields_shlSideDown hd hport hside hruns hon, yields_enumStart hd hport hruns hon,
      fun hup hring => ⟨fun blk => yields_enumFrameReceive_bad hd hport hside hruns hon hup hring, fun blk hok hother hlow => ?_,
        fun blk hok hother hlow => ?_⟩, yields_spillwayOpen_shoreline hd hport hruns hon⟩
    · exact (yields_enumFrameReceive_onward hd hport hside hruns hon hup hring hok hother hlow).1
    · exact (yields_enumFrameReceive_onward hd hport hside hruns hon hup hring hok hother hlow).2
  case waits =>
    intro b
    refine ⟨fun hruns => ⟨fun x => yields_barrierDeadline hd hruns, yields_arriveHoldExpire hd hruns, yields_originTakeover hd hruns⟩,
      fun port hport hnormal hawake hmac0 hmac1 hruns => yields_spillwayOpen_ethernet hd hport hnormal hawake hmac0 hmac1 hruns⟩

end Sys2Proof.Machine
end

section
/-! Ripples, the commands of SHL_CMD, SNAP_ACK and scheduled operations (09 R248, R266 to R270): O17. -/

namespace Sys2Proof.Machine

/-! The commands as their meanings. -/

theorem exec_rippleReceive (a : At) (port side : Nat) (m : List Byte) (s : State) :
    exec (.rippleReceive a port side m) s = execRippleReceive a port side m s := rfl

theorem exec_shlBroadcast (a : At) (q : Req) (v : Word) (s : State) : exec (.shlBroadcast a q v) s = execShlBroadcast a q v s := rfl

theorem exec_barrierOpen (a : At) (q : Req) (v : Word) (s : State) : exec (.barrierOpen a q v) s = execBarrierOpen a q v s := rfl

theorem exec_barrierArrive (a : At) (q : Req) (v : Word) (s : State) :
    exec (.barrierArrive a q v) s = execBarrierArrive a q v s := rfl

theorem exec_shlSnapshot (a : At) (q : Req) (v : Word) (s : State) : exec (.shlSnapshot a q v) s = execShlSnapshot a q v s := rfl

theorem exec_shlReset (a : At) (q : Req) (v : Word) (s : State) : exec (.shlReset a q v) s = execShlReset a q v s := rfl

theorem exec_snapAck (a : At) (q : Req) (v : Word) (s : State) : exec (.snapAck a q v) s = execSnapAck a q v s := rfl

theorem exec_scheduledOpFire (a : At) (s : State) : exec (.scheduledOpFire a) s = execScheduledOpFire a s := rfl

/-! A Ripple on a side of the ring that is up (09 R266, R267). -/

section
variable {a : At} {port side : Nat} {m : List Byte} {s : State} (hd : a.die < s.part.dies) (hport : port < 2) (hside : side < 2)
  (hruns : (elapse a s).runs port 33 = true) (hon : (elapse a s).portOn port = true) (hup : (elapse a s).sideUp port side = true)
  (hring : (elapse a s).onRing port = true)
include hd hport hside hruns hon hup hring

theorem yields_rippleReceive_bad (hbad : m.length ≠ 16 ∨ numAt m 14 2 ≠ crc16 (m.take 14)) :
    let u := (elapse a s).bump port F.SHL_FRAME_ERR_COUNT
    Yields (.rippleReceive a port side m) s
      (if 1 < byteAt m 1 ∧ u.sideUp port (1 - side) = true then u.emit (.shoreline port (1 - side) m true) else u) :=
  yields_onPort hd hport (decide_eq_true hside) hruns (exec_rippleReceive a port side m s) (by
    simp only [hon, hup, hring, hbad, Bool.and_self, Bool.not_true, Bool.false_eq_true, if_false, if_true])

section
variable (hlen : m.length = 16) (hcrc : numAt m 14 2 = crc16 (m.take 14))
include hlen hcrc

theorem yields_rippleReceive_unknown (hop : byteAt m 0 / 16 = 0 ∨ 7 ≤ byteAt m 0 / 16) : Yields (.rippleReceive a port side m) s
    (((elapse a s).bump 0 F.SHL_RIPPLE_ERR_COUNT).raiseLimited 0 0x614 port (ms 1000) fun _ s =>
      s.raise 0 33 0x614 2 [(1, port), (1, byteAt m 0 / 16)]) :=
  yields_onPort hd hport (decide_eq_true hside) hruns (exec_rippleReceive a port side m s) (by
    simp only [hon, hup, hring, hlen, hcrc, hop, ne_eq, not_true_eq_false, or_self, Bool.and_self, Bool.not_true, Bool.false_eq_true,
      if_false, if_true])

theorem yields_rippleReceive_local (hlow : 1 ≤ byteAt m 0 / 16) (hhigh : byteAt m 0 / 16 < 7) (hlocal : bit (byteAt m 0) 0 = false) :
    let b := elapse a s
    let op := byteAt m 0 / 16
    let failed := bit (byteAt m 0) 1
    let origin := numAt m 2 2 % 4096
    let opId := numAt m 4 2
    let arg := (m.drop 6).take 8
    let u := if 1 < byteAt m 1 ∧ op ≠ 3 then
      b.shlSend port (1 - side) (rippleBytes op false failed (byteAt m 1 - 1) origin opId arg) else b
    Yields (.rippleReceive a port side m) s (u.actOn a port side op false failed origin opId arg) :=
  yields_onPort hd hport (decide_eq_true hside) hruns (exec_rippleReceive a port side m s) (by
    have hknown : ¬(byteAt m 0 / 16 = 0 ∨ 7 ≤ byteAt m 0 / 16) := by omega
    simp only [hon, hup, hring, hlen, hcrc, hknown, hlocal, ne_eq, not_true_eq_false, or_self, Bool.and_self, Bool.not_true,
      Bool.false_eq_true, false_and, if_false])

end

end

/-! What a write of SHL_CMD on die 0 does (09 R268 to R270). -/

section
variable {s : State} {v : Word}

theorem State.writeShlCmd_broadcast (hop : wordGet v 31 28 = 1) : s.writeShlCmd 0 v = if s.conflict = true then s.shlDone 3 else
    ((s.ripple 1 (wordGet v 27 27 == 1) false (wordGet v 15 0) (leBytes 8 s.cmdArg)).raise 0 33 0x60C 0
      [(2, s.hubAddr), (2, wordGet v 15 0), (8, s.cmdArg)]).shlDone 0 := by
  simp only [State.writeShlCmd, ne_eq, not_true_eq_false, if_false, hop]

theorem State.writeShlCmd_open (hop : wordGet v 31 28 = 2) : s.writeShlCmd 0 v = if s.conflict = true then s.shlDone 3 else
    ((s.ripple 2 true false (wordGet v 15 0) (leBytes 8 (s.tsAt (s.now + us (s.cmdArg % 2 ^ 32))))).openBarrier (wordGet v 15 0)
      (s.now + us (s.cmdArg % 2 ^ 32))).shlDone 0 := by
  simp only [State.writeShlCmd, ne_eq, not_true_eq_false, if_false, hop]

/-- An ARRIVE is held for 1 s (09 R269). -/
def State.holdArrive (s : State) (opId : Nat) : State :=
  { s with shl := { s.shl with held := s.shl.held ++ [(opId, s.now + ms 1000)] } }

/-- An ARRIVE of a participant joins the barrier of its OP_ID, or is held. -/
def State.arrive (s : State) (opId : Nat) : State :=
  match s.shl.barrier with
  | some x => if x.opId = opId then State.barrierStep { s with shl := { s.shl with barrier := some { x with arrived := true } } } false
    else s.holdArrive opId
  | none => s.holdArrive opId

theorem State.writeShlCmd_arrive (hop : wordGet v 31 28 = 3) : s.writeShlCmd 0 v = if s.conflict = true then s.shlDone 3 else
    if s.flag 0 F.SHL_CFG_BARRIER_PART = false then s.shlDone 4 else (s.arrive (wordGet v 15 0)).shlDone 0 := by
  simp only [State.writeShlCmd, ne_eq, not_true_eq_false, if_false, hop, Bool.not_eq_true']
  rfl

theorem State.writeShlCmd_schedule (hop : wordGet v 31 28 = 4 ∨ wordGet v 31 28 = 5) :
    s.writeShlCmd 0 v = s.schedule (wordGet v 31 28 + 1) (wordGet v 27 27 == 1) (wordGet v 15 0) := by
  rcases hop with hop | hop <;> simp only [State.writeShlCmd, ne_eq, not_true_eq_false, if_false, hop]

end

section
variable {a : At} {q : Req} {v : Word} {s u : State} (h : s.Admits a q 0x1B0020) (hd : a.die = 0)
include h hd

/-- An admitted write of SHL_CMD on die 0 under one of its commands. -/
theorem yields_writeShlCmd {i : Instr} {op : Nat} (hi : exec i s = onWrite a q 0x1B0020 v (wordGet v 31 28 == op) s fun b =>
      b.writeShlCmd a.die v) (hop : wordGet v 31 28 = op) (hu : (s.admitted a q 0x1B0020).writeShlCmd 0 v = u) : Yields i s u :=
  h.yields (beq_iff_eq.mpr hop) hi (by rw [hd, hu])

theorem yields_barrierArrive (hop : wordGet v 31 28 = 3) :
    let b := s.admitted a q 0x1B0020
    (b.conflict = true → Yields (.barrierArrive a q v) s (b.shlDone 3)) ∧
    (b.conflict = false → b.flag 0 F.SHL_CFG_BARRIER_PART = false → Yields (.barrierArrive a q v) s (b.shlDone 4)) ∧
    (b.conflict = false → b.flag 0 F.SHL_CFG_BARRIER_PART = true →
      Yields (.barrierArrive a q v) s ((b.arrive (wordGet v 15 0)).shlDone 0)) := by
  refine ⟨fun hconflict => ?_, fun hfree hno => ?_, fun hfree hpart => ?_⟩
  all_goals refine yields_writeShlCmd h hd (exec_barrierArrive a q v s) hop ((State.writeShlCmd_arrive hop).trans ?_)
  · rw [if_pos hconflict]
  · rw [if_neg (ne_true_of_eq_false hfree), if_pos hno]
  · rw [if_neg (ne_true_of_eq_false hfree), if_neg (by rw [hpart]; decide)]

end

theorem yields_snapAck {a : At} {q : Req} {v : Word} {s : State} (h : s.Admits a q 0x1B0040) (hd : a.die = 0)
    (hack : wordGet v 29 29 = 1) :
    Yields (.snapAck a q v) s (((s.admitted a q 0x1B0040).set 0 F.SHL_SNAP_CTL_VALID 0).set 0 F.SHL_SNAP_CTL_OVERWRITE 0) :=
  h.yields rfl (exec_snapAck a q v s) (by rw [State.writeSnapCtl, if_pos ⟨hd, hack⟩, hd])

/-! A scheduled operation that is due (09 R270). -/

section
variable {a : At} {x : SchedOp} {s : State} (h : s.On { a with die := 0 } 33) (hdue : (s.begun { a with die := 0 } 33).dueOp = some x)
include h hdue

theorem yields_scheduledOpFire_snapshot (hop : x.op = 5) :
    let b := s.begun { a with die := 0 } 33
    Yields (.scheduledOpFire a) s (State.snapshot { b with shl := { b.shl with ops := b.shl.ops.erase x } } x) :=
  h.yields rfl (exec_scheduledOpFire a s) (by simp only [hdue, hop, if_true])

theorem yields_scheduledOpFire_reset (hop : x.op = 6) :
    let b := s.begun { a with die := 0 } 33
    let u : State := { b with shl := { b.shl with ops := b.shl.ops.erase x } }
    Yields (.scheduledOpFire a) s (if u.flag 0 F.SHL_CFG_RESET_RIPPLE_EN = true then u.fireReach 8 0 33 else u) :=
  h.yields rfl (exec_scheduledOpFire a s) (by simp [hdue, hop])

end

/-- Settles O17: a Ripple fails its check, is unknown or is this ring's own, and each write is its operation's effect. -/
theorem ripplesAndShorelineCommandsTakeEffect : Obligations.RipplesAndShorelineCommandsTakeEffect := by
  refine ⟨fun a port side m s hd hport hside => ?ripple, fun a q v s h hd => ?cmd, fun a q v s h hd => yields_snapAck h hd,
    fun a x s h => ?fire⟩
  case ripple =>
    intro b op basin failed ttl origin opId arg hruns hon hup hring
    refine ⟨yields_rippleReceive_bad hd hport hside hruns hon hup hring, fun hlen hcrc =>
      ⟨yields_rippleReceive_unknown hd hport hside hruns hon hup hring hlen hcrc, fun hlow hhigh hlocal => ?_⟩⟩
    rw [hlocal]
    exact yields_rippleReceive_local hd hport hside hruns hon hup hring hlen hcrc hlow hhigh hlocal
  case cmd =>
    intro b basin opId
    refine ⟨fun hop => yields_writeShlCmd h hd (exec_shlBroadcast a q v s) hop (State.writeShlCmd_broadcast hop),
      fun hop => yields_writeShlCmd h hd (exec_barrierOpen a q v s) hop (State.writeShlCmd_open hop), fun hop => ?arrive,
      fun hop => yields_writeShlCmd h hd (exec_shlSnapshot a q v s) hop ?snapshot,
      fun hop => yields_writeShlCmd h hd (exec_shlReset a q v s) hop ?reset⟩
    case arrive =>
      obtain ⟨hconflict, hno, hpart⟩ := yields_barrierArrive h hd hop
      refine ⟨hconflict, hno, fun hfree hyes => ?_⟩
      have harrive := hpart hfree hyes
      constructor
      · intro hnone
        rw [State.arrive, hnone] at harrive
        exact harrive
      · intro x hx
        rw [State.arrive, hx] at harrive
        exact harrive
    case snapshot => rw [State.writeShlCmd_schedule (.inl hop), hop]
    case reset => rw [State.writeShlCmd_schedule (.inr hop), hop]
  case fire =>
    intro b hdue u
    exact ⟨yields_scheduledOpFire_snapshot h hdue, yields_scheduledOpFire_reset h hdue⟩

end Sys2Proof.Machine
end

section
/-! Remote register accesses and the SMBus port (09 R271 to R273; 19 R490, R491): O18. -/

namespace Sys2Proof.Machine

/-! The commands as their meanings. -/

theorem exec_rraRead (a : At) (q : Req) (v : Word) (s : State) : exec (.rraRead a q v) s = execRraRead a q v s := rfl

theorem exec_rraWrite (a : At) (q : Req) (v : Word) (s : State) : exec (.rraWrite a q v) s = execRraWrite a q v s := rfl

theorem exec_remoteTimeout (a : At) (s : State) : exec (.remoteTimeout a) s = execRemoteTimeout a s := rfl

theorem exec_mgtRequestReceive (a : At) (via : Via) (msg : List Byte) (w : Around) (s : State) :
    exec (.mgtRequestReceive a via msg w) s = execMgtRequestReceive a via msg w s := rfl

theorem exec_mgtResponseReceive (a : At) (via : Via) (msg : List Byte) (s : State) :
    exec (.mgtResponseReceive a via msg) s = execMgtResponseReceive a via msg s := rfl

theorem exec_smbBlockWrite (a : At) (addr cmd : Nat) (data : List Byte) (ok : Bool) (w : Around) (s : State) :
    exec (.smbBlockWrite a addr cmd data ok w) s = execSmbBlockWrite a addr cmd data ok w s := rfl

theorem exec_smbBlockRead (a : At) (addr cmd : Nat) (s : State) : exec (.smbBlockRead a addr cmd) s = execSmbBlockRead a addr cmd s := rfl

/-! A remote access that this hub asks for (09 R271, R273). -/

/-- A request for a remote access: its operation, whether it is for a neighbour, its destination, and how many dwords it is about. -/
structure RraAsk where
  op : Nat
  near : Bool
  dst : Nat
  count : Nat

/-- What a written word of SHL_RRA_CMD asks for; a neighbour has no address (log entry 17). -/
def rraAsk (v : Word) : RraAsk :=
  { op := wordGet v 31 28, near := wordGet v 11 11 == 1, dst := if wordGet v 11 11 == 1 then 0 else wordGet v 23 12,
    count := wordGet v 8 0 }

/-- The message of a request, with the next TAG. -/
def State.rraMessage (s : State) (x : RraAsk) : List Byte :=
  mgtBytes x.op 0 ((s.shl.tag + 1) % 65536) s.hubAddr x.dst x.near (s.get 0 F.SHL_RRA_ADDR_ADDRESS) x.count
    (if x.op = 2 then (List.range (min x.count 256)).map fun i => s.word 0 Reg.SHL_RRA_DATA i else [])

/-- The request is noted, and BUSY is set. -/
def State.awaitRra (s : State) (x : RraAsk) : State :=
  let tag := (s.shl.tag + 1) % 65536
  let wait := 100000000 * s.get 0 F.SHL_CFG_REMOTE_TIMEOUT_100US
  State.set { s with shl := { s.shl with
    tag := tag, remote := some ⟨tag, x.op, x.dst, s.get 0 F.SHL_RRA_ADDR_ADDRESS, x.count, s.now + wait⟩ } } 0 F.SHL_RRA_STATUS_BUSY 1

/-- The request leaves by the way that the word names. -/
def State.sendRra (s : State) (v : Word) : State :=
  let x := rraAsk v
  let msg := s.rraMessage x
  let u := s.awaitRra x
  if x.near = true then u.mgtHop 0 (wordGet v 26 24) msg
  else if wordGet v 27 27 = 1 then u.mgtStrand (u.get 0 F.SHL_RRA_STRAND_INDEX) msg else u.mgtShoreline x.dst msg

theorem State.writeRraCmd_free {s : State} {v : Word} (hfree : s.flag 0 F.SHL_RRA_STATUS_BUSY = false)
    (hop : wordGet v 31 28 = 1 ∨ wordGet v 31 28 = 2) : s.writeRraCmd 0 v = s.sendRra v := by
  refine if_neg ?_
  rintro (hdie | hbusy | hlow | hhigh)
  · exact hdie rfl
  · rw [hfree] at hbusy
    exact Bool.false_ne_true hbusy
  · omega
  · omega

section
variable {a : At} {q : Req} {v : Word} {s : State} (h : s.Admits a q 0x1B0800) (hd : a.die = 0)
  (hfree : (s.admitted a q 0x1B0800).flag 0 F.SHL_RRA_STATUS_BUSY = false)
include h hd hfree

theorem yields_writeRraCmd {i : Instr} {op : Nat} (hi : exec i s = onWrite a q 0x1B0800 v (wordGet v 31 28 == op) s fun b =>
      b.writeRraCmd a.die v) (hop : wordGet v 31 28 = op) (hknown : op = 1 ∨ op = 2) :
    Yields i s ((s.admitted a q 0x1B0800).sendRra v) :=
  h.yields (beq_iff_eq.mpr hop) hi (by rw [hd, State.writeRraCmd_free hfree (hop ▸ hknown)])

end

theorem yields_remoteTimeout {a : At} {r : Remote} {s : State} (h : s.On { a with die := 0 } 33)
    (hr : (s.begun { a with die := 0 } 33).shl.remote = some r) (hend : r.deadline ≤ (s.begun { a with die := 0 } 33).now) :
    let b := s.begun { a with die := 0 } 33
    let u : State := { b with shl := { b.shl with remote := none } }
    Yields (.remoteTimeout a) s ((((u.set 0 F.SHL_RRA_STATUS_BUSY 0).set 0 F.SHL_RRA_STATUS_RESULT 0xFF).wrap 0 F.SHL_RRA_STATUS_SEQ).raise
      0 33 0x612 2 [(2, r.dst), (1, r.op), (1, 0), (4, r.addr)]) :=
  h.yields rfl (exec_remoteTimeout a s) (by
    simp only [hr, fallen_iff.mpr hend, Bool.not_true, Bool.false_eq_true, if_false])

/-! A management frame on a side of the Shoreline (09 R271, R272). -/

section
variable {s : State} {d p side : Nat} {msg : List Byte} {f : State → List Byte → Bool → State}

theorem State.carry_bad (hbad : mgtFrameOk msg = false) :
    s.carry d (.shoreline p side) msg f = s.bump p F.SHL_FRAME_ERR_COUNT := by
  simp only [State.carry, hbad, Bool.not_false, if_true]

/-- A frame for a hub of the basin is this hub's, or goes on. -/
theorem State.carry_addressed (hok : mgtFrameOk msg = true) (hfar : msgNeighbour (mgtOfFrame msg) = false)
    (hring : s.onRing p = true) : s.carry d (.shoreline p side) msg f =
      if msgDst (mgtOfFrame msg) = s.hubAddr then f s (mgtOfFrame msg) false else s.mgtForward (msgDst (mgtOfFrame msg)) msg := by
  simp only [State.carry, hok, hfar, hring, Bool.not_true, Bool.false_eq_true, if_false]

end

section
variable {a : At} {side : Nat} {msg : List Byte} {s : State} (hd : a.die < s.part.dies) (hport : a.die < 2) (hside : side < 2)
  (hlen : msg.length ≤ 2048) (hruns : (elapse a s).runs a.die 33 = true) (hon : (elapse a s).portOn a.die = true)
  (hup : (elapse a s).sideUp a.die side = true)
include hd hport hside hlen hruns hon hup

/-- A frame that comes on a side that is up is carried on. -/
theorem yields_carry {i : Instr} {u : State} {f : State → List Byte → Bool → State}
    (hi : exec i s = onMessage a (.shoreline a.die side) (msg.length ≤ 2048) s fun b => b.carry a.die (.shoreline a.die side) msg f)
    (hu : (elapse a s).carry a.die (.shoreline a.die side) msg f = u) : Yields i s u :=
  yields_onUnit hd (by simp [hlen, hport, hside]) hi ((if_pos (by simp only [hruns, hon, hup, Bool.and_self])).trans hu)

theorem yields_mgtReceive_bad (w : Around) (hbad : mgtFrameOk msg = false) :
    Yields (.mgtRequestReceive a (.shoreline a.die side) msg w) s ((elapse a s).bump a.die F.SHL_FRAME_ERR_COUNT) ∧
    Yields (.mgtResponseReceive a (.shoreline a.die side) msg) s ((elapse a s).bump a.die F.SHL_FRAME_ERR_COUNT) :=
  ⟨yields_carry hd hport hside hlen hruns hon hup (exec_mgtRequestReceive a _ msg w s) (State.carry_bad hbad),
    yields_carry hd hport hside hlen hruns hon hup (exec_mgtResponseReceive a _ msg s) (State.carry_bad hbad)⟩

section
variable (w : Around) (hok : mgtFrameOk msg = true) (hfar : msgNeighbour (mgtOfFrame msg) = false)
  (hring : (elapse a s).onRing a.die = true)
include hok hfar hring

theorem yields_mgtReceive_forward (hdst : msgDst (mgtOfFrame msg) ≠ (elapse a s).hubAddr) :
    Yields (.mgtRequestReceive a (.shoreline a.die side) msg w) s ((elapse a s).mgtForward (msgDst (mgtOfFrame msg)) msg) ∧
    Yields (.mgtResponseReceive a (.shoreline a.die side) msg) s ((elapse a s).mgtForward (msgDst (mgtOfFrame msg)) msg) :=
  ⟨yields_carry hd hport hside hlen hruns hon hup (exec_mgtRequestReceive a _ msg w s)
      ((State.carry_addressed hok hfar hring).trans (if_neg hdst)),
    yields_carry hd hport hside hlen hruns hon hup (exec_mgtResponseReceive a _ msg s)
      ((State.carry_addressed hok hfar hring).trans (if_neg hdst))⟩

theorem yields_mgtReceive_here (hdst : msgDst (mgtOfFrame msg) = (elapse a s).hubAddr) :
    (msgOp (mgtOfFrame msg) = 1 ∨ msgOp (mgtOfFrame msg) = 2 → Yields (.mgtRequestReceive a (.shoreline a.die side) msg w) s
      ((elapse a s).takeRequest a .shl (.via (.shoreline a.die side) a.die) false (mgtOfFrame msg) w)) ∧
    (msgOp (mgtOfFrame msg) = 3 ∨ msgOp (mgtOfFrame msg) = 4 → Yields (.mgtResponseReceive a (.shoreline a.die side) msg) s
      ((elapse a s).takeResponse a (mgtOfFrame msg))) :=
  ⟨fun hop => yields_carry hd hport hside hlen hruns hon hup (exec_mgtRequestReceive a _ msg w s)
      (((State.carry_addressed hok hfar hring).trans (if_pos hdst)).trans (if_pos hop)),
    fun hop => yields_carry hd hport hside hlen hruns hon hup (exec_mgtResponseReceive a _ msg s)
      (((State.carry_addressed hok hfar hring).trans (if_pos hdst)).trans (if_pos hop))⟩

end

end

/-! The SMBus port (19 R490, R491). -/

section
variable {a : At} {addr cmd : Nat} {s : State} (h : s.On a 41) (hd : a.die = 0) (haddr : addr < 128) (hcmd : cmd < 256)
include h hd haddr hcmd

section
variable {data : List Byte} (ok : Bool) (w : Around) (hlen : data.length < 256)
include hlen

theorem yields_smbBlockWrite_foreign (hno : (s.begun a 41).smbAnswers addr = false) :
    Yields (.smbBlockWrite a addr cmd data ok w) s ((s.begun a 41).emit (.smbAck 0)) :=
  h.yields (by simp [hd, haddr, hcmd, hlen]) (exec_smbBlockWrite a addr cmd data ok w s) (if_pos (by rw [hno]; rfl))

section
variable (hours : (s.begun a 41).smbAnswers addr = true)
include hours

theorem yields_smbBlockWrite_notTaken (hnot : cmd ≠ 1 ∨ (s.begun a 41).smbBusy = true) :
    Yields (.smbBlockWrite a addr cmd data ok w) s ((s.begun a 41).emit (.smbAck 1)) :=
  h.yields (by simp [hd, haddr, hcmd, hlen]) (exec_smbBlockWrite a addr cmd data ok w s)
    ((if_neg (by rw [hours]; exact Bool.false_ne_true)).trans (if_pos hnot))

theorem yields_smbBlockWrite_checked (hone : cmd = 1) (hidle : (s.begun a 41).smbBusy = false) :
    (ok = false → Yields (.smbBlockWrite a addr cmd data ok w) s ((s.begun a 41).emit (.smbAck 2))) ∧
    (ok = true → 16 ≤ data.length → msgOp data = 1 ∨ msgOp data = 2 →
      let u := (s.begun a 41).emit (.smbAck 3)
      Yields (.smbBlockWrite a addr cmd data ok w) s
        (State.takeRequest a { u with access := { u.access with response := none } } .smb .smb false data w)) := by
  have htaken : ¬(cmd ≠ 1 ∨ (s.begun a 41).smbBusy = true) := by simp [hone, hidle]
  refine ⟨fun hpec => ?_, fun hpec hlong hop => ?_⟩
  all_goals
    refine h.yields (by simp [hd, haddr, hcmd, hlen]) (exec_smbBlockWrite a addr cmd data ok w s) ?_
    rw [hours, Bool.not_true, if_neg Bool.false_ne_true, if_neg htaken, hpec]
  · rfl
  · have hwhole : ¬(data.length < 16 ∨ (msgOp data ≠ 1 ∧ msgOp data ≠ 2)) := by omega
    exact if_neg hwhole

end

end

theorem yields_smbBlockRead_foreign (hno : (s.begun a 41).smbAnswers addr = false) :
    Yields (.smbBlockRead a addr cmd) s ((s.begun a 41).emit (.smbAck 0)) :=
  h.yields (by simp [hd, haddr, hcmd]) (exec_smbBlockRead a addr cmd s) (if_pos (by rw [hno]; rfl))

section
variable (hours : (s.begun a 41).smbAnswers addr = true)
include hours

theorem yields_smbBlockRead_notTaken (hnot : cmd ≠ 2) :
    Yields (.smbBlockRead a addr cmd) s ((s.begun a 41).emit (.smbAck 1)) :=
  h.yields (by simp [hd, haddr, hcmd]) (exec_smbBlockRead a addr cmd s)
    ((if_neg (by rw [hours]; exact Bool.false_ne_true)).trans (if_pos hnot))

/-- The response is given, and is no longer there. -/
theorem yields_smbBlockRead_response (htwo : cmd = 2) :
    let b := s.begun a 41
    Yields (.smbBlockRead a addr cmd) s
      (State.emit { b with access := { b.access with response := none } } (.smbData (b.access.response.getD []))) :=
  h.yields (by simp [hd, haddr, hcmd]) (exec_smbBlockRead a addr cmd s)
    ((if_neg (by rw [hours]; exact Bool.false_ne_true)).trans (if_neg (not_not_intro htwo)))

end

end

/-- Settles O18: an access is asked for and waited for, a frame is carried, and the SMBus port answers as far as it takes a message. -/
theorem remoteAccessAndSmbusAnswer : Obligations.RemoteAccessAndSmbusAnswer := by
  refine ⟨fun a q v s h hd => ?ask, fun a r s h => yields_remoteTimeout h, fun a side msg w s hd hport hside hlen => ?frame,
    fun a addr cmd s h hd haddr hcmd => ?smbus⟩
  case ask =>
    intro b op hfree _ near dst count addr tag data msg wait u t
    exact ⟨fun hread => yields_writeRraCmd h hd hfree (exec_rraRead a q v s) hread (.inl rfl),
      fun hwrite => yields_writeRraCmd h hd hfree (exec_rraWrite a q v s) hwrite (.inr rfl)⟩
  case frame =>
    intro b p m hruns hon hup
    exact ⟨yields_mgtReceive_bad hd hport hside hlen hruns hon hup w,
      fun hok hfar hring => yields_mgtReceive_forward hd hport hside hlen hruns hon hup w hok hfar hring,
      fun hok hfar hring => yields_mgtReceive_here hd hport hside hlen hruns hon hup w hok hfar hring⟩
  case smbus =>
    intro b
    refine ⟨fun data ok w hlen => ⟨yields_smbBlockWrite_foreign h hd haddr hcmd ok w hlen,
      yields_smbBlockWrite_notTaken h hd haddr hcmd ok w hlen, yields_smbBlockWrite_checked h hd haddr hcmd ok w hlen⟩,
      yields_smbBlockRead_foreign h hd haddr hcmd, yields_smbBlockRead_notTaken h hd haddr hcmd,
      yields_smbBlockRead_response h hd haddr hcmd⟩

end Sys2Proof.Machine
end

section
/-! Station Ethernet: frames, links, duplicate entries, supervision, secure associations and the ports of PTP (10 R277 to R299):
O22. -/

namespace Sys2Proof.Machine

/-! The commands as their meanings. -/

theorem exec_ethFrameReceive (a : At) (m : Nat) (f opened : List Byte) (ok : Bool) (s : State) :
    exec (.ethFrameReceive a m f opened ok) s = execEthFrameReceive a m f opened ok s := rfl

theorem exec_ptpMessageReceive (a : At) (m : Nat) (f opened : List Byte) (ok : Bool) (s : State) :
    exec (.ptpMessageReceive a m f opened ok) s = execPtpMessageReceive a m f opened ok s := rfl

theorem exec_ethLink (a : At) (m : Nat) (up : Bool) (speed : Nat) (an : Bool) (s : State) :
    exec (.ethLink a m up speed an) s = execEthLink a m up speed an s := rfl

theorem exec_lreEntryForget (a : At) (src : Nat) (s : State) : exec (.lreEntryForget a src) s = execLreEntryForget a src s := rfl

theorem exec_lreSupervisionSend (a : At) (s : State) : exec (.lreSupervisionSend a) s = execLreSupervisionSend a s := rfl

theorem exec_ethSaInstall (a : At) (q : Req) (v : Word) (s : State) :
    exec (.ethSaInstall a q v) s = execEthSaInstall a q v s := rfl

theorem exec_ethSaRetire (a : At) (q : Req) (v : Word) (s : State) :
    exec (.ethSaRetire a q v) s = execEthSaRetire a q v s := rfl

theorem exec_msecTxAnSelect (a : At) (q : Req) (m : Nat) (v : Word) (s : State) :
    exec (.msecTxAnSelect a q m v) s = execMsecTxAnSelect a q m v s := rfl

theorem exec_ptpIntervalTimer (a : At) (m kind : Nat) (s : State) :
    exec (.ptpIntervalTimer a m kind) s = execPtpIntervalTimer a m kind s := rfl

theorem exec_ptpAnnounceTimeout (a : At) (m : Nat) (s : State) :
    exec (.ptpAnnounceTimeout a m) s = execPtpAnnounceTimeout a m s := rfl

theorem exec_ptpFollowupExpire (a : At) (m key : Nat) (s : State) :
    exec (.ptpFollowupExpire a m key) s = execPtpFollowupExpire a m key s := rfl

/-! The checks of a received frame, in their order (10 R278, R280). -/

section
variable {s : State} {d m : Nat} {f : List Byte} (cyc : Nat) (opened : List Byte) (ok : Bool)

theorem State.receiveFrame_runt (hshort : f.length < 64) :
    s.receiveFrame d m cyc f opened ok = s.rxError d m F.ETH_RX_RUNT_COUNT 2 := if_pos hshort

section
variable (hlong : 64 ≤ f.length)
include hlong

theorem State.receiveFrame_oversize (hmax : s.get d F.ETH_CFG_MAX_FRAME m < f.length) :
    s.receiveFrame d m cyc f opened ok = s.rxError d m F.ETH_RX_OVERSIZE_COUNT 3 := by
  rw [State.receiveFrame, if_neg (Nat.not_lt_of_le hlong), if_pos hmax]

variable (hmax : f.length ≤ s.get d F.ETH_CFG_MAX_FRAME m)
include hmax

/-- Outside the LRE no wrong FCS is passed on, so the frame is only counted. -/
theorem State.receiveFrame_badFcs (hbad : fcsOk f = false) (hout : 2 ≤ m) :
    s.receiveFrame d m cyc f opened ok = s.rxError d m F.ETH_RX_FCS_ERR_COUNT 1 := by
  rw [State.receiveFrame, if_neg (Nat.not_lt_of_le hlong), if_neg (Nat.not_lt_of_le hmax), hbad, Bool.not_false, if_pos rfl]
  exact if_neg fun hlre => Nat.not_lt_of_le hout hlre.1

theorem State.receiveFrame_pause (hgood : fcsOk f = true) (hpause : isPause f = true) :
    s.receiveFrame d m cyc f opened ok = s.rxError d m F.ETH_RX_PAUSE_COUNT 5 := by
  rw [State.receiveFrame, if_neg (Nat.not_lt_of_le hlong), if_neg (Nat.not_lt_of_le hmax), hgood, Bool.not_true, if_neg Bool.false_ne_true, if_pos hpause]

end

end

section
variable {a : At} {m : Nat} {s : State} (h : s.On a (21 + m)) (hm : m < 4)
include h hm

/-! What a port whose link is up receives. -/

section
variable {f opened : List Byte} {ok : Bool} (hlink : (s.begun a (21 + m)).flag a.die F.ETH_STATUS_LINK m = true)
include hlink

theorem yields_ethFrameReceive {u : State} (hu : (s.begun a (21 + m)).receiveFrame a.die m a.cyc f opened ok = u) :
    Yields (.ethFrameReceive a m f opened ok) s u :=
  h.yields (decide_eq_true hm) (exec_ethFrameReceive a m f opened ok s) ((if_pos hlink).trans hu)

/-- A frame that carries a PTP message, once it is decrypted, is received as a frame. -/
theorem yields_ptpMessageReceive
    (hptp : isPtp (if (s.begun a (21 + m)).flag a.die F.ETH_MSEC_CTL_EN m then f.take 12 ++ opened else f) = true) :
    Yields (.ptpMessageReceive a m f opened ok) s ((s.begun a (21 + m)).receiveFrame a.die m a.cyc f opened ok) :=
  h.yields (decide_eq_true hm) (exec_ptpMessageReceive a m f opened ok s) (if_pos (by rw [hlink, hptp, Bool.and_self]))

end

/-- A link goes down at any time, and comes up outside sleep. -/
theorem yields_ethLink {up : Bool} (hawake : up = false ∨ (s.begun a (21 + m)).sleeping = false) (speed : Nat) (an : Bool) :
    Yields (.ethLink a m up speed an) s ((s.begun a (21 + m)).ethLink a.die m up speed an) :=
  h.yields (decide_eq_true hm) (exec_ethLink a m up speed an s) (if_neg (by rcases hawake with hup | hup <;> simp [hup]))

/-! The timers of a PTP port (10 R296 to R299). -/

theorem yields_ptpFollowupExpire (key : Nat) :
    let b := s.begun a (21 + m)
    let rest := (Table.look (b.die a.die).residences m []).filter fun y => y.key != key || !fallen b y.until_
    Yields (.ptpFollowupExpire a m key) s (b.modDie a.die fun x => { x with residences := Table.put x.residences m rest }) :=
  h.yields (decide_eq_true hm) (exec_ptpFollowupExpire a m key s) rfl

variable (hlink : (s.begun a (21 + m)).flag a.die F.ETH_STATUS_LINK m = true)
include hlink

/-- The masters that have been silent are forgotten, and the BMCA runs. -/
theorem yields_ptpAnnounceTimeout (hrole : (s.begun a (21 + m)).ptpRole a.die m = 1)
    (hsilent : ((s.begun a (21 + m)).ptpPort a.die m).heardAt + ms 3000 ≤ (s.begun a (21 + m)).now) :
    let b := s.begun a (21 + m)
    Yields (.ptpAnnounceTimeout a m) s
      (b.modPtp a.die m fun x => { x with foreign := x.foreign.filter fun y => decide (b.now < y.at_ + ms 3000) }).bmca :=
  h.yields (decide_eq_true hm) (exec_ptpAnnounceTimeout a m s) (if_pos (by
    rw [hrole, hlink, fallen_iff.mpr hsilent]
    rfl))

end

/-- The number of the message of a kind that a port sends next. -/
def State.ptpSeq (s : State) (d m kind : Nat) : Nat := ((s.ptpPort d m).seqs.getD kind 0 + 1) % 65536

/-- A message of a kind takes its number, and the next one is due in a second. -/
def State.ptpNumbered (s : State) (d m kind : Nat) : State :=
  s.modPtp d m fun x => { x with due := x.due.set kind (s.now + ms 1000), seqs := x.seqs.set kind (s.ptpSeq d m kind) }

/-- The body of an Announce that departs at `t`: the grandmaster as the hub knows it (10 R297). -/
def State.announceBody (s : State) (d m t : Nat) : List Byte :=
  let cls := s.get 0 F.TIM_STATUS_CLASS
  let tlv := if s.get d F.ETH_PTP_CFG_PROFILE m = 1 then Config.profileTlvs (s.get 0 F.TIM_GM_GM) else []
  ptpTime t ++ beBytes 2 (s.get 0 F.TIM_UTC_TAI_UTC) ++ beBytes 1 0 ++ beBytes 1 (s.get 0 F.TIM_GM_PRIORITY) ++ beBytes 1 cls ++
    beBytes 1 (accuracyOf cls) ++ beBytes 2 Config.ptpVariance.toNat ++ beBytes 1 128 ++ beBytes 8 s.basinClock ++
    beBytes 2 (s.get 0 F.TIM_STATUS_HOPS) ++ beBytes 1 0xA0 ++ tlv

section
variable {a : At} {m : Nat} {s : State} (h : s.On a (21 + m)) (hm : m < 4)
  (hlink : (s.begun a (21 + m)).flag a.die F.ETH_STATUS_LINK m = true)
include h hm hlink

section
variable (hrole : (s.begun a (21 + m)).ptpRole a.die m = 1) (hmaster : (s.begun a (21 + m)).ptpState a.die m = 2)
include hrole hmaster

/-- A master port announces itself. -/
theorem yields_ptpIntervalTimer_announce
    (hdue : ((s.begun a (21 + m)).ptpPort a.die m).due.getD 0 0 ≤ (s.begun a (21 + m)).now) :
    let b := s.begun a (21 + m)
    let u := b.ptpNumbered a.die m 0
    Yields (.ptpIntervalTimer a m 0) s (u.ptpSend a.die m
      (ptpMsg 0xB false (b.ptpDomain a.die m) 0 (b.portId a.die m) (b.ptpSeq a.die m 0) 0
        (u.announceBody a.die m (b.ptpOut a.die m)))) :=
  h.yields (by simp [hm]) (exec_ptpIntervalTimer a m 0 s) (if_neg (by
    rw [hlink, hrole, hmaster, fallen_iff.mpr hdue]
    decide))

/-- A master port sends Sync, in one step or with a Follow_Up. -/
theorem yields_ptpIntervalTimer_sync
    (hdue : ((s.begun a (21 + m)).ptpPort a.die m).due.getD 1 0 ≤ (s.begun a (21 + m)).now) :
    let b := s.begun a (21 + m)
    let u := b.ptpNumbered a.die m 1
    let msg := fun (type : Nat) (twoStep : Bool) (t : Nat) =>
      ptpMsg type twoStep (b.ptpDomain a.die m) 0 (b.portId a.die m) (b.ptpSeq a.die m 1) 0 (ptpTime t)
    Yields (.ptpIntervalTimer a m 1) s
      (if u.flag a.die F.ETH_PTP_CFG_ONE_STEP m then u.ptpSend a.die m (msg 0 false (b.ptpOut a.die m))
       else (u.ptpSend a.die m (msg 0 true 0)).ptpSend a.die m (msg 8 false (b.ptpOut a.die m))) :=
  h.yields (by simp [hm]) (exec_ptpIntervalTimer a m 1 s) (if_neg (by
    rw [hlink, hrole, hmaster, fallen_iff.mpr hdue]
    decide))

end

/-- A port of either role measures its link's delay. -/
theorem yields_ptpIntervalTimer_pdelay
    (hrole : (s.begun a (21 + m)).ptpRole a.die m = 1 ∨ (s.begun a (21 + m)).ptpRole a.die m = 2)
    (hdue : ((s.begun a (21 + m)).ptpPort a.die m).due.getD 2 0 ≤ (s.begun a (21 + m)).now) :
    let b := s.begun a (21 + m)
    Yields (.ptpIntervalTimer a m 2) s
      (((b.ptpNumbered a.die m 2).ptpSend a.die m (ptpMsg 2 false (b.ptpDomain a.die m) 0 (b.portId a.die m) (b.ptpSeq a.die m 2)
        0x7F (ptpTime 0 ++ beBytes 10 0))).modPtp a.die m fun x => { x with pdSent := some (b.ptpOut a.die m), pdGot := none }) :=
  h.yields (by simp [hm]) (exec_ptpIntervalTimer a m 2 s) (if_neg (by
    have hboth : ((s.begun a (21 + m)).ptpRole a.die m == 1 || (s.begun a (21 + m)).ptpRole a.die m == 2) = true := by
      simpa using hrole
    rw [hlink, if_pos rfl, hboth, fallen_iff.mpr hdue]
    exact Bool.false_ne_true))

end

/-! The duplicate table and the supervision frames of the LRE (10 R289, R291). -/

theorem yields_lreEntryForget {a : At} {s : State} (h : s.On a 21) (src : Nat) :
    let b := s.begun a 21
    Yields (.lreEntryForget a src) s (b.modLre a.die fun x => { x with
      dups := x.dups.filter fun e => e.src != src || !fallen b (e.last + ms (b.get a.die F.ETH_LRE_CFG_ENTRY_FORGET_MS)) }) :=
  h.yields rfl (exec_lreEntryForget a src s) rfl

/-- The proxy addresses of an LRE that are in use. -/
def State.lreProxies (s : State) (d : Nat) : List Nat :=
  ((List.range 16).map fun i => s.get d F.ETH_LRE_PROXY_LO_ADDR i + 2 ^ 32 * s.get d F.ETH_LRE_PROXY_HI_ADDR i).filter (· != 0)

/-- A supervision frame goes out on both ports for the own address and each proxy, and the next are due in LIFE_CHECK_MS. -/
def State.supervised (s : State) (d : Nat) : State :=
  let own := (Config.macAddress (macNo d 0)).toNat
  let u := s.lreSend d (s.supervision d own (s.die d).lre.seq none) false
  let u := (s.lreProxies d).foldl (fun s x => s.lreSend d (s.supervision d x (s.die d).lre.seq (some own)) false) u
  u.modLre d fun x => { x with supDue := u.now + ms (s.get d F.ETH_LRE_SUP_LIFE_CHECK_MS) }

/-- With no port down, nothing is reported after the supervision frames. -/
theorem yields_lreSupervisionSend {a : At} {s : State} (h : s.On a 21) (hmode : (s.begun a 21).lreMode a.die ≠ 0)
    (hdue : ((s.begun a 21).die a.die).lre.supDue ≤ (s.begun a 21).now)
    (hup : ∀ p, p < 2 → (((s.begun a 21).supervised a.die).die a.die).lre.downAt.getD p none = none) :
    Yields (.lreSupervisionSend a) s ((s.begun a 21).supervised a.die) := by
  refine h.yields rfl (exec_lreSupervisionSend a s) ((if_neg ?sends).trans ?quiet)
  case sends =>
    rintro (hoff | hearly)
    · exact hmode hoff
    · exact Bool.false_ne_true (hearly.symm.trans (fallen_iff.mpr hdue))
  case quiet =>
    refine List.foldlRecOn (motive := (· = (s.begun a 21).supervised a.die)) _ _ rfl ?_
    rintro _ rfl p hp
    rw [hup p (List.mem_range.mp hp)]

/-! Secure associations (10 R294, Table 10.7). -/

section
variable {s : State} {d : Nat} {v : Word} (hidle : s.flag d F.ETH_SA_STATUS_BUSY = false)
  (hen : s.flag d F.ETH_MSEC_CTL_EN (wordGet v 29 28) = true)
include hidle hen

/-- An INSTALL of an association that is not there, with a packet number, depends on its key alone. -/
theorem State.writeSaCmd_install (hop : wordGet v 31 30 = 1) (hpn : s.get d F.ETH_SA_PN_NEXT_PN ≠ 0)
    (hnew : (s.die d).sas.any (saNamed v) = false) :
    let w : SaWait := ⟨v, s.get d F.ETH_SA_PN_NEXT_PN, s.pair d Reg.ETH_SA_SCI_LO Reg.ETH_SA_SCI_HI⟩
    let handle := wordGet v 15 0
    s.writeSaCmd d v = if (s.slotOwner? d handle).isSome then s.saInstall d w
      else if s.keyHeldOff d handle then s.saDone d 2
      else ((s.modDie d fun x => { x with saWait := some w }).set d F.ETH_SA_STATUS_BUSY 1).needKey d 0 handle
        (some (8 + wordGet v 29 28)) := by
  rw [State.writeSaCmd, if_neg (by omega), hidle, hen, hnew, if_neg Bool.false_ne_true, Bool.not_true, if_neg Bool.false_ne_true,
    if_pos hop, if_neg hpn, if_neg Bool.false_ne_true]

/-- A RETIRE of an association that is there and does not send now unpins its key and takes it away. -/
theorem State.writeSaCmd_retire (hop : wordGet v 31 30 = 2) (hheld : (s.die d).sas.any (saNamed v) = true)
    (hquiet : wordGet v 27 27 = 1 ∨ wordGet v 24 23 ≠ s.get d F.ETH_MSEC_CTL_TX_AN (wordGet v 29 28)) :
    let u := (List.find? (saNamed v) (s.die d).sas).elim s fun x => s.pinKey d x.owner x.handle (· - 1)
    s.writeSaCmd d v = (u.modDie d fun x => { x with sas := x.sas.filter fun y => !saNamed v y }).saDone d 0 := by
  rw [State.writeSaCmd, if_neg (by omega), hidle, hen, hheld, if_neg Bool.false_ne_true, Bool.not_true, if_neg Bool.false_ne_true,
    if_neg (by omega), if_neg Bool.false_ne_true, if_neg (by omega)]

end

section
variable {a : At} {q : Req} {v : Word} {s : State} (h : s.Admits a q 0x2A4000)
include h

theorem yields_ethSaInstall {u : State} (hop : wordGet v 31 30 = 1) (hu : (s.admitted a q 0x2A4000).writeSaCmd a.die v = u) :
    Yields (.ethSaInstall a q v) s u :=
  h.yields (beq_iff_eq.mpr hop) (exec_ethSaInstall a q v s) hu

theorem yields_ethSaRetire {u : State} (hop : wordGet v 31 30 = 2) (hu : (s.admitted a q 0x2A4000).writeSaCmd a.die v = u) :
    Yields (.ethSaRetire a q v) s u :=
  h.yields (beq_iff_eq.mpr hop) (exec_ethSaRetire a q v s) hu

end

/-- Settles O22: a port meets each command's guard, and an admitted command of associations is its row of Table 10.7. -/
theorem stationPortsTakeTheirCommands : Obligations.StationPortsTakeTheirCommands := by
  refine ⟨fun a m s h hm => ?port, fun a s h => ?lre, fun a q v s h => ?sa,
    fun a q m v s hm h => h.yields (decide_eq_true hm) (exec_msecTxAnSelect a q m v s) rfl⟩
  case port =>
    intro b d
    refine ⟨fun hlink f opened ok => ?frame, fun up speed an hawake => yields_ethLink h hm hawake speed an,
      yields_ptpFollowupExpire h hm, fun hrole hlink hsilent => yields_ptpAnnounceTimeout h hm hlink hrole hsilent,
      fun kind _ hlink hdue => ?timer⟩
    case frame =>
      refine ⟨fun hshort => yields_ethFrameReceive h hm hlink (State.receiveFrame_runt _ _ _ hshort),
        fun hlong hmax => yields_ethFrameReceive h hm hlink (State.receiveFrame_oversize _ _ _ hlong hmax),
        fun hlong hmax => ⟨fun hbad hout => ?_, fun hgood hpause => ?_, fun _ _ => yields_ethFrameReceive h hm hlink rfl⟩,
        yields_ptpMessageReceive h hm hlink⟩
      · exact yields_ethFrameReceive h hm hlink (State.receiveFrame_badFcs _ _ _ hlong hmax hbad (by omega))
      · exact yields_ethFrameReceive h hm hlink (State.receiveFrame_pause _ _ _ hlong hmax hgood hpause)
    case timer =>
      refine ⟨?announce, ?sync, ?pdelay⟩
      case announce =>
        rintro rfl hrole hmaster
        exact yields_ptpIntervalTimer_announce h hm hlink hrole hmaster hdue
      case sync =>
        rintro rfl hrole hmaster
        exact yields_ptpIntervalTimer_sync h hm hlink hrole hmaster hdue
      case pdelay =>
        rintro rfl hrole
        exact yields_ptpIntervalTimer_pdelay h hm hlink hrole hdue
  case lre => exact ⟨yields_lreEntryForget h, yields_lreSupervisionSend h⟩
  case sa =>
    intro b d port hidle hen
    refine ⟨fun hop hpn hnew => ?install, fun hop hheld hquiet =>
      yields_ethSaRetire h hop (State.writeSaCmd_retire hidle hen hop hheld hquiet)⟩
    have hbykey := State.writeSaCmd_install hidle hen hop hpn hnew
    refine ⟨fun hkey => yields_ethSaInstall h hop (hbykey.trans (if_pos hkey)), fun hnone =>
      yields_ethSaInstall h hop (hbykey.trans (if_neg ?_))⟩
    rw [hnone]
    exact Bool.false_ne_true

end Sys2Proof.Machine
end

section
/-! Display heads: their sinks and links, the AUX channel, the points of the frame, the reservoir, and the self-refresh of the channels
that hold their stores (11 R304 to R317): O24. -/

namespace Sys2Proof.Machine

/-! The commands as their meanings. -/

theorem exec_dspHpdPlug (a : At) (h : Nat) (vrr : Bool) (rate lanes : Nat) (s : State) :
    exec (.dspHpdPlug a h vrr rate lanes) s = execDspHpdPlug a h vrr rate lanes s := rfl

theorem exec_dspHpdUnplug (a : At) (h : Nat) (s : State) : exec (.dspHpdUnplug a h) s = execDspHpdUnplug a h s := rfl

theorem exec_dspHpdIrq (a : At) (h : Nat) (lost : Bool) (s : State) :
    exec (.dspHpdIrq a h lost) s = execDspHpdIrq a h lost s := rfl

theorem exec_dspLinkTrained (a : At) (h : Nat) (rate : Option Nat) (s : State) :
    exec (.dspLinkTrained a h rate) s = execDspLinkTrained a h rate s := rfl

theorem exec_auxReply (a : At) (h kind : Nat) (bytes : List Byte) (s : State) :
    exec (.auxReply a h kind bytes) s = execAuxReply a h kind bytes s := rfl

theorem exec_auxTimeout (a : At) (h : Nat) (s : State) : exec (.auxTimeout a h) s = execAuxTimeout a h s := rfl

theorem exec_intakePoint (a : At) (h : Nat) (s : State) : exec (.intakePoint a h) s = execIntakePoint a h s := rfl

theorem exec_prefetchPoint (a : At) (h : Nat) (s : State) : exec (.prefetchPoint a h) s = execPrefetchPoint a h s := rfl

theorem exec_frameStart (a : At) (h : Nat) (s : State) : exec (.frameStart a h) s = execFrameStart a h s := rfl

theorem exec_darkChangeDone (a : At) (h : Nat) (rate : Option Nat) (s : State) :
    exec (.darkChangeDone a h rate) s = execDarkChangeDone a h rate s := rfl

theorem exec_reservoirWatermark (a : At) (h : Nat) (high : Bool) (s : State) :
    exec (.reservoirWatermark a h high) s = execReservoirWatermark a h high s := rfl

theorem exec_dspUnderrun (a : At) (h : Nat) (s : State) : exec (.dspUnderrun a h) s = execDspUnderrun a h s := rfl

theorem exec_memSelfRefreshEnter (a : At) (c : Nat) (s : State) :
    exec (.memSelfRefreshEnter a c) s = execMemSelfRefreshEnter a c s := rfl

/-- A command of a head, from the state `b` in which its running island takes it. -/
theorem State.On.yields_head {i : Instr} {a : At} {h : Nat} {s b u : State} {f : State → State} (hon : s.On a (25 + h)) (hh : h < 2)
    (hb : s.begun a (25 + h) = b) (hi : exec i s = onIsland a (25 + h) (h < 2) s f) (hf : f b = u) : Yields i s u :=
  hon.yields (decide_eq_true hh) hi (hb ▸ hf)

section
variable {a : At} {h : Nat} {s b : State} (hon : s.On a (25 + h)) (hh : h < 2) (hb : s.begun a (25 + h) = b)
include hon hh hb

/-! Hot plug (11 R304, R305). -/

/-- What the sink's DPCD reports is recorded, and the plug is told. -/
def State.plugged (s : State) (d h : Nat) (vrr : Bool) (rate lanes : Nat) : State :=
  let u := (((s.set d F.DSP_HEAD_SINK_HPD 1 h).set d F.DSP_HEAD_SINK_VRR_CAP (b2n vrr) h).set d
    F.DSP_HEAD_SINK_MAX_RATE rate h).set d F.DSP_HEAD_SINK_MAX_LANES lanes h
  u.raiseHead d h 0x706 1 [(1, 1)]

theorem yields_dspHpdPlug (hout : b.flag a.die F.DSP_HEAD_SINK_HPD h = false) (vrr : Bool) (rate lanes : Nat) :
    let u := b.plugged a.die h vrr rate lanes
    Yields (.dspHpdPlug a h vrr rate lanes) s
      (State.train (if u.flag a.die F.DSP_HEAD_CTL_VRR_EN h && !vrr then u.raiseHead a.die h 0x70D 1 [] else u) a.die h) :=
  hon.yields_head hh hb (exec_dspHpdPlug a h vrr rate lanes s) (if_neg (ne_true_of_eq_false hout))

section
variable (hin : b.flag a.die F.DSP_HEAD_SINK_HPD h = true)
include hin

theorem yields_dspHpdUnplug :
    let u := (b.setWord a.die Reg.DSP_HEAD_SINK 0 h).raiseHead a.die h 0x706 1 [(1, 0)]
    Yields (.dspHpdUnplug a h) s (u.stopRaster a.die h (if u.flag a.die F.DSP_HEAD_CTL_ENABLE h then 1 else 0)) :=
  hon.yields_head hh hb (exec_dspHpdUnplug a h s) (if_neg (by rw [hin]; decide))

theorem yields_dspHpdIrq (lost : Bool) :
    let u := b.raiseHead a.die h 0x706 1 [(1, 2)]
    Yields (.dspHpdIrq a h lost) s (if lost && u.headState a.die h != 3 then u.train a.die h else u) :=
  hon.yields_head hh hb (exec_dspHpdIrq a h lost s) (if_neg (by rw [hin]; decide))

end

/-! The end of a link training (11 R304). -/

section
variable {t : Timing} (hrun : (b.head a.die h).run = some t) (hst : b.headState a.die h = 2)
include hrun hst

/-- A raster that stood starts, and one that ran goes on. -/
theorem yields_dspLinkTrained_rate {r : Nat} (hr : r ≤ t.rate) (hfits : t.fits r = true) :
    let u := b.set a.die F.DSP_HEAD_RUN_LINK_LINK_RATE r h
    Yields (.dspLinkTrained a h (some r)) s (if (u.head a.die h).phase = 0 then u.startRaster a.die h else u.setRunning a.die h) := by
  have hcarries : ¬ (t.rate < r ∨ t.fits r = false) := by simp [hr, hfits]
  exact hon.yields_head hh hb (exec_dspLinkTrained a h (some r) s) (by
    simp only [hrun]
    exact (if_neg (not_not_intro hst)).trans (if_neg hcarries))

theorem yields_dspLinkTrained_failed :
    Yields (.dspLinkTrained a h none) s ((b.stopRaster a.die h 1).raiseHead a.die h 0x707 3 [(1, t.lowest), (1, t.lanes)]) :=
  hon.yields_head hh hb (exec_dspLinkTrained a h none s) (by
    simp only [hrun]
    exact if_neg (not_not_intro hst))

end

/-! AUX (11 R306). -/

/-- A reply in the cycle of its deadline is counted. -/
def State.auxHeard (s : State) (a : At) (h deadline : Nat) : State :=
  if nearMiss a s deadline then s.bump a.die F.DSP_HEAD_NEAR_MISS_COUNT 1 h else s

/-- What a reply in time does: ACK, NACK, and else DEFER, which sends again seven times. -/
def State.auxAnswered (s : State) (d h : Nat) (y : Aux) (bytes : List Byte) : Nat → State
  | 0 => (s.putAux d h bytes).auxDone d h 0
  | 1 => s.auxDone d h 1
  | _ => if y.defers < 7 then s.auxSend d h y.cmd (y.defers + 1) else s.auxDone d h 2

section
variable {y : Aux} (haux : (b.head a.die h).aux = some y)
include haux

theorem yields_auxReply (htime : b.now < y.deadline + a.cyc) {kind : Nat} (hkind : kind < 3) {bytes : List Byte}
    (hlen : bytes.length ≤ 16) :
    Yields (.auxReply a h kind bytes) s ((b.auxHeard a h y.deadline).auxAnswered a.die h y bytes kind) :=
  hon.yields (by simp [hh, hkind, hlen]) (exec_auxReply a h kind bytes s) (by
    simp only [hb, haux]
    exact (if_neg (by simp [inTime_iff.mpr htime])).trans rfl)

theorem yields_auxTimeout (hlate : y.deadline ≤ b.now) : Yields (.auxTimeout a h) s (b.auxDone a.die h 3) :=
  hon.yields_head hh hb (exec_auxTimeout a h s) (by
    simp only [haux]
    exact if_pos (fallen_iff.mpr hlate))

end

/-! The points of the frame (11 R312). -/

section
variable {t : Nat} (hat : b.pointAt a.die h = some t) (hdue : t ≤ b.now)
include hat hdue

theorem yields_intakePoint (hphase : (b.head a.die h).phase = 1) : Yields (.intakePoint a h) s (b.intake a.die h) :=
  hon.yields_head hh hb (exec_intakePoint a h s) (by
    simp only [hat]
    exact if_pos ⟨hphase, hdue⟩)

theorem yields_prefetchPoint (hphase : (b.head a.die h).phase = 2) : Yields (.prefetchPoint a h) s (b.prefetch a.die h) :=
  hon.yields_head hh hb (exec_prefetchPoint a h s) (by
    simp only [hat]
    exact if_pos ⟨hphase, hdue⟩)

theorem yields_frameStart (hphase : (b.head a.die h).phase = 3) : Yields (.frameStart a h) s (b.startFrame a.die h) :=
  hon.yields_head hh hb (exec_frameStart a h s) (by
    simp only [hat]
    exact if_pos ⟨hphase, hdue⟩)

end

/-! The end of a dark change (11 R311). -/

/-- A new set in force, its raster in blanking. -/
def State.relit (s : State) (d h : Nat) (t : Timing) (rate : Nat) : State :=
  let u := (s.setRun d h t rate 2).setRunning d h
  u.modHead d h fun x => { x with phase := 2, intakeAt := u.now }

/-- Where neither rate nor lanes change, no training is due, and the link keeps its rate if the new set fits it. -/
theorem yields_darkChangeDone {old t : Timing} (hrun : (b.head a.die h).run = some old)
    (hnext : (b.head a.die h).next = some t) (hdark : (b.head a.die h).dark = true)
    (hdue : (b.head a.die h).darkAt + old.linesPs (old.vActive + old.vBlank) ≤ b.now)
    (hrate : old.rate = t.rate) (hlanes : old.lanes = t.lanes) (hqueued : (b.head a.die h).queued = none)
    (rate : Option Nat) :
    let r := b.get a.die F.DSP_HEAD_RUN_LINK_LINK_RATE h
    let u := b.relit a.die h t (if t.rate < r ∨ t.fits r = false then t.lowest else r)
    Yields (.darkChangeDone a h rate) s
      (if (u.head a.die h).phase = 2 then (u.take a.die h).releaseCommits a.die h else u) := by
  have hkeeps : (old.rate != t.rate || old.lanes != t.lanes) = false := by simp [hrate, hlanes]
  exact hon.yields_head hh hb (exec_darkChangeDone a h rate s) (by
    simp only [hrun, hnext, hqueued, hkeeps]
    exact (if_neg (by simp [hdark, fallen_iff.mpr hdue])).trans rfl)

/-! The reservoir (11 R314, R317). -/

/-- The reservoir stands at a watermark: fetching stops at the high one and resumes at the low one. -/
theorem yields_reservoirWatermark {high : Bool} (hphase : (b.head a.die h).phase = 1 ∨ (b.head a.die h).phase = 3)
    (hfront : (b.head a.die h).front.isSome = true) (hfetch : (b.head a.die h).fetching = high) :
    let u := b.modHead a.die h fun x => { x with fetching := !high }
    Yields (.reservoirWatermark a h high) s (u.set a.die F.DSP_HEAD_STATUS_FILL
      (1024 * u.get a.die (if high then F.DSP_HEAD_RES_CFG_HIGH_WM else F.DSP_HEAD_RES_CFG_LOW_WM) h) h) := by
  refine hon.yields_head hh hb (exec_reservoirWatermark a h high s) (if_neg ?fetches)
  case fetches => rcases hphase with hphase | hphase <;> simp [hphase, Option.isSome_iff_ne_none.mp hfront, hfetch]

/-- The reservoir is empty, and the lead one line longer. -/
def State.underrun (s : State) (d h : Nat) : State :=
  ((s.bump d F.DSP_HEAD_UNDERRUN_COUNT 1 h).set d F.DSP_HEAD_STATUS_LEAD (min 16 (s.lead_ d h + 1)) h).set d
    F.DSP_HEAD_STATUS_FILL 0 h

theorem yields_dspUnderrun (hphase : (b.head a.die h).phase = 1) (hfront : (b.head a.die h).front.isSome = true) :
    let u := b.underrun a.die h
    Yields (.dspUnderrun a h) s ((u.modHead a.die h fun x => { x with fetching := false }).raiseHead a.die h 0x701 2
      [(1, min 16 (b.lead_ a.die h + 1)), (2, u.lineNow a.die h), (4, u.get a.die F.DSP_HEAD_FRAME_FRAME h)]) := by
  refine hon.yields_head hh hb (exec_dspUnderrun a h s) (if_neg ?shows)
  case shows => simp [hphase, Option.isSome_iff_ne_none.mp hfront]

end

/-! Self-refresh of a channel (11 R316). -/

section
variable {a : At} {c : Nat} {s : State} (hon : s.On a (29 + c)) (hc : c < 2)
include hon hc

theorem yields_memSelfRefreshEnter (hen : (s.begun a (29 + c)).flag a.die F.MEM_CH_SR_SR_EN c = true)
    (hawake : (s.begun a (29 + c)).asleep a.die c = false) (htol : (s.begun a (29 + c)).tolerant a.die c = true) :
    Yields (.memSelfRefreshEnter a c) s (((s.begun a (29 + c)).modDie a.die fun x =>
      { x with selfRefresh := Table.put x.selfRefresh c true }).wrap a.die F.MEM_CH_SR_COUNT_ENTRIES c) :=
  hon.yields (decide_eq_true hc) (exec_memSelfRefreshEnter a c s) (if_pos (by rw [hen, hawake, htol]; rfl))

theorem yields_memSelfRefreshExit : Yields (.memSelfRefreshExit a c) s
    ((s.begun a (29 + c)).modDie a.die fun x => { x with selfRefresh := Table.put x.selfRefresh c false }) :=
  hon.yields (decide_eq_true hc) (exec_memSelfRefreshExit a c s) rfl

end

/-- Settles O24: a head on its running island meets each command's guard, and so does a channel. -/
theorem headsFollowTheirSinksAndFrames : Obligations.HeadsFollowTheirSinksAndFrames := by
  refine ⟨fun a h s hon hh => ?head, fun a c s hon hc => ⟨yields_memSelfRefreshEnter hon hc, yields_memSelfRefreshExit hon hc⟩⟩
  intro b d x
  refine ⟨yields_dspHpdPlug hon hh rfl, fun hin => ⟨yields_dspHpdUnplug hon hh rfl hin, yields_dspHpdIrq hon hh rfl hin⟩,
    fun t hrun hst => ⟨fun r => yields_dspLinkTrained_rate hon hh rfl hrun hst, yields_dspLinkTrained_failed hon hh rfl hrun hst⟩,
    fun y haux => ⟨fun htime bytes hlen => ?aux, yields_auxTimeout hon hh rfl haux⟩, fun t hat hdue => ?point,
    fun old t => yields_darkChangeDone hon hh rfl, fun high => yields_reservoirWatermark hon hh rfl,
    yields_dspUnderrun hon hh rfl⟩
  case point =>
    exact ⟨yields_intakePoint hon hh rfl hat hdue, yields_prefetchPoint hon hh rfl hat hdue, yields_frameStart hon hh rfl hat hdue⟩
  case aux =>
    have hreply := fun {kind : Nat} (hkind : kind < 3) => yields_auxReply hon hh rfl haux htime hkind hlen
    exact ⟨hreply (by decide), hreply (by decide), hreply (by decide)⟩

end Sys2Proof.Machine
end

section
/-! Writes of a head's registers (11 R306 to R317), and frames between hubs, sent and mirrored (11 R318 to R321): O25. -/

namespace Sys2Proof.Machine

/-! The commands as their meanings. -/

theorem exec_dspRefresh (a : At) (q : Req) (h : Nat) (v : Word) (s : State) :
    exec (.dspRefresh a q h v) s = execDspRefresh a q h v s := rfl

theorem exec_prefetchLeadWrite (a : At) (q : Req) (h : Nat) (v : Word) (s : State) :
    exec (.prefetchLeadWrite a q h v) s = execPrefetchLeadWrite a q h v s := rfl

theorem exec_auxTransaction (a : At) (q : Req) (h : Nat) (v : Word) (s : State) :
    exec (.auxTransaction a q h v) s = execAuxTransaction a q h v s := rfl

theorem exec_timingApply (a : At) (q : Req) (h : Nat) (v : Word) (s : State) :
    exec (.timingApply a q h v) s = execTimingApply a q h v s := rfl

theorem exec_dspCommit (a : At) (q : Req) (h : Nat) (v : Word) (s : State) :
    exec (.dspCommit a q h v) s = execDspCommit a q h v s := rfl

theorem exec_sourceFrameSend (a : At) (h : Nat) (s : State) : exec (.sourceFrameSend a h) s = execSourceFrameSend a h s := rfl

theorem exec_dptTileReceive (a : At) (h : Nat) (f : List Byte) (lost : Bool) (s : State) :
    exec (.dptTileReceive a h f lost) s = execDptTileReceive a h f lost s := rfl

theorem exec_dptTokenReceive (a : At) (h : Nat) (f : List Byte) (lost : Bool) (s : State) :
    exec (.dptTokenReceive a h f lost) s = execDptTokenReceive a h f lost s := rfl

theorem exec_mirrorTokenComplete (a : At) (h : Nat) (s : State) :
    exec (.mirrorTokenComplete a h) s = execMirrorTokenComplete a h s := rfl

/-! A head that runs a timing set. -/

section
variable {a : At} {h : Nat} {s b : State} {t : Timing} (hon : s.On a (25 + h)) (hh : h < 2) (hb : s.begun a (25 + h) = b)
  (hrun : (b.head a.die h).run = some t)
include hon hh hb hrun

theorem yields_sourceFrameSend {idx : Nat} (hidx : b.sourceStrand a.die h = some idx)
    (hsource : b.flag a.die F.DSP_HEAD_CTL_SOURCE h = true) (hen : b.flag a.die F.DSP_HEAD_CTL_ENABLE h = true) :
    Yields (.sourceFrameSend a h) s (State.pump a.die h idx t 100000 (b.startSending a.die h t)) :=
  hon.yields_head hh hb (exec_sourceFrameSend a h s) (by
    simp only [hrun, hidx]
    exact if_neg (by rw [hsource, hen]; decide))

/-! Tiles (11 R320, R321). -/

theorem yields_dptTileReceive_discarded {f : List Byte}
    (hbad : b.get a.die F.DSP_HEAD_CTL_STORE h ≠ 2 ∨ tileFits t f = false) :
    Yields (.dptTileReceive a h f false) s (b.bump a.die F.DSP_HEAD_TILE_DISCARD_COUNT 1 h) :=
  hon.yields_head hh hb (exec_dptTileReceive a h f false s) (by
    simp only [hrun]
    exact if_pos hbad)

/-- The rows of a tile go to their place in the fill buffer. -/
def State.tileRows (s : State) (d h : Nat) (t : Timing) (f : List Byte) : State :=
  let w := byteAt f 6
  let base := s.bufBase d h t (s.head d h).mFill
  (List.range (byteAt f 7)).foldl (fun s y =>
    s.setCells (devCell (base + (64 * numAt f 4 2 + y) * t.mStride + 256 * numAt f 2 2)) ((f.drop (16 + 4 * w * y)).take (4 * w))) s

/-- A tile is recorded in its frame, which it opens; a frame still open is broken by it. -/
def Head.tileNoted (x : Head) (t : Timing) (f : List Byte) : Head :=
  let n := numAt f 8 4
  let x := if x.openFrame.isSome ∧ x.openFrame ≠ some n then x.gapped 1 else x
  let i := numAt f 4 2 * t.cols + numAt f 2 2
  { x with openFrame := some n, got := x.got + 1, bytes := x.bytes + f.length,
           written := if x.written.contains i then x.written else x.written ++ [i] }

theorem yields_dptTileReceive_written {f : List Byte} (hstore : b.get a.die F.DSP_HEAD_CTL_STORE h = 2)
    (hfits : tileFits t f = true) :
    Yields (.dptTileReceive a h f false) s ((b.tileRows a.die h t f).modHead a.die h (·.tileNoted t f)) :=
  hon.yields_head hh hb (exec_dptTileReceive a h f false s) (by
    simp only [hrun]
    exact if_neg (by simp [hstore, hfits]))

/-! Tokens (11 R320, R321). -/

theorem yields_dptTokenReceive_discarded {f : List Byte}
    (hbad : byteAt f 0 ≠ 2 ∨ f.length ≠ 32 ∨ b.get a.die F.DSP_HEAD_CTL_STORE h ≠ 2) (lost : Bool) :
    Yields (.dptTokenReceive a h f lost) s (b.bump a.die F.DSP_HEAD_TILE_DISCARD_COUNT 1 h) :=
  hon.yields_head hh hb (exec_dptTokenReceive a h f lost s) (by
    simp only [hrun]
    exact if_pos hbad)

/-- A token of the running set's size ends a mismatch; no gap is found in the frame that it closes, so it only waits. -/
theorem yields_dptTokenReceive_awaited {f : List Byte} (htype : byteAt f 0 = 2) (hlen : f.length = 32)
    (hstore : b.get a.die F.DSP_HEAD_CTL_STORE h = 2)
    (hsize : (byteAt f 6, numAt f 4 2, numAt f 24 2) = (t.fmt, t.hActive, t.vActive)) {u : State}
    (hu : (b.modHead a.die h fun x => { x with mismatch := none }) = u)
    (hopen : (u.head a.die h).openFrame = none ∨ (u.head a.die h).openFrame = some (numAt f 8 4))
    (hgot : (u.head a.die h).got = numAt f 2 2) (hgap : (u.head a.die h).gap = 0) :
    Yields (.dptTokenReceive a h f false) s (u.modHead a.die h fun _ =>
      { u.head a.die h with token := some ⟨numAt f 8 4, numAt f 2 2, numAt f 16 8⟩, bytes := (u.head a.die h).bytes + 32 }) := by
  have htaken : ¬ (byteAt f 0 ≠ 2 ∨ f.length ≠ 32 ∨ b.get a.die F.DSP_HEAD_CTL_STORE h ≠ 2) := by simp [htype, hlen, hstore]
  have hsame : ¬ ((u.head a.die h).openFrame.isSome = true ∧ (u.head a.die h).openFrame ≠ some (numAt f 8 4)) := by
    rcases hopen with hopen | hopen <;> simp [hopen]
  exact hon.yields_head hh hb (exec_dptTokenReceive a h f false s) (by
    simp only [hrun, if_neg htaken, if_pos hsize, hu, Bool.false_eq_true, if_false, if_neg hsame, if_neg (not_not_intro hgot),
      if_pos hgap])

end

/-- Settles O25: a head's admitted writes take effect as its registers say, and a head that runs a set takes the frames of its strand
as its store and the frame allow. -/
theorem headRegistersAndMirrorsTakeEffect : Obligations.HeadRegistersAndMirrorsTakeEffect := by
  refine ⟨fun a q h v s hh => ?registers, fun a h t s hon hh => ?frames⟩
  case registers =>
    have hok : decide (h < 2) = true := decide_eq_true hh
    exact ⟨fun hw => hw.yields hok (exec_dspRefresh a q h v s) rfl, fun hw => hw.yields hok (exec_prefetchLeadWrite a q h v s) rfl,
      fun hw => hw.yields hok (exec_auxTransaction a q h v s) rfl, fun hw => hw.yields hok (exec_timingApply a q h v s) rfl,
      fun hw => hw.yields hok (exec_dspCommit a q h v s) rfl⟩
  case frames =>
    intro b d hrun
    refine ⟨fun idx => yields_sourceFrameSend hon hh rfl hrun, fun f => yields_dptTileReceive_discarded hon hh rfl hrun,
      fun f => yields_dptTileReceive_written hon hh rfl hrun,
      fun f lost hbad => yields_dptTokenReceive_discarded hon hh rfl hrun hbad lost,
      fun f htype hlen hstore hsize => yields_dptTokenReceive_awaited hon hh rfl hrun htype hlen hstore hsize rfl,
      fun k htoken => ?complete⟩
    case complete =>
      have hset : (b.head a.die h).run = some t := hrun
      have hwaits : (b.head a.die h).token = some k := htoken
      exact hon.yields_head (b := b) hh rfl (exec_mirrorTokenComplete a h s) (by
        simp only [hset, hwaits]
        rfl)

end Sys2Proof.Machine
end

section
/-! The end of every command: the queue is the one it found, and the tables are in canonical form: O38, O39, O40, O42. -/

namespace Sys2Proof.Machine

/-- A command's end: where it is carried out, the queue is the one it found, and from a well-kept state it leaves a well-kept state. -/
structure Closes (s : State) (o : Out) : Prop where
  queue : ∀ t, o = .next t → t.pending = s.pending
  kept : ∀ t, o = .next t → s.Kept → t.Kept

/-- A command ends by `State.commit`, or is refused for a unit that the variant does not have. -/
theorem closes_commit {c : Prop} [Decidable c] (s u : State) :
    Closes s (if c then .next (s.commit u) else .refused .noSuchUnit) := by
  split
  · exact ⟨by rintro _ ⟨⟩; rfl, by rintro _ ⟨⟩ hk; exact State.kept_commit hk u⟩
  · exact ⟨by rintro _ ⟨⟩, by rintro _ ⟨⟩⟩

/-- What waited is served after the command, and that ends likewise. -/
theorem closes_thenServe {a : At} {s : State} {o : Out} (h : Closes s o) : Closes s (thenServe a o) := by
  cases o with
  | next u => exact ⟨by rintro _ ⟨⟩; exact h.queue u rfl, by rintro _ ⟨⟩ hk; exact State.kept_commit (h.kept u rfl hk) _⟩
  | fault r => exact ⟨by rintro _ ⟨⟩, by rintro _ ⟨⟩⟩
  | refused r => exact ⟨by rintro _ ⟨⟩, by rintro _ ⟨⟩⟩

/-- A register write of its own ends so, whatever its value. -/
theorem closes_onWrite (a : At) (q : Req) (off : Nat) (v : Word) (ok : Bool) (s : State) (f : State → State) (w : Around) :
    Closes s (onWrite a q off v ok s f w) := closes_commit ..

/-- Every command's meaning is such an end; sixteen of them then serve what waited. -/
theorem exec_closes (i : Instr) (s : State) : Closes s (exec i s) := by
  unfold exec
  cases i with
  | rstReq | rstForceRelease => exact closes_thenServe (closes_onWrite ..)
  | clkOkAssert | clkIslandRestored | stillExitDone | pcieHotReset | pf0Flr | resetRelease | sknLoad | unlockMessage | autoPromote
  | vfFunctionReset | pushImageLoaded | semRelease | semForce | portPromote => exact closes_thenServe (closes_commit ..)
  | evtTest | histClear | histFreeze | snapAck | spdFreezeWrite | spillForce | timSet | trnAddrWrite | usbConnect =>
    exact closes_onWrite ..
  | _ => exact closes_commit ..

/-- Settles O38: a step is one command. -/
theorem stepCarriesOutTheFrontCommand : Obligations.StepCarriesOutTheFrontCommand := by
  refine ⟨fun c rest s hq => ?_, fun s hq => ?_⟩
  · rw [step, hq]
  · rw [step, hq]

/-- Settles O40: the queue's state is well kept, and so is what its front command leaves. -/
theorem everyStepKeepsTheTables : Obligations.EveryStepKeepsTheTables := by
  intro s t hk ht
  unfold step at ht
  split at ht
  next => cases ht; exact hk
  next c rest _ => exact (exec_closes c { s with pending := rest }).kept t ht hk

/-- Settles O42: what the front command leaves has the rest as its queue. -/
theorem stepTakesOneCommandFromTheQueue : Obligations.StepTakesOneCommandFromTheQueue := by
  intro c rest s t hq ht
  rw [stepCarriesOutTheFrontCommand.1 c rest s hq] at ht
  exact (exec_closes c { s with pending := rest }).queue t ht

/-- Settles O39: reset lists no register and no byte. -/
theorem resetIsKept : Obligations.ResetIsKept :=
  ⟨⟨rfl, rfl, rfl, rfl⟩, rfl, ⟨rfl, rfl, rfl⟩, rfl, fun _ => rfl, fun _ => rfl⟩

end Sys2Proof.Machine
end

section
/-! The bridge: posted writes, failure notices, reads, completions, read-ahead data and locks (12 R335 to R343): O26. -/

namespace Sys2Proof.Machine

/-! The commands as their meanings. -/

theorem exec_brgPostedWrite (a : At) (f : Nat) (tgt : Target) (addr : Nat) (bytes : List Byte) (s : State) :
    exec (.brgPostedWrite a f tgt addr bytes) s = execBrgPostedWrite a f tgt addr bytes s := rfl

theorem exec_failureNoticeReceive (a : At) (f : Nat) (tgt : Target) (ord addr ts cause : Nat) (s : State) :
    exec (.failureNoticeReceive a f tgt ord addr ts cause) s = execFailureNoticeReceive a f tgt ord addr ts cause s := rfl

theorem exec_brgReadRequest (a : At) (f : Nat) (tgt : Target) (addr len tag rid : Nat) (atomic : Option (Nat × List Byte)) (s : State) :
    exec (.brgReadRequest a f tgt addr len tag rid atomic) s = execBrgReadRequest a f tgt addr len tag rid atomic s := rfl

theorem exec_brgCompletionReceive (a : At) (tag status : Nat) (bytes : List Byte) (s : State) :
    exec (.brgCompletionReceive a tag status bytes) s = execBrgCompletionReceive a tag status bytes s := rfl

theorem exec_brgCplTimeout (a : At) (tag : Nat) (s : State) : exec (.brgCplTimeout a tag) s = execBrgCplTimeout a tag s := rfl

theorem exec_prefetchDiscard (a : At) (buf : Nat) (s : State) : exec (.prefetchDiscard a buf) s = execPrefetchDiscard a buf s := rfl

theorem exec_brgLockBroken (a : At) (s : State) : exec (.brgLockBroken a) s = execBrgLockBroken a s := rfl

section
variable {a : At} {s b : State} (h : s.On a 19) (hb : s.begun a 19 = b)

/-! Posted writes (12 R335, R337). A request of a function of the host ends EDDY; that of a far device, initiator 255, does not. -/

section
variable {f : Nat} {tgt : Target} {addr : Nat} {bytes : List Byte} {u t : State} (hf : f < 249 ∨ f = 255)
  (hu : (if f = 255 then b else b.activity) = u)
include h hb hf hu

theorem yields_brgPostedWrite_fenced (hfenced : u.fenced f (b.window? f tgt addr) = true) (hhost : f ≠ 255) :
    Yields (.brgPostedWrite a f tgt addr bytes) s (u.bump b.primary F.BRG_FENCE_DROP_COUNT) := by
  refine h.yields ?_ (exec_brgPostedWrite ..) ?_
  · simpa using hf
  · simp only [hb, hu]
    exact if_pos (by simp [hfenced, hhost])

section
variable (hpass : u.fenced f (b.window? f tgt addr) = false ∨ f = 255)
  (ht : (if f = 255 then u else u.set b.primary F.BRG_FN_ORDINAL_NEXT ((u.ordinal f + 1) % 65536) f) = t)
include hpass ht

theorem yields_brgPostedWrite_forwarded {v k : Nat} {pref : Bool} (htgt : tgt = .vdp k pref)
    (hv : t.vdpOf tgt (b.window? f tgt addr) = some v) :
    Yields (.brgPostedWrite a f tgt addr bytes) s (t.forwardTlp v 0 f (u.ordinal f) addr bytes) := by
  have hgoes : ¬ (u.fenced f (b.window? f tgt addr) && f != 255) = true := by rcases hpass with hno | rfl <;> simp_all
  subst htgt
  refine h.yields ?_ (exec_brgPostedWrite ..) ?_
  · simpa using hf
  · simp only [hb, hu, ht, hgoes, hv, Bool.false_eq_true, if_false]

theorem yields_brgPostedWrite_local {off x : Nat} (htgt : tgt = .bar2 off)
    (hx : t.bar2Addr f off (b.window? f tgt addr) = some x) :
    Yields (.brgPostedWrite a f tgt addr bytes) s (t.setCells (devCell x) bytes) := by
  have hgoes : ¬ (u.fenced f (b.window? f tgt addr) && f != 255) = true := by rcases hpass with hno | rfl <;> simp_all
  subst htgt
  refine h.yields ?_ (exec_brgPostedWrite ..) ?_
  · simpa using hf
  · simp only [hb, hu, ht, hgoes, hx, Bool.false_eq_true, if_false]

end
end

/-! Failure notices (12 R336 to R338). -/

section
variable {f : Nat} {tgt : Target} {ord addr ts cause : Nat} (hf : f < 249)
include h hb hf

theorem yields_failureNoticeReceive_stale (hstale : cause = 0 ∨ 5 < cause ∨ tsPs ts + 4000000000000 < tsPs b.ts) :
    Yields (.failureNoticeReceive a f tgt ord addr ts cause) s (b.bump b.primary F.BRG_NOTICE_STALE_COUNT) := by
  refine h.yields (decide_eq_true hf) (exec_failureNoticeReceive ..) ?_
  rw [hb]
  exact if_pos hstale

/-- A notice in time is honoured; at exactly 4 s the win is counted. -/
theorem yields_failureNoticeReceive_honoured (hlow : 1 ≤ cause) (hhigh : cause ≤ 5) (htime : tsPs b.ts ≤ tsPs ts + 4000000000000) :
    Yields (.failureNoticeReceive a f tgt ord addr ts cause) s
      ((if tsPs ts + 4000000000000 = tsPs b.ts then b.bump b.primary F.BRG_NEAR_MISS_COUNT else b).honourNotice b.primary f tgt ord
        addr cause) := by
  refine h.yields (decide_eq_true hf) (exec_failureNoticeReceive ..) ?_
  rw [hb]
  exact if_neg (by omega)

end

/-- What a notice in time does where a window holds its address (12 R337). -/
theorem State.honourNotice_window {c : State} {f w : Nat} {tgt : Target} {addr : Nat} (hw : c.window? f tgt addr = some w)
    (p ord cause : Nat) : c.honourNotice p f tgt ord addr cause =
      let u := (c.set p F.BRG_FN_ERR_FAR_WRITE_ERR 1 f).set p F.BRG_FN_ERR_LAST_ORDINAL ord f
      let u := if c.winFlag (some w) F.BRG_WIN_CFG_FENCE_MODE = true then
          u.setPair p Reg.BRG_FN_FENCE_LO Reg.BRG_FN_FENCE_HI (setBit (u.pair p Reg.BRG_FN_FENCE_LO Reg.BRG_FN_FENCE_HI f) w) f else u
      u.raiseOwned f p 19 0x801 2 [(2, ord), (1, f), (1, cause), (8, addr), (1, winNo (some w)), (1, b2n (u.fenced f (some w)))] := by
  simp only [State.honourNotice, hw]

/-- A read is forwarded under its tag, an atomic as its operation (12 R339, R342). -/
def State.readForwarded (s : State) (n f t addr len : Nat) : Option (Nat × List Byte) → State
  | some (op, operand) => s.forwardTlp n (4 + op) f t addr operand
  | none => s.forwardTlp n 1 f t addr (leBytes 2 len)

/-- An atomic that the bridge completes, or none. -/
theorem unblocked_of {u : State} {w : Option Nat} {atomic : Option (Nat × List Byte)}
    (hatomic : ∀ x, atomic = some x → u.atomicBlocked w x = false) : (atomic.map fun x => u.atomicBlocked w x).getD false = false := by
  cases atomic with
  | none => rfl
  | some x => exact hatomic x rfl

/-! Reads (12 R339, R340, R343). -/

section
variable {f : Nat} {tgt : Target} {addr len : Nat} (tag rid : Nat) {atomic : Option (Nat × List Byte)} {w v : Option Nat} {u : State}
  (hf : f < 249 ∨ f = 255) (hlen : 0 < len ∧ len ≤ 4096) (hw : b.window? f tgt addr = w) (hv : b.vdpOf tgt w = v)
  (hu : (if f = 255 then b else b.activity) = u)
include h hb hf hlen hw hv hu

theorem yields_brgReadRequest_refused (hno : (u.fenced f w && f != 255 || u.brokenFor f v) = true) :
    Yields (.brgReadRequest a f tgt addr len tag rid atomic) s (u.emit (.answer f tag 4 [])) := by
  refine h.yields ?_ (exec_brgReadRequest ..) ?_
  · simpa [and_assoc] using And.intro hf hlen
  · simp only [hb, hw, hv, hu]
    exact if_pos hno

section
variable (hpass : (u.fenced f w && f != 255 || u.brokenFor f v) = false) (hatomic : ∀ x, atomic = some x → u.atomicBlocked w x = false)
include hpass hatomic

theorem yields_brgReadRequest_unreached {k : Nat} {pref : Bool} (htgt : tgt = .vdp k pref)
    (hno : ∀ n, v = some n → u.vdpCarried n = false) :
    Yields (.brgReadRequest a f tgt addr len tag rid atomic) s (u.emit (.answer f tag 1 [])) := by
  have hfree := unblocked_of hatomic
  subst htgt
  refine h.yields ?_ (exec_brgReadRequest ..) ?_
  · simpa [and_assoc] using And.intro hf hlen
  · simp only [hb, hw, hv, hu, hpass, hfree, Bool.false_eq_true, if_false]
    cases v with
    | none => rfl
    | some n => exact if_pos (by simp [hno n rfl])

theorem yields_brgReadRequest_forwarded {k n t : Nat} {pref : Bool} {r : State × Option Nat} (htgt : tgt = .vdp k pref)
    (hn : v = some n) (hcarried : u.vdpCarried n = true) (hplain : u.winFlag w F.BRG_WIN_CFG_PREFETCH = false)
    (hr : u.takeTag a.die ⟨f, winNo w, n, addr, len, tag, rid, u.tagDeadline, 0⟩ = r) (ht : r.2 = some t) :
    Yields (.brgReadRequest a f tgt addr len tag rid atomic) s (r.1.readForwarded n f t addr len atomic) := by
  have hfree := unblocked_of hatomic
  subst htgt hn
  refine h.yields ?_ (exec_brgReadRequest ..) ?_
  · simpa [and_assoc] using And.intro hf hlen
  · simp only [hb, hw, hv, hu, hpass, hfree, hcarried, hplain, hr, ht, Bool.not_true, Bool.false_and, Bool.false_eq_true, if_false]
    cases atomic <;> rfl

theorem yields_brgReadRequest_local {off x : Nat} (htgt : tgt = .bar2 off) (hx : u.bar2Addr f off w = some x) (hread : atomic = none)
    (hplain : u.winFlag w F.BRG_WIN_CFG_PREFETCH = false) :
    Yields (.brgReadRequest a f tgt addr len tag rid atomic) s (u.emit (.answer f tag 0 (u.cellBytes (devCell x) len))) := by
  subst htgt hread
  refine h.yields ?_ (exec_brgReadRequest ..) ?_
  · simpa [and_assoc] using And.intro hf hlen
  · simp only [hb, hw, hv, hu, hpass, hx, Option.map_none, Option.getD_none, State.readHere, hplain, Bool.false_eq_true, if_false]
    cases w <;> rfl

end
end

/-! Completions and their timeouts (12 R340). -/

section
variable {tag : Nat} (htag : tag < 1024)
include h hb htag

theorem yields_brgCompletionReceive_late (hlate : ∀ x, Table.find? (b.die a.die).tags tag = some x → x.deadline + a.cyc ≤ b.now)
    (status : Nat) (bytes : List Byte) :
    Yields (.brgCompletionReceive a tag status bytes) s (b.bump b.primary F.BRG_LATE_CPL_COUNT) := by
  refine h.yields (decide_eq_true htag) (exec_brgCompletionReceive ..) ?_
  rw [hb]
  dsimp only
  split
  next => rfl
  next x hx => exact if_pos (by simp [inTime, hlate x hx])

theorem yields_brgCompletionReceive_delivered {x : BrgTag} (hx : Table.find? (b.die a.die).tags tag = some x)
    (htime : b.now < x.deadline + a.cyc) (huse : x.use = 0) (status : Nat) (bytes : List Byte) :
    Yields (.brgCompletionReceive a tag status bytes) s
      (((if nearMiss a b x.deadline then b.bump b.primary F.BRG_NEAR_MISS_COUNT else b).freeTag a.die tag).emit
        (.answer x.fn x.tag status bytes)) := by
  refine h.yields (decide_eq_true htag) (exec_brgCompletionReceive ..) ?_
  simp [hb, hx, inTime, htime, huse]

theorem yields_brgCplTimeout {x : BrgTag} (hx : Table.find? (b.die a.die).tags tag = some x) (hlate : x.deadline ≤ b.now)
    (huse : x.use = 0) :
    Yields (.brgCplTimeout a tag) s (((b.freeTag a.die tag).emit (.answer x.fn x.tag 4 [])).raiseOwned (if x.fn = 255 then 0 else x.fn)
      a.die 19 0x803 2 [(1, x.fn), (1, x.window), (2, tag), (8, x.addr), (2, if x.fn = 255 then x.rid else 0)]) := by
  refine h.yields (decide_eq_true htag) (exec_brgCplTimeout ..) ?_
  simp [hb, hx, fallen, hlate, huse]

end

/-! Old read-ahead data (12 R341), and a lock held too long (12 R343). -/

theorem yields_prefetchDiscard {buf : Nat} {x : Ahead} (h : s.On a 19) (hb : s.begun a 19 = b) (hbuf : buf < 16)
    (hx : Table.find? (b.die a.die).aheads buf = some x) (hdata : x.data.isSome = true) (hold : x.at_ + us 2 ≤ b.now) :
    Yields (.prefetchDiscard a buf) s (b.dropAhead a.die buf) := by
  refine h.yields (decide_eq_true hbuf) (exec_prefetchDiscard ..) ?_
  simp [hb, hx, hdata, fallen, hold]

theorem yields_brgLockBroken {l : Lock} {v : Nat} (h : s.On a 19) (hb : s.begun a 19 = b) (hl : b.brg.lock = some l)
    (hv : l.vdp = some v) (hnew : l.broken = false) (hlate : l.since + ms (b.get b.primary F.BRG_LOCK_CFG_LOCK_MAX_MS) ≤ b.now) :
    let u := (b.modBrg fun x => { x with lock := some { l with broken := true } }).set b.primary F.BRG_VDP_STATUS_LOCKED 0 v
    Yields (.brgLockBroken a) s ((u.forwardTlp v 3 l.fn 0 0 []).raiseOwned l.fn u.primary 19 0x804 2
      [(1, v), (1, l.fn), (2, 0), (4, (u.now - l.since) / us 1)]) := by
  refine h.yields rfl (exec_brgLockBroken ..) ?_
  simp [hb, hl, hv, hnew, fallen, hlate]

end

/-- Settles O26: each message of the bridge's island by its own lemma, read in the state that the island takes it in. -/
theorem bridgeForwardsWritesAndReads : Obligations.BridgeForwardsWritesAndReads := by
  intro a s h b d p
  have hb : s.begun a 19 = b := rfl
  refine ⟨?write, ?notice, ?read, ?tags, ?old, ?lock⟩
  case write =>
    intro f tgt addr bytes hf w u
    exact ⟨fun hfenced hhost => yields_brgPostedWrite_fenced h hb hf rfl hfenced hhost, fun hpass =>
      ⟨fun v pref k htgt hv => yields_brgPostedWrite_forwarded h hb hf rfl hpass rfl htgt hv,
        fun off x htgt hx => yields_brgPostedWrite_local h hb hf rfl hpass rfl htgt hx⟩⟩
  case notice =>
    intro f tgt ord addr ts cause hf
    refine ⟨yields_failureNoticeReceive_stale h hb hf, fun hlow hhigh htime => ?_⟩
    intro c w hw
    have hy := yields_failureNoticeReceive_honoured (tgt := tgt) (ord := ord) (addr := addr) h hb hf hlow hhigh htime
    rwa [State.honourNotice_window hw] at hy
  case read =>
    intro f tgt addr len tag rid atomic hf h0 h1 w v u
    refine ⟨yields_brgReadRequest_refused h hb tag rid hf ⟨h0, h1⟩ rfl rfl rfl, fun hpass hatomic => ⟨?_, ?_, ?_, ?_⟩⟩
    · exact fun k pref htgt hv => yields_brgReadRequest_unreached h hb tag rid hf ⟨h0, h1⟩ rfl rfl rfl hpass hatomic htgt
        fun _ hn => nomatch hv.symm.trans hn
    · intro k pref n htgt hv hno
      exact yields_brgReadRequest_unreached h hb tag rid hf ⟨h0, h1⟩ rfl rfl rfl hpass hatomic htgt
        fun _ hn => Option.some.inj (hv.symm.trans hn) ▸ hno
    · intro k pref n t htgt hv hcarried hplain r ht
      have hy := yields_brgReadRequest_forwarded h hb tag rid hf ⟨h0, h1⟩ rfl rfl rfl hpass hatomic htgt hv hcarried hplain rfl ht
      exact ⟨fun hread => by rwa [hread] at hy ⊢, fun op operand hop => by rwa [hop] at hy ⊢⟩
    · exact fun off x htgt hx hread hplain =>
        yields_brgReadRequest_local h hb tag rid hf ⟨h0, h1⟩ rfl rfl rfl hpass hatomic htgt hx hread hplain
  case tags =>
    intro tag htag
    refine ⟨fun status bytes hfree => ?_, fun x hx => ⟨fun status bytes hlate => ?_, ?_, yields_brgCplTimeout h hb htag hx⟩⟩
    · exact yields_brgCompletionReceive_late h hb htag (fun x hx => nomatch hfree.symm.trans hx) status bytes
    · exact yields_brgCompletionReceive_late h hb htag (fun y hy => Option.some.inj (hx.symm.trans hy) ▸ hlate) status bytes
    · exact fun status bytes htime huse => yields_brgCompletionReceive_delivered h hb htag hx htime huse status bytes
  case old => exact fun buf x hbuf hx hdata hold => yields_prefetchDiscard h hb hbuf hx hdata hold
  case lock => exact fun l v hl hv hnew hlate => yields_brgLockBroken h hb hl hv hnew hlate

end Sys2Proof.Machine
end

section
/-! A failure notice later than 4 s is stale, and one at 4 s is honoured (12 R338): O48. -/

namespace Sys2Proof.Machine

/-- A field of a register that has not changed reads as before. -/
theorem State.OnlyRegs.get {s t : State} {l : List Nat} (h : s.OnlyRegs l t) {d i j : Nat} {f : Fld}
    (hn : barAddr d (f.reg.off i j) ∉ l) : t.get d f i j = s.get d f i j := by
  rw [State.get, State.word, h _ hn, State.get, State.word]

theorem State.onlyRegs_setPair (s : State) (d : Nat) (lo hi : RegDesc) (v i j : Nat) :
    s.OnlyRegs [barAddr d (lo.off i j), barAddr d (hi.off i j)] (s.setPair d lo hi v i j) := fun n hn => by
  simp only [List.mem_cons, List.not_mem_nil, or_false, not_or] at hn
  rw [State.setPair, State.setWord, State.setWord, State.reg_setReg, if_neg (Ne.symm hn.2), State.reg_setReg, if_neg (Ne.symm hn.1)]

/-! The registers that a notice writes: the function's, in its group of 16 bytes, and the bridge's counters. -/

theorem near_miss_ne_fn {r : RegDesc} (hlo : 0x204000 ≤ r.base) (p f : Nat) :
    barAddr p (Reg.BRG_NEAR_MISS.off 0 0) ≠ barAddr p (r.off f 0) ∧ barAddr p (Reg.BRG_NOTICE_STALE.off 0 0) ≠ barAddr p (r.off f 0) := by
  simp only [barAddr, RegDesc.off, Reg.BRG_NEAR_MISS, Reg.BRG_NOTICE_STALE]
  omega

theorem fn_err_ne_fence (p f : Nat) :
    barAddr p (Reg.BRG_FN_ERR.off f 0) ∉ [barAddr p (Reg.BRG_FN_FENCE_LO.off f 0), barAddr p (Reg.BRG_FN_FENCE_HI.off f 0)] := by
  simp only [barAddr, RegDesc.off, Reg.BRG_FN_ERR, Reg.BRG_FN_FENCE_LO, Reg.BRG_FN_FENCE_HI, List.mem_cons, List.not_mem_nil, or_false]
  omega

/-- FAR_WRITE_ERR and LAST_ORDINAL of a function, as a notice in time shows them (12 R337). -/
def State.noticeShown (s : State) (p f ord : Nat) : State :=
  (s.set p F.BRG_FN_ERR_FAR_WRITE_ERR 1 f).set p F.BRG_FN_ERR_LAST_ORDINAL ord f

/-- A notice in time is shown, may fence the function from the window, and raises WRITE_LOST. -/
theorem State.honourNotice_eq (c : State) (p f : Nat) (tgt : Target) (ord addr cause : Nat) :
    ∃ u fields, c.honourNotice p f tgt ord addr cause = u.raiseOwned f p 19 0x801 2 fields ∧
      (c.noticeShown p f ord).OnlyRegs [barAddr p (Reg.BRG_FN_FENCE_LO.off f 0), barAddr p (Reg.BRG_FN_FENCE_HI.off f 0)] u ∧
      u.regs = c.regs ∧ u.cellLog = c.cellLog := by
  cases hw : c.window? f tgt addr with
  | none =>
    refine ⟨c.noticeShown p f ord, [(2, ord), (1, f), (1, cause), (8, addr), (1, winNo none), (1, 0)], ?_, State.OnlyRegs.refl _ _, rfl, rfl⟩
    simp only [State.honourNotice, hw]
    rfl
  | some w =>
    rw [State.honourNotice_window hw]
    dsimp only
    split
    · exact ⟨_, _, rfl, State.onlyRegs_setPair _ p _ _ _ f 0, rfl, rfl⟩
    · exact ⟨c.noticeShown p f ord, _, rfl, State.OnlyRegs.refl _ _, rfl, rfl⟩

/-- An event owned by a function is the latest raised. -/
theorem State.getLast_raiseOwned (s : State) (owner d src code sev : Nat) (x : List (Nat × Nat)) :
    ∃ e, (s.raiseOwned owner d src code sev x).evt.raised.getLast? = some e ∧ e.owner = owner ∧ e.code = code ∧ e.src = src :=
  ⟨_, List.getLast?_concat, rfl, rfl, rfl⟩

/-- What a notice in time shows of a function, and which of the bridge's counters it leaves. -/
theorem State.honourNotice_reads (c : State) (p f : Nat) (tgt : Target) {ord : Nat} (hord : ord < 65536) (addr cause : Nat) :
    let t := c.honourNotice p f tgt ord addr cause
    t.get p F.BRG_FN_ERR_FAR_WRITE_ERR f = 1 ∧ t.get p F.BRG_FN_ERR_LAST_ORDINAL f = ord ∧
      t.get p F.BRG_NOTICE_STALE_COUNT = c.get p F.BRG_NOTICE_STALE_COUNT ∧
      t.get p F.BRG_NEAR_MISS_COUNT = c.get p F.BRG_NEAR_MISS_COUNT := by
  obtain ⟨u, fields, ht, honly, -, -⟩ := c.honourNotice_eq p f tgt ord addr cause
  have hget : ∀ g i, (u.raiseOwned f p 19 0x801 2 fields).get p g i = u.get p g i := fun _ _ => rfl
  have hother : ∀ g, barAddr p (g.reg.off 0 0) ∉ [barAddr p (Reg.BRG_FN_FENCE_LO.off f 0), barAddr p (Reg.BRG_FN_FENCE_HI.off f 0)] →
      barAddr p (g.reg.off 0 0) ≠ barAddr p (Reg.BRG_FN_ERR.off f 0) → u.get p g = c.get p g := fun g hfence herr => by
    rw [honly.get hfence, State.noticeShown, State.get_set_of_ne _ herr, State.get_set_of_ne _ herr]
  dsimp only
  rw [ht]
  refine ⟨?_, ?_, ?_, ?_⟩
  · rw [hget, honly.get (fn_err_ne_fence p f), State.noticeShown, State.get_set_apart (f := F.BRG_FN_ERR_LAST_ORDINAL)
      (g := F.BRG_FN_ERR_FAR_WRITE_ERR) _ (by decide) (by decide) rfl (by decide), State.get_set_same _ (by decide) (by decide)]
    rfl
  · rw [hget, honly.get (fn_err_ne_fence p f), State.noticeShown, State.get_set_same _ (by decide) (by decide)]
    exact Nat.mod_eq_of_lt hord
  · exact hother F.BRG_NOTICE_STALE_COUNT (by simp [(near_miss_ne_fn _ p f).2, Reg.BRG_FN_FENCE_LO, Reg.BRG_FN_FENCE_HI])
      (near_miss_ne_fn (by decide) p f).2
  · exact hother F.BRG_NEAR_MISS_COUNT (by simp [(near_miss_ne_fn _ p f).1, Reg.BRG_FN_FENCE_LO, Reg.BRG_FN_FENCE_HI])
      (near_miss_ne_fn (by decide) p f).1

/-- Settles O48: the notice's meaning in the state that the bridge takes it in, whose registers read as before the command. -/
theorem lateNoticesAreStale : Obligations.LateNoticesAreStale := by
  intro a f tgt ord addr ts cause s h hf hlow hhigh b p
  have hk : s.Kept := h.1
  have hp : b.primary = p := State.get_begun hk ..
  have hget : ∀ g : Fld, b.get p g = s.get p g := fun g => State.get_begun hk ..
  refine ⟨fun hlate => ?stale, fun hedge hord => ?edge⟩
  case stale =>
    have hy := yields_failureNoticeReceive_stale (tgt := tgt) (ord := ord) (addr := addr) (cause := cause) h (b := b) rfl hf (.inr (.inr hlate))
    have hregs : (b.bump p F.BRG_NOTICE_STALE_COUNT).regs = s.regs := s.begun_regs a 19
    rw [hp] at hy
    refine hy.gives ⟨?_, State.onlyRegs_commit hk hregs fun n hn => ?_, State.sameBytes_commit hk (s.begun_cellLog a 19), ?_, ?_⟩
    · rw [State.get_commit hk hregs, State.get_bump _ (by decide) (by decide), hget]
      rfl
    · rw [State.bump, State.reg_set_of_ne _ (List.ne_of_not_mem_cons hn), State.reg_begun hk]
    · rw [State.commit_evt, State.bump_evt, State.begun_evt]
    · rw [State.commit_out, State.bump_out, State.begun_out]
  case edge =>
    have hy := yields_failureNoticeReceive_honoured (tgt := tgt) (ord := ord) (addr := addr) h (b := b) rfl hf hlow hhigh (Nat.le_of_eq hedge)
    rw [if_pos hedge.symm, hp] at hy
    obtain ⟨u, fields, ht, -, huregs, hucells⟩ := (b.bump p F.BRG_NEAR_MISS_COUNT).honourNotice_eq p f tgt ord addr cause
    obtain ⟨hshown, hordinal, hstale, hnear⟩ := (b.bump p F.BRG_NEAR_MISS_COUNT).honourNotice_reads p f tgt hord addr cause
    have hregs : ((b.bump p F.BRG_NEAR_MISS_COUNT).honourNotice p f tgt ord addr cause).regs = s.regs := by
      rw [ht]
      exact huregs.trans (s.begun_regs a 19)
    refine hy.gives ⟨?_, ?_, ?_, ?_, ?_, State.sameBytes_commit hk ?_⟩
    · rw [State.get_commit hk hregs, hshown]
    · rw [State.get_commit hk hregs, hordinal]
    · rw [State.get_commit hk hregs, hstale, State.bump, State.get_set_of_ne _ (by simp [barAddr, RegDesc.off, Reg.BRG_NEAR_MISS, Reg.BRG_NOTICE_STALE]), hget]
    · rw [State.get_commit hk hregs, hnear, State.get_bump _ (by decide) (by decide), hget]
      rfl
    · rw [State.commit_evt, ht]
      exact State.getLast_raiseOwned ..
    · rw [ht]
      exact hucells.trans (s.begun_cellLog a 19)

end Sys2Proof.Machine
end

section
/-! A dword read by PF0, with nothing waiting, and the read of a semaphore (12 R344): O50. -/

namespace Sys2Proof.Machine

/-- A read of a dword by PF0 that is admitted, by whatever command: the dword goes back, and nothing waits to be served. -/
theorem ReadsAt.yields_dword {a : At} {i : Instr} {off : Nat} {s u : State} {w : Word} (hw : s.Unwaited)
    (hread : ReadsAt a i s .pf0 (barAddr a.die off) 1 0 true (elapse a s)) (hrest : (elapse a s).resting = false)
    (hgo : (elapse a s).verdict .pf0 a.die off 1 true false = .go) (hoff : off < 0x1000000) (hplain : off ≠ 0x3F0040)
    (hr : (s.reached a .pf0 off).readDword .pf0 a.die off = (u, w)) (hu : u.Unwaited) :
    Yields i s (u.emit (.completion .pf0 (.data [w]))) := by
  have hverdict := (State.accessVerdict_pf0 (s := elapse a s) hw.1 hoff a.die 1 true false).trans hgo
  have hset := hread.accesses.2 hrest
  rw [State.beginRead_go hverdict] at hset
  have hdone : Settles a i s (u.emit (.completion .pf0 (.data [w]))) := by
    rw [State.reached] at hr
    simpa [State.performRead, State.decidedAt_pf0 _ hoff, State.spot_pf0 _ hoff, State.readSpot, hplain, hr] using hset
  exact hdone.yields hu

/-- What a dword's read leaves, where its own effect writes no register and no byte. -/
theorem State.reads_emit {s u : State} (hk : s.Kept) (e : Emit) {l : List Nat} (hregs : u.regs = s.regs) (hcells : u.cellLog = [])
    (hout : u.out = []) (honly : s.OnlyRegs l u) :
    (s.commit (u.emit e)).out = [e] ∧ s.OnlyRegs l (s.commit (u.emit e)) ∧ s.SameBytes (s.commit (u.emit e)) := by
  refine ⟨?_, State.onlyRegs_commit hk hregs honly, State.sameBytes_commit hk hcells⟩
  rw [State.commit_out, State.emit, hout]
  rfl

theorem State.get_commit_emit {s u : State} (hk : s.Kept) (e : Emit) (hregs : u.regs = s.regs) (d : Nat) (f : Fld) (i j : Nat) :
    (s.commit (u.emit e)).get d f i j = u.get d f i j :=
  State.get_commit (u := u.emit e) hk hregs d f i j

theorem State.unwaited_reached {s : State} (h : s.Unwaited) (a : At) (q : Req) (off : Nat) : (s.reached a q off).Unwaited := by
  simpa only [State.Unwaited, State.reached_access] using h

/-! Semaphores. -/

theorem sem_not_mem_eddyRegs (d n : Nat) : barAddr d (Reg.BRG_SEM.off n 0) ∉ eddyRegs := by
  simp only [eddyRegs, barAddr, RegDesc.off, Reg.BRG_SEM, Reg.PWR_STATUS, Reg.PWR_COUNT, List.mem_cons, List.not_mem_nil, or_false]
  omega

section
variable {s : State} (hk : s.Kept) (a : At) (q : Req) (off : Nat)
include hk

theorem State.reached_get {d i j : Nat} {f : Fld} (hn : barAddr d (f.reg.off i j) ∉ eddyRegs) :
    (s.reached a q off).get d f i j = s.get d f i j := State.get_admitted hk a q off hn

theorem State.reached_primary : (s.reached a q off).primary = s.primary := State.reached_get hk a q off (by decide)

theorem State.reached_semHolder (n : Nat) : (s.reached a q off).semHolder n = s.semHolder n := by
  rw [State.semHolder, State.reached_primary hk, State.reached_get hk a q off (sem_not_mem_eddyRegs _ n), State.semHolder]

end

/-! A semaphore's read (12 R344): whose it is afterwards, and what the reader sees. -/

theorem State.primary_semSet (s : State) (n holder : Nat) : (s.semSet n holder).primary = s.primary := by
  have hne : barAddr 0 (Reg.BRG_PORT_STATUS.off 0 0) ≠ barAddr s.primary (Reg.BRG_SEM.off n 0) := by
    simp only [barAddr, RegDesc.off, Reg.BRG_PORT_STATUS, Reg.BRG_SEM]
    omega
  rw [State.primary, State.semSet, State.get_set_of_ne _ hne, State.get_set_of_ne _ hne, State.primary]

/-- A semaphore given to a function reads as held by it. -/
theorem State.get_semSet (s : State) (n : Nat) {holder : Nat} (hfits : holder < 0x200) :
    (s.semSet n holder).get s.primary F.BRG_SEM_HOLDER n = holder ∧
      (s.semSet n holder).get s.primary F.BRG_SEM_HELD n = b2n (holder != 0x1FF) := by
  rw [State.semSet]
  constructor
  · rw [State.get_set_apart (f := F.BRG_SEM_HELD) (g := F.BRG_SEM_HOLDER) _ (by decide) (by decide) rfl (by decide),
      State.get_set_same _ (by decide) (by decide)]
    exact Nat.mod_eq_of_lt hfits
  · rw [State.get_set_same _ (by decide) (by decide)]
    cases holder != 0x1FF <;> rfl

@[simp] theorem State.semSet_regs (s : State) (n holder : Nat) : (s.semSet n holder).regs = s.regs := by
  rw [State.semSet, State.set_regs, State.set_regs]

@[simp] theorem State.semSet_cellLog (s : State) (n holder : Nat) : (s.semSet n holder).cellLog = s.cellLog := by
  rw [State.semSet, State.set_cellLog, State.set_cellLog]

@[simp] theorem State.semSet_out (s : State) (n holder : Nat) : (s.semSet n holder).out = s.out := by
  rw [State.semSet, State.set_out, State.set_out]

theorem State.unwaited_semSet {s : State} (hw : s.Unwaited) (n holder : Nat) : (s.semSet n holder).Unwaited := by
  simpa only [State.Unwaited, State.semSet, State.set_access] using hw

theorem State.onlyRegs_semSet (s : State) (n holder : Nat) :
    s.OnlyRegs [barAddr s.primary (Reg.BRG_SEM.off n 0)] (s.semSet n holder) :=
  ((State.OnlyRegs.refl s _).set (by simp) _).set (by simp) _

section
variable (s : State) (q : Req) (n : Nat)

/-- Only a free semaphore that Table 12.5 grants changes hands by a read. -/
theorem State.semRead_fst : (s.semRead q n).1 =
    if semUsable n = true ∧ s.semHolder n = 0x1FF then s.semSet n (reqCode q) else s := by
  simp [State.semRead]

/-- GRANTED is 1 exactly where the reader holds the semaphore after its read. -/
theorem State.semRead_granted : wordGet (s.semRead q n).2 31 31 =
    if semUsable n = true ∧ (s.semRead q n).1.semHolder n = reqCode q then 1 else 0 := by
  rw [State.semRead, wordGet_wordSet_same _ _ _ _ (by decide) (by decide)]
  dsimp only
  generalize (if (semUsable n && s.semHolder n == 0x1FF) = true then s.semSet n (reqCode q) else s) = t
  by_cases huse : semUsable n = true <;> by_cases hme : t.semHolder n = reqCode q <;> simp [huse, hme, b2n]

end

/-- Settles O50: the read reaches the semaphore as it was before the command, and PF0's code is 0. -/
theorem semaphoreReadsAcquire : Obligations.SemaphoreReadsAcquire := by
  rintro a q n s hk hw hrest hn rfl hd - hgo reg grant
  obtain ⟨off, hoff⟩ : ∃ off, 0x203000 + 4 * n = off := ⟨_, rfl⟩
  rw [hoff] at hgo
  obtain ⟨b, hb⟩ : ∃ b, s.reached a .pf0 off = b := ⟨_, rfl⟩
  have hprimary : b.primary = a.die := by rw [← hb, State.reached_primary hk a .pf0 off, hd]
  have hholder : b.semHolder n = s.semHolder n := by rw [← hb, State.reached_semHolder hk a .pf0 off n]
  have hread : ReadsAt a (.semRead a .pf0 n) s .pf0 (barAddr a.die off) 1 0 true (elapse a s) := by
    rw [← hoff]
    exact .inr (.inr (.inl ⟨n, rfl, hn, rfl, rfl, rfl, rfl, (State.serve_of_unwaited (s := elapse a s) hw a).symm⟩))
  have hdword : b.readDword .pf0 a.die off = b.semRead .pf0 n := by
    have hin : 0x203000 ≤ off ∧ off < 0x203100 := by omega
    rw [State.readDword, if_pos hin, if_pos hprimary.symm, show (off - 0x203000) / 4 = n by omega]
  have hreg : reg ∉ eddyRegs := sem_not_mem_eddyRegs a.die n
  have honly : s.OnlyRegs eddyRegs b := hb ▸ State.onlyRegs_reached hk a .pf0 off
  have hregs : b.regs = s.regs := hb ▸ State.reached_regs hk a .pf0 off
  have hcells : b.cellLog = [] := hb ▸ State.reached_cellLog hk a .pf0 off
  have hout : b.out = [] := hb ▸ State.reached_out hk a .pf0 off
  have hwaits : b.Unwaited := hb ▸ State.unwaited_reached hw a .pf0 off
  have hgranted := b.semRead_granted .pf0 n
  have hleft := b.semRead_fst .pf0 n
  have hyields : ∀ u, (b.semRead .pf0 n).1 = u → u.Unwaited →
      Yields (.semRead a .pf0 n) s (u.emit (.completion .pf0 (.data [(b.semRead .pf0 n).2]))) := fun u hu hwu =>
    hread.yields_dword hw hrest hgo (by omega) (by omega) (by rw [hb, hdword, ← hu]) hwu
  rw [hholder] at hleft
  by_cases hfree : semUsable n = true ∧ s.semHolder n = 0x1FF
  case pos =>
    obtain ⟨huse, hnone⟩ := hfree
    rw [if_pos ⟨huse, hnone⟩] at hleft
    have ⟨hme, hheld⟩ := b.get_semSet n (holder := reqCode .pf0) (by decide)
    rw [hprimary] at hme hheld
    have hmine : (b.semSet n (reqCode .pf0)).semHolder n = reqCode .pf0 := by
      rw [State.semHolder, State.primary_semSet, hprimary, hme]
    rw [hleft, hmine, if_pos ⟨huse, rfl⟩] at hgranted
    have hset : s.OnlyRegs (reg :: eddyRegs) (b.semSet n (reqCode .pf0)) := by
      have hwrites := honly.trans (b.onlyRegs_semSet n (reqCode .pf0))
      rwa [hprimary] at hwrites
    obtain ⟨hsent, hrest', hbytes⟩ := State.reads_emit hk (.completion .pf0 (.data [(b.semRead .pf0 n).2]))
      (u := b.semSet n (reqCode .pf0)) (by rw [State.semSet_regs, hregs]) (by rw [State.semSet_cellLog, hcells])
      (by rw [State.semSet_out, hout]) hset
    refine (hyields _ hleft (State.unwaited_semSet hwaits n _)).gives ⟨hrest', hbytes, fun _ _ => ⟨?_, ?_, _, hsent, hgranted⟩, fun _ hq => ?_,
      fun hno => absurd hnone hno, fun hno => by simp [huse] at hno⟩
    · rw [State.get_commit_emit hk _ (by rw [State.semSet_regs, hregs]), hme]
    · rw [State.get_commit_emit hk _ (by rw [State.semSet_regs, hregs]), hheld]
      rfl
    · exact absurd (hnone.symm.trans hq) (by decide)
  case neg =>
    rw [if_neg hfree] at hleft
    rw [hleft, hholder] at hgranted
    obtain ⟨hsent, hrest', hbytes⟩ := State.reads_emit hk (.completion .pf0 (.data [(b.semRead .pf0 n).2])) hregs hcells hout honly
    have hsame : (s.commit (b.emit (.completion .pf0 (.data [(b.semRead .pf0 n).2])))).reg reg = s.reg reg := hrest' reg hreg
    refine (hyields _ hleft hwaits).gives ⟨fun m hm => hrest' m (List.not_mem_of_not_mem_cons hm), hbytes, ?_, ?_, ?_, ?_⟩
    · exact fun huse hnone => absurd ⟨huse, hnone⟩ hfree
    · exact fun huse hme => ⟨hsame, _, hsent, hgranted.trans (if_pos ⟨huse, hme⟩)⟩
    · exact fun _ hother => ⟨hsame, _, hsent, hgranted.trans (if_neg fun h => hother h.2)⟩
    · exact fun hno => ⟨hsame, _, hsent, hgranted.trans (if_neg fun h => by simp [hno] at h)⟩

end Sys2Proof.Machine
end

section
/-! The HI half of a pair, latched by a read of its LO half (19 R486): O51. -/

namespace Sys2Proof.Machine

theorem State.latches_setLatches (s : State) (q : Req) (t : Table Word) : (s.setLatches q t).latches q = t := by
  rw [State.latches, State.setLatches, Table.look_put, if_pos rfl]

theorem State.unwaited_setLatches {s : State} (h : s.Unwaited) (q : Req) (t : Table Word) : (s.setLatches q t).Unwaited := h

/-- A read of the HI half of local time that is latched returns the latched value, and takes one entry out of the table of latches. -/
theorem State.readDword_tsHi {s : State} {d : Nat} {w : Word} (h : Table.find? (s.latches .pf0) (barAddr d 0x1A0014) = some w) :
    s.readDword .pf0 d 0x1A0014 = (s.setLatches .pf0 (Table.del (s.latches .pf0) (barAddr d 0x1A0014)), w) := by
  have hpair : loPair 0x1A0014 = false := by decide
  simp [State.readDword, hpair, h]

section
variable {a : At} {s : State} (hw : s.Unwaited) (hrest : (elapse a s).resting = false)
  (hgo : (elapse a s).verdict .pf0 a.die 0x1A0014 1 true false = .go) (hd : a.die < 8)

include hw hrest hgo hd
/-- PF0's read of that half, where it is latched. -/
theorem yields_registerRead_tsHi {w : Word} (h : Table.find? (s.latches .pf0) (barAddr a.die 0x1A0014) = some w) :
    Yields (.registerRead a .pf0 (barAddr a.die 0x1A0014) 1 true) s
      (((s.reached a .pf0 0x1A0014).setLatches .pf0 (Table.del (s.latches .pf0) (barAddr a.die 0x1A0014))).emit
        (.completion .pf0 (.data [w]))) := by
  have hfound : Table.find? ((s.reached a .pf0 0x1A0014).latches .pf0) (barAddr a.die 0x1A0014) = some w := by
    rw [State.reached_latches, h]
  have hset := registerRead_settles hw hrest hgo hd (by decide) (by decide)
  rw [State.readDword_tsHi hfound, State.reached_latches] at hset
  exact hset.yields (State.unwaited_setLatches (State.unwaited_reached hw a .pf0 _) _ _)

/-- One entry fewer stands in the requester's table afterwards. -/
theorem gives_registerRead_tsHi {w : Word} (h : Table.find? (s.latches .pf0) (barAddr a.die 0x1A0014) = some w) :
    Gives (.registerRead a .pf0 (barAddr a.die 0x1A0014) 1 true) s fun t =>
      t.latches .pf0 = Table.del (s.latches .pf0) (barAddr a.die 0x1A0014) :=
  (yields_registerRead_tsHi hw hrest hgo hd h).gives (State.latches_setLatches _ _ _)

end

/-- A package whose die 0 runs and whose image is applied, in which two values are latched for the HI half of its local time. -/
def twiceLatched : State :=
  let s : State := { State.reset with isl := [(0, { ok := allIslands, held := 0 })] }
  (s.commit (s.set 0 F.SKN_STATUS_STATE 2)).setLatches .pf0 [(barAddr 0 0x1A0014, 7), (barAddr 0 0x1A0014, 8)]

/-- A command of its die 0. -/
def latchReader : At := ⟨0, 0, 0⟩

/-- Refutes O51: a state of the model may list two values for one HI half, and a read ends the first only. -/
theorem not_theHighHalfIsLatched : ¬ Obligations.TheHighHalfIsLatched := by
  intro h
  have hw : twiceLatched.Unwaited := by decide
  have hrest : (elapse latchReader twiceLatched).resting = false := by decide
  have hgo : (elapse latchReader twiceLatched).verdict .pf0 0 0x1A0014 1 true false = .go := by decide
  obtain ⟨-, hread⟩ := h latchReader 0x1A0010 twiceLatched (by decide) hw hrest (by decide) (by decide)
  obtain ⟨t, ht, -, -, hgone, -⟩ := hread hgo
  obtain ⟨u, hu, hleft⟩ := gives_registerRead_tsHi (w := 7) hw hrest hgo (by decide) (by decide)
  obtain rfl : t = u := Host.Outcome.next.inj (ht.symm.trans hu)
  rw [show barAddr latchReader.die (0x1A0010 + 4) = barAddr 0 0x1A0014 from rfl, hleft] at hgone
  exact absurd hgone (by decide)

end Sys2Proof.Machine
end

section
/-! Accesses of an ill shape or to a die that the variant lacks (19 R485, R494): O45. -/

namespace Sys2Proof.Machine

section
variable {s : State} {q : Req} {die off len : Nat} {be write : Bool}

theorem State.verdict_shape (h : len = 0 ∨ 2 < len ∨ be = false ∨ off % 4 ≠ 0 ∨ (len = 2 ∧ off % 8 ≠ 0)) :
    s.verdict q die off len be write = .shape := if_pos h

theorem State.verdict_noDie (hshape : ¬(len = 0 ∨ 2 < len ∨ be = false ∨ off % 4 ≠ 0 ∨ (len = 2 ∧ off % 8 ≠ 0)))
    (hdie : s.part.dies ≤ die) : s.verdict q die off len be write = .noDie := by
  have hcross : ¬(len = 2 ∧ blockStart off ≠ blockStart (off + 4)) := by
    rintro ⟨rfl, hne⟩
    exact hne (blockStart_add_four (by omega)).symm
  rw [State.verdict, if_neg hshape, if_neg hcross, if_pos hdie]

/-- An address of PF0 is decided by its die and its offset, unless it is the fence and a write waits. -/
theorem State.accessVerdict_pf0_addr {addr : Nat} (h : addr ≠ 0x3F0040) :
    s.accessVerdict .pf0 addr len be write = s.verdict .pf0 (addr / 0x1000000) (addr % 0x1000000) len be write := by
  simp [State.accessVerdict, isFence, h]

end

theorem State.Unwaited.of_access {s u : State} (h : s.Unwaited) (hacc : u.access = s.access) : u.Unwaited := by
  rwa [State.Unwaited, hacc]

@[simp] theorem elapse_access (a : At) (s : State) : (elapse a s).access = s.access := rfl

/-! What a counted access of PF0 writes (19 Table 19.5). -/

/-- The registers that a counted access writes. -/
def badRegs : List Nat := [barAddr 0 0x3F0010, barAddr 0 0x3F0014, barAddr 0 0x3F0018]

theorem State.onlyRegs_badAccess (s : State) (q : Req) (addr cause : Nat) : s.OnlyRegs badRegs (s.badAccess q addr cause) :=
  ((((State.OnlyRegs.refl s badRegs).set (by decide) _).set (by decide) _).set (by decide) _).set (by decide) _

/-- The count rises by 1 up to its top, and the cause, the address and the requester are recorded. -/
theorem State.badAccess_reads (s : State) {addr cause : Nat} (haddr : addr < 2 ^ 27) (hcause : cause < 8) :
    let t := s.badAccess .pf0 addr cause
    t.get 0 F.PKG_BAD_ACCESS_COUNT = min (2 ^ 28 - 1) (s.get 0 F.PKG_BAD_ACCESS_COUNT + 1) ∧
      t.get 0 F.PKG_BAD_ACCESS_LAST_CAUSE = cause ∧ t.get 0 F.PKG_BAD_ADDR_ADDR = addr ∧ t.get 0 F.PKG_BAD_REQ_REQ = 0 := by
  dsimp only [State.badAccess]
  refine ⟨?_, ?_, ?_, State.get_set_same _ (by decide) (by decide) ..⟩
  · rw [State.get_set_of_ne _ (by decide), State.get_set_of_ne _ (by decide),
      State.get_set_apart (f := F.PKG_BAD_ACCESS_LAST_CAUSE) (g := F.PKG_BAD_ACCESS_COUNT) _ (by decide) (by decide) rfl (by decide),
      State.get_bump _ (by decide) (by decide)]
    rfl
  · rw [State.get_set_of_ne _ (by decide), State.get_set_of_ne _ (by decide), State.get_set_same _ (by decide) (by decide)]
    exact Nat.mod_eq_of_lt hcause
  · rw [State.get_set_of_ne _ (by decide), State.get_set_same _ (by decide) (by decide)]
    exact Nat.mod_eq_of_lt haddr

/-- What the statement says of the state after a counted access, whatever is answered. -/
def State.TellsBad (s : State) (addr cause : Nat) (t : State) : Prop :=
  t.get 0 F.PKG_BAD_ACCESS_COUNT = min (2 ^ 28 - 1) (s.get 0 F.PKG_BAD_ACCESS_COUNT + 1) ∧
    t.get 0 F.PKG_BAD_ACCESS_LAST_CAUSE = cause ∧ t.get 0 F.PKG_BAD_ADDR_ADDR = addr ∧ t.get 0 F.PKG_BAD_REQ_REQ = 0 ∧
    s.OnlyRegs badRegs t ∧ s.SameBytes t ∧ t.evt = s.evt ∧ t.dies = s.dies

@[simp] theorem State.badAccess_regs (s : State) (q : Req) (addr cause : Nat) : (s.badAccess q addr cause).regs = s.regs := by
  rw [State.badAccess, State.set_regs, State.set_regs, State.set_regs, State.bump, State.set_regs]

@[simp] theorem State.badAccess_cellLog (s : State) (q : Req) (addr cause : Nat) : (s.badAccess q addr cause).cellLog = s.cellLog := by
  rw [State.badAccess, State.set_cellLog, State.set_cellLog, State.set_cellLog, State.bump, State.set_cellLog]

@[simp] theorem State.badAccess_out (s : State) (q : Req) (addr cause : Nat) : (s.badAccess q addr cause).out = s.out := by
  rw [State.badAccess, State.set_out, State.set_out, State.set_out, State.bump, State.set_out]

@[simp] theorem State.badAccess_evt (s : State) (q : Req) (addr cause : Nat) : (s.badAccess q addr cause).evt = s.evt := by
  rw [State.badAccess, State.set_evt, State.set_evt, State.set_evt, State.bump, State.set_evt]

@[simp] theorem State.badAccess_dies (s : State) (q : Req) (addr cause : Nat) : (s.badAccess q addr cause).dies = s.dies := by
  rw [State.badAccess, State.set_dies, State.set_dies, State.set_dies, State.bump, State.set_dies]

@[simp] theorem State.badAccess_access (s : State) (q : Req) (addr cause : Nat) : (s.badAccess q addr cause).access = s.access := by
  rw [State.badAccess, State.set_access, State.set_access, State.set_access, State.bump, State.set_access]

theorem State.emits_nil (s : State) : s.emits [] = s := by rw [State.emits, List.append_nil]

theorem State.onlyRegs_emits {s u : State} {l : List Nat} (es : List Emit) (h : s.OnlyRegs l u) : s.OnlyRegs l (u.emits es) := h

theorem State.get_commit_emits {s u : State} (hk : s.Kept) (es : List Emit) (hregs : u.regs = s.regs) (d : Nat) (f : Fld) (i j : Nat) :
    (s.commit (u.emits es)).get d f i j = u.get d f i j :=
  State.get_commit (u := u.emits es) hk hregs d f i j

section
variable {a : At} {s : State} {addr cause : Nat} (hk : s.Kept) (haddr : addr < 2 ^ 27) (hcause : cause < 8)
include hk haddr hcause

/-- A counted access is told so, and nothing else is sent than what answers it. -/
theorem State.tellsBad_commit (es : List Emit) :
    s.TellsBad addr cause (s.commit (((elapse a s).badAccess .pf0 addr cause).emits es)) ∧
      (s.commit (((elapse a s).badAccess .pf0 addr cause).emits es)).out = es := by
  obtain ⟨b, hb⟩ : ∃ b, elapse a s = b := ⟨_, rfl⟩
  have hreg : ∀ n, b.reg n = s.reg n := fun n => by rw [← hb, State.reg_elapse hk.2.2.1 a]
  have hregs : b.regs = s.regs := by rw [← hb, elapse]
  have hcells : b.cellLog = [] := by rw [← hb, elapse]
  have hout : b.out = [] := by rw [← hb, elapse]
  have hevt : b.evt = s.evt := by rw [← hb, elapse]
  have hdies : b.dies = s.dies := by rw [← hb, elapse]
  rw [hb]
  obtain ⟨hcount, hlast, hat, hreq⟩ := b.badAccess_reads haddr hcause
  have hsame : (b.badAccess .pf0 addr cause).regs = s.regs := by rw [State.badAccess_regs, hregs]
  refine ⟨⟨?_, ?_, ?_, ?_, State.onlyRegs_commit hk (by rw [State.emits_regs, hsame]) ?_, State.sameBytes_commit hk ?_, ?_, ?_⟩, ?_⟩
  · rw [State.get_commit_emits hk es hsame, hcount, State.get, State.word, hreg, State.get, State.word]
  · rw [State.get_commit_emits hk es hsame, hlast]
  · rw [State.get_commit_emits hk es hsame, hat]
  · rw [State.get_commit_emits hk es hsame, hreq]
  · exact State.onlyRegs_emits es fun n hn => (b.onlyRegs_badAccess .pf0 addr cause n hn).trans (hreg n)
  · rw [State.emits_cellLog, State.badAccess_cellLog, hcells]
  · rw [State.commit_evt, State.emits_evt, State.badAccess_evt, hevt]
  · rw [State.commit_dies, State.emits_dies, State.badAccess_dies, hdies]
  · rw [State.commit_out, State.emits, State.badAccess_out, hout, List.nil_append]

/-- An access of PF0 whose verdict counts it: the read is answered, and the write discarded. -/
theorem gives_badAccess {len : Nat} {be : Bool} {v : Verdict} {c : Completion} (hw : s.Unwaited) (hrest : (elapse a s).resting = false)
    (hplain : addr ≠ 0x3F0040) (hverdict : ∀ write, (elapse a s).accessVerdict .pf0 addr len be write = v)
    (hv : v ≠ .go ∧ v ≠ .behind ∧ v ≠ .waits ∧ v ≠ .held)
    (hread : ∀ b : State, b.turnAwayRead .pf0 addr len none v = (b.badAccess .pf0 addr cause).emits [.completion .pf0 c])
    (hwrite : ∀ (b : State) d off v0 v1 w, b.turnAwayWrite .pf0 addr d off len v0 v1 w v = b.badAccess .pf0 addr cause) :
    Gives (.registerRead a .pf0 addr len be) s (fun t => s.TellsBad addr cause t ∧ t.out = [.completion .pf0 c]) ∧
      ∀ v0 v1 w, Gives (.registerWrite a .pf0 addr len be v0 v1 w) s fun t => s.TellsBad addr cause t ∧ t.out = [] := by
  have hserve : (elapse a s).serve a = elapse a s := State.serve_of_unwaited (s := elapse a s) hw a
  have hwaits : ∀ es, (((elapse a s).badAccess .pf0 addr cause).emits es).Unwaited := fun es => by
    refine hw.of_access ?_
    rw [State.emits_access, State.badAccess_access, elapse_access]
  constructor
  · have harrive : ReadsAt a (.registerRead a .pf0 addr len be) s .pf0 addr len 0 be (elapse a s) :=
      .inl ⟨rfl, haddr, .inl ⟨by simp [isFence, hplain], hserve.symm, rfl⟩⟩
    have hset := harrive.accesses.2 hrest
    rw [State.beginRead_turnedAway (hverdict false) hv, hread] at hset
    exact (hset.yields (hwaits _)).gives (State.tellsBad_commit hk haddr hcause _)
  · intro v0 v1 w
    have hset := (accesses_registerWrite (s := s) haddr a .pf0 len be v0 v1 w).2 hrest
    rw [hserve, State.beginWrite_turnedAway (hverdict true) hv.1, hwrite, ← State.emits_nil (State.badAccess ..)] at hset
    exact (hset.yields (hwaits _)).gives (State.tellsBad_commit hk haddr hcause _)

end

/-- Settles O45: the verdict is by shape or by die, before any other row of Table 19.2 but that of the blocks, which cannot apply. -/
theorem badAccessesAreCountedAndRecorded : Obligations.BadAccessesAreCountedAndRecorded := by
  rintro a addr len cause be s hk hw hrest haddr hplain off shape (⟨rfl, hshape⟩ | ⟨rfl, hshape, hdie⟩) told
  · exact gives_badAccess hk haddr (by decide) hw hrest hplain
      (fun _ => (State.accessVerdict_pf0_addr hplain).trans (State.verdict_shape hshape)) (by decide) (fun _ => rfl) fun _ _ _ _ _ _ => rfl
  · exact gives_badAccess hk haddr (by decide) hw hrest hplain
      (fun _ => (State.accessVerdict_pf0_addr hplain).trans (State.verdict_noDie hshape hdie)) (by decide) (fun _ => rfl)
      fun _ _ _ _ _ _ => rfl

end Sys2Proof.Machine
end

section
/-! Counters cleared, and flags cleared by writing 1, in the cycle of their events (19 R488): O46. -/

namespace Sys2Proof.Machine

theorem exec_counterClear (a : At) (q : Req) (off : Nat) (v : Word) (inc : Nat) (s : State) :
    exec (.counterClear a q off v inc) s = execCounterClear a q off v inc s := rfl

theorem exec_w1cClear (a : At) (q : Req) (off : Nat) (v hwSet : Word) (s : State) :
    exec (.w1cClear a q off v hwSet) s = execW1cClear a q off v hwSet s := rfl

/-- A register written last in a command reads as written. -/
theorem State.reg_commit_setReg {s : State} (hk : s.Kept) (u : State) (n : Nat) (w : Word) : (s.commit (u.setReg n w)).reg n = w := by
  rw [State.reg_commit hk, State.setReg, logFind_cons, if_pos rfl, Option.getD_some]

theorem State.onlyRegs_setReg {s u : State} {l : List Nat} (h : s.OnlyRegs l u) {n : Nat} (hn : n ∈ l) (w : Word) :
    s.OnlyRegs l (u.setReg n w) := fun m hm => by
  rw [State.reg_setReg, if_neg (ne_of_mem_of_not_mem hn hm), h m hm]

/-- A counter counts to 1 at least. -/
theorem counterTop_pos {r : RegDesc} (h : isCounter r = true) : 1 ≤ counterTop r := by
  unfold isCounter at h
  unfold counterTop
  split at h
  case h_1 c n hfields =>
    simp only [Bool.and_eq_true, beq_iff_eq] at h
    obtain ⟨-, ⟨-, -⟩, hlo⟩ := h
    have hpow : 2 ≤ 2 ^ (n.hi + 1) := Nat.le_self_pow (by omega) 2
    simp only [hfields, List.map_cons, List.map_nil, List.foldl_cons, List.foldl_nil, hlo, if_true]
    omega
  case h_2 => simp at h

section
variable {a : At} {q : Req} {off inc : Nat} {v : Word} {s : State} {r : RegDesc} (h : s.Admits a q off) (hr : regAt off = some r)
  (hacts : (s.admitted a q off).acts a.die off = true) (hclear : wordGet v 31 31 = 1)
include h hr hacts hclear

/-- The counter is 0 first, and the increments of the cycle follow. -/
theorem yields_counterClear (hcount : isCounter r = true) :
    Yields (.counterClear a q off v inc) s (((s.admitted a q off).setReg (barAddr a.die off) 0).setReg (barAddr a.die off)
      (wordSet 0 30 0 (min inc (counterTop r)))) := by
  refine h.yields (by simp [hr, hcount, hclear]) (exec_counterClear a q off v inc s) ?_
  have hdword : (s.admitted a q off).writeDword a.die off a.cyc q v {} = (s.admitted a q off).setReg (barAddr a.die off) 0 := by
    simp [State.writeDword, hr, hacts, hcount, hclear]
  simp only [hr, hacts, hdword, hcount, if_true, State.reg_setReg]

end

/-- PKG_BAD_ACCESS is no counter register of its own shape. -/
theorem regAt_badAccess : regAt 0x3F0010 = some Reg.PKG_BAD_ACCESS := by decide

/-- PKG_BAD_ACCESS cleared. -/
def State.badCleared (s : State) : State := (s.set 0 F.PKG_BAD_ACCESS_COUNT 0).set 0 F.PKG_BAD_ACCESS_LAST_CAUSE 0

/-- Its CLEAR: COUNT and LAST_CAUSE are 0 first, and the increments of the cycle follow. -/
theorem yields_counterClear_badAccess {a : At} {q : Req} {inc : Nat} {v : Word} {s : State} (h : s.Admits a q 0x3F0010) (hd : a.die = 0)
    (hclear : wordGet v 31 31 = 1) : Yields (.counterClear a q 0x3F0010 v inc) s
      ((s.admitted a q 0x3F0010).badCleared.setReg (barAddr 0 0x3F0010)
        (wordSet ((s.admitted a q 0x3F0010).badCleared.reg (barAddr 0 0x3F0010)) 27 0 (min inc (2 ^ 28 - 1)))) := by
  have hno : isCounter Reg.PKG_BAD_ACCESS = false := by decide
  have htop : counterTop Reg.PKG_BAD_ACCESS = 2 ^ 28 - 1 := by decide
  have hacts : ∀ t : State, t.acts a.die 0x3F0010 = true := fun t => by rw [hd]; rfl
  refine h.yields (by rw [regAt_badAccess, hclear]; rfl) (exec_counterClear a q 0x3F0010 v inc s) ?_
  have hdword : (s.admitted a q 0x3F0010).writeDword a.die 0x3F0010 a.cyc q v {} = (s.admitted a q 0x3F0010).badCleared := by
    have hhigh : (s.admitted a q 0x3F0010).writeHigh a.die 0x3F0010 q Reg.PKG_BAD_ACCESS v {} = (s.admitted a q 0x3F0010).badCleared := by
      simp [State.writeHigh, Reg.PKG_BAD_ACCESS, hclear, State.badCleared]
    simp [State.writeDword, regAt_badAccess, hacts, hno, hhigh]
  simp only [regAt_badAccess, hacts, hdword, hno, htop, if_true, Bool.false_eq_true, if_false]
  rw [hd]

/-- The bits written 1 are cleared but for those that the hardware sets, which then read 1. -/
theorem yields_w1cClear {a : At} {q : Req} {off : Nat} {v hwSet : Word} {s : State} {r : RegDesc} (h : s.Admits a q off)
    (hr : regAt off = some r) (hacts : (s.admitted a q off).acts a.die off = true) (hv : v &&& r.mask (· == .w1c) ≠ 0) {m : Word}
    (hm : hwSet &&& r.mask (· == .w1c) = m) {u : State} (hu : (s.admitted a q off).writeDword a.die off a.cyc q (v &&& ~~~ m) {} = u) :
    Yields (.w1cClear a q off v hwSet) s (u.setReg (barAddr a.die off) (u.reg (barAddr a.die off) ||| m)) := by
  rw [Yields, exec_w1cClear, execW1cClear, onWrite_admits h (by simpa [hr] using hv)]
  simp only [hr, Option.map_some, Option.getD_some, hm, hacts, hu, if_true]

theorem or_and_eq_right (x m : Word) : (x ||| m) &&& m = m := by
  ext i hi
  rw [BitVec.getElem_and, BitVec.getElem_or]
  cases x[i] <;> simp

/-- What a command leaves that writes one register of its own after it was admitted. -/
theorem State.commit_setReg {n : Nat} {s u : State} (hk : s.Kept) (hregs : u.regs = s.regs)
    (hcells : u.cellLog = []) (hdies : u.dies = s.dies) (honly : s.OnlyRegs (n :: eddyRegs) u) (w : Word) :
    (s.commit (u.setReg n w)).reg n = w ∧ s.OnlyRegs (n :: eddyRegs) (s.commit (u.setReg n w)) ∧
      s.SameBytes (s.commit (u.setReg n w)) ∧ (s.commit (u.setReg n w)).dies = s.dies :=
  ⟨State.reg_commit_setReg hk u n w,
    State.onlyRegs_commit hk (by rw [State.setReg_regs, hregs]) (State.onlyRegs_setReg honly List.mem_cons_self w),
    State.sameBytes_commit hk (by rw [State.setReg_cellLog, hcells]), by rw [State.commit_dies, State.setReg_dies, hdies]⟩

theorem State.OnlyRegs.cons {s t : State} {l : List Nat} (h : s.OnlyRegs l t) (n : Nat) : s.OnlyRegs (n :: l) t :=
  fun m hm => h m (List.not_mem_of_not_mem_cons hm)

theorem gives_counterClear {a : At} {q : Req} {off inc : Nat} {v : Word} {s : State} {r : RegDesc} (h : s.Admits a q off)
    (hr : regAt off = some r) (hacts : (s.admitted a q off).acts a.die off = true) (hclear : wordGet v 31 31 = 1)
    (hcount : isCounter r = true) : Gives (.counterClear a q off v inc) s fun t =>
      t.reg (barAddr a.die off) = wordSet 0 30 0 (min inc (counterTop r)) ∧ (inc = 1 → t.reg (barAddr a.die off) = 1) ∧
      s.OnlyRegs (barAddr a.die off :: eddyRegs) t ∧ s.SameBytes t ∧ t.dies = s.dies := by
  have hk := h.1
  have hzero := State.onlyRegs_setReg ((State.onlyRegs_admitted hk a q off).cons (barAddr a.die off)) List.mem_cons_self 0
  obtain ⟨hreg, honly, hbytes, hdies⟩ := State.commit_setReg hk (by rw [State.setReg_regs, State.admitted_regs hk])
    (by rw [State.setReg_cellLog, State.admitted_cellLog hk]) (by rw [State.setReg_dies, State.admitted_dies hk]) hzero
    (wordSet 0 30 0 (min inc (counterTop r)))
  refine (yields_counterClear h hr hacts hclear hcount).gives ⟨hreg, ?_, honly, hbytes, hdies⟩
  rintro rfl
  rw [hreg, Nat.min_eq_left (counterTop_pos hcount)]
  decide

theorem gives_counterClear_badAccess {a : At} {q : Req} {inc : Nat} {v : Word} {s : State} (h : s.Admits a q 0x3F0010) (hd : a.die = 0)
    (hclear : wordGet v 31 31 = 1) : Gives (.counterClear a q 0x3F0010 v inc) s fun t =>
      t.get 0 F.PKG_BAD_ACCESS_COUNT = min inc (2 ^ 28 - 1) ∧ t.get 0 F.PKG_BAD_ACCESS_LAST_CAUSE = 0 ∧
      s.OnlyRegs (barAddr 0 0x3F0010 :: eddyRegs) t ∧ s.SameBytes t ∧ t.dies = s.dies := by
  have hk := h.1
  have hat : barAddr 0 (Reg.PKG_BAD_ACCESS.off 0 0) = barAddr 0 0x3F0010 := rfl
  obtain ⟨b, hb⟩ : ∃ b, s.admitted a q 0x3F0010 = b := ⟨_, rfl⟩
  have hadm : s.OnlyRegs eddyRegs b := hb ▸ State.onlyRegs_admitted hk a q 0x3F0010
  have honly : s.OnlyRegs (barAddr 0 0x3F0010 :: eddyRegs) b.badCleared :=
    ((hadm.cons _).set (f := F.PKG_BAD_ACCESS_COUNT) (by decide) _).set (f := F.PKG_BAD_ACCESS_LAST_CAUSE) (by decide) _
  have hlast : wordGet (b.badCleared.reg (barAddr 0 0x3F0010)) 30 28 = 0 :=
    State.get_set_same (b.set 0 F.PKG_BAD_ACCESS_COUNT 0) (f := F.PKG_BAD_ACCESS_LAST_CAUSE) (by decide) (by decide) 0 0 0 0
  have hyields := yields_counterClear_badAccess (inc := inc) h hd hclear
  rw [hb] at hyields
  obtain ⟨hreg, hrest, hbytes, hdies⟩ := State.commit_setReg hk
    (by rw [State.badCleared, State.set_regs, State.set_regs, ← hb, State.admitted_regs hk])
    (by rw [State.badCleared, State.set_cellLog, State.set_cellLog, ← hb, State.admitted_cellLog hk])
    (by rw [State.badCleared, State.set_dies, State.set_dies, ← hb, State.admitted_dies hk]) honly
    (wordSet (b.badCleared.reg (barAddr 0 0x3F0010)) 27 0 (min inc (2 ^ 28 - 1)))
  refine hyields.gives ⟨?_, ?_, hrest, hbytes, hdies⟩
  · rw [State.get, State.word, hat, hreg, wordGet_wordSet_same _ _ _ _ (by decide) (by decide)]
    exact Nat.mod_eq_of_lt (by omega)
  · rw [State.get, State.word, hat, hreg, wordGet_wordSet_other _ _ _ _ _ _ (by decide) (by decide) (by decide), hlast]

/-- Settles O46: what the command writes last is the register with the increments, or with the bits, of its cycle. -/
theorem clearsComeBeforeSameCycleEvents : Obligations.ClearsComeBeforeSameCycleEvents := by
  refine ⟨fun a q off inc v s r h hr hacts hclear => ⟨fun hcount => gives_counterClear h hr hacts hclear hcount, ?_⟩, ?_⟩
  · rintro rfl hd
    exact gives_counterClear_badAccess h hd hclear
  · intro a q off v hwSet s r h hr hacts m hv n u
    have hyields := yields_w1cClear h hr hacts hv rfl (u := u) rfl
    refine ⟨hyields, hyields.gives ?_⟩
    rw [State.reg_commit_setReg h.1]
    exact or_and_eq_right _ _

end Sys2Proof.Machine
end

section
/-! The commands of a virtual function's slot (13 R353, R362 to R364), the end of a quiesce and of a log swap: O28, O55. -/

namespace Sys2Proof.Machine

/-! The commands as their meanings. -/

theorem exec_vfnCreate (a : At) (q : Req) (v : Word) (s : State) : exec (.vfnCreate a q v) s = execVfnCreate a q v s := rfl

theorem exec_vfnQuiesce (a : At) (q : Req) (v : Word) (s : State) : exec (.vfnQuiesce a q v) s = execVfnQuiesce a q v s := rfl

theorem exec_vfnRelease (a : At) (q : Req) (v : Word) (s : State) : exec (.vfnRelease a q v) s = execVfnRelease a q v s := rfl

theorem exec_vfnDestroy (a : At) (q : Req) (v : Word) (s : State) : exec (.vfnDestroy a q v) s = execVfnDestroy a q v s := rfl

theorem exec_vfnRead (a : At) (q : Req) (v : Word) (s : State) : exec (.vfnRead a q v) s = execVfnRead a q v s := rfl

theorem exec_vfQuiesced (a : At) (f : Nat) (s : State) : exec (.vfQuiesced a f) s = execVfQuiesced a f s := rfl

theorem exec_vfLogSwapped (a : At) (f : Nat) (s : State) : exec (.vfLogSwapped a f) s = execVfLogSwapped a f s := rfl

theorem exec_logSwap (a : At) (q : Req) (n : Nat) (v : Word) (s : State) : exec (.logSwap a q n v) s = execLogSwap a q n v s := rfl


/-! A write of VFN_CMD on die 0 (13 R360). -/

/-- A command is a write of VFN_CMD whose OP is `op`, which runs `run` on the function it names. -/
def VfnCommand (i : Instr) (a : At) (q : Req) (v : Word) (op : Nat) (s : State) (run : State → Nat → State) : Prop :=
  exec i s = onWrite a q 0x240000 v (wordGet v 31 28 == op) s fun s => s.vfnCmd a.die v run

section
variable {i : Instr} {a : At} {q : Req} {v : Word} {op : Nat} {s b : State} {run : State → Nat → State}
  (hi : VfnCommand i a q v op s run) (h : s.Admits a q 0x240000) (hd : a.die = 0) (hop : wordGet v 31 28 = op)
  (hb : s.admitted a q 0x240000 = b)
include hi h hd hop hb

theorem yields_vfnCmd_busy (hbusy : b.flag 0 F.VFN_CMD_STATUS_BUSY = true) : Yields i s (b.bump 0 F.SKN_IGNORED_COUNT) := by
  refine h.yields (beq_iff_eq.mpr hop) hi ?_
  rw [hb, State.vfnCmd, hd, hbusy]
  rfl

variable (hidle : b.flag 0 F.VFN_CMD_STATUS_BUSY = false)
include hidle

theorem yields_vfnCmd_invalid (hno : b.validFunc (wordGet v 7 0) = false) :
    Yields i s (b.vfnDone (wordGet v 31 28) (wordGet v 7 0) 1 0) := by
  refine h.yields (beq_iff_eq.mpr hop) hi ?_
  rw [hb, State.vfnCmd, hd, hidle, hno]
  rfl

theorem yields_vfnCmd_run (hvalid : b.validFunc (wordGet v 7 0) = true) (hruns : b.runs (homeDie (wordGet v 7 0)) 36 = true) :
    Yields i s (run b (wordGet v 7 0)) := by
  refine h.yields (beq_iff_eq.mpr hop) hi ?_
  rw [hb, State.vfnCmd, hd, hidle, hvalid, hruns]
  rfl

end

/-- The five commands, each by its OP. -/
theorem vfnCommand_of_op {i : Instr} {a : At} {q : Req} {v : Word} (h : (i = Instr.vfnCreate a q v ∧ wordGet v 31 28 = 1) ∨
    (i = Instr.vfnQuiesce a q v ∧ wordGet v 31 28 = 2) ∨ (i = Instr.vfnRelease a q v ∧ wordGet v 31 28 = 3) ∨
    (i = Instr.vfnDestroy a q v ∧ wordGet v 31 28 = 4) ∨ (i = Instr.vfnRead a q v ∧ wordGet v 31 28 = 5)) (s : State) :
    ∃ run, VfnCommand i a q v (wordGet v 31 28) s run := by
  rcases h with ⟨rfl, hop⟩ | ⟨rfl, hop⟩ | ⟨rfl, hop⟩ | ⟨rfl, hop⟩ | ⟨rfl, hop⟩ <;> rw [hop]
  exacts [⟨_, exec_vfnCreate a q v s⟩, ⟨_, exec_vfnQuiesce a q v s⟩, ⟨_, exec_vfnRelease a q v s⟩, ⟨_, exec_vfnDestroy a q v s⟩,
    ⟨_, exec_vfnRead a q v s⟩]

/-! The end of a quiesce and of a log swap (13 R362, R368). -/

section
variable {a : At} {f : Nat} {s b : State} (h : s.On { a with die := homeDie f } 36) (hlo : 1 ≤ f) (hhi : f ≤ 31 * s.part.dies)
  (hb : s.begun { a with die := homeDie f } 36 = b)
include h hlo hhi hb

theorem yields_vfQuiesced {x : Slot} {u : State} (hx : b.slot f = x) (hst : x.st = 3) (htags : b.tagsOf f = [])
    (hu : { b with vfn := { b.vfn with busyFor := 0 } } = u) :
    Yields (.vfQuiesced a f) s (((u.putSlot f { x with st := 4 }).vfnDone 2 f 0 0).raise (homeDie f) 36 0x904 1
      [(1, f), (3, 0), (4, (u.now - x.quiesceAt) / us 1), (4, x.discarded)]) := by
  have hgo : ¬(x.st ≠ 3 ∨ (!(b.tagsOf f).isEmpty) = true) := by simp [hst, htags]
  refine h.yields (by simp [hlo, hhi]) (exec_vfQuiesced a f s) ?_
  simp only [hb, hx]
  rw [if_neg hgo, hu]

theorem yields_vfLogSwapped {x : Slot} {o : Bool} {base : Nat} (hx : b.slot f = x)
    (hpending : b.flag (homeDie f) F.VFN_VF_LOG_CTL_SWAP_PENDING (slotNo f) = true)
    (ho : b.flag (homeDie f) F.VFN_VF_LOG_CTL_ACTIVE (slotNo f) = o)
    (hbase : (if o then b.pair (homeDie f) Reg.VFN_VF_LOG_B_LO Reg.VFN_VF_LOG_B_HI (slotNo f)
      else b.pair (homeDie f) Reg.VFN_VF_LOG_A_LO Reg.VFN_VF_LOG_A_HI (slotNo f)) = base) {u : State}
    (hu : ((b.emits ((bitmapWords x.oldPages).map fun p => .hostWrite 0 (base / 8 * 8 + 8 * p.1) (leBytes 8 p.2))).set (homeDie f)
      F.VFN_VF_LOG_CTL_ACTIVE (b2n (!o)) (slotNo f)).set (homeDie f) F.VFN_VF_LOG_CTL_SWAP_PENDING 0 (slotNo f) = u) :
    Yields (.vfLogSwapped a f) s ((u.putSlot f { x with oldPages := [] }).raise (homeDie f) 36 0x907 0
      [(1, f), (1, b2n (!o)), (2, 0), (4, x.oldPages.length), (4, u.tsAt x.swapAt % 2 ^ 30), (4, u.tsAt x.swapAt / 2 ^ 30)]) := by
  refine h.yields (by simp [hlo, hhi]) (exec_vfLogSwapped a f s) ?_
  simp only [hb, hx, hpending, ho, hbase, hu, Bool.not_true, Bool.false_eq_true, if_false]

end

/-- Settles O28. -/
theorem virtualFunctionCommandsTakeEffect : Obligations.VirtualFunctionCommandsTakeEffect := by
  refine ⟨?commands, ?ends, fun a q n v s hn h hv => h.yields (by simp [hn, hv]) (exec_logSwap a q n v s) rfl⟩
  case commands =>
    intro a q v s h hd b f
    refine ⟨fun i hi => ?_, fun hidle hvalid hruns => ⟨?_, ?_, ?_, ?_, ?_⟩⟩
    · obtain ⟨run, hrun⟩ := vfnCommand_of_op hi s
      exact ⟨yields_vfnCmd_busy hrun h hd rfl rfl, yields_vfnCmd_invalid hrun h hd rfl rfl⟩
    · exact fun hop => yields_vfnCmd_run (exec_vfnCreate a q v s) h hd hop rfl hidle hvalid hruns
    · exact fun hop => yields_vfnCmd_run (exec_vfnQuiesce a q v s) h hd hop rfl hidle hvalid hruns
    · exact fun hop => yields_vfnCmd_run (exec_vfnRelease a q v s) h hd hop rfl hidle hvalid hruns
    · exact fun hop => yields_vfnCmd_run (exec_vfnDestroy a q v s) h hd hop rfl hidle hvalid hruns
    · exact fun hop => yields_vfnCmd_run (exec_vfnRead a q v s) h hd hop rfl hidle hvalid hruns
  case ends =>
    intro a f s h hlo hhi b d x
    refine ⟨?_, ?_⟩
    · intro hst htags u
      exact yields_vfQuiesced h hlo hhi rfl rfl hst htags rfl
    · intro i hpending o base u' u ts
      exact yields_vfLogSwapped h hlo hhi rfl rfl hpending rfl rfl rfl

/-! A register that a command writes reads as written after it, whatever the command did besides. -/

theorem State.logFind_set_same (s : State) (d v i j : Nat) (f : Fld) :
    (logFind (s.set d f v i j).regLog (barAddr d (f.reg.off i j))).isSome = true := by
  rw [State.set, State.setWord, State.setReg, logFind_cons, if_pos rfl, Option.isSome_some]

theorem State.logFind_set_of_ne (s : State) {d i j n : Nat} {f : Fld} (h : n ≠ barAddr d (f.reg.off i j)) (v : Nat) :
    logFind (s.set d f v i j).regLog n = logFind s.regLog n := by
  rw [State.set, State.setWord, State.setReg, logFind_cons, if_neg h.symm]

theorem State.get_commit_logged {s u : State} (hk : s.Kept) {d i j : Nat} {f : Fld}
    (h : (logFind u.regLog (barAddr d (f.reg.off i j))).isSome = true) : (s.commit u).get d f i j = u.get d f i j := by
  obtain ⟨w, hw⟩ := Option.isSome_iff_exists.mp h
  rw [State.get, State.word, State.reg_commit hk, hw, State.get, State.word, State.reg.eq_def u, hw, Option.getD_some, Option.getD_some]

/-! DESTROY (13 R364). -/

theorem State.raise_slot (s : State) (d src code sev : Nat) (x : List (Nat × Nat)) (f : Nat) :
    (s.raise d src code sev x).slot f = s.slot f := rfl

theorem State.onlyRegs_raise {s u : State} {l : List Nat} (h : s.OnlyRegs l u) (d src code sev : Nat) (x : List (Nat × Nat)) :
    s.OnlyRegs l (u.raise d src code sev x) := h

theorem State.admitted_vfn {s : State} (hk : s.Kept) (a : At) (q : Req) (off : Nat) : (s.admitted a q off).vfn = s.vfn := by
  obtain ⟨i, l, e, x, h, -⟩ := s.admitted_eq hk a q off
  rw [h]
  rfl

theorem State.commit_slot (s u : State) (f : Nat) : (s.commit u).slot f = u.slot f := rfl

theorem State.slot_putSlot (s : State) (f : Nat) (x : Slot) : (s.putSlot f x).slot f = x := by
  rw [State.slot, State.putSlot, Table.look_put, if_pos rfl]

/-- The command's status and its short item, as a command's end writes them. -/
def State.vfnStatus (s : State) (result item : Nat) : State :=
  (((s.set 0 F.VFN_CMD_STATUS_RESULT result).set 0 F.VFN_CMD_STATUS_BUSY 0).wrap 0 F.VFN_CMD_STATUS_SEQ).set 0 F.VFN_CMD_SHORT_ITEM item

theorem State.vfnDone_ok (s : State) (op f item : Nat) : s.vfnDone op f 0 item = s.vfnStatus 0 item := rfl

theorem State.vfnDone_refused (s : State) (op f item : Nat) {result : Nat} (h : result ≠ 0) :
    s.vfnDone op f result item = (s.vfnStatus result item).raise 0 36 0x902 2 [(1, op), (1, result), (1, f), (1, item)] := if_neg h

section
variable (s : State) (result item : Nat)

theorem State.slot_vfnStatus (f : Nat) : (s.vfnStatus result item).slot f = s.slot f := rfl

theorem State.vfnStatus_regs : (s.vfnStatus result item).regs = s.regs := by
  rw [State.vfnStatus, State.set_regs, State.wrap, State.set_regs, State.set_regs, State.set_regs]

theorem State.vfnStatus_cellLog : (s.vfnStatus result item).cellLog = s.cellLog := by
  rw [State.vfnStatus, State.set_cellLog, State.wrap, State.set_cellLog, State.set_cellLog, State.set_cellLog]

/-- The registers that it writes. -/
def vfnStatusRegs : List Nat := [barAddr 0 (Reg.VFN_CMD_STATUS.off 0 0), barAddr 0 (Reg.VFN_CMD_SHORT.off 0 0)]

theorem State.onlyRegs_vfnStatus : s.OnlyRegs vfnStatusRegs (s.vfnStatus result item) := by
  have hres := (State.OnlyRegs.refl s vfnStatusRegs).set (f := F.VFN_CMD_STATUS_RESULT) (d := 0) (i := 0) (j := 0) (by decide) result
  exact ((hres.set (by decide) _).set (by decide) _).set (by decide) _

theorem State.get_vfnStatus {r : Nat} (h : r < 256) : (s.vfnStatus r item).get 0 F.VFN_CMD_STATUS_RESULT = r := by
  rw [State.vfnStatus, State.get_set_of_ne _ (by decide), State.wrap,
    State.get_set_apart (f := F.VFN_CMD_STATUS_SEQ) (g := F.VFN_CMD_STATUS_RESULT) _ (by decide) (by decide) rfl (by decide),
    State.get_set_apart (f := F.VFN_CMD_STATUS_BUSY) (g := F.VFN_CMD_STATUS_RESULT) _ (by decide) (by decide) rfl (by decide),
    State.get_set_same _ (by decide) (by decide)]
  exact Nat.mod_eq_of_lt h

/-- The status is written by the command itself, whatever was written before. -/
theorem State.logFind_vfnStatus :
    (logFind (s.vfnStatus result item).regLog (barAddr 0 (Reg.VFN_CMD_STATUS.off 0 0))).isSome = true := by
  rw [State.vfnStatus, State.logFind_set_of_ne _ (by decide), State.wrap, State.logFind_set_same]

end

/-- DESTROY of a quiesced or released slot: its carve is given back first, and the slot is EMPTY in the end. -/
theorem State.destroyVf_quiet {b : State} {f : Nat} (h : (b.slot f).st = 4 ∨ (b.slot f).st = 5) :
    ∃ (c : State) (x : Slot), b.destroyVf f = ((c.putSlot f { x with st := 0, carve := {} }).vfnStatus 0 0).raise (homeDie f) 36 0x906 0
      [(1, f), (1, 1)] := by
  unfold State.destroyVf
  rcases h with h | h <;> rw [h]
  exacts [⟨_, _, rfl⟩, ⟨_, _, rfl⟩]

/-- In any other state it ends with a result of its own. -/
theorem State.destroyVf_refused {b : State} {f r : Nat}
    (h : ((b.slot f).st = 0 ∧ r = 2) ∨ (1 ≤ (b.slot f).st ∧ (b.slot f).st ≤ 3 ∧ r = 3)) : b.destroyVf f = b.vfnDone 4 f r 0 := by
  unfold State.destroyVf
  rcases h with ⟨h, rfl⟩ | ⟨hlo, hhi, rfl⟩
  · rw [h]
    rfl
  · generalize (b.slot f).st = st at hlo hhi
    obtain rfl | rfl | rfl : st = 1 ∨ st = 2 ∨ st = 3 := by omega
    exacts [rfl, rfl, rfl]

/-- Settles O55: DESTROY writes the slot last of all, and a refusal writes the command's status alone. -/
theorem destroyEmptiesOrIsRefused : Obligations.DestroyEmptiesOrIsRefused := by
  intro a q v s h hd hop b f hidle hvalid hruns
  have hk := h.1
  have hslot : b.slot f = s.slot f := by rw [State.slot, State.admitted_vfn hk, State.slot]
  have hflag : b.flag 0 F.VFN_CMD_STATUS_BUSY = false := by
    rw [State.flag, State.get_admitted hk a q _ (by decide)]
    exact hidle
  have hyields := yields_vfnCmd_run (exec_vfnDestroy a q v s) h hd hop rfl hflag hvalid hruns
  rw [← hslot]
  constructor
  · intro hst
    obtain ⟨c, x, hdone⟩ := State.destroyVf_quiet hst
    rw [show wordGet v 7 0 = f from rfl, hdone] at hyields
    obtain ⟨u, hu⟩ : ∃ u, c.putSlot f { x with st := 0, carve := {} } = u := ⟨_, rfl⟩
    have hempty : u.slot f = { x with st := 0, carve := {} } := hu ▸ State.slot_putSlot ..
    rw [hu] at hyields
    have hresult := State.get_commit_logged hk (u := (u.vfnStatus 0 0).raise (homeDie f) 36 0x906 0 [(1, f), (1, 1)])
      (f := F.VFN_CMD_STATUS_RESULT) (u.logFind_vfnStatus 0 0)
    obtain ⟨e, hlast, howner, -, -, hcode, -⟩ := ((u.vfnStatus 0 0).raised_raise (homeDie f) 36 0x906 0 [(1, f), (1, 1)]).commit s
    refine hyields.gives ⟨?_, ?_, ?_, e, hlast, hcode, howner⟩
    · rw [State.commit_slot, State.raise_slot, State.slot_vfnStatus, hempty]
    · rw [State.commit_slot, State.raise_slot, State.slot_vfnStatus, hempty]
    · rw [hresult, State.raise_get, State.get_vfnStatus _ _ (by decide)]
  · intro r hr
    rw [show wordGet v 7 0 = f from rfl, State.destroyVf_refused hr, State.vfnDone_refused _ _ _ _ (by omega)] at hyields
    have hregs : b.regs = s.regs := State.admitted_regs hk a q _
    have hcells : b.cellLog = [] := State.admitted_cellLog hk a q _
    have honly := (State.onlyRegs_admitted hk a q 0x240000).trans (State.onlyRegs_vfnStatus b r 0)
    refine hyields.gives ⟨?_, ?_, State.onlyRegs_commit hk ?_ ?_, State.sameBytes_commit hk ?_⟩
    · rw [State.commit_slot, State.raise_slot, State.slot_vfnStatus]
    · rw [State.get_commit hk (by rw [State.raise_regs, State.vfnStatus_regs, hregs]), State.raise_get, State.get_vfnStatus _ _ (by omega)]
    · rw [State.raise_regs, State.vfnStatus_regs, hregs]
    · exact State.onlyRegs_raise (l := vfnStatusRegs ++ eddyRegs) (fun n hn => honly n (by simpa [or_comm] using hn)) _ _ _ _ _
    · rw [State.raise_cellLog, State.vfnStatus_cellLog, hcells]

end Sys2Proof.Machine
end

section
/-! KEY_CMD's commands, the end of a key load and of its hold-off, and a tamper (17 R444, R445, R450 to R455): O34, O57. -/

namespace Sys2Proof.Machine

/-! The commands as their meanings. -/

theorem exec_keyLoad (a : At) (q : Req) (v : Word) (s : State) : exec (.keyLoad a q v) s = execKeyLoad a q v s := rfl

theorem exec_keyPin (a : At) (q : Req) (v : Word) (s : State) : exec (.keyPin a q v) s = execKeyPin a q v s := rfl

theorem exec_keyUnpin (a : At) (q : Req) (v : Word) (s : State) : exec (.keyUnpin a q v) s = execKeyUnpin a q v s := rfl

theorem exec_keyFlush (a : At) (q : Req) (v : Word) (s : State) : exec (.keyFlush a q v) s = execKeyFlush a q v s := rfl

theorem exec_keyAttest (a : At) (q : Req) (v : Word) (codes : List Nat) (s : State) :
    exec (.keyAttest a q v codes) s = execKeyAttest a q v codes s := rfl

theorem exec_keyProvision (a : At) (q : Req) (v : Word) (buf : List Byte) (codes : List Nat) (s : State) :
    exec (.keyProvision a q v buf codes) s = execKeyProvision a q v buf codes s := rfl

theorem exec_keyDeploy (a : At) (q : Req) (v : Word) (codes : List Nat) (s : State) :
    exec (.keyDeploy a q v codes) s = execKeyDeploy a q v codes s := rfl

theorem exec_keyReturn (a : At) (q : Req) (v : Word) (codes : List Nat) (s : State) :
    exec (.keyReturn a q v codes) s = execKeyReturn a q v codes s := rfl

theorem exec_keyScrap (a : At) (q : Req) (v : Word) (codes : List Nat) (s : State) :
    exec (.keyScrap a q v codes) s = execKeyScrap a q v codes s := rfl

theorem exec_keyLoadDone (a : At) (handle : Nat) (dirEntry blob : List Byte) (s : State) :
    exec (.keyLoadDone a handle dirEntry blob) s = execKeyLoadDone a handle dirEntry blob s := rfl

theorem exec_keyFailHoldoffEnd (a : At) (h : Nat) (s : State) : exec (.keyFailHoldoffEnd a h) s = execKeyFailHoldoffEnd a h s := rfl

theorem exec_keyTamper (a : At) (cause : Nat) (s : State) : exec (.keyTamper a cause) s = execKeyTamper a cause s := rfl


/-! A write of KEY_CMD (17 Table 17.6). -/

/-- A command writes KEY_CMD with its own OP; only PROVISION brings a buffer, and the commands of a store bring its codes. -/
def KeyWrites (i : Instr) (a : At) (q : Req) (v : Word) (buf : List Byte) (codes : List Nat) : Prop :=
  (i = Instr.keyLoad a q v ∧ wordGet v 31 28 = 1 ∧ buf = [] ∧ codes = []) ∨
  (i = Instr.keyPin a q v ∧ wordGet v 31 28 = 2 ∧ buf = [] ∧ codes = []) ∨
  (i = Instr.keyUnpin a q v ∧ wordGet v 31 28 = 3 ∧ buf = [] ∧ codes = []) ∨
  (i = Instr.keyFlush a q v ∧ wordGet v 31 28 = 4 ∧ buf = [] ∧ codes = []) ∨
  (i = Instr.keyAttest a q v codes ∧ wordGet v 31 28 = 5 ∧ buf = []) ∨
  (i = Instr.keyProvision a q v buf codes ∧ wordGet v 31 28 = 6) ∨
  (i = Instr.keyDeploy a q v codes ∧ wordGet v 31 28 = 7 ∧ buf = []) ∨
  (i = Instr.keyReturn a q v codes ∧ wordGet v 31 28 = 8 ∧ buf = []) ∨
  (i = Instr.keyScrap a q v codes ∧ wordGet v 31 28 = 9 ∧ buf = [])

section
variable {i : Instr} {a : At} {q : Req} {v : Word} {buf : List Byte} {codes : List Nat} (hi : KeyWrites i a q v buf codes)
include hi

theorem KeyWrites.op_range : 1 ≤ wordGet v 31 28 ∧ wordGet v 31 28 ≤ 9 := by
  unfold KeyWrites at hi
  omega

/-- Each of the nine is the same write. -/
theorem KeyWrites.exec_eq (s : State) : ∃ ok w, ok = true ∧ exec i s =
    onWrite a q 0x280020 v ok s (fun s => s.writeKeyCmd a.die q v buf codes) w := by
  rcases hi with ⟨rfl, hop, rfl, rfl⟩ | ⟨rfl, hop, rfl, rfl⟩ | ⟨rfl, hop, rfl, rfl⟩ | ⟨rfl, hop, rfl, rfl⟩ | ⟨rfl, hop, rfl⟩ |
    ⟨rfl, hop⟩ | ⟨rfl, hop, rfl⟩ | ⟨rfl, hop, rfl⟩ | ⟨rfl, hop, rfl⟩
  exacts [⟨_, _, beq_iff_eq.mpr hop, exec_keyLoad a q v s⟩, ⟨_, _, beq_iff_eq.mpr hop, exec_keyPin a q v s⟩,
    ⟨_, _, beq_iff_eq.mpr hop, exec_keyUnpin a q v s⟩, ⟨_, _, beq_iff_eq.mpr hop, exec_keyFlush a q v s⟩,
    ⟨_, _, beq_iff_eq.mpr hop, exec_keyAttest a q v codes s⟩, ⟨_, _, beq_iff_eq.mpr hop, exec_keyProvision a q v buf codes s⟩,
    ⟨_, _, beq_iff_eq.mpr hop, exec_keyDeploy a q v codes s⟩, ⟨_, _, beq_iff_eq.mpr hop, exec_keyReturn a q v codes s⟩,
    ⟨_, _, beq_iff_eq.mpr hop, exec_keyScrap a q v codes s⟩]

theorem KeyWrites.yields {s b u : State} (h : s.Admits a q 0x280020) (hb : s.admitted a q 0x280020 = b)
    (hu : b.writeKeyCmd a.die q v buf codes = u) : Yields i s u := by
  obtain ⟨ok, w, hok, hexec⟩ := hi.exec_eq s
  exact h.yields hok hexec (by rw [hb, hu])

end

/-! What the write does on die 0: it is ignored while a command is in progress, is refused to a requester other than PF0, or runs. -/

section
variable {b : State} {q : Req} {v : Word} {buf : List Byte} {codes : List Nat} (hop : 1 ≤ wordGet v 31 28 ∧ wordGet v 31 28 ≤ 9)
include hop

theorem keyOp_named : ¬((0 : Nat) ≠ 0 ∨ wordGet v 31 28 = 0 ∨ 9 < wordGet v 31 28) := by omega

theorem State.writeKeyCmd_busy (hbusy : b.key.cmd.isSome = true) : b.writeKeyCmd 0 q v buf codes = b.bump 0 F.SKN_IGNORED_COUNT := by
  rw [State.writeKeyCmd, if_neg (keyOp_named hop), if_pos hbusy]

variable (hidle : b.key.cmd = none)
include hidle

theorem State.writeKeyCmd_other (hq : q ≠ .pf0) (hno : (wordGet v 31 28 == 5 && q == .smb && b.boot.option.smbAttest) = false) :
    b.writeKeyCmd 0 q v buf codes = b.keyDone (wordGet v 31 28) (wordGet v 15 0) 10 := by
  rw [State.writeKeyCmd, if_neg (keyOp_named hop), hidle, if_neg (by simp), if_pos ⟨hq, by rw [hno]; rfl⟩]

/-- The command as it is taken up. -/
def State.keyCmd (s : State) (q : Req) (v : Word) : KeyCmd :=
  ⟨wordGet v 31 28, wordGet v 15 0, reqCode q, s.digest, (List.range 16).map fun k => s.word 0 Reg.KEY_ARG k, 0⟩

/-- PF0's command is taken up by its OP. -/
theorem State.writeKeyCmd_load (h : wordGet v 31 28 = 1) : b.writeKeyCmd 0 .pf0 v buf codes = b.loadCmd (b.keyCmd .pf0 v) := by
  rw [State.writeKeyCmd, if_neg (keyOp_named hop), hidle, if_neg (by simp), if_neg (by simp), State.keyCmd, h]
  rfl

theorem State.writeKeyCmd_pin (h : wordGet v 31 28 = 2) : b.writeKeyCmd 0 .pf0 v buf codes =
    if b.handleHeld (wordGet v 15 0) then (b.onHandle (wordGet v 15 0) fun x => { x with pinned := true }).keyDone 2 (wordGet v 15 0) 0
    else b.keyDone 2 (wordGet v 15 0) 3 := by
  rw [State.writeKeyCmd, if_neg (keyOp_named hop), hidle, if_neg (by simp), if_neg (by simp), h]
  rfl

theorem State.writeKeyCmd_unpin (h : wordGet v 31 28 = 3) : b.writeKeyCmd 0 .pf0 v buf codes =
    if b.handleHeld (wordGet v 15 0) then (b.onHandle (wordGet v 15 0) fun x => { x with pinned := false }).keyDone 3 (wordGet v 15 0) 0
    else b.keyDone 3 (wordGet v 15 0) 3 := by
  rw [State.writeKeyCmd, if_neg (keyOp_named hop), hidle, if_neg (by simp), if_neg (by simp), h]
  rfl

theorem State.writeKeyCmd_flush (h : wordGet v 31 28 = 4) :
    b.writeKeyCmd 0 .pf0 v buf codes = (b.flushKey (wordGet v 15 0)).keyDone 4 (wordGet v 15 0) 0 := by
  rw [State.writeKeyCmd, if_neg (keyOp_named hop), hidle, if_neg (by simp), if_neg (by simp), h]
  rfl

theorem State.writeKeyCmd_attest (h : wordGet v 31 28 = 5) : b.writeKeyCmd 0 .pf0 v buf codes =
    if (b.lc = 1 ∨ b.lc = 2) ∧ b.boot.fuses.ownerValid = true then b.openCounter (b.keyCmd .pf0 v) codes
    else b.keyDone 5 (wordGet v 15 0) 5 := by
  rw [State.writeKeyCmd, if_neg (keyOp_named hop), hidle, if_neg (by simp), if_neg (by simp), State.keyCmd, h]
  rfl

section
variable (h : wordGet v 31 28 = 6)
include h

theorem State.writeKeyCmd_provision_outside (hlc : lcAllows 6 b.lc = false) :
    b.writeKeyCmd 0 .pf0 v buf codes = b.keyDone 6 (wordGet v 15 0) 1 := by
  rw [State.writeKeyCmd, if_neg (keyOp_named hop), hidle, if_neg (by simp), if_neg (by simp), h]
  simp only [hlc, Bool.not_false, if_true]

variable (hlc : lcAllows 6 b.lc = true) {u : State}
  (hu : b.emit (.hostRead 0 (b.pair 0 Reg.KEY_CMD_ADDR_LO Reg.KEY_CMD_ADDR_HI) 200) = u)
include hlc hu

theorem State.writeKeyCmd_provision_bad (hbank : u.provisionBank buf = none) :
    b.writeKeyCmd 0 .pf0 v buf codes = u.keyDone 6 (wordGet v 15 0) 8 := by
  rw [State.writeKeyCmd, if_neg (keyOp_named hop), hidle, if_neg (by simp), if_neg (by simp), h]
  simp only [hlc, hu, hbank, Bool.not_true, Bool.false_eq_true, if_false]

theorem State.writeKeyCmd_provision {bank : List Byte} (hbank : u.provisionBank buf = some bank) :
    b.writeKeyCmd 0 .pf0 v buf codes = u.transition (b.keyCmd .pf0 v) (bank ++ crc32c bank) codes := by
  rw [State.writeKeyCmd, if_neg (keyOp_named hop), hidle, if_neg (by simp), if_neg (by simp), State.keyCmd, h]
  simp only [hlc, hu, hbank, Bool.not_true, Bool.false_eq_true, if_false]

end

/-- DEPLOY, RETURN and SCRAP. -/
theorem State.writeKeyCmd_transition (h : 7 ≤ wordGet v 31 28) : b.writeKeyCmd 0 .pf0 v buf codes =
    if lcAllows (wordGet v 31 28) b.lc = false then b.keyDone (wordGet v 31 28) (wordGet v 15 0) 1
    else if lcAuthorized (wordGet v 31 28) b.lc then b.openCounter (b.keyCmd .pf0 v) codes
    else b.transition (b.keyCmd .pf0 v) [] codes := by
  rw [State.writeKeyCmd, if_neg (keyOp_named hop), hidle, if_neg (by simp), if_neg (by simp), State.keyCmd]
  generalize wordGet v 31 28 = op at hop h
  obtain rfl | rfl | rfl : op = 7 ∨ op = 8 ∨ op = 9 := by omega
  all_goals simp only [Bool.not_eq_true']

end

/-! The end of a load, of a hold-off, and a tamper (17 R444, R455). -/

section
variable {a : At} {s b : State} (h : s.On a 34) (hb : s.begun a 34 = b)
include h hb

section
variable {handle : Nat} {dirEntry blob : List Byte} {l : KeyLoad} (hl : (b.die a.die).keyLoads.find? (fun l => l.handle == handle) = some l)
  {u : State} (hu : (b.modDie a.die fun x => { x with keyLoads := x.keyLoads.filter fun y => y != l }) = u)
include hl hu

theorem yields_keyLoadDone_error {reason owner : Nat} {counts : Bool} (hf : u.fetchKey l dirEntry blob = .error (reason, owner, counts)) :
    Yields (.keyLoadDone a handle dirEntry blob) s (u.keyFailed a.die l reason owner counts) := by
  refine h.yields rfl (exec_keyLoadDone a handle dirEntry blob s) ?_
  simp only [hb, hl, hu, hf]

variable {owner use_ e : Nat} {key : List Byte} (hf : u.fetchKey l dirEntry blob = .ok (owner, use_, key))
  (he : (if owner = 0 then a.die else homeDie owner) = e)
include hf he

theorem yields_keyLoadDone_full (hfull : u.takeSlot e owner = none) :
    Yields (.keyLoadDone a handle dirEntry blob) s (u.keyFailed a.die l 6 owner false) := by
  refine h.yields rfl (exec_keyLoadDone a handle dirEntry blob s) ?_
  simp only [hb, hl, hu, hf, he, hfull]

/-- The load takes a free slot, and no flush or tamper was in its cycle. -/
theorem yields_keyLoadDone_ok {n : Nat} (hn : u.takeSlot e owner = some (n, false)) (hflush : Table.find? u.key.flushedAt handle = none)
    (htamper : u.key.tamperAt = none) {w : State} (hw : u.bump e F.KEY_LOADS_COUNT = w) {x : State}
    (hx : (w.modDie e fun x => { x with
      keySlots := Table.put x.keySlots n { handle := handle, key := key, use_ := use_, used := w.now, owner := owner } }) = x) :
    Yields (.keyLoadDone a handle dirEntry blob) s ((x.modDie a.die fun x => { x with
      engines := l.engines.foldl (fun t e => Table.upd t e [] fun m => (handle :: m.filter (· != handle)).take 16) x.engines }).keyArrived
        l owner) := by
  refine h.yields rfl (exec_keyLoadDone a handle dirEntry blob s) ?_
  simp only [hb, hl, hu, hf, he, hn, hflush, htamper, Option.map_none, Option.getD_none, Bool.or_self, Bool.false_eq_true, if_false, hw, hx]

end

theorem yields_keyFailHoldoffEnd {k t : Nat} (hk : Table.find? (b.die a.die).keyFail k = some t) (ht : t ≤ b.now) :
    Yields (.keyFailHoldoffEnd a k) s (b.modDie a.die fun x => { x with keyFail := Table.del x.keyFail k }) := by
  refine h.yields rfl (exec_keyFailHoldoffEnd a k s) ?_
  simp only [hb, hk, fallen, ht, decide_true, if_true]

theorem yields_keyTamper {cause : Nat} (hlo : 1 ≤ cause) (hhi : cause ≤ 4) (hcounts : b.tamperCounts a.die cause = true)
    {r : State × Nat} (hr : b.destroySession = r) {t : State}
    (ht : { r.1 with key := { r.1.key with tamperAt := some r.1.now, rejects := if cause = 4 then [] else r.1.key.rejects } } = t) {u : State}
    (hu : ((t.set a.die F.KEY_TAMPER_LAST_CAUSE cause).bump a.die F.KEY_TAMPER_COUNT).raise a.die 34 0xB04 3
      [(1, cause), (1, a.die), (1, min 255 r.2)] = u) :
    Yields (.keyTamper a cause) s
      (if u.reachCode 11 = 3 then (List.range u.part.dies).foldl (fun s k => s.fire 11 3 k 34) u else u.fireReach 11 0 0) := by
  refine h.yields (by simp [hlo, hhi]) (exec_keyTamper a cause s) ?_
  simp only [hb, hcounts, hr, ht, hu, Bool.not_true, Bool.false_eq_true, if_false]

end

/-- Settles O34. -/
theorem keyCommandsAndLoadsComplete : Obligations.KeyCommandsAndLoadsComplete := by
  refine ⟨?commands, ?loads⟩
  case commands =>
    intro a q v buf codes s h hd b op hdl c i hi
    have hwrites : KeyWrites i a q v buf codes := hi
    have hop := hwrites.op_range
    have hyields : ∀ {u}, b.writeKeyCmd 0 q v buf codes = u → Yields i s u := fun hu => hwrites.yields h rfl (by rw [hd]; exact hu)
    refine ⟨fun hbusy => hyields (State.writeKeyCmd_busy hop hbusy), fun hidle hq hno => hyields (State.writeKeyCmd_other hop hidle hq hno), ?_⟩
    rintro hidle rfl
    refine ⟨?_, ?_, ?_, ?_, ?_, ?_, ?_⟩
    · exact fun h1 => hyields (State.writeKeyCmd_load hop hidle h1)
    · exact fun h2 => hyields (State.writeKeyCmd_pin hop hidle h2)
    · exact fun h3 => hyields (State.writeKeyCmd_unpin hop hidle h3)
    · exact fun h4 => hyields (State.writeKeyCmd_flush hop hidle h4)
    · exact fun h5 => hyields (State.writeKeyCmd_attest hop hidle h5)
    · refine fun h6 => ⟨fun hlc => hyields (State.writeKeyCmd_provision_outside hop hidle h6 hlc), fun hlc => ?_⟩
      intro u
      exact ⟨fun hbank => hyields (State.writeKeyCmd_provision_bad hop hidle h6 hlc rfl hbank),
        fun bank hbank => hyields (State.writeKeyCmd_provision hop hidle h6 hlc rfl hbank)⟩
    · exact fun h7 => hyields (State.writeKeyCmd_transition hop hidle h7)
  case loads =>
    intro a s h b d
    refine ⟨?_, fun k t hk ht => yields_keyFailHoldoffEnd h rfl hk ht, ?_⟩
    · intro handle dirEntry blob l hl u
      refine ⟨fun reason owner counts hf => yields_keyLoadDone_error h rfl hl rfl hf, fun owner use_ key hf => ?_⟩
      intro e
      refine ⟨fun hfull => yields_keyLoadDone_full h rfl hl rfl hf rfl hfull, fun n hn hflush htamper => ?_⟩
      exact yields_keyLoadDone_ok h rfl hl rfl hf rfl hn hflush htamper rfl rfl
    · intro cause hlo hhi hcounts
      exact yields_keyTamper h rfl hlo hhi hcounts rfl rfl rfl

/-! PIN and UNPIN (17 R445): what a command's end writes. -/

/-- Only the dies change where the slots of a handle do. -/
theorem State.onHandle_eq (s : State) (h : Nat) (f : KeySlot → KeySlot) : ∃ ds, s.onHandle h f = { s with dies := ds } := by
  rw [State.onHandle]
  generalize List.range s.part.dies = l
  induction l generalizing s with
  | nil => exact ⟨_, rfl⟩
  | cons d l ih =>
    obtain ⟨ds, hds⟩ := ih (s.modDie d fun x => { x with keySlots := x.keySlots.map fun p => if p.2.handle = h then (p.1, f p.2) else p })
    exact ⟨ds, hds⟩

/-- KEY_CMD_STATUS as a command's end writes it. -/
def State.keyStatus (s : State) (result : Nat) : State :=
  ((s.set 0 F.KEY_CMD_STATUS_RESULT result).set 0 F.KEY_CMD_STATUS_BUSY 0).wrap 0 F.KEY_CMD_STATUS_SEQ

theorem State.keyDone_ok (s : State) (op handle : Nat) :
    s.keyDone op handle 0 = State.keyStatus { s with key := { s.key with cmd := none } } 0 := rfl

theorem State.keyDone_refused (s : State) (op handle : Nat) {result : Nat} (h : result ≠ 0) : s.keyDone op handle result =
    (State.keyStatus { s with key := { s.key with cmd := none } } result).raise 0 34 0xB06 2 [(1, op), (1, result), (2, handle)] := if_neg h

section
variable (s : State) (result : Nat)

theorem State.keyStatus_regs : (s.keyStatus result).regs = s.regs := by
  rw [State.keyStatus, State.wrap, State.set_regs, State.set_regs, State.set_regs]

theorem State.keyStatus_cellLog : (s.keyStatus result).cellLog = s.cellLog := by
  rw [State.keyStatus, State.wrap, State.set_cellLog, State.set_cellLog, State.set_cellLog]

theorem State.keyStatus_out : (s.keyStatus result).out = s.out := by
  rw [State.keyStatus, State.wrap, State.set_out, State.set_out, State.set_out]

theorem State.keyStatus_evt : (s.keyStatus result).evt = s.evt := by
  rw [State.keyStatus, State.wrap, State.set_evt, State.set_evt, State.set_evt]

theorem State.onlyRegs_keyStatus {t : State} {l : List Nat} (h : t.OnlyRegs l s) :
    t.OnlyRegs (barAddr 0 (Reg.KEY_CMD_STATUS.off 0 0) :: l) (s.keyStatus result) :=
  (((h.cons _).set (f := F.KEY_CMD_STATUS_RESULT) List.mem_cons_self _).set (f := F.KEY_CMD_STATUS_BUSY) List.mem_cons_self _).set
    (f := F.KEY_CMD_STATUS_SEQ) List.mem_cons_self _

/-- BUSY reads 0, SEQ counts on, and RESULT is shown. -/
theorem State.get_keyStatus {r : Nat} (h : r < 256) : (s.keyStatus r).get 0 F.KEY_CMD_STATUS_BUSY = 0 ∧
    (s.keyStatus r).get 0 F.KEY_CMD_STATUS_SEQ = (s.get 0 F.KEY_CMD_STATUS_SEQ + 1) % 2 ^ 16 ∧
    (s.keyStatus r).get 0 F.KEY_CMD_STATUS_RESULT = r := by
  rw [State.keyStatus, State.wrap]
  refine ⟨?_, ?_, ?_⟩
  · rw [State.get_set_apart (f := F.KEY_CMD_STATUS_SEQ) (g := F.KEY_CMD_STATUS_BUSY) _ (by decide) (by decide) rfl (by decide),
      State.get_set_same _ (by decide) (by decide), Nat.zero_mod]
  · rw [State.get_set_same _ (by decide) (by decide),
      State.get_set_apart (f := F.KEY_CMD_STATUS_BUSY) (g := F.KEY_CMD_STATUS_SEQ) _ (by decide) (by decide) rfl (by decide),
      State.get_set_apart (f := F.KEY_CMD_STATUS_RESULT) (g := F.KEY_CMD_STATUS_SEQ) _ (by decide) (by decide) rfl (by decide)]
    exact Nat.mod_mod ..
  · rw [State.get_set_apart (f := F.KEY_CMD_STATUS_SEQ) (g := F.KEY_CMD_STATUS_RESULT) _ (by decide) (by decide) rfl (by decide),
      State.get_set_apart (f := F.KEY_CMD_STATUS_BUSY) (g := F.KEY_CMD_STATUS_RESULT) _ (by decide) (by decide) rfl (by decide),
      State.get_set_same _ (by decide) (by decide)]
    exact Nat.mod_eq_of_lt h

end

/-- What the end of a command shows, whose own effect writes no register and no byte and raises nothing. -/
def State.ShowsKey (s c : State) (result : Nat) (t : State) : Prop :=
  t.get 0 F.KEY_CMD_STATUS_BUSY = 0 ∧ t.get 0 F.KEY_CMD_STATUS_SEQ = (s.get 0 F.KEY_CMD_STATUS_SEQ + 1) % 2 ^ 16 ∧
    t.get 0 F.KEY_CMD_STATUS_RESULT = result ∧ s.OnlyRegs (barAddr 0 (Reg.KEY_CMD_STATUS.off 0 0) :: eddyRegs) t ∧ s.SameBytes t ∧
    t.out = [] ∧ (result = 0 → t.evt = c.evt)

section
variable {s c : State} (hk : s.Kept) (hregs : c.regs = s.regs) (hcells : c.cellLog = []) (hout : c.out = [])
  (honly : s.OnlyRegs eddyRegs c) {result : Nat} (hr : result < 256)
include hk hregs hcells hout honly hr

theorem State.showsKey_keyStatus : s.ShowsKey c result (s.commit (c.keyStatus result)) := by
  have hsame : (c.keyStatus result).regs = s.regs := by rw [State.keyStatus_regs, hregs]
  obtain ⟨hbusy, hseq, hresult⟩ := c.get_keyStatus hr
  have hold : c.get 0 F.KEY_CMD_STATUS_SEQ = s.get 0 F.KEY_CMD_STATUS_SEQ := honly.get (by decide)
  refine ⟨?_, ?_, ?_, State.onlyRegs_commit hk hsame (State.onlyRegs_keyStatus _ _ honly), State.sameBytes_commit hk ?_, ?_, fun _ => ?_⟩
  · rw [State.get_commit hk hsame, hbusy]
  · rw [State.get_commit hk hsame, hseq, hold]
  · rw [State.get_commit hk hsame, hresult]
  · rw [State.keyStatus_cellLog, hcells]
  · rw [State.commit_out, State.keyStatus_out, hout]
  · rw [State.commit_evt, State.keyStatus_evt]

theorem State.showsKey_refused (hne : result ≠ 0) (x : List (Nat × Nat)) :
    s.ShowsKey c result (s.commit ((c.keyStatus result).raise 0 34 0xB06 2 x)) := by
  obtain ⟨hbusy, hseq, hresult, hrest, hbytes, hsent, -⟩ := State.showsKey_keyStatus hk hregs hcells hout honly hr
  obtain ⟨u, hu⟩ : ∃ u, c.keyStatus result = u := ⟨_, rfl⟩
  have hsame : u.regs = s.regs := by rw [← hu, State.keyStatus_regs, hregs]
  rw [hu] at hbusy hseq hresult hrest hbytes hsent ⊢
  exact ⟨hbusy, hseq, hresult, hrest, hbytes, hsent, fun h => absurd h hne⟩

end

/-- The slots of the handle change or they do not: only the dies may differ when the command ends. -/
theorem State.writeKeyCmd_pins {b : State} {v : Word} (hidle : b.key.cmd = none) (hop : wordGet v 31 28 = 2 ∨ wordGet v 31 28 = 3) :
    (b.handleHeld (wordGet v 15 0) = true → ∃ ds, b.writeKeyCmd 0 .pf0 v [] [] =
      State.keyDone { b with dies := ds } (wordGet v 31 28) (wordGet v 15 0) 0) ∧
    (b.handleHeld (wordGet v 15 0) = false →
      b.writeKeyCmd 0 .pf0 v [] [] = b.keyDone (wordGet v 31 28) (wordGet v 15 0) 3) := by
  have hrange : 1 ≤ wordGet v 31 28 ∧ wordGet v 31 28 ≤ 9 := by omega
  rcases hop with hop | hop
  · rw [State.writeKeyCmd_pin hrange hidle hop, hop]
    refine ⟨fun hheld => ?_, fun hno => if_neg (by simp [hno])⟩
    obtain ⟨ds, hds⟩ := b.onHandle_eq (wordGet v 15 0) fun x => { x with pinned := true }
    exact ⟨ds, by rw [if_pos hheld, hds]⟩
  · rw [State.writeKeyCmd_unpin hrange hidle hop, hop]
    refine ⟨fun hheld => ?_, fun hno => if_neg (by simp [hno])⟩
    obtain ⟨ds, hds⟩ := b.onHandle_eq (wordGet v 15 0) fun x => { x with pinned := false }
    exact ⟨ds, by rw [if_pos hheld, hds]⟩

theorem State.admitted_key {s : State} (hk : s.Kept) (a : At) (q : Req) (off : Nat) : (s.admitted a q off).key = s.key := by
  obtain ⟨i, l, e, x, h, -⟩ := s.admitted_eq hk a q off
  rw [h]
  rfl

/-- Settles O57: a held handle's slots change and the status is written; one that is not held ends with 3, which is told. -/
theorem keyPinsShowTheirResult : Obligations.KeyPinsShowTheirResult := by
  intro a v s h hd hidle hdl i hi
  have hk := h.1
  have hwrites : KeyWrites i a .pf0 v [] [] := by
    rcases hi with ⟨rfl, hop⟩ | ⟨rfl, hop⟩
    exacts [.inr (.inl ⟨rfl, hop, rfl, rfl⟩), .inr (.inr (.inl ⟨rfl, hop, rfl, rfl⟩))]
  have hkey := State.admitted_key hk a .pf0 0x280020
  have hheld : (s.admitted a .pf0 0x280020).handleHeld hdl = s.handleHeld hdl := by
    simp only [State.handleHeld, State.die, State.admitted_part hk, State.admitted_dies hk]
  have hregs := State.admitted_regs hk a .pf0 0x280020
  have hcells := State.admitted_cellLog hk a .pf0 0x280020
  have hout := State.admitted_out hk a .pf0 0x280020
  have honly := State.onlyRegs_admitted hk a .pf0 0x280020
  have hyields := fun u hu => hwrites.yields (u := u) h rfl hu
  rw [← hheld]
  generalize s.admitted a .pf0 0x280020 = b at *
  rw [hd] at hyields
  obtain ⟨hok, hrefused⟩ := State.writeKeyCmd_pins (b := b) (v := v) (by rw [hkey, hidle]) (hi.imp (·.2) (·.2))
  cases hwhich : b.handleHeld hdl
  case true =>
    obtain ⟨ds, hdone⟩ := hok hwhich
    obtain ⟨hbusy, hseq, hresult, hrest, hbytes, hsent, hevt⟩ := State.showsKey_keyStatus (s := s)
      (c := { b with dies := ds, key := { b.key with cmd := none } }) hk hregs hcells hout honly (result := 0) (by decide)
    exact (hyields _ (hdone.trans (State.keyDone_ok ..))).gives
      ⟨hbusy, hseq, hresult, fun _ => hevt rfl, fun hno => Bool.noConfusion hno, hrest, hbytes, hsent⟩
  case false =>
    obtain ⟨hbusy, hseq, hresult, hrest, hbytes, hsent, -⟩ := State.showsKey_refused (s := s)
      (c := { b with key := { b.key with cmd := none } }) hk hregs hcells hout honly (result := 3) (by decide) (by decide)
      [(1, wordGet v 31 28), (1, 3), (2, hdl)]
    exact (hyields _ ((hrefused hwhich).trans (State.keyDone_refused _ _ _ (by decide)))).gives
      ⟨hbusy, hseq, hresult, fun hyes => Bool.noConfusion hyes, fun _ => (State.raised_raise ..).commit s, hrest, hbytes, hsent⟩

end Sys2Proof.Machine
end

section
/-! Semaphores freed, a lock ended, and a port promoted, after which what waited is served (12 R329, R343, R344): O37. -/

namespace Sys2Proof.Machine

/-! The commands as their meanings. -/

theorem exec_semRelease (a : At) (q : Req) (n : Nat) (v : Word) (s : State) : exec (.semRelease a q n v) s = execSemRelease a q n v s := rfl

theorem exec_semForce (a : At) (q : Req) (n : Nat) (v : Word) (s : State) : exec (.semForce a q n v) s = execSemForce a q n v s := rfl

theorem exec_unlockMessage (a : At) (s : State) : exec (.unlockMessage a) s = execUnlockMessage a s := rfl

theorem exec_portPromote (a : At) (q : Req) (v : Word) (s : State) : exec (.portPromote a q v) s = execPortPromote a q v s := rfl

theorem exec_autoPromote (a : At) (perst : Nat) (s : State) : exec (.autoPromote a perst) s = execAutoPromote a perst s := rfl


/-! A command after which what waits is served, by what it leaves before that. -/

theorem Yields.serves {a : At} {i : Instr} {o : Out} {s u : State} (hi : exec i s = thenServe a o) (ho : o = .next (s.commit u)) :
    Serves a i s u := by
  rw [Serves, hi, ho, thenServe]

theorem State.Admits.serves {i : Instr} {a : At} {q : Req} {off : Nat} {v : Word} {ok : Bool} {s b u : State} {f : State → State}
    (h : s.Admits a q off) (hok : ok = true) (hi : exec i s = thenServe a (onWrite a q off v ok s f))
    (hb : s.admitted a q off = b) (hf : f b = u) : Serves a i s u :=
  Yields.serves hi (by rw [onWrite_admits h hok, hb, hf])

theorem State.On.serves {i : Instr} {a c : At} {isl : Nat} {ok : Bool} {s b u : State} {f : State → State} (h : s.On c isl)
    (hok : ok = true) (hi : exec i s = thenServe a (onIsland c isl ok s f)) (hb : s.begun c isl = b) (hf : f b = u) : Serves a i s u :=
  Yields.serves hi (by rw [onIsland_on h hok, hb, hf])

/-! Semaphores (12 R344). -/

theorem State.writeSem_frees {s : State} {q : Req} {n : Nat} {v : Word}
    (h : (wordGet v 0 0 = 1 ∧ s.semHolder n = reqCode q) ∨ (wordGet v 1 1 = 1 ∧ q = .pf0)) : s.writeSem q n v = s.semSet n 0x1FF := if_pos h

theorem State.writeSem_leaves {s : State} {q : Req} {n : Nat} {v : Word}
    (hrelease : wordGet v 0 0 ≠ 1 ∨ s.semHolder n ≠ reqCode q) (hforce : wordGet v 1 1 ≠ 1 ∨ q ≠ .pf0) : s.writeSem q n v = s :=
  if_neg (by tauto)

section
variable {a : At} {q : Req} {n : Nat} {v : Word} {s b u : State} (hn : n < 64) (h : s.Admits a q (0x203000 + 4 * n))
  (hb : s.admitted a q (0x203000 + 4 * n) = b) (hd : a.die = b.primary) (hu : b.writeSem q n v = u)
include hn h hb hd hu

theorem serves_semRelease (hv : wordGet v 0 0 = 1) : Serves a (.semRelease a q n v) s u :=
  h.serves (by simp [hn, hv]) (exec_semRelease a q n v s) hb ((if_pos hd).trans hu)

theorem serves_semForce (hv : wordGet v 1 1 = 1) : Serves a (.semForce a q n v) s u :=
  h.serves (by simp [hn, hv]) (exec_semForce a q n v s) hb ((if_pos hd).trans hu)

end

/-! The host's Unlock (12 R343). -/

section
variable {a : At} {s b : State} (h : s.On a 19) (hb : s.begun a 19 = b)
include h hb

theorem serves_unlockMessage_none (hnone : b.brg.lock = none) : Serves a (.unlockMessage a) s b :=
  h.serves rfl (exec_unlockMessage a s) hb (by rw [hnone])

variable {l : Lock} (hl : b.brg.lock = some l) {u : State} (hu : (b.modBrg fun x => { x with lock := none }) = u)
include hl hu

theorem serves_unlockMessage_channel (hsem : l.vdp = none) :
    Serves a (.unlockMessage a) s (if u.semHolder l.sem = l.fn then u.semSet l.sem 0x1FF else u) :=
  h.serves rfl (exec_unlockMessage a s) hb (by simp only [hl, hsem, State.unlock, hu])

theorem serves_unlockMessage_far {v : Nat} (hfar : l.vdp = some v) {w : State} (hw : u.set u.primary F.BRG_VDP_STATUS_LOCKED 0 v = w) :
    Serves a (.unlockMessage a) s (if l.broken then w else w.forwardTlp v 3 l.fn 0 0 []) :=
  h.serves rfl (exec_unlockMessage a s) hb (by simp only [hl, hfar, State.unlock, hu, hw])

end

/-! Promotion (12 R329). -/

theorem serves_portPromote {a : At} {q : Req} {v : Word} {s b : State} (h : s.Admits a q 0x20000C) (hd : a.die = 0)
    (hv : wordGet v 31 31 = 1) (hb : s.admitted a q 0x20000C = b) :
    Serves a (.portPromote a q v) s (if b.standby (wordGet v 2 0) = true then b.promote (wordGet v 2 0) 1 else b) := by
  refine h.serves (beq_iff_eq.mpr hv) (exec_portPromote a q v s) hb ((if_pos hd).trans ?_)
  simp only [State.writePortCmd, hv, true_and]

/-- The lowest die for which a test holds. -/
theorem find_range_lowest {p : Nat → Bool} {d n : Nat} (hd : d < n) (hp : p d = true) (hlow : ∀ e, e < d → p e = false) :
    (List.range n).find? p = some d :=
  List.find?_range_eq_some.mpr ⟨hp, List.mem_range.mpr hd, fun e he => by rw [hlow e he]; rfl⟩

theorem serves_autoPromote {a : At} {perst t d : Nat} {s b : State} (h : s.On { a with die := 0 } 19) (hperst : perst < 256)
    (hb : s.begun { a with die := 0 } 19 = b) (ht : b.brg.downAt = some t) (hd : d < 8) (hstandby : b.standby d = true)
    (hbit : bit perst d = true) (hlow : ∀ e, e < d → ¬(b.standby e = true ∧ bit perst e = true))
    (hauto : b.flag 0 F.BRG_PORT_CFG_AUTO_PROMOTE = true)
    (hdue : fallen b (t + ms (b.get 0 F.BRG_PORT_CFG_PROMOTE_AFTER_MS)) = true) :
    Serves a (.autoPromote a perst) s (b.promote d 2) := by
  have hfind : (List.range 8).find? (fun d => b.standby d && bit perst d) = some d :=
    find_range_lowest hd (by rw [hstandby, hbit]; rfl) fun e he => by simpa using hlow e he
  refine h.serves (decide_eq_true hperst) (exec_autoPromote a perst s) hb ?_
  simp only [ht, hfind, hauto, hdue, Bool.and_self, if_true]

/-- Settles O37. -/
theorem semaphoresAreFreedAndPortsPromoted : Obligations.SemaphoresAreFreedAndPortsPromoted := by
  refine ⟨?semaphores, ?unlock, ?promote, ?auto⟩
  case semaphores =>
    intro a q n v s hn h b hd
    refine ⟨fun hv => ⟨fun hme => ?_, fun hother hforce => ?_⟩, fun hv => ⟨fun hq => ?_, fun hq hrelease => ?_⟩⟩
    · exact serves_semRelease hn h rfl hd (State.writeSem_frees (.inl ⟨hv, hme⟩)) hv
    · exact serves_semRelease hn h rfl hd (State.writeSem_leaves (.inr hother) (hforce.imp_left fun h0 => by omega)) hv
    · exact serves_semForce hn h rfl hd (State.writeSem_frees (.inr ⟨hv, hq⟩)) hv
    · exact serves_semForce hn h rfl hd (State.writeSem_leaves (hrelease.imp_left fun h0 => by omega) (.inr hq)) hv
  case unlock =>
    intro a s h b
    refine ⟨serves_unlockMessage_none h rfl, fun l hl => ?_⟩
    intro u
    refine ⟨serves_unlockMessage_channel h rfl hl rfl, fun v hfar => ?_⟩
    exact serves_unlockMessage_far h rfl hl rfl hfar rfl
  case promote =>
    intro a q v s h hd hv b
    have hserves := serves_portPromote h hd hv (b := b) rfl
    exact ⟨fun hyes => by rwa [if_pos hyes] at hserves, fun hno => by rwa [if_neg (by simp [hno])] at hserves⟩
  case auto =>
    intro a perst s h hperst b t d ht hd hstandby hbit hlow hauto hdue
    exact serves_autoPromote h hperst rfl ht hd hstandby hbit hlow hauto hdue

end Sys2Proof.Machine
end

section
/-! The end of a wait (19 R485), and locked reads (12 R343, R344): O36. -/

namespace Sys2Proof.Machine

theorem exec_accessWaitTimeout (a : At) (s : State) : exec (.accessWaitTimeout a) s = execAccessWaitTimeout a s := rfl

theorem exec_lockedRead (a : At) (f : Nat) (tgt : Target) (addr len tag : Nat) (s : State) :
    exec (.lockedRead a f tgt addr len tag) s = execLockedRead a f tgt addr len tag s := rfl


/-! The end of a wait. -/

/-- A deadline has passed, and a wait is decided on this die, for its island or for a semaphore. -/
def State.past (b : State) (d : Option Nat) : Bool := (d.map (fallen b)).getD false
def State.endedAt (b : State) (d : Nat) (x : Waiting) : Bool := b.past x.deadline && (if x.sem then b.primary == d else x.die == d)

/-- The messages of a state taken out of it, and put back. -/
def State.withMsgs (s : State) (l : List Msg) : State := { s with access := { s.access with msgs := l } }

theorem State.withMsgs_self {s : State} {l : List Msg} (h : s.access.msgs = l) : s.withMsgs l = s := by
  subst h
  rfl

/-- A message whose dword's deadline has passed on this die goes on without it. -/
def State.msgEnds (b : State) (d : Nat) (s : State) (m : Msg) : State :=
  let r := if b.past m.deadline && (m.addr + 4 * m.done) / 0x1000000 == d then s.dwordEnds m else (s, m)
  r.1.withMsgs (r.1.access.msgs ++ [r.2])

/-- The accesses whose wait has ended end one after another, then the dwords of messages, and what still waits is served. -/
theorem settles_accessWaitTimeout {a : At} {s b c u : State} (hd : a.die < s.part.dies) (hb : elapse a s = b)
    (hruns : b.clock.stopped = false)
    (hc : { b with access := { b.access with waiting := b.access.waiting.filter fun x => !b.endedAt a.die x } } = c)
    (hu : (b.access.waiting.filter (b.endedAt a.die)).foldl State.waitEnds c = u) :
    Settles a (.accessWaitTimeout a) s (u.access.msgs.foldl (b.msgEnds a.die) (u.withMsgs [])) := by
  subst hc hu
  rw [Settles, exec_accessWaitTimeout, execAccessWaitTimeout, onUnit_here _ hd rfl, hb]
  simp only [hruns, Bool.false_eq_true, if_false]
  rfl

/-! Locked reads. -/

/-- A locked read that completes with Unsupported Request and is counted. -/
def State.refuseLocked (u : State) (p f tag : Nat) : State := (u.bump p F.BRG_UR_LOCK_COUNT).emit (.answer f tag 1 [])

/-- The read goes out to a locked far bus under a tag. -/
def State.readLocked (y : State) (p f : Nat) (w : Option Nat) (v addr len tag : Nat) : State :=
  let r := y.takeTag p ⟨f, winNo w, v, addr, len, tag, 0, y.tagDeadline, 2⟩
  match r.2 with
  | some t => r.1.forwardTlp v 2 f t addr (leBytes 2 len)
  | none => r.1

section
variable {a : At} {f addr len tag : Nat} {s b u : State} (h : s.On a 19) (hf : f < 249) (hpos : 0 < len) (hlen : len ≤ 4096)
  (hb : s.begun a 19 = b) (hp : a.die = b.primary) (hu : b.activity = u)
include h hf hpos hlen hb hp hu

/-- A privileged channel is read under its semaphore, and no other register. -/
theorem yields_lockedRead_csr (d off : Nat) :
    (channelSem off = none → Yields (.lockedRead a f (.csr d off) addr len tag) s (u.refuseLocked b.primary f tag)) ∧
    ((channelSem off).isSome = true → Yields (.lockedRead a f (.csr d off) addr len tag) s
      (u.beginRead (if f = 0 then .pf0 else .vf f) (barAddr d off) (len / 4) (len % 4 == 0) 0 (some tag))) := by
  constructor
  · intro hnone
    refine h.yields (by simp [hf, hpos, hlen]) (exec_lockedRead a f _ addr len tag s) ?_
    simp [hb, hp, hu, hnone, State.refuseLocked]
  · intro hsome
    refine h.yields (by simp [hf, hpos, hlen]) (exec_lockedRead a f _ addr len tag s) ?_
    simp [hb, hp, hu, Option.isSome_iff_ne_none.mp hsome]

theorem yields_lockedRead_other {n : Nat} {tgt : Target} (ht : tgt = .bar2 n ∨ tgt = .peer n) :
    Yields (.lockedRead a f tgt addr len tag) s (u.refuseLocked b.primary f tag) := by
  refine h.yields (by simp [hf, hpos, hlen]) (exec_lockedRead a f tgt addr len tag s) ?_
  rcases ht with rfl | rfl <;> simp [hb, hp, hu, State.refuseLocked]

section
variable {n : Nat} {pref : Bool} {w : Option Nat} (hw : u.window? f (.vdp n pref) addr = w) {v : Option Nat}
  (hv : u.vdpOf (.vdp n pref) w = v)
include hw hv

theorem yields_lockedRead_fenced (hbad : (u.fenced f w || u.brokenFor f v) = true) :
    Yields (.lockedRead a f (.vdp n pref) addr len tag) s (u.emit (.answer f tag 4 [])) := by
  refine h.yields (by simp [hf, hpos, hlen]) (exec_lockedRead a f _ addr len tag s) ?_
  simp only [hb, hp, hu, hw, hv, hbad, ne_eq, not_true_eq_false, if_false, if_true]

variable (hgood : (u.fenced f w || u.brokenFor f v) = false)
include hgood

theorem yields_lockedRead_unlockable (hno : u.winFlag w F.BRG_WIN_CFG_LOCKABLE = false) :
    Yields (.lockedRead a f (.vdp n pref) addr len tag) s (u.refuseLocked b.primary f tag) := by
  refine h.yields (by simp [hf, hpos, hlen]) (exec_lockedRead a f _ addr len tag s) ?_
  simp only [hb, hp, hu, hw, hv, hgood, hno, ne_eq, not_true_eq_false, Bool.false_eq_true, Bool.not_false, if_false, if_true,
    State.refuseLocked]

variable (hyes : u.winFlag w F.BRG_WIN_CFG_LOCKABLE = true)
include hyes

theorem yields_lockedRead_absent (hno : v = none ∨ ∃ m, v = some m ∧ u.vdpCarried m = false) :
    Yields (.lockedRead a f (.vdp n pref) addr len tag) s (u.emit (.answer f tag 1 [])) := by
  refine h.yields (by simp [hf, hpos, hlen]) (exec_lockedRead a f _ addr len tag s) ?_
  rcases hno with rfl | ⟨m, rfl, hm⟩
  · simp only [hb, hp, hu, hw, hv, hgood, hyes, ne_eq, not_true_eq_false, Bool.false_eq_true, Bool.not_true, if_false]
  · simp only [hb, hp, hu, hw, hv, hgood, hyes, hm, ne_eq, not_true_eq_false, Bool.false_eq_true, Bool.not_true, Bool.not_false,
      if_false, if_true]

variable {m : Nat} (hm : v = some m) (hcarried : u.vdpCarried m = true)
include hm hcarried

theorem yields_lockedRead_mine {l : Lock} (hl : u.brg.lock = some l) (hfn : l.fn = f) (hvdp : l.vdp = some m) :
    Yields (.lockedRead a f (.vdp n pref) addr len tag) s (u.readLocked b.primary f w m addr len tag) := by
  subst hm
  have hmine : (l.fn == f && l.vdp == some m) = true := by simp [hfn, hvdp]
  refine h.yields (by simp [hf, hpos, hlen]) (exec_lockedRead a f _ addr len tag s) ?_
  simp only [hb, hp, hu, hw, hv, hgood, hyes, hcarried, hl, hmine, ne_eq, not_true_eq_false, Bool.false_eq_true, Bool.not_true,
    if_false, if_true]
  unfold State.readLocked
  generalize u.takeTag _ _ = r
  obtain ⟨x, _ | t⟩ := r <;> rfl

theorem yields_lockedRead_anew (hl : ∀ l, u.brg.lock = some l → ¬(l.fn = f ∧ l.vdp = some m)) {y : State}
    (hy : (u.endLock.modBrg fun b => { b with lock := some { fn := f, vdp := some m, sem := 0, since := u.now, broken := false } }).set
      b.primary F.BRG_VDP_STATUS_LOCKED 1 m = y) :
    Yields (.lockedRead a f (.vdp n pref) addr len tag) s (y.readLocked b.primary f w m addr len tag) := by
  subst hm
  refine h.yields (by simp [hf, hpos, hlen]) (exec_lockedRead a f _ addr len tag s) ?_
  cases hlock : u.brg.lock with
  | none =>
    simp only [hb, hp, hu, hw, hv, hgood, hyes, hcarried, hlock, hy, ne_eq, not_true_eq_false, Bool.false_eq_true, Bool.not_true, if_false]
    unfold State.readLocked
    generalize y.takeTag _ _ = r
    obtain ⟨x, _ | t⟩ := r <;> rfl
  | some l =>
    have hother : (l.fn == f && l.vdp == some m) = false := by simpa using hl l hlock
    simp only [hb, hp, hu, hw, hv, hgood, hyes, hcarried, hlock, hother, hy, ne_eq, not_true_eq_false, Bool.false_eq_true,
      Bool.not_true, if_false]
    unfold State.readLocked
    generalize y.takeTag _ _ = r
    obtain ⟨x, _ | t⟩ := r <;> rfl

end

end

/-- Settles O36. -/
theorem waitsEndAndLockedReadsAreTaken : Obligations.WaitsEndAndLockedReadsAreTaken := by
  refine ⟨?waits, ?locked⟩
  case waits =>
    intro a s hd b hruns past ended c u
    have hset := settles_accessWaitTimeout hd (b := b) rfl hruns (c := c) rfl (u := u) rfl
    refine ⟨fun hnone => ?_, fun m hone hpast => ?_⟩
    · rwa [hnone, List.foldl_nil, State.withMsgs_self hnone] at hset
    · rw [hone, List.foldl_cons, List.foldl_nil, State.msgEnds, State.past, if_pos hpast] at hset
      exact hset
  case locked =>
    intro a f tgt addr len tag s h hf hpos hlen b hp p u i refuse
    refine ⟨?_, fun n ht => yields_lockedRead_other h hf hpos hlen rfl hp rfl ht, ?_⟩
    · rintro d off rfl
      exact yields_lockedRead_csr h hf hpos hlen rfl hp rfl d off
    · rintro n pref rfl w
      refine ⟨yields_lockedRead_fenced h hf hpos hlen rfl hp rfl rfl rfl, fun hgood => ⟨?_, fun hyes => ⟨?_, fun v hv => ⟨?_, ?_⟩⟩⟩⟩
      · exact yields_lockedRead_unlockable h hf hpos hlen rfl hp rfl rfl rfl hgood
      · exact fun hnone => yields_lockedRead_absent h hf hpos hlen rfl hp rfl rfl rfl hgood hyes (.inl hnone)
      · exact fun hno => yields_lockedRead_absent h hf hpos hlen rfl hp rfl rfl rfl hgood hyes (.inr ⟨v, hv, hno⟩)
      · intro hcarried x y g
        have hg : ∀ z, g z = z.readLocked p f w v addr len tag := fun z => by
          unfold g State.readLocked
          generalize z.takeTag _ _ = r
          obtain ⟨x, _ | t⟩ := r <;> rfl
        rw [hg, hg]
        exact ⟨fun l hl hfn hvdp => yields_lockedRead_mine h hf hpos hlen rfl hp rfl rfl rfl hgood hyes hv hcarried hl hfn hvdp,
          fun hl => yields_lockedRead_anew h hf hpos hlen rfl hp rfl rfl rfl hgood hyes hv hcarried hl rfl⟩

end Sys2Proof.Machine
end

section
/-! Virtual downstream ports (12 R331, R332), the links of the ports (12 R329, R330) and DMA channels (12 R345 to R347): O27. -/

namespace Sys2Proof.Machine

/-! The commands as their meanings. -/

theorem exec_vdpConfigRequest (a : At) (n : Nat) (type1 write : Bool) (addr tag : Nat) (bytes : List Byte) (s : State) :
    exec (.vdpConfigRequest a n type1 write addr tag bytes) s = execVdpConfigRequest a n type1 write addr tag bytes s := rfl

theorem exec_vdpLink (a : At) (n : Nat) (present active : Bool) (cause speed width : Nat) (s : State) :
    exec (.vdpLink a n present active cause speed width) s = execVdpLink a n present active cause speed width s := rfl

theorem exec_vdpLinkControl (a : At) (n kind : Nat) (s : State) : exec (.vdpLinkControl a n kind) s = execVdpLinkControl a n kind s := rfl

theorem exec_dsPortLink (a : At) (up : Bool) (speed width : Nat) (s : State) :
    exec (.dsPortLink a up speed width) s = execDsPortLink a up speed width s := rfl

theorem exec_primaryLinkDlActive (a : At) (up : Bool) (rate width : Nat) (s : State) :
    exec (.primaryLinkDlActive a up rate width) s = execPrimaryLinkDlActive a up rate width s := rfl

theorem exec_dmaEnable (a : At) (q : Req) (c : Nat) (v : Word) (s : State) : exec (.dmaEnable a q c v) s = execDmaEnable a q c v s := rfl

theorem exec_dmaDisable (a : At) (q : Req) (c : Nat) (v : Word) (s : State) : exec (.dmaDisable a q c v) s = execDmaDisable a q c v s := rfl

theorem exec_dmaDoorbell (a : At) (q : Req) (c : Nat) (v : Word) (s : State) :
    exec (.dmaDoorbell a q c v) s = execDmaDoorbell a q c v s := rfl

theorem exec_dmaTxDescriptor (a : At) (c : Nat) (desc bytes : List Byte) (readOk : Bool) (s : State) :
    exec (.dmaTxDescriptor a c desc bytes readOk) s = execDmaTxDescriptor a c desc bytes readOk s := rfl

theorem exec_dmaRxFrame (a : At) (c : Nat) (desc frame : List Byte) (cut readOk : Bool) (s : State) :
    exec (.dmaRxFrame a c desc frame cut readOk) s = execDmaRxFrame a c desc frame cut readOk s := rfl

theorem exec_busMasterEnableClear (a : At) (f : Nat) (s : State) :
    exec (.busMasterEnableClear a f) s = execBusMasterEnableClear a f s := rfl


/-! Virtual downstream ports. -/

section
variable {a : At} {n : Nat} {s b : State} (h : s.On a 19) (hn : n < 32) (hb : s.begun a 19 = b)
include h hn hb

section
variable {type1 write : Bool} {addr tag : Nat} {bytes : List Byte}

theorem yields_vdpConfigRequest_refused
    (hno : n = 0 ∨ b.flag b.primary F.BRG_VDP_CFG_VALID n = false ∨ b.vdpCarried n = false) :
    Yields (.vdpConfigRequest a n type1 write addr tag bytes) s (b.emit (.answer 0 tag 1 [])) :=
  h.yields (decide_eq_true hn) (exec_vdpConfigRequest a n type1 write addr tag bytes s) (by simp only [hb, if_pos hno])

theorem yields_vdpConfigRequest_forwarded (hpos : n ≠ 0) (hvalid : b.flag b.primary F.BRG_VDP_CFG_VALID n = true)
    (hcarried : b.vdpCarried n = true) {r : State × Option Nat}
    (hr : b.takeTag a.die ⟨0, 0xFF, n, addr, 4, tag, 0, b.tagDeadline, 0⟩ = r) {t : Nat} (ht : r.2 = some t) :
    Yields (.vdpConfigRequest a n type1 write addr tag bytes) s (r.1.forwardTlp n (8 + b2n type1 + 2 * b2n write) 0 t addr bytes) := by
  have hyes : ¬(n = 0 ∨ b.flag b.primary F.BRG_VDP_CFG_VALID n = false ∨ b.vdpCarried n = false) := by simp [hpos, hvalid, hcarried]
  exact h.yields (decide_eq_true hn) (exec_vdpConfigRequest a n type1 write addr tag bytes s) (by simp only [hb, if_neg hyes, hr, ht])

end

section
variable (hpos : 0 < n) {present active : Bool} {cause speed width : Nat} {here act dp da : Bool} {w u : State}
  (hhere : (present && b.vdpCarried n) = here) (hact : (here && active && !b.brg.disabled.contains n) = act)
  (hdp : (b.flag b.primary F.BRG_VDP_STATUS_PRESENT n != here) = dp)
  (hda : (b.flag b.primary F.BRG_VDP_STATUS_LINK_ACTIVE n != act) = da)
  (hw : (((b.set b.primary F.BRG_VDP_STATUS_PRESENT (b2n here) n).set b.primary F.BRG_VDP_STATUS_LINK_ACTIVE (b2n act) n).set b.primary
    F.BRG_VDP_STATUS_FAR_SPEED (if act then speed else 0) n).set b.primary F.BRG_VDP_STATUS_FAR_WIDTH (if act then width else 0) n = w)
  (hu : (if w.vdpCarried n then w else w.failVdp n) = u)
include hpos hhere hact hdp hda hw hu

theorem yields_vdpLink_quiet (hno : u.flag b.primary F.BRG_VDP_CFG_VALID n = false ∨ (dp || da) = false) :
    Yields (.vdpLink a n present active cause speed width) s u := by
  have hquiet : (!u.flag b.primary F.BRG_VDP_CFG_VALID n || !(dp || da)) = true := by
    rcases hno with hno | hno <;> simp [hno]
  refine h.yields (by simp [hpos, hn]) (exec_vdpLink a n present active cause speed width s) ?_
  simp only [hb, hhere, hact, hdp, hda, hw, hu, hquiet, if_true]

theorem yields_vdpLink_signalled (hvalid : u.flag b.primary F.BRG_VDP_CFG_VALID n = true) (hchanged : (dp || da) = true) {old : Nat}
    (hold : (if dp then setBit (Table.look u.brg.changed n 0) 0 else Table.look u.brg.changed n 0) = old) :
    Yields (.vdpLink a n present active cause speed width) s
      (((u.modBrg fun x => { x with changed := Table.put x.changed n (if da then setBit old 1 else old) }).emit (.vdpMsi n)).raise b.primary
        19 0x806 1 [(1, n), (1, b2n here + 2 * b2n act), (1, cause)]) := by
  have htold : (!u.flag b.primary F.BRG_VDP_CFG_VALID n || !(dp || da)) = false := by simp [hvalid, hchanged]
  refine h.yields (by simp [hpos, hn]) (exec_vdpLink a n present active cause speed width s) ?_
  simp only [hb, hhere, hact, hdp, hda, hw, hu, htold, hold, Bool.false_eq_true, if_false]

end

theorem yields_vdpLinkControl (hpos : 0 < n) {kind : Nat} (hkind : kind < 4) (hvalid : b.flag b.primary F.BRG_VDP_CFG_VALID n = true)
    {off : List Nat} (hoff : (if kind = 1 then n :: b.brg.disabled.erase n else if kind = 0 then b.brg.disabled.erase n
      else b.brg.disabled) = off) :
    Yields (.vdpLinkControl a n kind) s ((b.modBrg fun x => { x with disabled := off }).emit (.vdpOrder n kind)) := by
  refine h.yields (by simp [hpos, hn, hkind]) (exec_vdpLinkControl a n kind s) ?_
  simp only [hb, hvalid, hoff, if_true]

end

/-- The primary port's link, while no loss of it runs. -/
theorem yields_primaryLinkDlActive {a : At} {up : Bool} {speed width : Nat} {s b : State} (h : s.On a 17) (hb : s.begun a 17 = b)
    (hd : a.die = b.primary) (hnone : b.brg.downAt = none) :
    Yields (.primaryLinkDlActive a up speed width) s (b.primaryLink up speed width) := by
  refine h.yields rfl (exec_primaryLinkDlActive a up speed width s) ?_
  simp only [hb, hd, hnone, ne_eq, not_true_eq_false, Bool.and_false, Bool.false_eq_true, if_false]

/-! DMA channels. -/

section
variable {a : At} {c : Nat} {desc : List Byte} {ok : Bool} {s b : State} (h : s.On a 20) (hc : c < 64) (hb : s.begun a 20 = b)
  (hruns : b.dmaRuns a.die c = true) (hposted : b.dmaPosted a.die c = true) (hawake : b.pwrStep < 3)
include h hc hb hruns hposted hawake

section
variable (hdir : b.flag a.die F.BRG_DMA_CFG_DIR c = false) (hfree : Table.find? (b.die a.die).dmaJobs c = none) {bytes : List Byte}
include hdir hfree

theorem yields_dmaTxDescriptor_halted {cause : Nat} (hf : b.dmaFault a.die c desc ok = some cause) :
    Yields (.dmaTxDescriptor a c desc bytes ok) s (b.haltDma a.die c cause) := by
  refine h.yields (decide_eq_true hc) (exec_dmaTxDescriptor a c desc bytes ok s) ?_
  simp only [hb, hruns, hdir, hfree, hposted, hf, Nat.not_le.mpr hawake, Bool.not_true, Bool.or_self, Option.isSome_none, decide_false,
    Bool.false_eq_true, if_false]

theorem yields_dmaTxDescriptor_sent {idx len : Nat} (hf : b.dmaFault a.die c desc ok = none) (hidx : b.dmaStrand a.die c = some idx)
    (hlen : numAt desc 8 3 = len) {u : State}
    (hu : (b.emit (.hostRead (b.dmaOwner a.die c) (b.dmaDesc a.die c) 32)).emit
      (.hostRead (b.dmaOwner a.die c) (numAt desc 0 8) len) = u) :
    Yields (.dmaTxDescriptor a c desc bytes ok) s (State.dmaPump a.die c idx 10000 (u.modDie a.die fun x => { x with
      dmaJobs := Table.put x.dmaJobs c ⟨u.dptSegs idx (bytes.take len), bit (byteAt desc 11) 0, len, numAt desc 12 4⟩ })) := by
  refine h.yields (decide_eq_true hc) (exec_dmaTxDescriptor a c desc bytes ok s) ?_
  simp only [hb, hruns, hdir, hfree, hposted, hf, hidx, hlen, hu, Nat.not_le.mpr hawake, Bool.not_true, Bool.or_self, Option.isSome_none,
    decide_false, Bool.false_eq_true, if_false]

end

section
variable (hdir : b.flag a.die F.BRG_DMA_CFG_DIR c = true) {frame : List Byte} {cut : Bool}
include hdir

theorem yields_dmaRxFrame_halted {cause : Nat} (hf : b.dmaFault a.die c desc ok = some cause) :
    Yields (.dmaRxFrame a c desc frame cut ok) s (b.haltDma a.die c cause) := by
  refine h.yields (decide_eq_true hc) (exec_dmaRxFrame a c desc frame cut ok s) ?_
  simp only [hb, hruns, hdir, hposted, hf, Nat.not_le.mpr hawake, Bool.not_true, Bool.or_self, decide_false, Bool.false_eq_true, if_false]

theorem yields_dmaRxFrame_written {len status : Nat} {body : List Byte} (hf : b.dmaFault a.die c desc ok = none)
    (hlen : numAt desc 8 3 = len) (hbody : frame.take len = body) {w u : State}
    (hw : b.emit (.hostRead (b.dmaOwner a.die c) (b.dmaDesc a.die c) 32) = w)
    (hu : (if body.isEmpty then w else w.hostWrite (w.dmaOwner a.die c) (numAt desc 0 8) body) = u)
    (hstatus : (if cut then 2 else if len < frame.length then 1 else 0) = status) :
    Yields (.dmaRxFrame a c desc frame cut ok) s (u.dmaDone a.die c status (if cut then body.length else frame.length) (numAt desc 12 4)
      (status != 0 || bit (byteAt desc 11) 0)) := by
  refine h.yields (decide_eq_true hc) (exec_dmaRxFrame a c desc frame cut ok s) ?_
  simp only [hb, hruns, hdir, hposted, hf, hlen, hbody, hw, hu, hstatus, Nat.not_le.mpr hawake, Bool.not_true, Bool.or_self, decide_false,
    Bool.false_eq_true, if_false]

end

end

/-- Settles O27. -/
theorem portsVirtualPortsAndDmaTakeEffect : Obligations.PortsVirtualPortsAndDmaTakeEffect := by
  refine ⟨?vdps, ?links, ?registers, ?channels, fun a f s hd hf => yields_onUnit hd hf (exec_busMasterEnableClear a f s) rfl⟩
  case vdps =>
    intro a n s h hn b d
    refine ⟨fun _ _ _ _ _ hno => yields_vdpConfigRequest_refused h hn rfl hno, ?forwarded, fun hpos => ⟨?reports, ?control⟩⟩
    case forwarded =>
      intro _ _ _ _ _ t hne hvalid hcarried r ht
      exact yields_vdpConfigRequest_forwarded h hn rfl hne hvalid hcarried rfl ht
    case reports =>
      intro present active cause speed width here act dp da w u
      refine ⟨yields_vdpLink_quiet h hn rfl hpos rfl rfl rfl rfl rfl rfl, ?_⟩
      intro hvalid hchanged old0 old
      exact yields_vdpLink_signalled h hn rfl hpos rfl rfl rfl rfl rfl rfl hvalid hchanged rfl
    case control =>
      intro kind hkind hvalid off
      exact yields_vdpLinkControl h hn rfl hpos hkind hvalid rfl
  case links =>
    exact fun a up speed width s => ⟨fun h => h.yields rfl (exec_dsPortLink a up speed width s) rfl,
      fun h hd hnone => yields_primaryLinkDlActive h rfl hd hnone⟩
  case registers =>
    intro a q c v s hc
    refine ⟨fun h => ?_, fun h => ?_⟩
    · intro b
      exact ⟨fun hv => h.yields (by simp [hc, hv]) (exec_dmaEnable a q c v s) rfl,
        fun hv => h.yields (by simp [hc, hv]) (exec_dmaDisable a q c v s) rfl⟩
    · intro b
      exact h.yields (decide_eq_true hc) (exec_dmaDoorbell a q c v s) rfl
  case channels =>
    intro a c desc ok s h hc b d hruns hposted hawake
    refine ⟨fun hdir hfree bytes => ⟨fun cause hf => ?_, fun idx hf hidx => ?_⟩, fun hdir frame cut => ⟨fun cause hf => ?_, fun hf => ?_⟩⟩
    · exact yields_dmaTxDescriptor_halted h hc rfl hruns hposted hawake hdir hfree hf
    · intro len u j
      exact yields_dmaTxDescriptor_sent h hc rfl hruns hposted hawake hdir hfree hf hidx rfl rfl
    · exact yields_dmaRxFrame_halted h hc rfl hruns hposted hawake hdir hf
    · intro len body w u status
      exact yields_dmaRxFrame_written h hc rfl hruns hposted hawake hdir hf rfl rfl rfl rfl rfl

end Sys2Proof.Machine
end

section
/-! Start-up: the clocks, the option bytes, a pushed image, and the erase ahead of the journal log (16 R426 to R437): O21. -/

namespace Sys2Proof.Machine

/-! The commands as their meanings. -/

theorem exec_bootClocksReady (a : At) (boots clks : List Nat) (s : State) :
    exec (.bootClocksReady a boots clks) s = execBootClocksReady a boots clks s := rfl

theorem exec_optionBytesRead (a : At) (s : State) : exec (.optionBytesRead a) s = execOptionBytesRead a s := rfl

theorem exec_nvmEraseAhead (a : At) (s : State) : exec (.nvmEraseAhead a) s = execNvmEraseAhead a s := rfl

theorem exec_bootPush (a : At) (q : Req) (v : Word) (s : State) : exec (.bootPush a q v) s = execBootPush a q v s := rfl

theorem exec_bootPushFetch (a : At) (q : Req) (v : Word) (s : State) : exec (.bootPushFetch a q v) s = execBootPushFetch a q v s := rfl

theorem exec_bootFetchDone (a : At) (ok : Bool) (bytes : List Byte) (s : State) :
    exec (.bootFetchDone a ok bytes) s = execBootFetchDone a ok bytes s := rfl


/-- In step 4 with every clock good, the wake request ends and the fuses are read. -/
theorem yields_bootClocksReady {a : At} {boots clks : List Nat} {s b : State} (hd : a.die < s.part.dies) (hboots : boots.length = 8)
    (hclks : clks.length = 8) (hb : elapse a s = b) (hready : ∀ i ∈ clockIslands, bit (b.islands 0).ok i = true)
    (hstep : b.pkg.bootStep = 4) {u : State}
    (hu : (if b.tarn.wakeReq then State.emit { b with tarn := { b.tarn with wakeReq := false } } (.wakeReq false) else b) = u) :
    Yields (.bootClocksReady a boots clks) s (State.readReach { u with pkg := { u.pkg with bootStep := 5 } }) := by
  refine yields_onUnit hd (by simp [hboots, hclks]) (exec_bootClocksReady a boots clks s) ?_
  have hall : (clockIslands.all fun i => bit (b.islands 0).ok i) = true := List.all_eq_true.mpr hready
  have hgo : ¬((!clockIslands.all fun i => bit (b.islands 0).ok i) || (b.pkg.bootStep != 2 && b.pkg.bootStep != 4)) = true := by
    rw [hall, hstep]
    decide
  have hlate : ¬b.pkg.bootStep = 2 := by rw [hstep]; decide
  simp only [hb, if_neg hgo, if_neg hlate, hu]

/-! The option bytes. -/

/-- Step 5 is over, with the option bytes `o` in force. -/
def State.optionsTaken (b : State) (o : Options) : State :=
  { b with boot := { b.boot with option := o }, pkg := { b.pkg with bootStep := 6 } }

/-- The option bytes that step 5 takes, of the two copies. -/
def chosenOptions (okA okB : Bool) (x y : Options) : Options :=
  if okA && (!okB || decide (y.counter ≤ x.counter)) then x else if okB then y else {}

section
variable {a : At} {s b : State} (h : s.On a 40) (hd : a.die = 0) (hb : s.begun a 40 = b)
include h hd hb

variable {okA okB : Bool} {x y : Options}

theorem yields_optionBytesRead (hstep : b.pkg.bootStep = 5) (hA : optionOk (b.cellBytes (optionCopyAt 0) 256) = okA)
    (hB : optionOk (b.cellBytes (optionCopyAt 1) 256) = okB) (hx : optionsOf 0 (b.cellBytes (optionCopyAt 0) 256) = x)
    (hy : optionsOf 1 (b.cellBytes (optionCopyAt 1) 256) = y) {u : State} (hu : b.optionsTaken (chosenOptions okA okB x y) = u) :
    Yields (.optionBytesRead a) s (if okA && okB then u else u.raise 0 39 0x037 3 [(1, b2n (!okA) + 2 * b2n (!okB))]) := by
  have hgo : ¬b.pkg.bootStep ≠ 5 := not_not_intro hstep
  rw [State.optionsTaken, chosenOptions] at hu
  refine h.yields (beq_iff_eq.mpr hd) (exec_optionBytesRead a s) ?_
  simp only [hb, if_neg hgo, hA, hB, hx, hy, hu]

theorem yields_nvmEraseAhead (hflow : b.get 0 F.PWR_STATUS_CURRENT = 0) (hidle : b.hold.running = none) {tail : Nat}
    (htail : min 135168 (0x100000 - b.flushEnd) = tail) :
    Yields (.nvmEraseAhead a) s ((b.eraseCells (journalLog + b.flushEnd) tail).eraseCells journalLog (135168 - tail)) := by
  refine h.yields (beq_iff_eq.mpr hd) (exec_nvmEraseAhead a s) ?_
  simp [hb, hflow, hidle, htail]

end

/-! A push (16 R427). -/

section
variable {a : At} {q : Req} {v : Word} {s b : State} (h : s.Admits a q 0x010034) (hd : a.die = 0) (hb : s.admitted a q 0x010034 = b)
  (hstep : 9 ≤ b.pkg.bootStep) (hstate : b.get 0 F.SKN_STATUS_STATE ≠ 2) (hpush : b.boot.pushing = none) (hfetch : b.boot.fetching = none)
include h hd hb hstep hstate hpush hfetch

omit h hb in
/-- No write is ignored then. -/
theorem push_free : ¬(a.die ≠ 0 ∨ b.pkg.bootStep < 9 ∨ b.get 0 F.SKN_STATUS_STATE = 2 ∨ b.boot.pushing.isSome ∨ b.boot.fetching.isSome) := by
  simp [hd, hstate, hpush, hfetch, Nat.not_lt.mpr hstep]

theorem yields_bootPush (hv : wordGet v 31 31 = 0) :
    Yields (.bootPush a q v) s { b with boot := { b.boot with pushing := some (wordGet v 23 0) } } := by
  refine h.yields (beq_iff_eq.mpr hv) (exec_bootPush a q v s) ?_
  rw [hb, State.writePush, if_neg (push_free hd hstep hstate hpush hfetch), hv]
  rfl

end

section
variable {a : At} {v : Word} {s b : State} (h : s.Admits a .pf0 0x010034) (hd : a.die = 0) (hb : s.admitted a .pf0 0x010034 = b)
  (hstep : 9 ≤ b.pkg.bootStep) (hstate : b.get 0 F.SKN_STATUS_STATE ≠ 2) (hpush : b.boot.pushing = none) (hfetch : b.boot.fetching = none)
  (hv : wordGet v 31 31 = 1)
include h hd hb hstep hstate hpush hfetch hv

theorem yields_bootPushFetch_unmastered (hno : b.busMaster 0 = false) :
    Yields (.bootPushFetch a .pf0 v) s (b.pushFailed ⟨1, 0, 0⟩) := by
  refine h.yields (beq_iff_eq.mpr hv) (exec_bootPushFetch a .pf0 v s) ?_
  rw [hb, State.writePush, if_neg (push_free hd hstep hstate hpush hfetch), hv, hno]
  rfl

theorem yields_bootPushFetch_read (hmaster : b.busMaster 0 = true) (hpos : wordGet v 23 0 ≠ 0) (hmax : wordGet v 23 0 ≤ 8388608)
    (haligned : wordGet v 23 0 % 8 = 0) : Yields (.bootPushFetch a .pf0 v) s
      (State.emit { b with boot := { b.boot with fetching := some (wordGet v 23 0) } }
        (.hostRead 0 (b.pair 0 Reg.RST_BOOT_HOST_LO Reg.RST_BOOT_HOST_HI) (wordGet v 23 0))) := by
  refine h.yields (beq_iff_eq.mpr hv) (exec_bootPushFetch a .pf0 v s) ?_
  rw [hb, State.writePush, if_neg (push_free hd hstep hstate hpush hfetch)]
  simp [hv, hmaster, hpos, hmax, haligned]

end

theorem yields_bootFetchDone {a : At} {n : Nat} {ok : Bool} {bytes : List Byte} {s b : State} (h : s.On a 39) (hd : a.die = 0)
    (hb : s.begun a 39 = b) (hn : b.boot.fetching = some n) : Yields (.bootFetchDone a ok bytes) s (if ok = true ∧ bytes.length = n then
      State.setCells { b with boot := { b.boot with fetching := none, pushing := some n } } (bootCell 0) bytes
      else b.pushFailed ⟨1, 0, 0⟩) := by
  refine h.yields (beq_iff_eq.mpr hd) (exec_bootFetchDone a ok bytes s) ?_
  simp only [hb, hn, Bool.and_eq_true, beq_iff_eq]

/-- Settles O21. -/
theorem bootStepsGoOn : Obligations.BootStepsGoOn := by
  refine ⟨?clocks, ?options, ?push, fun a n ok bytes s h hd hn => yields_bootFetchDone h hd rfl hn⟩
  case clocks =>
    intro a boots clks s hd hboots hclks b hready hstep u
    exact yields_bootClocksReady hd hboots hclks rfl hready hstep rfl
  case options =>
    intro a s h hd b
    refine ⟨fun hstep => ?_, ?_⟩
    · intro copyA copyB next x y
      have hyields : ∀ okA okB, optionOk copyA = okA → optionOk copyB = okB → Yields (.optionBytesRead a) s
          (if okA && okB then next (chosenOptions okA okB x y)
          else (next (chosenOptions okA okB x y)).raise 0 39 0x037 3 [(1, b2n (!okA) + 2 * b2n (!okB))]) :=
        fun okA okB hA hB => yields_optionBytesRead h hd rfl hstep hA hB rfl rfl rfl
      refine ⟨fun hA hB => ?_, hyields true false, hyields false true, hyields false false⟩
      have hboth := hyields true true hA hB
      rw [← apply_ite next]
      simpa [chosenOptions] using hboth
    · intro hflow hidle tail
      exact yields_nvmEraseAhead h hd rfl hflow hidle rfl
  case push =>
    intro a q v s h hd b n hstep hstate hpush hfetch
    refine ⟨yields_bootPush h hd rfl hstep hstate hpush hfetch, ?_⟩
    rintro hv rfl
    exact ⟨yields_bootPushFetch_unmastered h hd rfl hstep hstate hpush hfetch hv,
      yields_bootPushFetch_read h hd rfl hstep hstate hpush hfetch hv⟩

end Sys2Proof.Machine
end

section
/-! Safe stores, power failure, supply, temperature and reference clock (16 R418, R432 to R437; 18 R461 to R477): O23. -/

namespace Sys2Proof.Machine

/-! The commands as their meanings. -/

theorem exec_storeChunkDone (a : At) (codes : List Nat) (s : State) : exec (.storeChunkDone a codes) s = execStoreChunkDone a codes s := rfl

theorem exec_lcChanged (a : At) (readOk : Bool) (codes : List Nat) (s : State) :
    exec (.lcChanged a readOk codes) s = execLcChanged a readOk codes s := rfl

theorem exec_rstFuseProg (a : At) (q : Req) (v : Word) (codes : List Nat) (s : State) :
    exec (.rstFuseProg a q v codes) s = execRstFuseProg a q v codes s := rfl

theorem exec_hldFlush (a : At) (q : Req) (v : Word) (codes : List Nat) (s : State) :
    exec (.hldFlush a q v codes) s = execHldFlush a q v codes s := rfl

theorem exec_pwrFail (a : At) (cause : Nat) (codes : List Nat) (s : State) :
    exec (.pwrFail a cause codes) s = execPwrFail a cause codes s := rfl

theorem exec_supplyFault (a : At) (rail : Nat) (codes : List Nat) (s : State) :
    exec (.supplyFault a rail codes) s = execSupplyFault a rail codes s := rfl

theorem exec_tempReading (a : At) (t : Int) (s : State) : exec (.tempReading a t) s = execTempReading a t s := rfl

theorem exec_refClkFault (a : At) (cause : Nat) (s : State) : exec (.refClkFault a cause) s = execRefClkFault a cause s := rfl

theorem exec_refClkRestored (a : At) (s : State) : exec (.refClkRestored a) s = execRefClkRestored a s := rfl


/-! Stores (16 R432, R450). -/

section
variable {a : At} {codes : List Nat} {s b : State} (h : s.On a 42) (hd : a.die = 0) (hb : s.begun a 42 = b)
include h hd hb

theorem yields_storeChunkDone (hruns : b.runs 0 40 = true) {r : State × Option (StoreJob × Nat)} (hr : b.chunkDone codes = r) {u : State}
    (hu : (r.2.elim r.1 fun x => r.1.storeEnded codes x) = u) :
    Yields (.storeChunkDone a codes) s (if r.1.hold.running.isSome then u else u.storesGoOn codes) := by
  refine h.yields (beq_iff_eq.mpr hd) (exec_storeChunkDone a codes s) ?_
  simp only [hb, hruns, hr, hu, Bool.not_true, Bool.false_eq_true, if_false]

theorem yields_lcChanged {j : StoreJob} {ok : Bool} (hj : b.hold.running = some j) (hwhat : j.what = 5) :
    Yields (.lcChanged a ok codes) s ((b.lcDone j ok).storesGoOn codes) := by
  refine h.yields (beq_iff_eq.mpr hd) (exec_lcChanged a ok codes s) ?_
  simp only [hb, hj, hwhat, if_true]

end

/-! The fuse command (16 R418) and HLD_CMD (16 R435). -/

section
variable {a : At} {v : Word} {codes : List Nat} {s b : State} (h : s.Admits a .pf0 0x010048) (hd : a.die = 0) (hv : wordGet v 0 0 = 1)
  (hb : s.admitted a .pf0 0x010048 = b) {staged : Nat}
  (hstaged : b.get 0 F.RST_FUSE_PROG_LO_CODES + 2 ^ 30 * b.get 0 F.RST_FUSE_PROG_HI_CODES = staged)
include h hd hv hb hstaged

theorem yields_rstFuseProg_refused (hno : b.boot.fuses.reachValid ∨ 1 < b.lc ∨ badCodes staged ≠ 0) :
    Yields (.rstFuseProg a .pf0 v codes) s (b.storeDone 4 4 0 0) := by
  refine h.yields (beq_iff_eq.mpr hv) (exec_rstFuseProg a .pf0 v codes s) ?_
  rw [hb, if_pos rfl, State.writeFuseProg, hstaged, if_neg (by omega), if_pos hno]

theorem yields_rstFuseProg (hidle : b.hold.running = none) (hyes : ¬(b.boot.fuses.reachValid ∨ 1 < b.lc ∨ badCodes staged ≠ 0)) :
    Yields (.rstFuseProg a .pf0 v codes) s (b.requestStore { type := 4, what := 4, arg := staged, off := 0, bytes := [] } codes).1 := by
  refine h.yields (beq_iff_eq.mpr hv) (exec_rstFuseProg a .pf0 v codes s) ?_
  rw [hb, if_pos rfl, State.writeFuseProg, hstaged, if_neg (by omega), if_neg hyes, hidle]
  simp

end

theorem yields_hldFlush {a : At} {q : Req} {v : Word} {codes : List Nat} {s b : State} (h : s.Admits a q 0x07001C) (hd : a.die = 0)
    (hv : wordGet v 0 0 = 1) (hb : s.admitted a q 0x07001C = b) : Yields (.hldFlush a q v codes) s
      (b.requestStore { type := 1, what := 0, arg := 4, off := 0, bytes := [], ts := b.ts } codes).1 :=
  h.yields (beq_iff_eq.mpr hv) (exec_hldFlush a q v codes s) (by rw [hb, State.writeHldCmd, if_neg (by omega)])

/-! Power failure and supply (16 R435; 18 R461). -/

section
variable {b : State} {cause cyc : Nat} {codes : List Nat} (hruns : b.clock.stopped = false) (hnone : b.hold.failing = none)
  (hfired : ∀ x ∈ b.boot.sources, x.s ≠ 10)
include hruns hnone hfired

theorem State.powerFails_unguarded : ¬(b.clock.stopped || b.hold.failing.isSome || (b.boot.sources.any fun x => x.s == 10)) = true := by
  have hany : (b.boot.sources.any fun x => x.s == 10) = false := by simpa using hfired
  rw [hruns, hnone, hany]
  decide

theorem State.powerFails_unsensed (hno : b.runs 0 42 = false) : b.powerFails cause cyc codes = b.fireReach 10 0 0 := by
  rw [State.powerFails, if_neg (State.powerFails_unguarded hruns hnone hfired), hno]
  rfl

theorem State.powerFails_sensed (hyes : b.runs 0 42 = true) {u : State} (hu : (b.freezeJournal cause (meanCode codes)).shedLoad = u) {w : State}
    (hw : State.deferRecent { u with hold := { u.hold with failing := some cause } } cyc codes = w) : b.powerFails cause cyc codes =
      (w.requestStore { type := 1, what := 0, arg := cause, off := 0, bytes := [], ts := w.ts } codes).1.brownout := by
  rw [State.powerFails, if_neg (State.powerFails_unguarded hruns hnone hfired), hyes, hu, if_neg (by decide), ← hw]

end

theorem yields_pwrFail {a : At} {cause : Nat} {codes : List Nat} {s b u : State} (hd : a.die < s.part.dies) (hzero : a.die = 0)
    (hcause : cause = 1 ∨ cause = 2) (hb : elapse a s = b) (hu : b.powerFails cause a.cyc codes = u) :
    Yields (.pwrFail a cause codes) s u :=
  yields_onUnit hd (by simp [hzero, hcause]) (exec_pwrFail a cause codes s) (hb ▸ hu)

theorem yields_supplyFault {a : At} {rail : Nat} {codes : List Nat} {s b u : State} (hd : a.die < s.part.dies) (hrail : rail < 7)
    (hb : elapse a s = b) (hruns : b.clock.stopped = false)
    (hu : b.set a.die F.PIN_SUPPLY_FAULT (setBit (b.get a.die F.PIN_SUPPLY_FAULT) rail) = u) :
    Yields (.supplyFault a rail codes) s
      ((u.raise a.die 42 0xC04 3 [(1, a.die), (1, u.get a.die F.PIN_SUPPLY_FAULT)]).powerFails 2 a.cyc codes) := by
  refine yields_onUnit hd (decide_eq_true hrail) (exec_supplyFault a rail codes s) ?_
  simp only [hb, hruns, hu, Bool.false_eq_true, if_false]

/-! The reference clock (18 R477). -/

section
variable {a : At} {s b : State} (h : s.On a 38) (hb : s.begun a 38 = b)
include h hb

theorem yields_refClkFault {cause : Nat} (hcause : cause = 1 ∨ cause = 2) (hnone : Table.find? b.refFault a.die = none) {w u : State}
    (hw : { b with refFault := Table.put b.refFault a.die b.now } = w)
    (hu : ((w.bump a.die F.CLK_REF_STATUS_FAULTS).raise a.die 38 0xC01 3 [(1, a.die), (1, cause)]).dropLinks a.die = u) :
    Yields (.refClkFault a cause) s (if a.die = 0 then u.loseParent else u) := by
  refine h.yields (by simp [hcause]) (exec_refClkFault a cause s) ?_
  simp only [hb, hnone, hw, hu, Option.isSome_none, Bool.false_eq_true, if_false]

theorem yields_refClkRestored {t : Nat} (ht : Table.find? b.refFault a.die = some t) {w u : State}
    (hw : State.raise { b with refFault := Table.del b.refFault a.die } a.die 38 0xC02 1 [(1, a.die), (3, 0), (4, (b.now - t) / us 1)] = w)
    (hu : (List.range 2).foldl (fun s h => s.train a.die h) w = u) :
    Yields (.refClkRestored a) s (if a.die = u.primary ∧ u.runs a.die 17 = true then u.emit (.port a.die true) else u) := by
  have hnow : ({ b with refFault := Table.del b.refFault a.die } : State).now = b.now := rfl
  refine h.yields rfl (exec_refClkRestored a s) ?_
  simp only [hb, ht, hnow, hw, hu]

end

/-- Settles O23. -/
theorem storesAndHoldupGoOn : Obligations.StoresAndHoldupGoOn := by
  refine ⟨?stores, ?fuses, fun a q v codes s h hd hv => yields_hldFlush h hd hv rfl, ?power, ?temperature, ?reference⟩
  case stores =>
    intro a codes s h hd b
    refine ⟨?_, fun j ok hj hwhat => yields_lcChanged h hd rfl hj hwhat⟩
    intro hruns r u
    exact yields_storeChunkDone h hd rfl hruns rfl rfl
  case fuses =>
    intro a v codes s h hd hv b staged
    exact ⟨yields_rstFuseProg_refused h hd hv rfl rfl, yields_rstFuseProg h hd hv rfl rfl⟩
  case power =>
    intro a codes s hd b hruns
    refine ⟨fun cause hzero hcause hnone hfired => ⟨fun hno => ?_, ?_⟩, ?_⟩
    · exact yields_pwrFail hd hzero hcause rfl (State.powerFails_unsensed hruns hnone hfired hno)
    · intro hyes u w
      exact yields_pwrFail hd hzero hcause rfl (State.powerFails_sensed hruns hnone hfired hyes rfl rfl)
    · intro rail hrail u
      exact yields_supplyFault hd hrail rfl hruns rfl
  case temperature =>
    intro a t s h b d c u0 u1 hot run u
    exact h.yields rfl (exec_tempReading a t s) rfl
  case reference =>
    intro a s h b d
    refine ⟨?_, ?_⟩
    · intro cause hcause hnone w u
      exact yields_refClkFault h rfl hcause hnone rfl rfl
    · intro t ht w u
      exact yields_refClkRestored h rfl ht rfl rfl

end Sys2Proof.Machine
end

section
/-! The Tarn match, its address, and the exit from STILL (15 R406 to R411): O32. The values after reset: O52. -/

namespace Sys2Proof.Machine

/-! The commands as their meanings. -/

theorem exec_tarnMatch (a : At) (byte : Nat) (s : State) : exec (.tarnMatch a byte) s = execTarnMatch a byte s := rfl

theorem exec_vtarnPowerOn (a : At) (fusedValid : Bool) (fused : Nat) (s : State) :
    exec (.vtarnPowerOn a fusedValid fused) s = execVtarnPowerOn a fusedValid fused s := rfl

theorem exec_wakeAck (a : At) (s : State) : exec (.wakeAck a) s = execWakeAck a s := rfl

theorem exec_pwrWakeSlow (a : At) (s : State) : exec (.pwrWakeSlow a) s = execPwrWakeSlow a s := rfl

theorem exec_stillExitDone (a : At) (aspm : Bool) (s : State) : exec (.stillExitDone a aspm) s = execStillExitDone a aspm s := rfl

--have trnAddrWrite

/-! A byte whose address is WAKE_ADDR (15 R409). -/

section
variable {a : At} {byte : Nat} {s b : State} (hd : a.die < s.part.dies) (hzero : a.die = 0) (hb : elapse a s = b) (hbyte : byte < 256)
  (hmatch : byte / 2 = b.get 0 F.TRN_ADDR_WAKE_ADDR)
include hd hzero hb hbyte hmatch

/-- In the exit from STILL, and asleep in TARN unarmed, it is counted alone. -/
theorem yields_tarnMatch_counted (hwhere : b.pwrStep = 7 ∨ (b.tarn.asleep = true ∧ b.flag 0 F.TRN_ADDR_ARMED = false)) :
    Yields (.tarnMatch a byte) s (b.wrap 0 F.TRN_STATUS_WAKES) := by
  refine yields_onUnit hd (by simp [hzero, hbyte]) (exec_tarnMatch a byte s) ?_
  rw [hb, if_neg (not_not_intro hmatch), if_pos (by simpa using hwhere)]

variable (hstep : b.pwrStep ≠ 7) (harmed : b.flag 0 F.TRN_ADDR_ARMED = true)
include hstep harmed

/-- Armed, it wakes the package from where it finds it. -/
theorem yields_tarnMatch_armed {u : State} (hu : (if b.tarn.asleep then (b.countWake 2).leaveTarn
    else if b.clock.stopped then (b.countWake 1).wakeUp 3
    else (((b.countWake 3).emit (.wakeReq true)).emit (.wakeReq false)).abortEntry 1 b.pwrStep false) = u) :
    Yields (.tarnMatch a byte) s u := by
  refine yields_onUnit hd (by simp [hzero, hbyte]) (exec_tarnMatch a byte s) ?_
  rw [hb, if_neg (not_not_intro hmatch), if_neg (by simp [hstep, harmed]), harmed, if_neg (by decide), hu]

end

/-! The exit from STILL (15 R407). -/

/-- The islands of a die that lack CLK_OK after WAKE_ACK_US are told and held. -/
def State.holdLacking (s : State) (d : Nat) : State :=
  let m := s.lacking d
  if m = 0 then s
  else (List.range 44).foldl (fun s i => if bit m i then s.holdLate d i else s) (s.raise 0 38 0x064 2 [(6, m), (1, d)])

section
variable {a : At} {s b : State} (hd : a.die < s.part.dies) (hzero : a.die = 0) (hb : elapse a s = b) (hstep : b.pwrStep = 7)
include hd hzero hb hstep

section
variable (hwaits : b.pwr.acked = false)
include hwaits

theorem yields_wakeAck (hall : ((List.range b.part.dies).any fun d => b.lacking d != 0) = false)
    (htime : b.pwr.waited < b.wakeDeadline + a.cyc) :
    Yields (.wakeAck a) s (if b.wakeDeadline ≤ b.pwr.waited then b.bump 0 F.PWR_NEAR_MISS_COUNT else b).acknowledge := by
  refine yields_onUnit hd (beq_iff_eq.mpr hzero) (exec_wakeAck a s) ?_
  rw [hb, if_neg (by rw [hall]; simp [hstep, hwaits, htime])]

theorem yields_pwrWakeSlow (hlate : b.wakeDeadline ≤ b.pwr.waited) :
    Yields (.pwrWakeSlow a) s ((List.range b.part.dies).foldl State.holdLacking b).acknowledge := by
  refine yields_onUnit hd (beq_iff_eq.mpr hzero) (exec_pwrWakeSlow a s) ?_
  rw [hb, if_neg (by simp [hstep, hwaits, hlate])]
  rfl

end

/-- FLOW returns, untraceable, with the links up, and a late answer and a request that waited are served. -/
theorem serves_stillExitDone (hacked : b.pwr.acked = true) {aspm : Bool} {u v w x : State}
    (hu : State.set { b with clock := { b.clock with stopped := false, traceable := false } } 0 F.TIM_STATUS_TRACEABLE 0 = u)
    (hv : (List.range u.part.dies).foldl (fun s d => s.modDie d fun x => { x with selfRefresh := [] }) u = v)
    (hw : (((v.set 0 F.PWR_STATUS_CURRENT 0).set 0 F.PWR_STATUS_STEP 0).stateDone 0 2 v.pwr.cause).letGo.bringUp = w)
    (hx : w.pwr.late.elim w (fun r => State.pwrDone { w with pwr := { w.pwr with late := none } } r 5) = x) :
    Serves a (.stillExitDone a aspm) s (x.pwr.pending.elim x fun p => (x.setPending none).startPwr p aspm) := by
  have hgo : ¬(b.pwrStep ≠ 7 ∨ b.pwr.acked = false) := by simp [hstep, hacked]
  refine Yields.serves (exec_stillExitDone a aspm s) ?_
  rw [stillExitDone, onUnit_here _ hd (beq_iff_eq.mpr hzero), hb, if_neg hgo]
  simp only [hu, hv, State.set_pwr, hw, hx]
  cases x.pwr.pending <;> rfl

end

/-- Settles O32. -/
theorem tarnWakesThePackage : Obligations.TarnWakesThePackage := by
  refine ⟨?wakes, ?address⟩
  case wakes =>
    intro a s hd hzero b
    refine ⟨fun byte hbyte hmatch => ⟨fun hstep => ?_, fun hstep hun hasleep => ?_, fun hstep harmed => ⟨?_, ?_, ?_⟩⟩, ?vtarn, ?slow, ?exit⟩
    · exact yields_tarnMatch_counted hd hzero rfl hbyte hmatch (.inl hstep)
    · exact yields_tarnMatch_counted hd hzero rfl hbyte hmatch (.inr ⟨hasleep, hun⟩)
    · exact fun hasleep => yields_tarnMatch_armed hd hzero rfl hbyte hmatch hstep harmed (if_pos hasleep)
    · exact fun hawake hstopped => yields_tarnMatch_armed hd hzero rfl hbyte hmatch hstep harmed
        ((if_neg (Bool.eq_false_iff.mp hawake)).trans (if_pos hstopped))
    · exact fun hawake hruns => yields_tarnMatch_armed hd hzero rfl hbyte hmatch hstep harmed
        ((if_neg (Bool.eq_false_iff.mp hawake)).trans (if_neg (Bool.eq_false_iff.mp hruns)))
    case vtarn =>
      intro valid fused hfused u0 u
      exact yields_onUnit hd (by simp [hzero, hfused]) (exec_vtarnPowerOn a valid fused s) rfl
    case slow =>
      exact fun hstep hwaits => ⟨yields_wakeAck hd hzero rfl hstep hwaits, yields_pwrWakeSlow hd hzero rfl hstep hwaits⟩
    case exit =>
      intro hstep hacked aspm u v w x
      have hserves := serves_stillExitDone hd hzero rfl hstep hacked (aspm := aspm) (u := u) rfl (v := v) rfl (w := w) rfl (x := x) rfl
      exact ⟨fun hnone => by rwa [hnone] at hserves, fun p hp => by rwa [hp] at hserves⟩
  case address =>
    intro a q v s h hzero b hlo hhi hother
    have hlegal : ¬(a.die ≠ 0 ∨ wordGet v 6 0 < 8 ∨ 0x78 ≤ wordGet v 6 0 ∨ wordGet v 6 0 = b.get 0 F.PKG_SMB_CFG_TARGET_ADDR) := by
      rintro (hdie | hlow | hhigh | hsame)
      exacts [hdie hzero, Nat.not_lt.mpr hlo hlow, Nat.not_le.mpr hhi hhigh, hother hsame]
    exact h.yields rfl (exec_trnAddrWrite a q v s) (if_neg hlegal)

/-- Settles O52: the tables of the state after reset are empty. -/
theorem resetShowsTheTablesValues : Obligations.ResetShowsTheTablesValues := by
  unfold Obligations.ResetShowsTheTablesValues
  decide

end Sys2Proof.Machine
end

section
/-! USB registers, control requests, the bus reset and the states of the upstream link (14 R372 to R386): O29. -/

namespace Sys2Proof.Machine

/-! The commands as their meanings. -/

theorem exec_usbConnect (a : At) (q : Req) (v : Word) (s : State) : exec (.usbConnect a q v) s = execUsbConnect a q v s := rfl

theorem exec_usbAttach (a : At) (q : Req) (u : Nat) (v : Word) (s : State) : exec (.usbAttach a q u v) s = execUsbAttach a q u v s := rfl

theorem exec_usbDetach (a : At) (q : Req) (u : Nat) (v : Word) (s : State) : exec (.usbDetach a q u v) s = execUsbDetach a q u v s := rfl

theorem exec_usbEpHalt (a : At) (q : Req) (u e : Nat) (dirIn : Bool) (v : Word) (s : State) :
    exec (.usbEpHalt a q u e dirIn v) s = execUsbEpHalt a q u e dirIn v s := rfl

theorem exec_usbSetupRequest (a : At) (u : Nat) (setup : List Byte) (s : State) :
    exec (.usbSetupRequest a u setup) s = execUsbSetupRequest a u setup s := rfl

theorem exec_usbStatusStageComplete (a : At) (u : Nat) (s : State) :
    exec (.usbStatusStageComplete a u) s = execUsbStatusStageComplete a u s := rfl

theorem exec_usbBusReset (a : At) (speed : Nat) (s : State) : exec (.usbBusReset a speed) s = execUsbBusReset a speed s := rfl

theorem exec_usbVbusChange (a : At) (up : Bool) (s : State) : exec (.usbVbusChange a up) s = execUsbVbusChange a up s := rfl

theorem exec_usbLpmToken (a : At) (s : State) : exec (.usbLpmToken a) s = execUsbLpmToken a s := rfl

theorem exec_usbSuspend (a : At) (s : State) : exec (.usbSuspend a) s = execUsbSuspend a s := rfl

theorem exec_usbU1Initiate (a : At) (s : State) : exec (.usbU1Initiate a) s = execUsbU1Initiate a s := rfl

theorem exec_usbLinkStateRequest (a : At) (st : Nat) (s : State) :
    exec (.usbLinkStateRequest a st) s = execUsbLinkStateRequest a st s := rfl

theorem exec_usbFuncReattach (a : At) (u : Nat) (s : State) : exec (.usbFuncReattach a u) s = execUsbFuncReattach a u s := rfl

theorem exec_usbTransaction (a : At) (u e kind : Nat) (data : List Byte) (w : Around) (s : State) :
    exec (.usbTransaction a u e kind data w) s = execUsbTransaction a u e kind data w s := rfl

/-- The rule for a command of the upstream port's island, 27. -/
theorem State.On.yields_usb {i : Instr} {a : At} {s u : State} {ok : Bool} {f : State → State} (h : s.On a 27) (hok : ok = true)
    (hi : exec i s = onUsb a ok s f) (hf : f (s.begun a 27) = u) : Yields i s u := h.yields hok hi hf

/-! A SETUP (14 R381 to R383): the control transfer starts, or is to be answered by STALL. -/

/-- The control transfer that a SETUP starts. -/
def State.controlOf (v : State) (d u : Nat) (setup : List Byte) : UsbCtl :=
  if decide (128 ≤ byteAt setup 0) then
    match v.controlIn d u setup with
    | some x => { setup := setup, data := x.take (numAt setup 6 2), stage := if numAt setup 6 2 = 0 then 2 else 1 }
    | none => { setup := setup, stall := true }
  else if v.controlOutOk d u setup then { setup := setup, stage := if numAt setup 6 2 = 0 then 2 else 1 }
  else { setup := setup, stall := true }

section
variable {a : At} {u : Nat} {setup : List Byte} {s b : State} (h : s.On a 27) (hb : s.begun a 27 = b) (hlen : setup.length = 8) (hu : u < 5)
  (htaken : u = 4 ∨ (b.attached a.die u = true ∧ 2 ≤ b.devState a.die u)) {v : State}
  (hv : (if u = 4 then b else (b.setHalted a.die u 0 true 0).setHalted a.die u 0 false 0) = v)
include h hb hlen hu htaken hv

theorem yields_usbSetupRequest {c : UsbCtl} (hc : v.controlOf a.die u setup = c) : Yields (.usbSetupRequest a u setup) s
    ((v.modFn a.die u fun f => { f with ctl := some c }).emit (.usb a.die u 0 0 [])) := by
  have hgo : ¬(u ≠ 4 ∧ (b.attached a.die u = false ∨ b.devState a.die u < 2)) := by
    rintro ⟨hne, hoff | hlow⟩
    · simp_all
    · omega
  subst hc
  refine h.yields_usb (by simp [hu, hlen]) (exec_usbSetupRequest a u setup s) ?_
  rw [hb, if_neg hgo, hv]
  rfl

end

section
variable {v : State} {d u : Nat} {setup : List Byte}

theorem State.controlOf_in {x : List Byte} (hin : 128 ≤ byteAt setup 0) (hx : v.controlIn d u setup = some x) : v.controlOf d u setup =
    { setup := setup, data := x.take (numAt setup 6 2), stage := if numAt setup 6 2 = 0 then 2 else 1 } := by
  rw [State.controlOf, if_pos (decide_eq_true hin), hx]

theorem State.controlOf_in_stall (hin : 128 ≤ byteAt setup 0) (hx : v.controlIn d u setup = none) :
    v.controlOf d u setup = { setup := setup, stall := true } := by
  rw [State.controlOf, if_pos (decide_eq_true hin), hx]

theorem State.controlOf_out (hout : byteAt setup 0 < 128) (hok : v.controlOutOk d u setup = true) :
    v.controlOf d u setup = { setup := setup, stage := if numAt setup 6 2 = 0 then 2 else 1 } := by
  rw [State.controlOf, if_neg (by simp [hout]), if_pos hok]

theorem State.controlOf_out_stall (hout : byteAt setup 0 < 128) (hno : v.controlOutOk d u setup = false) :
    v.controlOf d u setup = { setup := setup, stall := true } := by
  rw [State.controlOf, if_neg (by simp [hout]), if_neg (by simp [hno])]

end

/-! The status stage (14 R384). -/

section
variable {a : At} {u : Nat} {s b : State} {c : UsbCtl} (h : s.On a 27) (hb : s.begun a 27 = b) (hu : u < 5)
  (hc : (b.usbFn a.die u).ctl = some c)
include h hb hu hc

theorem yields_usbStatusStage_stall (hstall : c.stall = true) : Yields (.usbStatusStageComplete a u) s (b.handshake a.die u 0 5) := by
  refine h.yields_usb (decide_eq_true hu) (exec_usbStatusStageComplete a u s) ?_
  simp only [hb, hc, hstall, if_true]

variable (hgo : c.stall = false) (hstage : c.stage = 2) {v : State} (hv : (b.modFn a.die u fun f => { f with ctl := none }) = v)
include hgo hstage hv

theorem yields_usbStatusStage_in (hin : 128 ≤ byteAt c.setup 0) : Yields (.usbStatusStageComplete a u) s v := by
  refine h.yields_usb (decide_eq_true hu) (exec_usbStatusStageComplete a u s) ?_
  simp only [hb, hc, hgo, hstage, hv, hin, ne_eq, not_true_eq_false, Bool.false_eq_true, if_false, if_true]

variable (hfn : u < 4)
include hfn

/-- A standard request of a function with no data in. -/
theorem yields_usbStatusStage_standard (hrt : byteAt c.setup 0 = 0) {rq : Nat} (hrq : byteAt c.setup 1 = rq) {w : State}
    (hw : (rq = 5 ∧ (v.set a.die F.USB_FN_STATE_ADDRESS (numAt c.setup 2 2 % 128) u).setDev a.die u
        (if numAt c.setup 2 2 % 128 = 0 then 2 else 3) = w) ∨
      (rq = 9 ∧ ((((v.set a.die F.USB_FN_STATE_CONFIG (numAt c.setup 2 2 % 16) u).setDev a.die u
        (if numAt c.setup 2 2 % 256 = 0 then 3 else 4)).clearHalts a.die u).modFn a.die u fun f => { f with toggles := [] }) = w)) :
    Yields (.usbStatusStageComplete a u) s w := by
  have hne : ¬u = 4 := by omega
  refine h.yields_usb (decide_eq_true hu) (exec_usbStatusStageComplete a u s) ?_
  simp only [hb, hc, hgo, hstage, hv, hrt, hrq, hne, ne_eq, not_true_eq_false, Bool.false_eq_true, if_false, if_true, show ¬128 ≤ 0 by decide,
    Nat.zero_mod, Nat.zero_div]
  rcases hw with ⟨rfl, hw⟩ | ⟨rfl, hw⟩ <;> exact hw

theorem yields_usbStatusStage_class (hout : byteAt c.setup 0 < 128) (hclass : byteAt c.setup 0 / 32 = 1) :
    Yields (.usbStatusStageComplete a u) s (v.classSet a.die u c) := by
  have hne : ¬u = 4 := by omega
  have hkind : ¬byteAt c.setup 0 % 128 / 32 = 0 := by omega
  refine h.yields_usb (decide_eq_true hu) (exec_usbStatusStageComplete a u s) ?_
  simp only [hb, hc, hgo, hstage, hv, hne, hkind, Nat.not_le.mpr hout, ne_eq, not_true_eq_false, Bool.false_eq_true, if_false]

end

/-! The bus and the link (14 R372, R385, R386). -/

/-- The downstream ports that a host powers lose their power. -/
def State.dropLocalPower (s : State) (d : Nat) : State :=
  (List.range 4).foldl (fun s p =>
    if s.get d F.USB_DFP_CTL_MODE p = 1 ∧ s.flag d F.USB_DFP_CTL_POWER p then
      (s.set d F.USB_DFP_CTL_POWER 0 p).emit (.usbPower d p false)
    else s) s

section
variable {a : At} {s b : State} (h : s.On a 27) (hb : s.begun a 27 = b)
include h hb

theorem yields_usbBusReset {speed : Nat} (hlo : 1 ≤ speed) (hhi : speed ≤ 3) (hconn : b.flag a.die F.USB_UFP_CTL_USB_CONNECT = true)
    (hvbus : b.flag a.die F.USB_UFP_STATUS_VBUS = true) {speed' : Nat}
    (hspeed : (if speed = 3 ∧ b.flag a.die F.USB_UFP_CTL_SS_EN = false then 2 else speed) = speed') {v w : State}
    (hv : ((b.wrap a.die F.USB_UFP_STATUS_RESETS).set a.die F.USB_UFP_STATUS_SPEED speed').set a.die F.USB_UFP_STATUS_LINK 0 = v)
    (hw : (v.modUsb a.die fun x =>
      { x with wake := none, hubWake := false, hubPending := false, u1 := false, u2 := false,
               signals := 0, activeAt := v.now, fns := Table.del x.fns 4 }) = w) :
    Yields (.usbBusReset a speed) s ((((List.range 4).foldl (fun s u => if s.attached a.die u then s.resetUsbFn a.die u 1 2 else s)
      w).dropLocalPower a.die).ufpEvent a.die) := by
  have hgo : ¬(!b.flag a.die F.USB_UFP_CTL_USB_CONNECT || !b.flag a.die F.USB_UFP_STATUS_VBUS) = true := by simp [hconn, hvbus]
  refine h.yields_usb (by simp [hlo, hhi]) (exec_usbBusReset a speed s) ?_
  simp only [hb, if_neg hgo, hspeed, hv, hw, State.dropLocalPower]

theorem yields_usbVbusChange_up (hdown : b.flag a.die F.USB_UFP_STATUS_VBUS = false) : Yields (.usbVbusChange a true) s
    (((b.set a.die F.USB_UFP_STATUS_VBUS 1).set a.die F.USB_UFP_STATUS_LINK 5).ufpEvent a.die) := by
  refine h.yields_usb rfl (exec_usbVbusChange a true s) ?_
  rw [hb, if_neg (by simp [hdown]), if_pos rfl]
  rfl

theorem yields_usbVbusChange_down (hup : b.flag a.die F.USB_UFP_STATUS_VBUS = true) :
    Yields (.usbVbusChange a false) s (((b.set a.die F.USB_UFP_STATUS_VBUS 0).ufpGone a.die).ufpEvent a.die) := by
  refine h.yields_usb rfl (exec_usbVbusChange a false s) ?_
  rw [hb, if_neg (by simp [hup]), if_neg (by decide)]
  rfl

section
variable (hlink : b.ufpLink a.die = 0) (hspeed : b.ufpSpeed a.die ≠ 0) (hslow : b.ufpSpeed a.die ≠ 3)
include hlink hspeed hslow

section
variable {ready : Bool} (hready : ((List.range 4).any fun u => (b.usbFn a.die u).ins.any fun p => !p.2.isEmpty) = ready)
include hready

theorem yields_usbLpmToken_ack (hen : b.flag a.die F.USB_UFP_CTL_LPM_EN = true) (hno : ready = false) : Yields (.usbLpmToken a) s
    (((b.modUsb a.die fun x => { x with idleAt := b.now }).setLink a.die 4).emit (.usbLpm a.die true)) := by
  have hgo : ¬(b.ufpLink a.die ≠ 0 ∨ b.ufpSpeed a.die = 0 ∨ b.ufpSpeed a.die = 3) := by omega
  refine h.yields_usb rfl (exec_usbLpmToken a s) ?_
  simp only [hb, if_neg hgo, hready, hno, hen, Bool.not_false, Bool.and_self, if_true]

theorem yields_usbLpmToken_not (hno : b.flag a.die F.USB_UFP_CTL_LPM_EN = false ∨ ready = true) :
    Yields (.usbLpmToken a) s (b.emit (.usbLpm a.die false)) := by
  have hgo : ¬(b.ufpLink a.die ≠ 0 ∨ b.ufpSpeed a.die = 0 ∨ b.ufpSpeed a.die = 3) := by omega
  have hoff : ¬(b.flag a.die F.USB_UFP_CTL_LPM_EN && !ready) = true := by rcases hno with hno | hno <;> simp [hno]
  refine h.yields_usb rfl (exec_usbLpmToken a s) ?_
  simp only [hb, if_neg hgo, hready, if_neg hoff]

end

theorem yields_usbSuspend :
    Yields (.usbSuspend a) s ((b.modUsb a.die fun x => { x with idleAt := b.now - ms 3 }).setLink a.die 3) := by
  refine h.yields_usb rfl (exec_usbSuspend a s) ?_
  rw [hb, if_pos ⟨.inl hlink, hspeed, hslow⟩]

end

section
variable (hsuper : b.ufpSpeed a.die = 3)
include hsuper

theorem yields_usbU1Initiate (hlink : b.ufpLink a.die = 0) (hidle : b.get a.die F.USB_UFP_WAKE_U1_IDLE_US ≠ 0)
    (hdue : (b.die a.die).usb.activeAt + us (b.get a.die F.USB_UFP_WAKE_U1_IDLE_US) ≤ b.now) :
    Yields (.usbU1Initiate a) s (b.setLink a.die 1) := by
  refine h.yields_usb rfl (exec_usbU1Initiate a s) ?_
  rw [hb, if_pos ⟨hidle, hsuper, hlink, decide_eq_true hdue⟩]

theorem yields_usbLinkStateRequest {st : Nat} (hlink : b.ufpLink a.die ≠ 5)
    (hst : st = 3 ∨ (st = 1 ∧ (b.die a.die).usb.u1 = true) ∨ (st = 2 ∧ (b.die a.die).usb.u2 = true)) :
    Yields (.usbLinkStateRequest a st) s ((b.modUsb a.die fun x => { x with idleAt := b.now }).setLink a.die st) := by
  refine h.yields_usb (by rcases hst with rfl | ⟨rfl, -⟩ | ⟨rfl, -⟩ <;> rfl) (exec_usbLinkStateRequest a st s) ?_
  rw [hb, if_neg (by simp [hsuper, hlink]), if_pos hst]

end

theorem yields_usbFuncReattach {u t : Nat} (hu : u < 4) (ht : (b.usbFn a.die u).reattachAt = some t) (hdue : t ≤ b.now)
    (hon : b.flag a.die F.USB_FN_CTL_ATTACH u = true) (hfree : (b.die a.die).usb.keptOff.contains u = false) :
    Yields (.usbFuncReattach a u) s (b.attachFn a.die u) := by
  refine h.yields_usb (decide_eq_true hu) (exec_usbFuncReattach a u s) ?_
  simp only [hb, ht, fallen, hdue, hon, hfree, decide_true, Bool.not_false, Bool.and_self, if_true]

end

/-- Settles O29. -/
theorem usbRequestsAndBusStatesTakeEffect : Obligations.UsbRequestsAndBusStatesTakeEffect := by
  refine ⟨?registers, ?island⟩
  case registers =>
    intro a q v s
    refine ⟨fun h => h.yields rfl (exec_usbConnect a q v s) rfl, fun u hu h => ⟨fun hv => ?_, fun hv => ?_⟩, fun u e dirIn hu he hv h => ?_⟩
    · exact h.yields (by simp [hu, hv]) (exec_usbAttach a q u v s) rfl
    · exact h.yields (by simp [hu, hv]) (exec_usbDetach a q u v s) rfl
    · exact h.yields (by simp [hu, he, hv]) (exec_usbEpHalt a q u e dirIn v s) rfl
  case island =>
    intro a s h b d
    refine ⟨?setup, ?status, ?reset, yields_usbVbusChange_up h rfl, yields_usbVbusChange_down h rfl, ?lpm, ?super,
      fun u t hu ht hdue hon hfree => yields_usbFuncReattach h rfl hu ht hdue hon hfree, ?transaction⟩
    case setup =>
      intro u setup hlen hu htaken v len
      have hyields := fun c hc => yields_usbSetupRequest h rfl hlen hu htaken (v := v) rfl (c := c) hc
      exact ⟨fun hin => ⟨fun x hx => hyields _ (State.controlOf_in hin hx), fun hx => hyields _ (State.controlOf_in_stall hin hx)⟩,
        fun hout => ⟨fun hok => hyields _ (State.controlOf_out hout hok), fun hno => hyields _ (State.controlOf_out_stall hout hno)⟩⟩
    case status =>
      intro u c hu hc
      refine ⟨yields_usbStatusStage_stall h rfl hu hc, ?_⟩
      intro hgo hstage v value
      exact ⟨yields_usbStatusStage_in h rfl hu hc hgo hstage rfl,
        fun hrt hrq hfn => yields_usbStatusStage_standard h rfl hu hc hgo hstage rfl hfn hrt hrq (.inl ⟨rfl, rfl⟩),
        fun hrt hrq hfn => yields_usbStatusStage_standard h rfl hu hc hgo hstage rfl hfn hrt hrq (.inr ⟨rfl, rfl⟩),
        fun hout hclass hfn => yields_usbStatusStage_class h rfl hu hc hgo hstage rfl hfn hout hclass⟩
    case reset =>
      intro speed hlo hhi hconn hvbus speed' v0 v w x
      exact yields_usbBusReset h rfl hlo hhi hconn hvbus rfl rfl rfl
    case lpm =>
      intro hlink hspeed hslow ready
      exact ⟨yields_usbLpmToken_ack h rfl hlink hspeed hslow rfl, yields_usbLpmToken_not h rfl hlink hspeed hslow rfl,
        yields_usbSuspend h rfl hlink hspeed hslow⟩
    case super =>
      exact fun hsuper => ⟨yields_usbU1Initiate h rfl hsuper, fun st hlink hst => yields_usbLinkStateRequest h rfl hsuper hlink hst⟩
    case transaction =>
      intro u e kind data w hu he hkind v msgs
      exact h.yields_usb (by simp [hu, he, hkind]) (exec_usbTransaction a u e kind data w s) rfl

end Sys2Proof.Machine
end

section
/-! Remote wake, the downstream ports, relayed devices and the messages of strands (14 R374, R386 to R391): O30. -/

namespace Sys2Proof.Machine

/-! The commands as their meanings. -/

theorem exec_usbWakeReason (a : At) (u : Nat) (s : State) : exec (.usbWakeReason a u) s = execUsbWakeReason a u s := rfl

theorem exec_usbRemoteWake (a : At) (u : Nat) (s : State) : exec (.usbRemoteWake a u) s = execUsbRemoteWake a u s := rfl

theorem exec_usbResumeRelease (a : At) (s : State) : exec (.usbResumeRelease a) s = execUsbResumeRelease a s := rfl

theorem exec_usbHostResume (a : At) (s : State) : exec (.usbHostResume a) s = execUsbHostResume a s := rfl

theorem exec_usbWakeTimeout (a : At) (s : State) : exec (.usbWakeTimeout a) s = execUsbWakeTimeout a s := rfl

theorem exec_usbLfpsTimeout (a : At) (s : State) : exec (.usbLfpsTimeout a) s = execUsbLfpsTimeout a s := rfl

theorem exec_usbStrandMessageReceive (a : At) (u : Nat) (msg : List Byte) (s : State) :
    exec (.usbStrandMessageReceive a u msg) s = execUsbStrandMessageReceive a u msg s := rfl

theorem exec_usbOvercurrent (a : At) (p : Nat) (s : State) : exec (.usbOvercurrent a p) s = execUsbOvercurrent a p s := rfl

theorem exec_usbDfpConnect (a : At) (p : Nat) (up : Bool) (speed vid pid : Nat) (s : State) :
    exec (.usbDfpConnect a p up speed vid pid) s = execUsbDfpConnect a p up speed vid pid s := rfl

theorem exec_relayDeviceAttach (a : At) (p speed vid pid : Nat) (hid : Option (Nat × List Byte)) (s : State) :
    exec (.relayDeviceAttach a p speed vid pid hid) s = execRelayDeviceAttach a p speed vid pid hid s := rfl

theorem exec_relayDeviceDetach (a : At) (p : Nat) (s : State) : exec (.relayDeviceDetach a p) s = execRelayDeviceDetach a p s := rfl

theorem exec_relayPoll (a : At) (p : Nat) (report : Option (List Byte)) (s : State) :
    exec (.relayPoll a p report) s = execRelayPoll a p report s := rfl

theorem exec_relayTxnTimeout (a : At) (p : Nat) (s : State) : exec (.relayTxnTimeout a p) s = execRelayTxnTimeout a p s := rfl

/-! Remote wake (14 R386 to R388). -/

section
variable {a : At} {s b : State} (h : s.On a 27) (hb : s.begun a 27 = b)
include h hb

theorem yields_usbWakeReason {u : Nat} (hu : u < 5) (hat : u = 4 ∨ b.attached a.die u = true) :
    Yields (.usbWakeReason a u) s (b.wakeReason a.die u) := by
  refine h.yields_usb (decide_eq_true hu) (exec_usbWakeReason a u s) ?_
  rw [hb, if_pos hat]

theorem yields_usbRemoteWake {u k : Nat} {x : Usb} (hk : b.wakeFrom a.die = k) (hx : (b.die a.die).usb = x) (hu : u < 5) (hfrom : k ≠ 0)
    (hfree : x.wake = none) (hmay : b.wakeMaySignal a.die u = true) (hidle : k ≠ 1 ∨ x.idleAt + ms 5 ≤ b.now)
    (hafter : x.wakeAfter ≤ b.now) (htries : x.signals < b.get a.die F.USB_UFP_WAKE_WAKE_RETRIES) : Yields (.usbRemoteWake a u) s
      ((b.modUsb a.die fun x => { x with wake := some { u := u, from_ := k, start := b.now, signals := x.signals + 1 },
                                         signals := x.signals + 1 }).emit (.usbDrive a.die (if k = 3 then 2 else 1))) := by
  refine h.yields_usb (decide_eq_true hu) (exec_usbRemoteWake a u s) ?_
  simp only [hb, hk, hx]
  exact if_pos ⟨hfrom, hfree, hmay, hidle, hafter, htries⟩

section
variable {w : UsbWake} (hw : (b.die a.die).usb.wake = some w)
include hw

theorem yields_usbResumeRelease (hdrive : w.released = none) (hnot3 : w.from_ ≠ 3)
    (hdue : w.start + (if w.from_ = 2 then us 50 else ms 1) ≤ b.now) {v : State} (hv : b.emit (.usbDrive a.die 0) = v) :
    Yields (.usbResumeRelease a) s (if w.overlap then v.wakeMerged a.die w.u 2
      else v.modUsb a.die fun x => { x with wake := some { w with released := some v.now } }) := by
  have hgo : ¬(w.released.isSome = true ∨ w.from_ = 3 ∨ (!fallen b (w.start + (if w.from_ = 2 then us 50 else ms 1))) = true) := by
    rw [fallen_iff.mpr hdue, hdrive]
    simpa using hnot3
  refine h.yields_usb rfl (exec_usbResumeRelease a s) ?_
  simp only [hb, hw, if_neg hgo, hv]

section
variable {t : Nat} (ht : w.released = some t)
include ht

/-- The host's answer within 100 ms of the release of K. -/
theorem yields_usbHostResume (hnot3 : w.from_ ≠ 3) (hfrom : b.wakeFrom a.die ≠ 0) (htime : b.now < t + ms 100 + a.cyc) {v : State}
    (hv : (if nearMiss a b (t + ms 100) then b.bump a.die F.USB_NEAR_MISS_COUNT else b) = v) : Yields (.usbHostResume a) s
      (((v.setLink a.die 0).modUsb a.die fun x => { x with wake := none }).raise a.die 27 0xA03 0
        [(1, w.u), (1, w.from_), (1, w.signals)]) := by
  have hgo : ¬(b.wakeFrom a.die = 0 ∧ b.ufpLink a.die ≠ 1 ∧ b.ufpLink a.die ≠ 2) := fun hno => hfrom hno.1
  have hnew : ¬(b.now < w.start + a.cyc ∧ w.released = none) := by simp [ht]
  refine h.yields_usb rfl (exec_usbHostResume a s) ?_
  simp only [hb, if_neg hgo, hw]
  rw [if_neg hnew, if_neg hnot3]
  simp only [ht, inTime_iff.mpr htime, if_true, hv]

theorem yields_usbWakeTimeout (hdue : t + ms 100 ≤ b.now) : Yields (.usbWakeTimeout a) s (b.wakeRetry a.die w (ms 5)) := by
  refine h.yields_usb rfl (exec_usbWakeTimeout a s) ?_
  simp only [hb, hw, ht, fallen_iff.mpr hdue, if_true]

end

theorem yields_usbLfpsTimeout (hu3 : w.from_ = 3) (hdue : w.start + ms 10 ≤ b.now) :
    Yields (.usbLfpsTimeout a) s (b.wakeRetry a.die w (ms 100)) := by
  refine h.yields_usb rfl (exec_usbLfpsTimeout a s) ?_
  simp only [hb, hw]
  exact if_pos ⟨hu3, fallen_iff.mpr hdue⟩

end

/-! A message of a strand (14 R389, R391). -/

section
variable {u : Nat} {msg : List Byte}

theorem yields_usbStrandMessage_wrong (hu : u < 2) (hbad : usbMessageOk msg = false) :
    Yields (.usbStrandMessageReceive a u msg) s (b.routeError a.die u (byteAt msg 0)) := by
  have hfn : ¬8 ≤ u := by omega
  refine h.yields_usb (by simp [hu]) (exec_usbStrandMessageReceive a u msg s) ?_
  simp only [hb, hfn, hbad, if_false, Bool.not_false, if_true]

theorem yields_usbStrandMessage_waits (hu : u < 2) (hok : usbMessageOk msg = true) (hfree : b.usbHeld a.die u = false)
    (hat : b.attached a.die u = true) : Yields (.usbStrandMessageReceive a u msg) s
      ((b.modFn a.die u fun f => { f with waiting := f.waiting ++ [msg] }).takeWaiting a.die u 64) := by
  have hfn : ¬8 ≤ u := by omega
  refine h.yields_usb (by simp [hu]) (exec_usbStrandMessageReceive a u msg s) ?_
  simp only [hb, hfn, hok, hfree, hat, if_false, Bool.not_true, Bool.false_and, Bool.false_eq_true]

variable (hlo : 8 ≤ u) (hhi : u < 12)
include hlo hhi

theorem yields_usbStrandMessage_relayWrong (hbad : usbMessageOk msg = false) :
    Yields (.usbStrandMessageReceive a u msg) s (b.routeError a.die 1 (byteAt msg 0)) := by
  refine h.yields_usb (by simp [hlo, hhi]) (exec_usbStrandMessageReceive a u msg s) ?_
  simp only [hb, hlo, hbad, if_true, Bool.false_and, Bool.false_eq_true, if_false]

theorem yields_usbStrandMessage_report (hok : usbMessageOk msg = true) (htype : byteAt msg 0 = 2)
    (hslot : byteAt msg 1 = b.get a.die F.USB_DFP_CTL_SLOT (u - 8)) (hup : b.flag a.die F.USB_DFP_STATUS_RELAY_UP (u - 8) = true) :
    Yields (.usbStrandMessageReceive a u msg) s (b.emit (.usbSetReport a.die (u - 8) (msg.drop 8))) := by
  refine h.yields_usb (by simp [hlo, hhi]) (exec_usbStrandMessageReceive a u msg s) ?_
  simp only [hb, hlo, hok, htype, hslot, hup, beq_self_eq_true, Bool.and_self, if_true]

end

end

/-! The downstream ports and their relays (14 R374, R391). -/

section
variable {a : At} {p : Nat} {s b : State} (h : s.On a 28) (hp : p < 4) (hb : s.begun a 28 = b)
include h hp hb

section
variable (hpower : b.flag a.die F.USB_DFP_CTL_POWER p = true)
include hpower

theorem yields_usbOvercurrent : Yields (.usbOvercurrent a p) s ((((b.set a.die F.USB_DFP_CTL_POWER 0 p).set a.die
    F.USB_DFP_CTL_OVERCURRENT 1 p).emit (.usbPower a.die p false)).dfpEvent a.die p 3 0 0) := by
  refine h.yields (decide_eq_true hp) (exec_usbOvercurrent a p s) ?_
  simp only [hb, hpower, Bool.not_true, Bool.false_eq_true, if_false]

theorem yields_usbDfpConnect (hmode : b.get a.die F.USB_DFP_CTL_MODE p = 1) (up : Bool) {speed : Nat} (vid pid : Nat)
    (hspeed : speed < 5) : Yields (.usbDfpConnect a p up speed vid pid) s (b.dfpChange a.die p up speed vid pid) := by
  refine h.yields (by simp [hp, hspeed]) (exec_usbDfpConnect a p up speed vid pid s) ?_
  simp only [hb, hmode, hpower, ne_eq, not_true_eq_false, Bool.true_eq_false, or_self, if_false]

section
variable (hmode : b.get a.die F.USB_DFP_CTL_MODE p = 2) {speed vid pid : Nat} (hlo : 1 ≤ speed) (hhi : speed < 5) (hvid : vid < 65536)
  (hpid : pid < 65536) {v : State}
  (hv : ((b.set a.die F.USB_DFP_STATUS_CONNECTED 1 p).set a.die F.USB_DFP_STATUS_SPEED speed p).dfpEvent a.die p 1 vid pid = v)
include hmode hlo hhi hvid hpid hv

theorem yields_relayDeviceAttach_unusable : Yields (.relayDeviceAttach a p speed vid pid none) s (v.relayFault a.die p 1) := by
  refine h.yields (by simp [hp, hlo, hhi, hvid, hpid]) (exec_relayDeviceAttach a p speed vid pid none s) ?_
  simp only [hb, hmode, hpower, hv, ne_eq, not_true_eq_false, Bool.true_eq_false, or_self, if_false]

theorem yields_relayDeviceAttach (interval : Nat) (desc : List Byte) {per : Nat} (hper : pollPeriod speed interval = per) {w : State}
    (hw : (v.modUsb a.die fun x => { x with relays := Table.put x.relays p { interval := per, pollAt := v.now + per } }) = w) :
    Yields (.relayDeviceAttach a p speed vid pid (some (interval, desc))) s (if 1024 < desc.length then v.relayFault a.die p 2
      else (w.set a.die F.USB_DFP_STATUS_RELAY_UP 1 p).relaySend a.die p 3 vid pid (leBytes 1 interval ++ desc)) := by
  refine h.yields (by simp [hp, hlo, hhi, hvid, hpid]) (exec_relayDeviceAttach a p speed vid pid (some (interval, desc)) s) ?_
  simp only [hb, hmode, hpower, hv, hper, hw, ne_eq, not_true_eq_false, Bool.true_eq_false, or_self, if_false]

end

end

theorem yields_relayDeviceDetach (hmode : b.get a.die F.USB_DFP_CTL_MODE p = 2)
    (hconn : b.flag a.die F.USB_DFP_STATUS_CONNECTED p = true) : Yields (.relayDeviceDetach a p) s (b.relayGone a.die p) := by
  refine h.yields (decide_eq_true hp) (exec_relayDeviceDetach a p s) ?_
  simp only [hb, hmode, hconn, ne_eq, not_true_eq_false, Bool.true_eq_false, or_self, if_false]

section
variable {r : Relay} (hr : b.relay? a.die p = some r) (hon : r.disabled = false)
include hr hon

/-- A poll that has fallen due, with the report it brings, if any. -/
theorem yields_relayPoll (hdue : r.pollAt ≤ b.now) {v : State}
    (hv : (b.modUsb a.die fun x => { x with relays := Table.put x.relays p { r with pollAt := b.now + r.interval, errors := 0 } }) = v) :
    Yields (.relayPoll a p none) s v ∧
    ∀ report, report.length ≤ 64 → Yields (.relayPoll a p (some report)) s (v.relaySend a.die p 1 0 0 report) := by
  have hgo : ¬(r.disabled || !fallen b r.pollAt) = true := by rw [hon, fallen_iff.mpr hdue]; decide
  refine ⟨h.yields (by simp [hp]) (exec_relayPoll a p none s) ?_,
    fun report hlen => h.yields (by simp [hp, hlen]) (exec_relayPoll a p (some report) s) ?_⟩
  all_goals simp only [hb, hr, if_neg hgo, hv]

theorem yields_relayTxnTimeout {off : Bool} (hoff : decide (2 ≤ r.errors) = off) {c v : State}
    (hc : b.bump a.die F.USB_DFP_STATUS_TXN_ERR 1 p = c)
    (hv : (c.modUsb a.die fun x => { x with relays := Table.put x.relays p { r with errors := r.errors + 1, disabled := off } }) = v) :
    Yields (.relayTxnTimeout a p) s (if off then v.relayFault a.die p 3 else v) := by
  refine h.yields (decide_eq_true hp) (exec_relayTxnTimeout a p s) ?_
  simp only [hb, hr, hon, hoff, hc, hv, Bool.false_eq_true, if_false]

end

end

/-- Settles O30. -/
theorem usbWakesRelaysAndDownstreamPortsMoveOn : Obligations.UsbWakesRelaysAndDownstreamPortsMoveOn := by
  refine ⟨?upstream, ?downstream⟩
  case upstream =>
    intro a s h b d x
    refine ⟨fun u hu hat => yields_usbWakeReason h rfl hu hat, ?drive, ?wake, ?message⟩
    case drive =>
      intro u hu hfrom hfree hmay hidle hafter htries k
      exact yields_usbRemoteWake h rfl rfl rfl hu hfrom hfree hmay hidle hafter htries
    case wake =>
      intro w hw
      exact ⟨fun hdrive hnot3 hdue => yields_usbResumeRelease h rfl hw hdrive hnot3 hdue rfl,
        fun t ht hnot3 hfrom htime => yields_usbHostResume h rfl hw ht hnot3 hfrom htime rfl,
        fun t ht hdue => yields_usbWakeTimeout h rfl hw ht hdue, yields_usbLfpsTimeout h rfl hw⟩
    case message =>
      exact fun msg => ⟨fun u hu => ⟨yields_usbStrandMessage_wrong h rfl hu, yields_usbStrandMessage_waits h rfl hu⟩,
        fun u hlo hhi => ⟨yields_usbStrandMessage_relayWrong h rfl hlo hhi, yields_usbStrandMessage_report h rfl hlo hhi⟩⟩
  case downstream =>
    intro a p s h hp b d
    refine ⟨fun hpower => ⟨yields_usbOvercurrent h hp rfl hpower, ?_, ?attach⟩, yields_relayDeviceDetach h hp rfl, ?relay⟩
    · exact fun hmode up speed vid pid hspeed => yields_usbDfpConnect h hp rfl hpower hmode up vid pid hspeed
    case attach =>
      intro hmode speed vid pid hlo hhi hvid hpid v
      exact ⟨yields_relayDeviceAttach_unusable h hp rfl hpower hmode hlo hhi hvid hpid rfl,
        fun interval desc => yields_relayDeviceAttach h hp rfl hpower hmode hlo hhi hvid hpid rfl interval desc rfl rfl⟩
    case relay =>
      exact fun r hr hon => ⟨fun hdue => yields_relayPoll h hp rfl hr hon hdue rfl, yields_relayTxnTimeout h hp rfl hr hon rfl rfl rfl⟩

end Sys2Proof.Machine
end
